-- ==== Sys2Proof/Word.lean ====
section
/-! DEFINITION. The plain word types of the block: bytes, lanes and binary32 patterns. Every other
quantity of the manual is a number (an index, a count, a time in ns) and is a Nat or an Int. -/

namespace Sys2Proof

/-- One byte of a packet, a record or device memory. -/
abbrev Byte := BitVec 8

/-- One 16-bit lane of a Logit Stream Port beat (Table 12-3). -/
abbrev Lane := BitVec 16

/-- An IEEE 754 binary32 pattern (R15, R158). -/
abbrev F32 := BitVec 32

/-- A time-base value in ns (R23). -/
abbrev Time := Nat

/-- A finite map kept as an association list in ascending key order. -/
abbrev Table (α : Type) := List (Nat × α)

/-- A list of numbers kept as runs (first, length): the numbers of each run ascend from its first. -/
abbrev Runs := List (Nat × Nat)

end Sys2Proof
end

