-- ==== Sys2Proof/Types.lean ====
section
/-! DEFINITION. The records that commands, messages and port events carry, one structure per table of the
manual that lays one out. A field is a number; the widths are checked in WellFormed. Reserved fields are left
out: they read 0, and what is written to them is ignored (R13). -/

namespace Sys2Proof

/-! ### Host aperture (chapter 13) -/

/-- A read of a register that no row of the opcode table names, as the aperture takes it (R349, R350). -/
structure RegRead where
  off : Nat
  secure : Bool
  agent : Nat
  size8 : Bool
  high : Bool
  beats : Nat
  aligned : Bool
  deriving DecidableEq, Repr, Inhabited

/-- The fields of a host aperture request that R348 and R350 look at, beside the offset; `before` lists the register reads that
the aperture has taken since the access before this one. -/
structure HAccess where
  secure : Bool
  agent : Nat
  /-- 8 bytes (HA_REQ_SIZE 1) or one 4-byte word -/
  size8 : Bool
  /-- a 4-byte access at offset +4 of the register (R487) -/
  high : Bool
  /-- beats of the request, HA_REQ_LEN + 1 -/
  beats : Nat
  /-- naturally aligned -/
  aligned : Bool
  /-- every write beat's HA_WD_CRC matches -/
  crcOk : Bool
  before : List RegRead := []
  /-- an access of Signal Box core `agent − 3` by the internal path of R401: no signal of the port -/
  core : Bool := false
  deriving DecidableEq, Repr, Inhabited

/-- The queue registers of a doorbell page (R353): CMD_QUEUE_BASE, CPL_QUEUE_BASE, QUEUE_CFG. -/
inductive QueueReg where
  | cmdBase | cplBase | cfg
  deriving DecidableEq, Repr, Inhabited

/-- A command queue entry (Table 11-1). -/
structure CmdEntry where
  pktAddr : Nat
  pktLen : Nat
  replyMax : Nat
  replyAddr : Nat
  deriving DecidableEq, Repr, Inhabited

/-! ### Command parameters (chapter 11) -/

/-- The six binary32 fields of SAMPLING (Table 11-9), with TOP_K and SAMPLE_MODE. -/
structure Sampling where
  temperature : F32
  topP : F32
  minP : F32
  repetition : F32
  presence : F32
  frequency : F32
  topK : Nat
  sampleMode : Nat
  deriving DecidableEq, Repr, Inhabited

/-- REQ_ADMIT parameters (Table 11-9). -/
structure AdmitParams where
  tenant : Nat
  classPrio : Nat
  models : Nat
  deadlineMode : Nat
  admitFlags : Nat
  strain : Nat
  cadencePeriod : Nat
  deadline : Nat
  seed : Nat
  sampling : Sampling
  stopToken : Nat
  maxGen : Nat
  maxContext : Nat
  inputCount : Nat
  tokenRing : Nat
  eventRing : Nat
  input : List Nat
  deriving DecidableEq, Repr, Inhabited

/-- The head every later request command opens with (R299). -/
structure ReqHead where
  handle : Nat
  ticket : Nat
  deriving DecidableEq, Repr, Inhabited

/-- MODEL_STAGE parameters (Table 11-12). -/
structure StageParams where
  descriptor : Nat
  shardCount : Nat
  memAvailable : Nat
  w : Nat
  pageBytes : Nat
  kvBase : Nat
  tier1Base : Nat
  tier2Base : Nat
  ctlBase : Nat
  gleanBase : Nat
  logBase : Nat
  treeBase : Nat
  deriving DecidableEq, Repr, Inhabited

/-- The SPEC block (Tables 08-1 and 11-13). -/
structure SpecBlock where
  depthMax : Nat
  widthMax : Nat
  nodesMax : Nat
  depthLead : Nat
  widthGain : Nat
  drawWaitClass : Nat
  emaInit : Nat
  deriving DecidableEq, Repr, Inhabited

/-- The GLEAN block (Tables 07-4 and 11-13), in µs. -/
structure GleanBlock where
  resendAfter : Nat
  gleanTimeout : Nat
  deriving DecidableEq, Repr, Inhabited

/-- MODEL_LOAD parameters (Table 11-13). -/
structure LoadParams where
  junction : Nat
  descriptor : Nat
  loadFlags : Nat
  shardCount : Nat
  kvMinPages : Nat
  vocabSize : Nat
  stepPositions : Nat
  pageTokens : Nat
  maxContext : Nat
  maxLive : Nat
  strainPool : Nat
  tier1Pages : Nat
  tier2Pages : Nat
  rhizomeNodes : Nat
  fwQueueDepth : Nat
  idleInterval : Nat
  junctionWatchdog : Nat
  templateCrc : Nat
  mapCrc : Nat
  spec : SpecBlock
  glean : GleanBlock
  transcriptExtra : Nat
  deriving DecidableEq, Repr, Inhabited

/-- MODE_SET parameters (Table 11-16). -/
structure ModeParams where
  junction : Nat
  descriptor : Nat
  flags : Nat
  shardCount : Nat
  templateCrc : Nat
  mapCrc : Nat
  spec : SpecBlock
  glean : GleanBlock
  stepPositions : Nat
  idleInterval : Nat
  deriving DecidableEq, Repr, Inhabited

/-- TENANT_CONFIG (Tables 03-6 and 11-14); flags [0] ENABLE, [1] PREFILL_UNLIMITED, [2] GEN_UNLIMITED. -/
structure TenantCfg where
  flags : Nat
  maxLive : Nat
  prefillRate : Nat
  prefillBurst : Nat
  genRate : Nat
  genBurst : Nat
  deriving DecidableEq, Repr, Inhabited

/-- CLASS_CONFIG (Tables 03-5 and 11-14). -/
structure ClassCfg where
  mode : Nat
  ceiling : Nat
  numThresh : Nat
  thresh : List Int
  firstDue : Nat
  chunkPos : Nat
  weight : Nat
  shareMin : Nat
  shareMax : Nat
  shareQref : Nat
  slackGuard : Int
  reserveRate : Nat
  reserveBurst : Nat
  deriving DecidableEq, Repr, Inhabited

/-- Rail configuration (Table 10-1). -/
structure RailCfg where
  enable : Bool
  hardLimit : Nat
  sustLimit : Nat
  base : Nat
  nominalMv : Nat
  capShare : Nat
  slopeUp : Nat
  slopeDown : Nat
  bandHi : Nat
  guardBase : Nat
  guardStep : Nat
  guardMax : Nat
  hardThrottle : Nat
  hardRelease : Nat
  deriving DecidableEq, Repr, Inhabited

/-- Global Gradient parameters (Table 10-2); CAP_GRACE, CAP_GRACE_URGENT and HARD_STUCK in µs. -/
structure GlobalPower where
  waveSize : Nat
  waveInterval : Nat
  ffLead : Nat
  capGrace : Nat
  capGraceUrgent : Nat
  grantSettle : Nat
  recalErr : Nat
  recalWindows : Nat
  recalClear : Nat
  onlineShift : Nat
  droopRampAfter : Nat
  hardStuck : Nat
  deriving DecidableEq, Repr, Inhabited

/-- Engine group entry (Table 10-3). -/
structure EngineGroup where
  rail : Nat
  fullCurrent : Nat
  deriving DecidableEq, Repr, Inhabited

/-- POWER_CONFIG parameters (Table 11-15): the global block, the rails named by RAIL_MASK, the 256 groups. -/
structure PowerConfigParams where
  globalBlock : Option GlobalPower
  rails : Table RailCfg
  groups : Option (List EngineGroup)
  deriving DecidableEq, Repr, Inhabited

/-- An energy table entry as POWER_CALIBRATE writes it (Table 10-4; CORR is ignored). -/
structure EnergyEntry where
  itemCurrent : Nat
  durNs : Nat
  deriving DecidableEq, Repr, Inhabited

/-- Platform map entry (Table 05-10). -/
structure PlatformEntry where
  setMask : Nat
  kind : Nat
  engineGroup : Nat
  inService : Bool
  deriving DecidableEq, Repr, Inhabited

/-- The parameters of a command packet, one constructor per opcode of Table 11-7; `other` is an opcode the
table does not list. -/
inductive Params where
  | sessionOpen (tenant major minor : Nat) (hostNonce : List Byte)
  | sessionConfirm (hostProof : List Byte)
  | sessionClose
  | capQuery
  | groupQuery
  | keyProvision (kind index : Nat) (wrapped : List Byte) (blobFlags : Nat)
  | modelLoad (p : LoadParams)
  | modelQuery (descriptor : Nat)
  | modelStage (p : StageParams)
  | modelUnload (junction descriptor : Nat)
  | strainLoad (descriptor strain size crc stageOffset : Nat)
  | strainDrop (descriptor strain version : Nat)
  | tenantConfig (tenant : Nat) (c : TenantCfg)
  | classConfig (cls : Nat) (c : ClassCfg)
  | reqAdmit (p : AdmitParams)
  | reqAppend (h : ReqHead) (flags count : Nat) (tokens : List Nat)
  | reqTruncate (h : ReqHead) (position : Nat)
  | reqCancel (h : ReqHead)
  | reqPause (h : ReqHead) (tier ttl : Nat)
  | reqResume (h : ReqHead)
  | reqFree (h : ReqHead)
  | reqSetSampling (h : ReqHead) (p : Sampling)
  | reqQuery (h : ReqHead)
  | powerConfig (p : PowerConfigParams)
  | powerCalibrate (rail bandHi : Nat) (entries : List EnergyEntry)
  | powerCap (cap : Nat)
  | modeSet (p : ModeParams)
  | linkMap (n : Nat) (routes : List (List (List Nat)))
  | maintWindow (count : Nat) (links : List Nat)
  | platformMap (first count : Nat) (read : Bool) (entries : List PlatformEntry)
  | counterRead (space first count : Nat)
  | traceConfig (mask addr bytes : Nat)
  | censusConfig (enable interval addr bytes : Nat)
  | tensorDump (layer operator handle step addr bytes : Nat)
  | hangDump (addr bytes : Nat) (waitFor : Bool)
  | logRead (log first count : Nat)
  | bufferStop (reason : Nat)
  | recover (recoverId : Nat) (returnBanks clearBarred : Bool)
  | faultQuery
  | other (opcode : Nat) (raw : List Byte)
  deriving DecidableEq, Repr, Inhabited

/-- A command packet (R284, Table 11-3) with its parameters and its 16-byte MAC; `rsvd` holds what stands in the reserved bits of
its header and parameters, at the byte where each lies (none: zeros). -/
structure Packet where
  params : Params
  version : Nat
  session : Nat
  seq : Nat
  paramLen : Nat
  mac : List Byte
  rsvd : List Byte := []
  deriving DecidableEq, Repr, Inhabited

/-! ### The junction log (chapter 9) -/

/-- A consist row record (Table 03-3). `kind`: 0 DECODE, 1 PREFILL, 2 APPEND, 3 TILLER, 4 DRAFT. -/
structure RowRec where
  handle : Nat
  kind : Nat
  rebuild : Bool
  sample : Bool
  model : Nat
  posCount : Nat
  firstPos : Nat
  treeNode : Nat
  strain : Nat
  strainBase : Nat
  cls : Nat
  level : Nat
  deriving DecidableEq, Repr, Inhabited

/-- A consist record (Tables 03-2 and 03-3); the sums of the header are computed from the rows. -/
structure Consist where
  step : Nat
  epoch : Nat
  stepEst : Nat
  rows : List RowRec
  deriving DecidableEq, Repr, Inhabited

/-- RESULT of a command record (Table 11-6). -/
inductive RecResult where
  | none
  | model (finalMaxLive finalMaxContext n0 : Nat)
  | strainData (bytes : List Byte)
  deriving DecidableEq, Repr, Inhabited

/-- A command record (Table 11-6). -/
structure CmdRecord where
  session : Nat
  acceptTime : Nat
  assigned : Nat
  params : Params
  result : RecResult
  /-- what stands in the reserved bits of its parameters (R290: as received) -/
  rsvd : List Byte := []
  deriving DecidableEq, Repr, Inhabited

/-- An entry of the TICKETS section (Table 09-2): a deferral to the firmware queue, or an admission from it
(ticket 0 and the old handle for a request moved under R62). -/
inductive TicketRec where
  | deferral (ticket session acceptTime : Nat) (p : AdmitParams)
  | admission (ticket oldHandle handle : Nat)
  deriving DecidableEq, Repr, Inhabited

/-- A junction log (Tables 09-1 and 09-2), one field per section. -/
structure JLog where
  junction : Nat
  leadTerm : Nat
  leadRank : Nat
  epoch : Nat
  closeTime : Nat
  /-- old lead rank, REUSED -/
  takeover : Option (Nat × Bool)
  commands : List CmdRecord
  tickets : List TicketRec
  /-- handle, TOKEN_CONS, EVENT_CONS -/
  consumer : List (Nat × Nat × Nat)
  /-- handle, write time -/
  ringWrites : List (Nat × Nat)
  /-- handle, cause -/
  losses : List (Nat × Nat)
  banks : List Nat
  /-- new epoch, decision (1 COMMIT, 2 CANCEL), proposal number -/
  mode : Option (Nat × Nat × Nat)
  consist : Consist
  /-- handle, kind -/
  holds : List (Nat × Nat)
  deriving DecidableEq, Repr, Inhabited

/-! ### Logits, partial results, verdicts (chapters 6, 7, 12) -/

/-- A row header (Table 06-1). -/
structure RowHeader where
  itemTag : Nat
  step16 : Nat
  format : Nat
  segFirst : Bool
  segLast : Bool
  row : Nat
  baseIndex : Nat
  count : Nat
  deriving DecidableEq, Repr, Inhabited

/-- A segment as it arrives at a Logit Stream Port: its header (none: a beat with neither SOS nor an open
segment, R322), its beats of 64 lanes, whether the last of them carries EOS (not, where an SOS cuts the segment short), and the CRC
driven with that beat. -/
structure Segment where
  header : Option RowHeader
  beats : List (List Lane)
  eos : Bool
  crc : Nat
  deriving DecidableEq, Repr, Inhabited

/-- RESULT_FLAGS (Table 06-6). -/
structure ResultFlags where
  empty : Bool
  mismatch : Bool
  contribLost : Bool
  slabError : Bool
  portError : Bool
  descent : Bool
  nanSeen : Bool
  short : Bool
  inf : Bool
  approx : Bool
  deriving DecidableEq, Repr, Inhabited

/-- A partial row result or a final list (Table 06-5); `entries` are (KEY, INDEX), padded to K. -/
structure PartialResult where
  row : Nat
  step16 : Nat
  flags : ResultFlags
  k : Nat
  returned : Nat
  shardRank : Nat
  refMax : F32
  totalMass : F32
  selectedMass : F32
  leftMass : F32
  validCount : Nat
  tieCount : Nat
  nanCount : Nat
  negInfCount : Nat
  entries : List (Nat × Nat)
  deriving DecidableEq, Repr, Inhabited

/-- A verdict body (Table 07-3): OUTCOME 0 MERGED, 1 LOST. -/
structure Verdict where
  outcome : Nat
  used : Nat
  missing : Nat
  digest : Nat
  deriving DecidableEq, Repr, Inhabited

/-! ### Completion records and telemetry (chapters 10, 12, 13) -/

/-- A completion record (Tables 12-6 and 12-7); `endA`, `endB`, `endC` are the words at 0x14, 0x18, 0x1C. -/
structure CompletionRec where
  itemTag : Nat
  platform : Nat
  slot : Nat
  status : Nat
  stallReason : Nat
  crcBad : Bool
  busyStart : Nat
  stallStart : Nat
  idleStart : Nat
  endA : Nat
  endB : Nat
  endC : Nat
  /-- the reserved bits: WHERE[15:14], and CPL_FLAGS[7:1] above them -/
  rsvd : Nat := 0
  deriving DecidableEq, Repr, Inhabited

/-- A telemetry frame (Table 13-7): per rail the sample, none where its valid bit is 0. -/
structure TelemetryFrame where
  samples : List (Option Nat)
  crcOk : Bool
  deriving DecidableEq, Repr, Inhabited

/-! ### Coupling messages (chapters 9, 12, 16, 18) -/

/-- What every EPOCH message carries in its head (Table 12-14). -/
structure EpochHead where
  source : Nat
  proposal : Nat
  leadTerm : Nat
  epoch : Nat
  junction : Nat
  deriving DecidableEq, Repr, Inhabited

/-- The first two fields of a CAP_SET (Table 10-5): the group cap, and the rank with the lowest cap. -/
structure GroupCap where
  cap : Nat
  rank : Nat
  deriving DecidableEq, Repr, Inhabited

/-- What every packet row carries of its packet: SRC, the 64 bytes as they come, PKT_CRC among them, whether the fabric held a receive
credit of the class, whether its CLASS is one of the reserved ones, MSG_ID, FRAG and the fragments of its message (R339, R340, R342).
The row's other operands are what the message says whose fragment the bytes are. -/
structure Rx where
  src : Nat
  bytes : List Byte := []
  credit : Bool := true
  reserved : Bool := false
  msgId : Nat := 0
  frag : Nat := 0
  count : Nat := 1
  deriving DecidableEq, Repr, Inhabited

/-- FORM_REPORT body (Table 18-3); `barred` lists the barred ranks. -/
structure FormReport where
  source : Nat
  highestTerm : Nat
  epoch : Nat
  junction : Nat
  recoverId : Nat
  n : Nat
  resumeHint : Nat
  oldState : Bool
  lastDigest : Nat
  barred : List Nat
  deriving DecidableEq, Repr, Inhabited

/-- FORM_COMMIT body (Table 18-3). -/
structure FormCommit where
  source : Nat
  recoverId : Nat
  n : Nat
  resumeKind : Nat
  firstJunction : Nat
  leadTerm : Nat
  leadRank : Nat
  deriving DecidableEq, Repr, Inhabited

/-- A roster entry (Table 16-7). -/
structure RosterEntry where
  handle : Nat
  state : Nat
  endReason : Nat
  flags : Nat
  granule : Nat
  transcriptLen : Nat
  genCount : Nat
  emitCount : Nat
  tokenProd : Nat
  tokenCons : Nat
  eventProd : Nat
  eventCons : Nat
  admitTime : Nat
  nextDeadline : Nat
  deadlinesMissed : Nat
  lostCount : Nat
  eventsDropped : Nat
  strainVersion : Nat
  transcriptCrc : Nat
  deriving DecidableEq, Repr, Inhabited

/-- A LOSS_REPORT body (Table 16-2). -/
structure LossReport where
  handle : Nat
  cause : Nat
  bankReport : Bool
  bank : Nat
  deriving DecidableEq, Repr, Inhabited

/-- Where an uncorrectable error falls (Table 16-1), with the unit (SOURCE of Table 15-7) for control state. -/
inductive Storage where
  | granaryEntry (slot : Nat)
  | cacheLine (cache line : Nat)
  | rowContext (port row : Nat)
  | gleanBuffer (row rank : Nat)
  | stagedSlab (slot : Nat)
  | logRecord (seq : Nat)
  | bankLogic (bank : Nat)
  | control (unit : Nat)
  | handshake (unit : Nat)
  deriving DecidableEq, Repr, Inhabited

/-- What a read of the Memory Port was for (R337): a structure with a rule of its own, or any other. -/
inductive MemRead where
  | commandPacket
  | transcript (handle : Nat)
  | slab (handle : Nat)
  | walk (handle : Nat)
  | window (secure : Bool)
  | mail
  | staged
  | other
  deriving DecidableEq, Repr, Inhabited

/-- A read beat as the Memory Port's signals name it (Table 12-8): the channel, RD_TAG, RD_BEAT and the 64 bytes of RD_DATA. -/
structure ReadBeat where
  channel : Nat
  tag : Nat
  beat : Nat
  data : List Byte
  deriving DecidableEq, Repr, Inhabited

/-- What LINKMAP says (Table 12-15): the link out of service and the time base of the failure report. -/
structure LinkReport where
  link : Nat
  time : Nat
  deriving DecidableEq, Repr, Inhabited

/-- The port clocks that R374 watches. -/
inductive PortClock where
  | ls0 | ls1 | dp | cp | mp | fp | ha | pw | tb | mg | tck | wrck
  deriving DecidableEq, Repr, Inhabited

/-- The checks of R368 by which the time base is lost. -/
inductive TimeBaseFault where
  | validLow | backwards | jump | frozen | syncMisplaced | syncMissing | pclk
  deriving DecidableEq, Repr, Inhabited

/-- The test modes of R373 (Table 13-11). -/
inductive TestMode where
  | wsExtest | wsIntest | hsBreakScan | mbist
  deriving DecidableEq, Repr, Inhabited

/-- A firmware image header (Table 14-5). -/
structure ImageHeader where
  magic : Nat
  hdrVersion : Nat
  keyIndex : Nat
  svn : Nat
  revokeMask : Nat
  imageVersion : Nat
  interfaceVersion : Nat
  payloadLen : Nat
  entry : Nat
  payloadHash : List Byte
  signature : List Byte
  deriving DecidableEq, Repr, Inhabited

/-- An inbound mailbox message as core 3 reads it at IN_PTR (Table 15-9): whether the read succeeded, BODY_LEN, MSG_SEQ, body. -/
structure InMail where
  readOk : Bool
  bodyLen : Nat
  seq : Nat
  body : List Byte
  deriving DecidableEq, Repr, Inhabited

/-- A packet at the Management Port (Table 13-9): its bytes from the MCTP transport header on, and MG_RX_CRC. A row's other operands are
what the message says that the packet is of. -/
structure MctpMsg where
  packet : List Byte
  crc : Nat
  deriving DecidableEq, Repr, Inhabited

end Sys2Proof
end

