-- ==== Sys2Proof/Syntax.lean ====
section
/-! DEFINITION. The commands of the block: one constructor per row of the opcode table, in the table's order. The first
operand of each is the time-base value at which it comes (log entry 5); `a` is a host aperture access, `s` a session, `rx` what
the header of a packet says, `msg` what a mailbox or MCTP message says of itself. A command row of chapter 11 (a session and no
parameters) carries out the command that its session has fetched. -/

namespace Sys2Proof

/-- The commands. -/
inductive Instr where
  /-- CMD_TAIL_WRITE (R281): a write of CMD_TAIL -/
  | cmdTailWrite (t : Time) (a : HAccess) (s : Nat) (value : Nat)
  /-- COMMAND_FETCH (R283): the next entry and packet of a session, none where the packet cannot be read, with checks 1 to 12 of Table 11-5 -/
  | commandFetch (t : Time) (s : Nat) (entry : CmdEntry) (pkt : Option Packet)
  /-- CPL_HEAD_WRITE (R353): a write of CPL_HEAD -/
  | cplHeadWrite (t : Time) (a : HAccess) (s : Nat) (value : Nat)
  /-- QUEUE_CONFIG_WRITE (R353): a write of CMD_QUEUE_BASE, CPL_QUEUE_BASE or QUEUE_CFG -/
  | queueConfigWrite (t : Time) (a : HAccess) (s : Nat) (reg : QueueReg) (value : Nat)
  /-- TOKEN_CONS_REPORT (R354): a write of TOKEN_REPORT -/
  | tokenConsReport (t : Time) (a : HAccess) (s : Nat) (value : Nat)
  /-- EVENT_CONS_REPORT (R354): a write of EVENT_REPORT -/
  | eventConsReport (t : Time) (a : HAccess) (s : Nat) (value : Nat)
  /-- SESSION_OPEN (R387): SESSION_OPEN of session s -/
  | sessionOpen (t : Time) (s : Nat)
  /-- SESSION_CONFIRM (R387): SESSION_CONFIRM of session s -/
  | sessionConfirm (t : Time) (s : Nat)
  /-- SESSION_CLOSE (R387): SESSION_CLOSE of session s -/
  | sessionClose (t : Time) (s : Nat)
  /-- SESSION_OPENING_TIMEOUT (R387): 100 ms have passed in OPENING -/
  | sessionOpeningTimeout (t : Time) (s : Nat)
  /-- SESSION_LOCKOUT_END (R387): the lockout of a session ends -/
  | sessionLockoutEnd (t : Time) (s : Nat)
  /-- CAP_QUERY (R297): CAP_QUERY of session s -/
  | capQuery (t : Time) (s : Nat)
  /-- GROUP_QUERY (R297): GROUP_QUERY of session s -/
  | groupQuery (t : Time) (s : Nat)
  /-- KEY_PROVISION (R384): KEY_PROVISION of session s -/
  | keyProvision (t : Time) (s : Nat)
  /-- MODEL_STAGE (R301): MODEL_STAGE of session s -/
  | modelStage (t : Time) (s : Nat)
  /-- MODEL_LOAD (R303): MODEL_LOAD of session s -/
  | modelLoad (t : Time) (s : Nat)
  /-- MODEL_UNLOAD (R305): MODEL_UNLOAD of session s -/
  | modelUnload (t : Time) (s : Nat)
  /-- MODEL_QUERY (R306): MODEL_QUERY of session s -/
  | modelQuery (t : Time) (s : Nat)
  /-- STRAIN_LOAD (R308): STRAIN_LOAD of session s -/
  | strainLoad (t : Time) (s : Nat)
  /-- STRAIN_DROP (R309): STRAIN_DROP of session s -/
  | strainDrop (t : Time) (s : Nat)
  /-- TENANT_CONFIG (R84): TENANT_CONFIG of session s -/
  | tenantConfig (t : Time) (s : Nat)
  /-- CLASS_CONFIG (R76): CLASS_CONFIG of session s -/
  | classConfig (t : Time) (s : Nat)
  /-- REQ_ADMIT (R40): REQ_ADMIT of session s -/
  | reqAdmit (t : Time) (s : Nat)
  /-- REQ_APPEND (R44): REQ_APPEND of session s -/
  | reqAppend (t : Time) (s : Nat)
  /-- REQ_TRUNCATE (R46): REQ_TRUNCATE of session s -/
  | reqTruncate (t : Time) (s : Nat)
  /-- REQ_CANCEL (R48): REQ_CANCEL of session s -/
  | reqCancel (t : Time) (s : Nat)
  /-- REQ_PAUSE (R50): REQ_PAUSE of session s -/
  | reqPause (t : Time) (s : Nat)
  /-- REQ_RESUME (R50): REQ_RESUME of session s -/
  | reqResume (t : Time) (s : Nat)
  /-- REQ_FREE (R39): REQ_FREE of session s -/
  | reqFree (t : Time) (s : Nat)
  /-- REQ_SET_SAMPLING (R159): REQ_SET_SAMPLING of session s -/
  | reqSetSampling (t : Time) (s : Nat)
  /-- REQ_QUERY (R300): REQ_QUERY of session s -/
  | reqQuery (t : Time) (s : Nat)
  /-- POWER_CONFIG (R247): POWER_CONFIG of session s -/
  | powerConfig (t : Time) (s : Nat)
  /-- POWER_CALIBRATE (R267): POWER_CALIBRATE of session s -/
  | powerCalibrate (t : Time) (s : Nat)
  /-- POWER_CAP (R269): POWER_CAP of session s -/
  | powerCap (t : Time) (s : Nat)
  /-- MODE_SET (R231): MODE_SET of session s -/
  | modeSet (t : Time) (s : Nat)
  /-- LINK_MAP (R242): LINK_MAP of session s -/
  | linkMap (t : Time) (s : Nat)
  /-- MAINT_WINDOW (R245): MAINT_WINDOW of session s -/
  | maintWindow (t : Time) (s : Nat)
  /-- PLATFORM_MAP (R146): PLATFORM_MAP of session s -/
  | platformMap (t : Time) (s : Nat)
  /-- COUNTER_READ (R451): COUNTER_READ of session s -/
  | counterRead (t : Time) (s : Nat)
  /-- TRACE_CONFIG (R454): TRACE_CONFIG of session s -/
  | traceConfig (t : Time) (s : Nat)
  /-- CENSUS_CONFIG (R461): CENSUS_CONFIG of session s -/
  | censusConfig (t : Time) (s : Nat)
  /-- TENSOR_DUMP (R463): TENSOR_DUMP of session s -/
  | tensorDump (t : Time) (s : Nat)
  /-- HANG_DUMP (R467): HANG_DUMP of session s -/
  | hangDump (t : Time) (s : Nat)
  /-- LOG_READ (R410): LOG_READ of session s -/
  | logRead (t : Time) (s : Nat)
  /-- BUFFER_STOP (R430): BUFFER_STOP of session s -/
  | bufferStop (t : Time) (s : Nat)
  /-- RECOVER (R434): RECOVER of session s -/
  | recover (t : Time) (s : Nat)
  /-- FAULT_QUERY (R434): FAULT_QUERY of session s -/
  | faultQuery (t : Time) (s : Nat)
  /-- REGISTER_WRITE (R11): a write at an offset of the register parts -/
  | registerWrite (t : Time) (a : HAccess) (off : Nat) (value : Nat)
  /-- DP_CTL_WRITE (R357): a write of DP_CTL of the secure or the non-secure data channel -/
  | dpCtlWrite (t : Time) (a : HAccess) (secure : Bool) (value : Nat)
  /-- DATA_WINDOW_ACCESS (R356): beats in a data window: the data of a write, and the read beats whose memory cannot be read -/
  | dataWindowAccess (t : Time) (a : HAccess) (off : Nat) (write : Bool) (data : List Nat) (bad : List Nat)
  /-- STAGE_BASE_WRITE (R359): a write of STAGE_BASE -/
  | stageBaseWrite (t : Time) (a : HAccess) (value : Nat)
  /-- KB_UNWRAP (R383): a write of KB_CTL with ACTION 1 -/
  | kbUnwrap (t : Time) (a : HAccess) (value : Nat)
  /-- KB_PROGRAM_WRAP_KEY (R383): a write of KB_CTL with ACTION 2 -/
  | kbProgramWrapKey (t : Time) (a : HAccess) (value : Nat)
  /-- MAILBOX_DOORBELL (R413): a write of IN_CTL of a channel -/
  | mailboxDoorbell (t : Time) (a : HAccess) (ch : Nat) (value : Nat)
  /-- PING (R414): core 3 takes a PING, or a message of a type that Table 15-10 does not list -/
  | ping (t : Time) (ch : Nat) (type : Nat) (msg : InMail)
  /-- SENSOR_SNAPSHOT (R414): core 3 takes a SENSOR_SNAPSHOT message -/
  | sensorSnapshot (t : Time) (ch : Nat) (msg : InMail)
  /-- LOG_MARK (R414): core 3 takes a LOG_MARK message -/
  | logMark (t : Time) (ch : Nat) (msg : InMail)
  /-- OUT_PENDING_CLEAR (R415): a write of OUT_STATUS of a channel -/
  | outPendingClear (t : Time) (a : HAccess) (ch : Nat) (value : Nat)
  /-- LOCK_READ (R416): a read of lock n -/
  | lockRead (t : Time) (a : HAccess) (n : Nat)
  /-- LOCK_RELEASE (R11): a write of lock n -/
  | lockRelease (t : Time) (a : HAccess) (n : Nat) (value : Nat)
  /-- LOCK_BREAK (R417): a write of LOCK_BREAK -/
  | lockBreak (t : Time) (a : HAccess) (value : Nat)
  /-- GROUP_EVENT_CLEAR (R493): a write of GROUP_EVENT -/
  | groupEventClear (t : Time) (a : HAccess) (value : Nat)
  /-- COUNTER_SNAP (R500): a write of COUNTER_SNAP -/
  | counterSnap (t : Time) (a : HAccess) (value : Nat)
  /-- GROUP_SETUP_WRITE (R477): a write of GROUP_SETUP -/
  | groupSetupWrite (t : Time) (a : HAccess) (value : Nat)
  /-- OBS_BASE_WRITE (R460): a write of OBS_BASE -/
  | obsBaseWrite (t : Time) (a : HAccess) (value : Nat)
  /-- LOGIT_SEGMENT (R154): a segment at Logit Stream Port 0 or 1 -/
  | logitSegment (t : Time) (lsport : Nat) (seg : Segment)
  /-- GLEAN_DATA (R189): a GLEAN_DATA packet -/
  | gleanData (t : Time) (rx : Rx) (row : Nat) (step : Nat) (format : Nat) (result : PartialResult)
  /-- GLEAN_VERDICT (R190): a VERDICT packet -/
  | gleanVerdict (t : Time) (rx : Rx) (row : Nat) (step : Nat) (verdict : Verdict)
  /-- GLEAN_RESEND_REQ (R187): a RESEND_REQ packet -/
  | gleanResendReq (t : Time) (rx : Rx) (row : Nat) (step : Nat)
  /-- GLEAN_RESEND_TIMER (R187): RESEND_AFTER passes for a row -/
  | gleanResendTimer (t : Time) (row : Nat)
  /-- GLEAN_TIMEOUT (R189): GLEAN_TIMEOUT passes for a row at the lead -/
  | gleanTimeout (t : Time) (row : Nat)
  /-- GLEAN_VERDICT_WAIT_TIMEOUT (R190): 2 × GLEAN_TIMEOUT have passed since the verdict of a row -/
  | gleanVerdictWaitTimeout (t : Time) (row : Nat)
  /-- GLEAN_MISMATCH_WINDOW (R429): an aligned second of the time base -/
  | gleanMismatchWindow (t : Time)
  /-- DRAW_WAIT_COMPLETION (R204): the drafted children that a held completion waits for are in memory -/
  | drawWaitCompletion (t : Time) (tag : Nat)
  /-- TIMETABLE_INSTANTIATION (R129): the Expander instantiates the next step -/
  | timetableInstantiation (t : Time)
  /-- NODE_INSERT (R133): the next node enters the Stook -/
  | nodeInsert (t : Time)
  /-- DISPATCH_STAGE (R137): the Dispatcher stages the next item -/
  | dispatchStage (t : Time)
  /-- WAVE_RELEASE (R262): a wave is released -/
  | waveRelease (t : Time)
  /-- COMPLETION_RECORD (R144): a completion record, and CP_CRC -/
  | completionRecord (t : Time) (rec : CompletionRec) (crc : Nat)
  /-- ITEM_TIMEOUT (R144): an open item exceeds its ITEM_TIMEOUT -/
  | itemTimeout (t : Time) (tag : Nat)
  /-- MEMORY_READ_RESPONSE (R337): a read beat of a channel of the Memory Port: RD_TAG, RD_BEAT, RD_DATA, RD_STATUS and RD_CRC -/
  | memoryReadResponse (t : Time) (beat : ReadBeat) (status : Nat) (crc : Nat)
  /-- MEMORY_WRITE_RESPONSE (R336): a write response of a channel of the Memory Port -/
  | memoryWriteResponse (t : Time) (channel : Nat) (status : Nat)
  /-- PREFIX_WALK (R113): the prefix walk of a request ends -/
  | prefixWalk (t : Time) (handle : Nat)
  /-- READY_SEND (R225): READY is sent -/
  | readySend (t : Time)
  /-- JUNCTION_READY (R226): a JUNCTION packet READY; reserved where its KIND is a reserved one -/
  | junctionReady (t : Time) (rx : Rx) (junction : Nat) (term : Nat) (doneTime : Nat) (logCrc : Nat) (moveSeq : Nat) (reserved : Bool)
  /-- JUNCTION_DIGEST (R228): a JUNCTION packet DIGEST -/
  | junctionDigest (t : Time) (rx : Rx) (junction : Nat) (term : Nat) (digest : Nat)
  /-- DIGEST_RESEND_TIMER (R228): the lead resends DIGEST -/
  | digestResendTimer (t : Time)
  /-- READY_RESEND_TIMER (R225): READY is resent -/
  | readyResendTimer (t : Time)
  /-- JUNCTION_WATCHDOG (R229): JUNCTION_WATCHDOG passes -/
  | junctionWatchdog (t : Time)
  /-- IDLE_INTERVAL (R83): IDLE_INTERVAL passes on an idle group -/
  | idleInterval (t : Time)
  /-- YARD_FINALISATION (R80): the lead finalises the consist and closes the log -/
  | yardFinalisation (t : Time)
  /-- LOG_RECEIVED (R224): a LOG fragment; reserved where the log carries a section of a reserved TYPE -/
  | logReceived (t : Time) (rx : Rx) (frag : Nat) (count : Nat) (log : JLog) (reserved : Bool)
  /-- LOG_RESEND_REQUEST (R343): a LOG resend request -/
  | logResendRequest (t : Time) (rx : Rx) (id : Nat) (first : Nat) (count : Nat)
  /-- LOG_RESEND_TIMER (R224): log J is asked for again -/
  | logResendTimer (t : Time)
  /-- LEAD_TIMER_EXPIRY (R235): the lead timer reaches this instance -/
  | leadTimerExpiry (t : Time)
  /-- TAKEOVER (R237): a TAKEOVER packet -/
  | takeover (t : Time) (rx : Rx) (junction : Nat) (term : Nat) (oldLead : Nat)
  /-- TAKEOVER_ACK (R238): a TAKEOVER_ACK packet -/
  | takeoverAck (t : Time) (rx : Rx) (term : Nat) (copies : Nat)
  /-- TAKEOVER_TIMEOUT (R238): 250 µs have passed since TAKEOVER -/
  | takeoverTimeout (t : Time)
  /-- PROPOSE (R232): a PROPOSE message -/
  | propose (t : Time) (rx : Rx) (head : EpochHead) (cmd : CmdRecord)
  /-- PREPARED (R231): a PREPARED message -/
  | prepared (t : Time) (rx : Rx) (head : EpochHead) (mem : Nat) (page : Nat) (fixed : Nat)
  /-- REFUSED (R231): a REFUSED message -/
  | refused (t : Time) (rx : Rx) (head : EpochHead) (status : Nat) (detail : Nat)
  /-- CAP_REPORT (R272): a CAP_REPORT message -/
  | capReport (t : Time) (rx : Rx) (head : EpochHead) (cap : Nat) (seq : Nat)
  /-- CAP_SET (R273): a CAP_SET message -/
  | capSet (t : Time) (rx : Rx) (head : EpochHead) (cap : GroupCap) (seq : Nat) (effective : Nat)
  /-- LOSS_REPORT (R427): a LOSS_REPORT message -/
  | lossReport (t : Time) (rx : Rx) (head : EpochHead) (report : LossReport)
  /-- LOSS_REPORT_RESEND (R426): an unlogged loss report is sent again -/
  | lossReportResend (t : Time)
  /-- FORM_REPORT (R480): a FORM_REPORT message -/
  | formReport (t : Time) (rx : Rx) (report : FormReport)
  /-- FORM_REPORT_REPEAT (R480): FORM_REPORT is repeated -/
  | formReportRepeat (t : Time)
  /-- FORM_COMMIT (R480): a FORM_COMMIT message -/
  | formCommit (t : Time) (rx : Rx) (commit : FormCommit)
  /-- ROSTER (R438): a ROSTER message -/
  | roster (t : Time) (rx : Rx) (recoverId : Nat) (entries : List RosterEntry)
  /-- FORMATION_TIMEOUT (R441): formation has not completed within 1 s -/
  | formationTimeout (t : Time)
  /-- HALT_RECEIVED (R430): a HALT packet -/
  | haltReceived (t : Time) (rx : Rx) (reason : Nat) (rank : Nat) (time : Nat)
  /-- LINKMAP (R243): a LINKMAP packet: the link and the time of the failure report -/
  | linkmap (t : Time) (rx : Rx) (report : LinkReport)
  /-- LINK_FAIL_REPORT (R243): the fabric reports a failed link -/
  | linkFailReport (t : Time) (link : Nat)
  /-- TX_CREDIT_RETURN (R340): a transmit credit of a class returns -/
  | txCreditReturn (t : Time) (cls : Nat)
  /-- ENDPOINT_RESPONSE (R346): the fabric answers the endpoint query for a rank -/
  | endpointResponse (t : Time) (rank : Nat) (alive : Bool)
  /-- ENDPOINT_QUERY_TIMEOUT (R346): 1,024 pclk cycles have passed without an answer -/
  | endpointQueryTimeout (t : Time)
  /-- TELEMETRY_FRAME (R256): a telemetry frame -/
  | telemetryFrame (t : Time) (frame : TelemetryFrame)
  /-- HARD_STUCK (R260): HARD_STUCK passes for a rail in HARD -/
  | hardStuck (t : Time) (rail : Nat)
  /-- TELEMETRY_LOSS (R253): 1,000 ns without a valid sample of a rail -/
  | telemetryLoss (t : Time) (rail : Nat)
  /-- CALIBRATION_WINDOW (R265): a 1 µs window ends -/
  | calibrationWindow (t : Time)
  /-- CAP_STROBE (R365): a fast cap strobe -/
  | capStrobe (t : Time) (cap : Nat) (urgent : Bool)
  /-- CAP_DEADLINE (R274): the cap deadline has come -/
  | capDeadline (t : Time)
  /-- DROOP_WARNING_ASSERT (R268): the droop warning rises -/
  | droopWarningAssert (t : Time)
  /-- DROOP_WARNING_DEASSERT (R268): the droop warning falls -/
  | droopWarningDeassert (t : Time)
  /-- DROOP_RAMP (R268): the droop has held for DROOP_RAMP_AFTER -/
  | droopRamp (t : Time)
  /-- TIME_BASE_LOST (R368): the time base fails a check of R368 -/
  | timeBaseLost (t : Time) (fault : TimeBaseFault)
  /-- PCLK_LOST (R374): a port clock shows no edge -/
  | pclkLost (t : Time) (clock : PortClock)
  /-- SET_ENDPOINT_ID (R371): Set Endpoint ID -/
  | setEndpointId (t : Time) (msg : MctpMsg) (op : Nat) (eid : Nat)
  /-- GET_ENDPOINT_ID (R371): Get Endpoint ID -/
  | getEndpointId (t : Time) (msg : MctpMsg)
  /-- GET_ENDPOINT_UUID (R371): Get Endpoint UUID -/
  | getEndpointUuid (t : Time) (msg : MctpMsg)
  /-- GET_MCTP_VERSION_SUPPORT (R371): Get MCTP Version Support for a message type -/
  | getMctpVersionSupport (t : Time) (msg : MctpMsg) (type : Nat)
  /-- GET_MESSAGE_TYPE_SUPPORT (R371): Get Message Type Support -/
  | getMessageTypeSupport (t : Time) (msg : MctpMsg)
  /-- GET_TID (R396): GetTID -/
  | getTid (t : Time) (msg : MctpMsg)
  /-- GET_PLDM_VERSION (R396): GetPLDMVersion for a PLDM type -/
  | getPldmVersion (t : Time) (msg : MctpMsg) (type : Nat)
  /-- GET_PLDM_TYPES (R396): GetPLDMTypes -/
  | getPldmTypes (t : Time) (msg : MctpMsg)
  /-- GET_PLDM_COMMANDS (R396): GetPLDMCommands for a PLDM type -/
  | getPldmCommands (t : Time) (msg : MctpMsg) (type : Nat)
  /-- QUERY_DEVICE_IDENTIFIERS (R396): QueryDeviceIdentifiers -/
  | queryDeviceIdentifiers (t : Time) (msg : MctpMsg)
  /-- GET_FIRMWARE_PARAMETERS (R396): GetFirmwareParameters -/
  | getFirmwareParameters (t : Time) (msg : MctpMsg)
  /-- REQUEST_UPDATE (R396): RequestUpdate -/
  | requestUpdate (t : Time) (msg : MctpMsg) (maxTransfer : Nat)
  /-- PASS_COMPONENT_TABLE (R396): PassComponentTable for one component -/
  | passComponentTable (t : Time) (msg : MctpMsg) (classification : Nat) (identifier : Nat) (last : Bool)
  /-- UPDATE_COMPONENT (R395): UpdateComponent -/
  | updateComponent (t : Time) (msg : MctpMsg) (classification : Nat) (identifier : Nat) (size : Nat)
  /-- FIRMWARE_DATA (R420): the answer to RequestFirmwareData: completion code and image bytes -/
  | firmwareData (t : Time) (msg : MctpMsg) (code : Nat) (data : List Byte)
  /-- ACTIVATE_FIRMWARE (R396): ActivateFirmware -/
  | activateFirmware (t : Time) (msg : MctpMsg) (selfContained : Bool)
  /-- GET_STATUS (R396): GetStatus -/
  | getStatus (t : Time) (msg : MctpMsg)
  /-- CANCEL_UPDATE_COMPONENT (R396): CancelUpdateComponent -/
  | cancelUpdateComponent (t : Time) (msg : MctpMsg)
  /-- CANCEL_UPDATE (R396): CancelUpdate -/
  | cancelUpdate (t : Time) (msg : MctpMsg)
  /-- GET_VERSION (R397): GET_VERSION -/
  | getVersion (t : Time) (msg : MctpMsg)
  /-- GET_CAPABILITIES (R397): GET_CAPABILITIES -/
  | getCapabilities (t : Time) (msg : MctpMsg)
  /-- NEGOTIATE_ALGORITHMS (R397): NEGOTIATE_ALGORITHMS with the algorithms offered -/
  | negotiateAlgorithms (t : Time) (msg : MctpMsg) (asym : Nat) (hash : Nat)
  /-- GET_DIGESTS (R397): GET_DIGESTS -/
  | getDigests (t : Time) (msg : MctpMsg)
  /-- GET_CERTIFICATE (R397): GET_CERTIFICATE -/
  | getCertificate (t : Time) (msg : MctpMsg) (certSlot : Nat) (offset : Nat) (length : Nat)
  /-- CHALLENGE (R397): CHALLENGE with its measurement summary type -/
  | challenge (t : Time) (msg : MctpMsg) (certSlot : Nat) (summary : Nat)
  /-- GET_MEASUREMENTS (R398): GET_MEASUREMENTS: the slot, the measurement or all (255) or their number (0), and whether a signature is asked -/
  | getMeasurements (t : Time) (msg : MctpMsg) (certSlot : Nat) (operation : Nat) (signed : Bool)
  /-- SET_CERTIFICATE (R397): SET_CERTIFICATE -/
  | setCertificate (t : Time) (msg : MctpMsg) (certSlot : Nat) (chain : List Byte)
  /-- FLASH_COMMAND_DONE (R405): the running flash command ends; ok where ERROR is 0 -/
  | flashCommandDone (t : Time) (ok : Bool)
  /-- FLASH_COMMAND_TIMEOUT (R405): the running flash command overruns its limit -/
  | flashCommandTimeout (t : Time)
  /-- PERSISTENT_LOG_FLUSH (R411): staged records are flushed -/
  | persistentLogFlush (t : Time)
  /-- CORE_WATCHDOG (R402): the watchdog of a core expires -/
  | coreWatchdog (t : Time) (core : Nat) (pc : Nat)
  /-- RETENTION_ACK (R377): RET_ACK of a core changes -/
  | retentionAck (t : Time) (core : Nat) (level : Bool)
  /-- SENSOR_SAMPLE (R408): a sample of a sensor -/
  | sensorSample (t : Time) (sensor : Nat) (value : Nat)
  /-- CENSUS_SNAPSHOT (R462): a census interval ends -/
  | censusSnapshot (t : Time)
  /-- SRAM_UNCORRECTABLE (R424): an uncorrectable error or illegal code; newPass where a scrub pass of its bank has begun since the last error -/
  | sramUncorrectable (t : Time) (storage : Storage) (newPass : Bool)
  /-- DRBG_HEALTH_FAIL (R380): a noise source fails its health test -/
  | drbgHealthFail (t : Time)
  /-- DIAG_SWEEP_COMPLETE (R433): the sweep ends; the first failing unit -/
  | diagSweepComplete (t : Time) (unit : Option Nat)
  /-- QUIESCENCE (R468): the pipelines have quiesced -/
  | quiescence (t : Time)
  /-- PORESET (R375): PORESET_N asserts -/
  | poreset (t : Time)
  /-- WRESET (R376): WRESET_N asserts -/
  | wreset (t : Time)
  /-- RESET_RELEASE (R473): reset releases and the boot ROM runs; memFail is the address where the march test of local memory fails -/
  | resetRelease (t : Time) (memFail : Option Nat)
  /-- SELF_TEST_COMPLETE (R474): the self-tests end; unit is the first failing unit of the block test -/
  | selfTestComplete (t : Time) (firmwareOk : Bool) (unit : Option Nat)
  /-- TEST_MODE_ENTRY (R373): a test mode is entered -/
  | testModeEntry (t : Time) (mode : TestMode)
  /-- DRBG_RESEED (R380): the generator is reseeded -/
  | drbgReseed (t : Time)
  /-- KB_ACTION_COMPLETE (R383): a key bootstrap action ends -/
  | kbActionComplete (t : Time)
  /-- TB_SYNC_PULSE (R368): a TB_SYNC pulse -/
  | tbSyncPulse (t : Time)
  /-- SCRUB_SYMBOL_CORRECTED (R423): a corrected word, and its Granary bank -/
  | scrubSymbolCorrected (t : Time) (unit : Nat) (addr : Nat) (bank : Option Nat) (newPass : Bool)
  /-- OUT_DROPPED_READ (R11): a read of OUT_CTL of a channel -/
  | outDroppedRead (t : Time) (a : HAccess) (ch : Nat)
  /-- WS_SAFE_ENTRY (R372): WS_SAFE is selected -/
  | wsSafeEntry (t : Time)
  deriving DecidableEq, Repr

end Sys2Proof
end

