-- ==== Sys2Proof/Decode.lean ====
section
/-! DEFINITION. The words of commands. The opcode table gives no row bits (a command is a port event with typed operands, log
entry 6), so no word spells one. -/

namespace Sys2Proof

/-- The command that a word spells by the table's bits: none of them has any. -/
def decodeTableWord (_nbits _w : Nat) : Option Instr := none

end Sys2Proof
end

