-- ==== Sys2Proof/Machine/Bits.lean ====
section
/-! DEFINITION. Little-endian bytes (R6), bit fields, association lists kept in key order, and lists of numbers
kept as runs. -/

namespace Sys2Proof.Machine
open Sys2Proof

/-- The low byte of a number. -/
def byteOf (x : Nat) : Byte := BitVec.ofNat 8 x

/-- n bytes of x, least significant first (R6). -/
def le : Nat → Nat → List Byte
  | 0, _ => []
  | n + 1, x => byteOf x :: le n (x / 256)

/-- The number n bytes spell, least significant first. -/
def ofLe : List Byte → Nat
  | [] => 0
  | b :: bs => b.toNat + 256 * ofLe bs

/-- A 32-bit two's complement field. -/
def ofInt32 (x : Int) : Nat := (x % 4294967296).toNat

/-- The signed value of a 32-bit field. -/
def toInt32 (x : Nat) : Int := if x % 4294967296 < 2147483648 then (x % 4294967296 : Nat) else (x % 4294967296 : Nat) - 4294967296

/-- Zero bytes. -/
def zeros (n : Nat) : List Byte := List.replicate n 0

/-- n reserved bytes. -/
def rsv (fill : Byte) (n : Nat) : List Byte := List.replicate n fill

/-- A list cut or zero-padded to n bytes. -/
def padTo (n : Nat) (l : List Byte) : List Byte := l.take n ++ zeros (n - l.length)

/-- Zero-padded to the next multiple of 8 bytes. -/
def pad8 (l : List Byte) (fill : Byte := 0) : List Byte := l ++ rsv fill ((8 - l.length % 8) % 8)

/-- Bits [hi:lo] of x. -/
def bits (x hi lo : Nat) : Nat := (x / 2 ^ lo) % 2 ^ (hi + 1 - lo)

/-- Bit i of x. -/
def bit (x i : Nat) : Bool := (x / 2 ^ i) % 2 == 1

/-- 1 for true. -/
def b2n (b : Bool) : Nat := if b then 1 else 0

/-- A bit mask with the named bits set. -/
def maskOf (l : List Nat) : Nat := l.foldl (fun m i => m ||| 2 ^ i) 0

/-- Ceiling division. -/
def ceilDiv (a b : Nat) : Nat := (a + b - 1) / b

/-- a rounded up to a multiple of b. -/
def roundUp (a b : Nat) : Nat := ceilDiv a b * b

/-- log2 of the size of a power of two. -/
def isPow2 (n : Nat) : Bool := n != 0 && n &&& (n - 1) == 0

/-- Saturating increment. -/
def satInc (max x : Nat) : Nat := if x < max then x + 1 else max

/-- The parity of a number's low n bits. -/
def parity : Nat → Nat → Bool
  | 0, _ => false
  | n + 1, x => xor (x % 2 == 1) (parity n (x / 2))

/-- Lists of bits to a number, bit 0 first. -/
def ofBools : List Bool → Nat
  | [] => 0
  | b :: bs => b2n b + 2 * ofBools bs

/-! ### Tables -/

namespace Tab
variable {α : Type}

/-- The value at a key. -/
def get? (k : Nat) : Table α → Option α
  | [] => none
  | (i, v) :: r => if i = k then some v else if k < i then none else get? k r

def getD (k : Nat) (d : α) (t : Table α) : α := (get? k t).getD d

/-- Enter a value, keeping the keys ascending. -/
def set (k : Nat) (v : α) : Table α → Table α
  | [] => [(k, v)]
  | (i, w) :: r => if k < i then (k, v) :: (i, w) :: r else if k = i then (k, v) :: r else (i, w) :: set k v r

def erase (k : Nat) (t : Table α) : Table α := t.filter (fun p => p.1 != k)

def modify (k : Nat) (f : α → α) (t : Table α) : Table α := t.map fun p => if p.1 = k then (p.1, f p.2) else p

/-- Change an entry, absent entries starting from d. -/
def upd (k : Nat) (d : α) (f : α → α) (t : Table α) : Table α := set k (f (getD k d t)) t

def has (k : Nat) (t : Table α) : Bool := (get? k t).isSome

def keys (t : Table α) : List Nat := t.map (·.1)

def vals (t : Table α) : List α := t.map (·.2)

/-- A table from a list, later entries winning. -/
def ofList (l : List (Nat × α)) : Table α := l.foldl (fun t p => set p.1 p.2 t) []

end Tab

/-! ### Runs: a list of numbers held as runs of consecutive numbers -/

namespace Runs

def count (r : Runs) : Nat := r.foldl (fun n p => n + p.2) 0

def head? : Runs → Option Nat
  | [] => none
  | (a, _) :: _ => some a

def tailLast? (r : Runs) : Option Nat := r.getLast?.map fun p => p.1 + p.2 - 1

/-- Take the first number. -/
def pop : Runs → Option (Nat × Runs)
  | [] => none
  | (a, n) :: r => some (a, if n ≤ 1 then r else (a + 1, n - 1) :: r)

/-- Put a number at the head. -/
def pushHead (x : Nat) : Runs → Runs
  | (a, n) :: r => if x + 1 = a then (x, n + 1) :: r else (x, 1) :: (a, n) :: r
  | [] => [(x, 1)]

/-- Put a number at the tail. -/
def pushTail (x : Nat) : Runs → Runs
  | [] => [(x, 1)]
  | [(a, n)] => if a + n = x then [(a, n + 1)] else [(a, n), (x, 1)]
  | p :: r => p :: pushTail x r

/-- Remove every number of [lo, hi). -/
def removeRange (lo hi : Nat) (r : Runs) : Runs :=
  r.flatMap fun (a, n) =>
    (if a < lo then [(a, min n (lo - a))] else []) ++
    (if hi < a + n then [(max a hi, a + n - max a hi)] else [])

def remove (x : Nat) (r : Runs) : Runs := removeRange x (x + 1) r

def mem (x : Nat) (r : Runs) : Bool := r.any fun (a, n) => a ≤ x && x < a + n

/-- The number that follows x. -/
def nextOf (x : Nat) : Runs → Option Nat
  | [] => none
  | (a, n) :: r => if a ≤ x && x < a + n then (if x + 1 < a + n then some (x + 1) else head? r) else nextOf x r

/-- The first number, in list order, that none of l is. -/
def firstNotIn (l : List Nat) (r : Runs) : Option Nat :=
  r.findSome? fun (a, n) => (List.range (min n (l.length + 1))).findSome? fun i =>
    if l.contains (a + i) then none else some (a + i)

/-- The numbers of [0, n) as one run. -/
def upTo (n : Nat) : Runs := if n = 0 then [] else [(0, n)]

end Runs

/-- The start of the lowest run of `len` free granules of [0, total), where `used` lists the runs taken in
ascending order (R41, R88). -/
def lowestFit (total len : Nat) (used : List (Nat × Nat)) : Option Nat :=
  go 0 used
where
  go (from_ : Nat) : List (Nat × Nat) → Option Nat
    | [] => if from_ + len ≤ total then some from_ else none
    | (a, n) :: r => if from_ + len ≤ a then some from_ else go (max from_ (a + n)) r

/-- Insertion sort by a strict order. -/
def sortBy {α : Type} (lt : α → α → Bool) : List α → List α
  | [] => []
  | x :: xs => ins x (sortBy lt xs)
where
  ins (x : α) : List α → List α
    | [] => [x]
    | y :: ys => if lt y x then y :: ins x ys else x :: y :: ys

/-- The least element under a strict order, the first of equals. -/
def minBy {α : Type} (lt : α → α → Bool) : List α → Option α
  | [] => none
  | x :: xs => some (xs.foldl (fun m y => if lt y m then y else m) x)

/-- x precedes y modulo 2^32 (R118). -/
def before32 (x y : Nat) : Bool := let d := (y + 4294967296 - x % 4294967296) % 4294967296; d != 0 && d < 2147483648

/-- a - b modulo 2^32, for free-running indices (R54). -/
def sub32 (a b : Nat) : Nat := (a + 4294967296 - b % 4294967296) % 4294967296

/-- a + b modulo 2^32. -/
def add32 (a b : Nat) : Nat := (a + b) % 4294967296

end Sys2Proof.Machine
end

