-- ==== Sys2Proof/Machine/Crypto.lean ====
section
/-! DEFINITION. The primitives of chapter 14 and R177: SHA-256 and SHA-384 (FIPS 180-4), HMAC (RFC 2104), HKDF
(RFC 5869), AES-128 and AES-256 (FIPS 197) and AES key unwrap (RFC 3394). -/

namespace Sys2Proof.Machine
open Sys2Proof

/-- Big-endian bytes of a number. -/
def be (n x : Nat) : List Byte := (le n x).reverse

/-- The number big-endian bytes spell. -/
def ofBe (l : List Byte) : Nat := ofLe l.reverse

/-- A list cut into pieces of n, at most k of them. -/
def chunk {α : Type} (n : Nat) : Nat → List α → List (List α)
  | 0, _ => []
  | k + 1, l => if l.isEmpty then [] else l.take n :: chunk n k (l.drop n)

namespace Sha

/-- The first n primes, by trial division. -/
def primes (n : Nat) : List Nat :=
  ((List.range 420).filter fun p => p ≥ 2 && (List.range 21).all fun d => d < 2 || d ≥ p || p % d != 0).take n

/-- floor of the k-th root of x by bisection over w bits. -/
def kroot (k x : Nat) : Nat → Nat → Nat
  | 0, r => r
  | w + 1, r => if (r + 2 ^ w) ^ k ≤ x then kroot k x w (r + 2 ^ w) else kroot k x w r

/-- The first w fraction bits of the k-th root of p. -/
def frac (k w p : Nat) : Nat := kroot k (p * 2 ^ (k * w)) (w + 6) 0 % 2 ^ w

variable {w : Nat}

/-- The rotation and shift amounts of one width. -/
structure Par where
  s0 : List Nat
  s1 : List Nat
  l0 : List Nat
  l1 : List Nat
  rounds : Nat

def p256 : Par := ⟨[2, 13, 22], [6, 11, 25], [7, 18, 3], [17, 19, 10], 64⟩
def p512 : Par := ⟨[28, 34, 39], [14, 18, 41], [1, 8, 7], [19, 61, 6], 80⟩

def big (r : List Nat) (x : BitVec w) : BitVec w := r.foldl (fun a n => a ^^^ x.rotateRight n) 0
def small (r : List Nat) (x : BitVec w) : BitVec w :=
  match r with
  | [a, b, c] => x.rotateRight a ^^^ x.rotateRight b ^^^ (x >>> c)
  | _ => x

/-- The message schedule; `l` holds the last 16 words, newest first. -/
def sched (p : Par) : Nat → List (BitVec w) → List (BitVec w) → List (BitVec w)
  | 0, _, acc => acc.reverse
  | n + 1, l, acc =>
    let x := small p.l1 (l.getD 1 0) + l.getD 6 0 + small p.l0 (l.getD 14 0) + l.getD 15 0
    sched p n ((x :: l).take 16) (x :: acc)

def round (p : Par) (s : List (BitVec w)) (kw : BitVec w) : List (BitVec w) :=
  match s with
  | [a, b, c, d, e, f, g, h] =>
    let t1 := h + big p.s1 e + ((e &&& f) ^^^ (~~~e &&& g)) + kw
    let t2 := big p.s0 a + ((a &&& b) ^^^ (a &&& c) ^^^ (b &&& c))
    [t1 + t2, a, b, c, d + t1, e, f, g]
  | s => s

def block (p : Par) (ks : List (BitVec w)) (h : List (BitVec w)) (m : List (BitVec w)) : List (BitVec w) :=
  let ws := m ++ sched p (p.rounds - 16) m.reverse []
  List.zipWith (· + ·) h ((List.zipWith (· + ·) ks ws).foldl (round p) h)

/-- Padded message words of a width of wb bytes. -/
def padMsg (w wb : Nat) (m : List Byte) : List (List (BitVec w)) :=
  let z := (32 * wb - (m.length + 1 + 2 * wb) % (16 * wb)) % (16 * wb)
  let b := m ++ [0x80#8] ++ zeros z ++ be (2 * wb) (8 * m.length)
  (chunk (16 * wb) (b.length / (16 * wb)) b).map fun blk => (chunk wb 16 blk).map fun x => BitVec.ofNat w (ofBe x)

def run (w wb : Nat) (p : Par) (h0 : List (BitVec w)) (m : List Byte) : List Byte :=
  let ks := (primes p.rounds).map fun q => BitVec.ofNat w (frac 3 w q)
  ((padMsg w wb m).foldl (block p ks) h0).flatMap fun x => be wb x.toNat

end Sha

/-- SHA-256. -/
def sha256 (m : List Byte) : List Byte :=
  Sha.run 32 4 Sha.p256 ((Sha.primes 8).map fun q => BitVec.ofNat 32 (Sha.frac 2 32 q)) m

/-- SHA-384. -/
def sha384 (m : List Byte) : List Byte :=
  (Sha.run 64 8 Sha.p512 (((Sha.primes 16).drop 8).map fun q => BitVec.ofNat 64 (Sha.frac 2 64 q)) m).take 48

/-- HMAC-SHA-256. -/
def hmac256 (key m : List Byte) : List Byte :=
  let k := padTo 64 (if key.length > 64 then sha256 key else key)
  sha256 (k.map (· ^^^ 0x5C#8) ++ sha256 (k.map (· ^^^ 0x36#8) ++ m))

/-- HKDF-Extract then one block of HKDF-Expand (32 bytes). -/
def hkdf256 (salt ikm info : List Byte) : List Byte := hmac256 (hmac256 salt ikm) (info ++ [1#8])

namespace Aes

def xtime (b : Byte) : Byte := (b <<< 1) ^^^ (if b.msb then 0x1B#8 else 0)

def gmul (a : Byte) : Nat → Byte → Byte
  | 0, _ => 0
  | n + 1, b => (if b.getLsbD 0 then a else 0) ^^^ gmul (xtime a) n (b >>> 1)

/-- a^n in GF(2^8). -/
def gpow (a : Byte) : Nat → Byte
  | 0 => 1
  | n + 1 => gmul a 8 (gpow a n)

/-- The inverse, a^254, by squarings. -/
def ginv (a : Byte) : Byte :=
  let sq := fun x => gmul x 8 x
  let a2 := sq a; let a4 := sq a2; let a8 := sq a4; let a16 := sq a8; let a32 := sq a16; let a64 := sq a32
  let a128 := sq a64
  gmul a2 8 (gmul a4 8 (gmul a8 8 (gmul a16 8 (gmul a32 8 (gmul a64 8 a128)))))

def sub (a : Byte) : Byte :=
  let b := ginv a
  b ^^^ b.rotateLeft 1 ^^^ b.rotateLeft 2 ^^^ b.rotateLeft 3 ^^^ b.rotateLeft 4 ^^^ 0x63#8

def invSub (a : Byte) : Byte := ginv (a.rotateLeft 1 ^^^ a.rotateLeft 3 ^^^ a.rotateLeft 6 ^^^ 0x05#8)

/-- Expanded key words, newest first; nk words per key. -/
def expand (nk : Nat) : Nat → Byte → List (List Byte) → List (List Byte)
  | 0, _, l => l
  | n + 1, rc, l =>
    let i := l.length
    let prev := l.headD []
    let far := l.getD (nk - 1) []
    let t := if i % nk = 0 then
        (match prev.map sub with
          | [a, b, c, d] => [b ^^^ rc, c, d, a]
          | x => x)
      else if nk > 6 && i % nk = 4 then prev.map sub else prev
    expand nk n (if i % nk = 0 then xtime rc else rc) (List.zipWith (· ^^^ ·) far t :: l)

def schedule (key : List Byte) : List (List Byte) :=
  let nk := key.length / 4
  chunk 16 (nk + 7) ((expand nk (4 * (nk + 7) - nk) 1 (chunk 4 nk key).reverse).reverse.flatten)

def xorL (a b : List Byte) : List Byte := List.zipWith (· ^^^ ·) a b

/-- Byte i of the shifted state is byte f i. -/
def perm (f : Nat → Nat) (s : List Byte) : List Byte := (List.range 16).map fun i => s.getD (f i) 0

def shift (s : List Byte) : List Byte := perm (fun i => (i + 4 * (i % 4)) % 16) s
def invShift (s : List Byte) : List Byte := perm (fun i => (i + 12 * (i % 4)) % 16) s

def mixCol (m : List Byte) (c : List Byte) : List Byte :=
  (List.range 4).map fun i => (List.range 4).foldl (fun a j => a ^^^ gmul (c.getD j 0) 8 (m.getD ((j + 4 - i) % 4) 0)) 0

def mix (m : List Byte) (s : List Byte) : List Byte := (chunk 4 4 s).flatMap (mixCol m)

def encrypt (key blk : List Byte) : List Byte :=
  match schedule key with
  | [] => blk
  | k0 :: ks =>
    let s := xorL blk k0
    let s := ks.dropLast.foldl (fun s k => xorL (mix [2, 3, 1, 1] (shift (s.map sub))) k) s
    xorL (shift (s.map sub)) (ks.getLastD [])

def decrypt (key blk : List Byte) : List Byte :=
  match (schedule key).reverse with
  | [] => blk
  | kn :: ks =>
    let s := (invShift (xorL blk kn)).map invSub
    let s := ks.dropLast.foldl (fun s k => (invShift (mix [14, 11, 13, 9] (xorL s k))).map invSub) s
    xorL s (ks.getLastD [])

/-- RFC 3394 unwrap: the key data, none where the integrity value differs. -/
def unwrap (kek wrapped : List Byte) : Option (List Byte) :=
  let n := wrapped.length / 8 - 1
  let a0 := wrapped.take 8
  let r0 := chunk 8 n (wrapped.drop 8)
  let steps := (List.range (6 * n)).reverse
  let (a, r) := steps.foldl (fun (a, r) t =>
    let i := t % n
    let b := decrypt kek (xorL a (be 8 (t + 1)) ++ r.getD i [])
    (b.take 8, r.set i (b.drop 8))) (a0, r0)
  if a = List.replicate 8 0xA6#8 then some r.flatten else none

end Aes
end Sys2Proof.Machine
end

