-- ==== Sys2Proof/Config.lean ====
section
/-! DEFINITION. What the manual leaves open: constants without a body, so that nothing can be proved of their values. -/

namespace Sys2Proof

/-- Byte k of the n-th draw of a value the manual does not fix (nonces of the random bit generator, signatures). -/
opaque Config.freeByte : Nat → Nat → Byte

/-- The n-th number the manual does not fix, below a bound the use states. -/
opaque Config.freeNat : Nat → Nat

/-- Address of one of Cheldo's structures at a CTL_BASE (R301: MODEL_QUERY reports the layout, which the manual does
not give). Kinds: 0 row directory, 1 slab pool, 2 page-list area, 3 transcript pool, 4 token store, 5 strain pool, 6 nodes,
7 bucket heads, 8 firmware queue, 9 bank save area, 10 page descriptors. -/
opaque Config.structBase : Nat → Nat → Nat

/-- Cycles that READY of a Logit Stream Port has been low by a time (Table 17-5, counters 16 and 17): they follow the
port's pclk, which no command carries. -/
opaque Config.readyLow : Nat → Nat → Nat

/-- TEST_MFR_ID as strapped (R372). -/
opaque Config.mfrId : Nat

/-- The four firmware public keys of the boot ROM (Table 14-1): x and y of key i. -/
opaque Config.romKey : Nat → Nat × Nat

/-- SHA-384 of the boot ROM (Table 14-8, measurement 1). -/
opaque Config.romHash : Nat → Byte

/-- The strap SB_FLASH_BASE[63:25] (R404). -/
opaque Config.flashBase : Nat

/-- Byte a of the Signal Box's local memory beyond the firmware's payload at a time: the firmware's data, which the manual does not
give (R401). -/
opaque Config.localData : Nat → Nat → Byte

/-- The endpoint UUID that Get Endpoint UUID returns (R371). -/
opaque Config.uuid : Nat → Byte

/-- The terminus ID that GetTID returns (R396). -/
opaque Config.tid : Nat

end Sys2Proof
end

