-- ==== Sys2Proof/Machine/Mem.lean ====
section
/-! DEFINITION. Device memory as this instance's Memory Port sees it: a list of cells in one canonical form,
addresses strictly rising and no cell 0. An unlisted address reads 0 (log entry 3). -/

namespace Sys2Proof.Machine
open Sys2Proof

abbrev Memory := List Host.Cell

/-- Addresses strictly rising. -/
def memRising : Memory → Bool
  | (a, _) :: (c, y) :: r => a < c && memRising ((c, y) :: r)
  | _ => true

/-- The canonical form. -/
def Memory.wf (m : Memory) : Bool := memRising m && m.all fun p => p.2 != 0

/-- One byte. -/
def memRead (m : Memory) (a : Nat) : Byte := Tab.getD a 0 m

/-- Write one byte; a zero leaves no cell. -/
def memWrite (m : Memory) (a : Nat) (b : Byte) : Memory := if b = 0 then Tab.erase a m else Tab.set a b m

/-- n bytes from a on. -/
def memReadN (m : Memory) (a n : Nat) : List Byte := (List.range n).map fun i => memRead m (a + i)

/-- A little-endian number of n bytes (R6). -/
def memReadLe (m : Memory) (a n : Nat) : Nat := ofLe (memReadN m a n)

/-- Write bytes from a on. -/
def memWriteN (m : Memory) (a : Nat) : List Byte → Memory
  | [] => m
  | b :: bs => memWriteN (memWrite m a b) (a + 1) bs

/-- Carry out writes, oldest first. -/
def memWriteAll (m : Memory) (ws : List (Nat × List Byte)) : Memory := ws.foldl (fun m w => memWriteN m w.1 w.2) m

end Sys2Proof.Machine
end

