-- ==== Sys2Proof/Machine/Crc.lean ====
section
/-! DEFINITION. The two checksums of the manual: CRC-64 as ECMA-182 defines it (R111) and CRC-32C as RFC 3720
gives it (R317). -/

namespace Sys2Proof.Machine
open Sys2Proof

/-- One bit of CRC-64, most significant first. -/
def crc64Bit (c : BitVec 64) : BitVec 64 := if c.msb then (c <<< 1) ^^^ 0x42F0E1EBA9EA3693#64 else c <<< 1

def crc64Byte (c : BitVec 64) (b : Byte) : BitVec 64 :=
  let c := c ^^^ (b.setWidth 64 <<< 56)
  crc64Bit (crc64Bit (crc64Bit (crc64Bit (crc64Bit (crc64Bit (crc64Bit (crc64Bit c)))))))

/-- CRC-64: initial value 0, no reflection, no final XOR (R111). -/
def crc64 (l : List Byte) : Nat := (l.foldl crc64Byte 0).toNat

/-- One bit of the reflected CRC-32C. -/
def crc32Bit (c : BitVec 32) : BitVec 32 := if c.getLsbD 0 then (c >>> 1) ^^^ 0x82F63B78#32 else c >>> 1

def crc32Byte (c : BitVec 32) (b : Byte) : BitVec 32 :=
  let c := c ^^^ b.setWidth 32
  crc32Bit (crc32Bit (crc32Bit (crc32Bit (crc32Bit (crc32Bit (crc32Bit (crc32Bit c)))))))

/-- CRC-32C (R317). -/
def crc32c (l : List Byte) : Nat := (l.foldl crc32Byte 0xFFFFFFFF#32 ^^^ 0xFFFFFFFF#32).toNat

/-- rotl64(x, 1) (R111). -/
def rotl64 (x : Nat) : Nat := (x * 2) % 18446744073709551616 + x / 9223372036854775808

end Sys2Proof.Machine
end

