-- ==== Sys2Proof/Machine/Fp32.lean ====
section
/-! DEFINITION. IEEE 754 binary32 with round-to-nearest-even, denormals kept (R15, R172), and the conversions of
Table 06-2. A finite value is ± mag · 2^exp; every operation is computed exactly and rounded once. -/

namespace Sys2Proof.Machine
open Sys2Proof

/-- What a binary32 pattern stands for. -/
inductive FVal where
  | nan
  | inf (neg : Bool)
  | fin (neg : Bool) (mag : Nat) (exp : Int)
  deriving DecidableEq, Repr, Inhabited

namespace F

def qnan : F32 := 0x7FC00000#32
def zero : F32 := 0#32
def one : F32 := 0x3F800000#32
def posInf : F32 := 0x7F800000#32
def negInf : F32 := 0xFF800000#32
/-- the largest finite binary32 -/
def maxFin : F32 := 0x7F7FFFFF#32

def dec (x : F32) : FVal :=
  let n := x.toNat
  let neg := bit n 31
  let e := bits n 30 23
  let f := bits n 22 0
  if e = 255 then (if f = 0 then .inf neg else .nan)
  else if e = 0 then .fin neg f (-149)
  else .fin neg (f + 8388608) (Int.ofNat e - 150)

/-- mag · 2^exp with a sticky flag for a remainder below, to nearest, ties to even; 31 bits. -/
def roundMag (mag : Nat) (exp : Int) (sticky : Bool) : Nat :=
  if mag = 0 then 0 else
  let e : Int := mag.log2 + exp
  let q : Int := if e < -126 then -149 else e - 23
  let n := if exp ≥ q then mag * 2 ^ (exp - q).toNat
    else
      let s := (q - exp).toNat
      let n := mag / 2 ^ s
      let rem := mag % 2 ^ s
      let half := 2 ^ (s - 1)
      if rem > half || (rem = half && (sticky || n % 2 = 1)) then n + 1 else n
  let r := if e < -126 then n else ((e + 127).toNat - 1) * 8388608 + n
  min r 0x7F800000

def enc (neg : Bool) (mag : Nat) (exp : Int) (sticky : Bool := false) : F32 :=
  BitVec.ofNat 32 (b2n neg * 2147483648 + roundMag mag exp sticky)

def ofNat (n : Nat) : F32 := enc false n 0

def isNaN (x : F32) : Bool := dec x == .nan
def isInf (x : F32) : Bool := match dec x with | .inf _ => true | _ => false
def isFinite (x : F32) : Bool := match dec x with | .fin .. => true | _ => false

def neg (x : F32) : F32 := x ^^^ 0x80000000#32

/-- The signed integers of two finite values at the lower of their exponents. -/
def align (s1 : Bool) (m1 : Nat) (e1 : Int) (s2 : Bool) (m2 : Nat) (e2 : Int) : Int × Int × Int :=
  let e := min e1 e2
  let a := Int.ofNat (m1 * 2 ^ (e1 - e).toNat)
  let b := Int.ofNat (m2 * 2 ^ (e2 - e).toNat)
  (if s1 then -a else a, if s2 then -b else b, e)

def add (x y : F32) : F32 :=
  match dec x, dec y with
  | .nan, _ | _, .nan => qnan
  | .inf a, .inf b => if a = b then x else qnan
  | .inf _, _ => x
  | _, .inf _ => y
  | .fin s1 m1 e1, .fin s2 m2 e2 =>
    let (a, b, e) := align s1 m1 e1 s2 m2 e2
    let c := a + b
    if c = 0 then (if s1 && s2 then 0x80000000#32 else zero) else enc (c < 0) c.natAbs e

def sub (x y : F32) : F32 := if isNaN y then qnan else add x (neg y)

def mul (x y : F32) : F32 :=
  match dec x, dec y with
  | .nan, _ | _, .nan => qnan
  | .inf a, .inf b => if a = b then posInf else negInf
  | .inf a, .fin s m _ | .fin s m _, .inf a => if m = 0 then qnan else if a = s then posInf else negInf
  | .fin s1 m1 e1, .fin s2 m2 e2 => enc (s1 != s2) (m1 * m2) (e1 + e2)

def div (x y : F32) : F32 :=
  match dec x, dec y with
  | .nan, _ | _, .nan => qnan
  | .inf _, .inf _ => qnan
  | .inf a, .fin s _ _ => if a = s then posInf else negInf
  | .fin s m _, .inf a => if m = 0 && false then qnan else if s = a then zero else 0x80000000#32
  | .fin s1 m1 e1, .fin s2 m2 e2 =>
    if m2 = 0 then (if m1 = 0 then qnan else if s1 = s2 then posInf else negInf)
    else
      let num := m1 * 2 ^ 64
      enc (s1 != s2) (num / m2) (e1 - e2 - 64) (num % m2 != 0)

/-- x < y; false for a NaN. -/
def lt (x y : F32) : Bool :=
  match dec x, dec y with
  | .nan, _ | _, .nan => false
  | .inf a, .inf b => a && !b
  | .inf a, _ => a
  | _, .inf b => !b
  | .fin s1 m1 e1, .fin s2 m2 e2 => let (a, b, _) := align s1 m1 e1 s2 m2 e2; a < b

def eq (x y : F32) : Bool :=
  match dec x, dec y with
  | .nan, _ | _, .nan => false
  | .inf a, .inf b => a = b
  | .fin s1 m1 e1, .fin s2 m2 e2 => let (a, b, _) := align s1 m1 e1 s2 m2 e2; a = b
  | _, _ => false

def le (x y : F32) : Bool := lt x y || eq x y

def max (x y : F32) : F32 := if lt x y then y else x

/-- floor of a finite value. -/
def floorInt (x : F32) : Int :=
  match dec x with
  | .fin s m e =>
    if e ≥ 0 then (if s then -(Int.ofNat (m * 2 ^ e.toNat)) else Int.ofNat (m * 2 ^ e.toNat))
    else
      let d := 2 ^ (-e).toNat
      if s then -(Int.ofNat (ceilDiv m d)) else Int.ofNat (m / d)
  | _ => 0

def ofInt (i : Int) : F32 := enc (i < 0) i.natAbs 0

/-- x · 2^n with one rounding. -/
def scaleB (x : F32) (n : Int) : F32 :=
  match dec x with
  | .fin s m e => enc s m (e + n)
  | _ => x

/-! ### Conversions of Table 06-2 -/

def ofBf16 (l : Lane) : F32 := l.setWidth 32 <<< 16

def ofF16 (l : Lane) : F32 :=
  let n := l.toNat
  let s := bit n 15
  let e := bits n 14 10
  let f := bits n 9 0
  if e = 31 then (if f = 0 then (if s then negInf else posInf) else qnan)
  else if e = 0 then enc s f (-24)
  else enc s (f + 1024) (Int.ofNat e - 25)

/-- An E4M3 element with its E8M0 scale: NaN for scale 0xFF or the E4M3 NaN (OCP MX v1.0). -/
def ofMx8 (el sc : Nat) : F32 :=
  let s := bit el 7
  let e := bits el 6 3
  let f := bits el 2 0
  if sc = 255 || (e = 15 && f = 7) then qnan
  else if e = 0 then enc s f (Int.ofNat sc - 127 - 9)
  else enc s (f + 8) (Int.ofNat e - 10 + (Int.ofNat sc - 127))

/-! ### Constants of R172: the binary32 value nearest the decimal num / 10^dec -/

def ofDecimal (num dec : Nat) : F32 :=
  let k : Nat := 128
  enc false (num * 2 ^ k / 10 ^ dec) (-(k : Int)) (num * 2 ^ k % 10 ^ dec != 0)

def log2e : F32 := ofDecimal 14426950409 10
def c1 : F32 := ofDecimal 6931471806 10
def c2 : F32 := ofDecimal 2402265070 10
def c3 : F32 := ofDecimal 555041087 10
def c4 : F32 := ofDecimal 96181291 10
def c5 : F32 := ofDecimal 13333558 10
def c6 : F32 := ofDecimal 1540353 10

/-- scale(d) of R172, at temperature t. R172 calls f exact and below 1; y - n has no binary32 value below 1 for a small negative y, and
f is y - n rounded to binary32 (DESIGN CHOICE, log entry 123). -/
def scale (t d : F32) : F32 :=
  let y := mul (div d t) log2e
  if lt y (neg (ofNat 160)) then zero
  else
    let n := floorInt y
    let f := sub y (ofInt n)
    let p := add (mul (add (mul (add (mul (add (mul (add (mul (add (mul c6 f) c5) f) c4) f) c3) f) c2) f) c1) f) one
    scaleB p n

/-- Pairwise sum over 2^n places (R173). -/
def pairs : List F32 → List F32
  | a :: b :: r => add a b :: pairs r
  | [a] => [a]
  | [] => []

def pairSum : Nat → List F32 → F32
  | 0, l => l.headD zero
  | n + 1, l => pairSum n (pairs l)

end F
end Sys2Proof.Machine
end

