-- ==== Sys2Proof/Machine/Select.lean ====
section
/-! DEFINITION. Streaming selection, the merge and the decision as functions of their inputs (chapters 6 and 7). -/

namespace Sys2Proof.Machine
open Sys2Proof

/-! ### Elements -/

/-- Elements per beat of a FORMAT (Table 06-2). -/
def beatElems (fmt : Nat) : Nat := if fmt = 2 then 32 else 64

/-- The first n elements of a beat as binary32 (R158). -/
def beatVals (fmt n : Nat) (beat : List Lane) : List F32 :=
  let lane := fun i => beat.getD i 0
  (List.range (min n (beatElems fmt))).map fun i =>
    match fmt with
    | 0 => F.ofBf16 (lane i)
    | 1 => F.ofF16 (lane i)
    | 2 => (lane (2 * i)).setWidth 32 ||| ((lane (2 * i + 1)).setWidth 32 <<< 16)
    | _ =>
      let l := (lane (i / 2)).toNat
      let sc := (lane 32).toNat
      F.ofMx8 (if i % 2 = 0 then l % 256 else l / 256) (if i < 32 then sc % 256 else sc / 256)

/-- The penalties of R161 for an element whose token counts c in the slab. -/
def penalise (p : Sampling) (c : Nat) (v : F32) : F32 :=
  if c = 0 then v
  else if p.repetition = F.one && F.eq p.presence F.zero && F.eq p.frequency F.zero then v
  else if F.isNaN v then v
  else
    let v := if F.lt F.zero v then F.div v p.repetition else F.mul v p.repetition
    F.sub (F.sub v p.presence) (F.mul p.frequency (F.ofNat c))

/-- The order key of a value that is neither NaN nor -inf (R167). -/
def orderKey (v : F32) : Nat :=
  let b := if v = 0x80000000#32 then 0#32 else v
  if b.msb then (~~~b).toNat else b.toNat + 2147483648

/-- key_value (R167). -/
def keyValue (key : Nat) : F32 :=
  if bit key 31 then BitVec.ofNat 32 (key % 2147483648) else ~~~(BitVec.ofNat 32 key)

def padKey : Nat := 0x007FFFFF
def padIndex : Nat := 0xFFFFFFFF
def infKey : Nat := 0xFF800000

/-- k: TOP_K without its reserved bits (Table 02-1). -/
def topKOf (p : Sampling) : Nat := p.topK % 512

/-- T of R159. -/
def temperatureOf (p : Sampling) : F32 := if bit p.sampleMode 0 then F.one else p.temperature

/-- What selection has gathered of a row so far: the valid entries (KEY, INDEX), latest first, the running
maximum and mass of R173, and the counts. -/
structure RowAcc where
  vals : List (Nat × Nat) := []
  m : F32 := 0xFF800000#32
  s : F32 := 0#32
  nan : Nat := 0
  negInf : Nat := 0
  /-- the coarse bucket that selection has descended into, and how often it has descended (R181) -/
  level : Option Nat := none
  descents : Nat := 0
  deriving DecidableEq, Repr, Inhabited

/-- Rank order: descending key, then ascending index (R167). -/
def rankLt (x y : Nat × Nat) : Bool := y.1 < x.1 || (x.1 == y.1 && x.2 < y.2)

/-- Merge sort into rank order. -/
def rankSort (l : List (Nat × Nat)) : List (Nat × Nat) := l.mergeSort fun x y => !rankLt y x

/-- The highest b in 0..255 at which the counted entries number k (R168). -/
def threshold (k base : Nat) (f : Nat × Nat → Nat) (l : List (Nat × Nat)) : Nat :=
  ((List.range 256).reverse.find? fun b => base + (l.filter fun e => f e ≥ b).length ≥ k).getD 0

/-- The top byte of a key, by which the coarse histogram counts (R168). -/
def topByte (e : Nat × Nat) : Nat := bits e.1 31 24

/-- The level after a beat (R181). Selection returns to the coarse level when the threshold passes the bucket it descended into, and
descends when the entries at or above the threshold exceed the buffer. DESIGN CHOICE (log entry 112): the histogram counts the
beat's entries before they enter the buffer. -/
def RowAcc.descend (k : Nat) (a : RowAcc) : RowAcc :=
  if a.vals.length ≤ 512 then a
  else
    let t := threshold k 0 topByte a.vals
    let level := a.level.filter fun l => t ≤ l
    if level.isNone && decide ((a.vals.filter fun e => topByte e ≥ t).length > 512) then
      { a with level := some t, descents := a.descents + 1 }
    else { a with level }

/-- One beat through penalties, keys and masses (R161, R167, R173); `cnt` is the slab's count of a token. DESIGN CHOICE (log entry
110): where the largest values of a beat are -0 and +0, the first of them is mb, so it gives REF_MAX its sign. -/
def RowAcc.beat (p : Sampling) (cnt : Nat → Nat) (places : Nat) (a : RowAcc) (base : Nat) (vs : List F32) : RowAcc :=
  let vs := (List.range vs.length).zip vs |>.map fun (i, v) => (base + i, penalise p (cnt (base + i)) v)
  let valid := fun v => !F.isNaN v && v != F.negInf
  let good := vs.filter fun (_, v) => valid v
  let a := { a with
    vals := (good.map fun (i, v) => (orderKey v, i)).reverse ++ a.vals
    nan := a.nan + (vs.filter fun (_, v) => F.isNaN v).length
    negInf := a.negInf + (vs.filter fun (_, v) => v == F.negInf).length }
  match good with
  | [] => a
  | (_, v0) :: r =>
    let t := temperatureOf p
    let mb := r.foldl (fun m (_, v) => F.max m v) v0
    if F.isInf mb && !mb.msb then { a with m := mb } else
    let xs := vs.map fun (_, v) => if valid v then F.scale t (F.sub v mb) else F.zero
    let sb := F.pairSum (if places = 32 then 5 else 6) (xs ++ List.replicate (places - xs.length) F.zero)
    if F.lt a.m mb then
      { a with s := F.add (F.mul a.s (F.scale t (F.sub a.m mb))) sb, m := mb }
    else { a with s := F.add a.s (F.mul sb (F.scale t (F.sub mb a.m))) }

/-- The beats of a segment from element 0 on (R153). -/
def RowAcc.beats (p : Sampling) (cnt : Nat → Nat) (fmt : Nat) : RowAcc → Nat → Nat → List (List Lane) → RowAcc
  | a, _, _, [] => a
  | a, base, left, b :: bs =>
    let vs := beatVals fmt left b
    RowAcc.beats p cnt fmt ((a.beat p cnt (beatElems fmt) base vs).descend (topKOf p)) (base + vs.length) (left - vs.length) bs

/-- (returned, DESCENT, APPROX, TIE_COUNT) of the valid entries at TOP_K k (R168, R169). -/
def selectTop (k : Nat) (es : List (Nat × Nat)) : List (Nat × Nat) × Bool × Bool × Nat :=
  let top := topByte
  let sub := fun (e : Nat × Nat) => bits e.1 23 16
  let t0 := threshold k 0 top es
  let above := es.filter fun e => top e > t0
  let bucket := es.filter fun e => top e == t0
  let level := decide (above.length + bucket.length > 512)
  let t1 := threshold k above.length sub bucket
  let above1 := above ++ bucket.filter fun e => sub e > t1
  let bucket1 := bucket.filter fun e => sub e == t1
  let approx := level && decide (above1.length + bucket1.length > 512)
  if approx then
    let low := (bucket1.mergeSort fun x y => x.2 ≤ y.2).take (k - above1.length)
    (rankSort (above1 ++ low), level, true, bucket1.length)
  else
    let cand := if level then above1 ++ bucket1 else above ++ bucket
    let ret := (rankSort cand).take (min k es.length)
    let tie := match ret.getLast? with
      | none => 0
      | some e => (es.filter fun x => x.1 == e.1).length
    (ret, level, false, tie)

/-- K entries: the list padded under R170. -/
def padEntries (k : Nat) (l : List (Nat × Nat)) : List (Nat × Nat) := l ++ List.replicate (k - l.length) (padKey, padIndex)

def sumF (l : List F32) : F32 := l.foldl F.add F.zero

def max0 (x : F32) : F32 := if F.lt F.zero x then x else F.zero

/-- The partial row result of a closed row (R168 to R175). -/
def RowAcc.close (a : RowAcc) (p : Sampling) (row step16 shard : Nat) (portError slabError : Bool) : PartialResult :=
  let k := topKOf p
  let es := a.vals.reverse
  let (ret, descent, approx, tie) := selectTop k es
  let v := es.length
  let infs := (es.filter fun e => e.1 == infKey).length
  let infRet := (ret.filter fun e => e.1 == infKey).length
  let t := temperatureOf p
  let sel := sumF (ret.map fun e => F.scale t (F.sub (keyValue e.1) a.m))
  let (rm, total, selected, left) :=
    if infs > 0 then (F.posInf, F.ofNat infs, F.ofNat infRet, F.ofNat (infs - infRet))
    else (a.m, a.s, sel, max0 (F.sub a.s sel))
  { row, step16, k, returned := ret.length, shardRank := shard
    flags := { empty := v == 0, mismatch := false, contribLost := false, slabError, portError, descent
               nanSeen := a.nan > 0, short := v < k, inf := infs > 0, approx }
    refMax := rm, totalMass := total, selectedMass := selected, leftMass := left
    validCount := v, tieCount := tie, nanCount := a.nan, negInfCount := a.negInf
    entries := padEntries k ret }

/-! ### Layouts of Tables 06-5 and 06-6 -/

def resultFlagsCode (f : ResultFlags) : Nat :=
  ofBools [f.approx, f.inf, f.short, f.nanSeen, f.descent, f.portError, f.slabError, f.contribLost, f.mismatch, f.empty]

def partialBytes (r : PartialResult) : List Byte :=
  le 2 r.row ++ le 2 r.step16 ++ le 2 (resultFlagsCode r.flags) ++ le 2 r.k ++ le 2 r.returned ++ le 1 r.shardRank ++
  zeros 1 ++ le 4 r.refMax.toNat ++ le 4 r.totalMass.toNat ++ le 4 r.selectedMass.toNat ++ le 4 r.leftMass.toNat ++
  le 4 r.validCount ++ le 4 r.tieCount ++ le 4 r.nanCount ++ le 4 r.negInfCount ++ zeros 4 ++
  r.entries.flatMap fun e => le 4 e.2 ++ le 4 e.1

/-- A contribution that carries neither PORT_ERROR nor SLAB_ERROR (R188). -/
def partialClean (r : PartialResult) : Bool := !r.flags.portError && !r.flags.slabError

/-- The entries of a result that are not pads. -/
def partialReal (r : PartialResult) : List (Nat × Nat) := r.entries.filter fun e => e.2 != padIndex

/-- The CONTRIB_LOST list of R189. -/
def lostList (row step16 k : Nat) : PartialResult :=
  { row, step16, k, returned := 0, shardRank := 0
    flags := { empty := false, mismatch := false, contribLost := true, slabError := false, portError := false
               descent := false, nanSeen := false, short := true, inf := false, approx := false }
    refMax := F.negInf, totalMass := 0, selectedMass := 0, leftMass := 0
    validCount := 0, tieCount := 0, nanCount := 0, negInfCount := 0, entries := padEntries k [] }

/-! ### The merge (R192 to R195) -/

/-- The exponent of the unit in the last place of a finite value (Table 07-5). -/
def ulpExp (fmt : Nat) (x : F32) : Int :=
  let e : Int := match F.dec x with
    | .fin _ m e => if m = 0 then -150 else m.log2 + e
    | _ => -150
  match fmt with
  | 0 => max e (-126) - 7
  | 1 => max e (-14) - 10
  | 2 => max e (-126) - 23
  | _ => max e (-146) - 3

/-- Two values mismatch (R193). -/
def mismatch (fmt : Nat) (a b : F32) : Bool :=
  if F.eq a b then false
  else match F.dec a, F.dec b with
    | .fin s1 m1 e1, .fin s2 m2 e2 =>
      let (x, y, e) := F.align s1 m1 e1 s2 m2 e2
      let mx := if x.natAbs ≥ y.natAbs then a else b
      let u := ulpExp fmt mx
      let d := (x - y).natAbs
      if u ≥ e then d > 2 ^ (u - e).toNat else d * 2 ^ (e - u).toNat > 1
    | _, _ => true

/-- A mismatch report: the index and the two shard ranks. -/
abbrev Report := Nat × Nat × Nat

/-- One contribution's entries into the candidates (KEY, INDEX, rank). -/
def mergeOne (fmt : Option Nat) (acc : List (Nat × Nat × Nat) × List Report) (r : Nat) (es : List (Nat × Nat)) :
    List (Nat × Nat × Nat) × List Report :=
  es.foldl (fun (cand, rep) e =>
    match cand.find? fun d => d.2.1 == e.2 with
    | some d =>
      match fmt with
      | some f => if mismatch f (keyValue d.1) (keyValue e.1) then (cand, rep ++ [(e.2, d.2.2, r)]) else (cand, rep)
      | none => (cand, rep)
    | none => (cand ++ [(e.1, e.2, r)], rep)) acc

/-- The final list of a row: `used` the contributions in ascending rank with the FORMAT each came in, `sources`
the mass sources of R194. -/
def mergeRow (p : Sampling) (row step16 : Nat) (used : List (Nat × Nat × PartialResult)) (sources : List Nat) :
    PartialResult × List Report :=
  let fmt := (used.find? fun u => partialClean u.2.2).map (·.2.1)
  let cr : List (Nat × Nat × Nat) × List Report := used.foldl (fun acc u => mergeOne fmt acc u.1 (partialReal u.2.2)) ([], [])
  let cand := cr.1
  let reports := cr.2
  let k := topKOf p
  let t := temperatureOf p
  let ret := (rankSort (cand.map fun c => (c.1, c.2.1))).take k
  let src := used.filter fun u => sources.contains u.1
  let mmax := used.foldl (fun m u => F.max m u.2.2.refMax) F.negInf
  let anyInf := src.any fun u => u.2.2.flags.inf
  let infRet := (ret.filter fun e => e.1 == infKey).length
  let masses : F32 × F32 × F32 :=
    match ret with
    | [] => (F.negInf, F.zero, F.zero)
    | e0 :: _ =>
      if anyInf then
        (F.posInf, sumF ((src.filter fun u => u.2.2.flags.inf).map fun u => u.2.2.totalMass), F.ofNat infRet)
      else
        let z := src.foldl (fun z u =>
          if u.2.2.refMax = F.negInf then z else F.add z (F.mul u.2.2.totalMass (F.scale t (F.sub u.2.2.refMax mmax)))) F.zero
        let v0 := keyValue e0.1
        let q := F.scale t (F.sub v0 mmax)
        let sel := sumF (ret.map fun e => F.scale t (F.sub (keyValue e.1) v0))
        (v0, if F.lt F.zero q then F.div z q else F.maxFin, sel)
  let rm := masses.1
  let total := masses.2.1
  let sel := masses.2.2
  let left := if ret.isEmpty then F.zero else max0 (F.sub total sel)
  let sumN := fun (f : PartialResult → Nat) => src.foldl (fun n u => n + f u.2.2) 0
  let orF := fun (f : ResultFlags → Bool) => used.any fun u => f u.2.2.flags
  let tie := match ret.getLast? with
    | none => 0
    | some l => src.foldl (fun n u =>
        let es := partialReal u.2.2
        n + (if (es.getLast?.map (·.1)) = some l.1 then u.2.2.tieCount else (es.filter fun e => e.1 == l.1).length)) 0
  let nan := sumN (·.nanCount)
  ({ row, step16, k, returned := ret.length, shardRank := 0
     flags := { empty := ret.isEmpty, mismatch := !reports.isEmpty, contribLost := false, slabError := orF (·.slabError)
                portError := orF (·.portError), descent := orF (·.descent), nanSeen := nan > 0, short := ret.length < k
                inf := anyInf, approx := orF (·.approx) }
     refMax := rm, totalMass := total, selectedMass := sel, leftMass := left
     validCount := sumN (·.validCount), tieCount := tie, nanCount := nan, negInfCount := sumN (·.negInfCount)
     entries := padEntries k ret }, reports)

/-! ### The decision (R176 to R179) -/

/-- The kept set: (token, w) in rank order (R176). -/
def keptSet (p : Sampling) (f : PartialResult) : List (Nat × F32) :=
  let ret := f.entries.take f.returned
  if f.flags.inf then (ret.filter fun e => e.1 == infKey).map fun e => (e.2, F.one)
  else
    let t := temperatureOf p
    let m := keyValue ((ret.headD (padKey, 0)).1)
    let w := ret.map fun e => F.scale t (F.sub (keyValue e.1) m)
    let np := if p.topP = F.one then ret.length
      else
        let target := F.mul p.topP f.totalMass
        let rec go : List F32 → F32 → Nat → Nat
          | [], _, i => i
          | x :: xs, c, i => let c := F.add c x; if F.le target c then i + 1 else go xs c (i + 1)
        go w F.zero 0
    let nm := (w.takeWhile fun x => F.le p.minP x).length
    ((ret.map (·.2)).zip w).take (min np nm)

/-- Sum of the kept weights in rank order. -/
def keptSum (l : List (Nat × F32)) : F32 := sumF (l.map (·.2))

/-- Kept probabilities (R176). -/
def keptProb (l : List (Nat × F32)) : List (Nat × F32) := let w := keptSum l; l.map fun e => (e.1, F.div e.2 w)

/-- The uniform draw of R177. -/
def drawU (seed position index side : Nat) : F32 :=
  let c := Aes.encrypt (le 8 seed ++ zeros 8) (le 4 position ++ le 1 index ++ le 1 side ++ zeros 10)
  F.enc false (ofLe (c.take 3)) (-24)

/-- The inverse CDF of R178: the place in the list. -/
def inverseCdf (ws : List F32) (u : F32) : Nat :=
  let target := F.mul u (sumF ws)
  let rec go : List F32 → F32 → Nat → Nat
    | [], _, i => i - 1
    | x :: xs, c, i => let c := F.add c x; if F.lt target c then i else go xs c (i + 1)
  go ws F.zero 0

/-- The token of R178 at a position, draw index 0. -/
def drawToken (p : Sampling) (seed position side : Nat) (f : PartialResult) : Nat :=
  let kept := keptSet p f
  if bit p.sampleMode 0 || f.flags.inf then ((f.entries.headD (0, 0)).2)
  else (kept.getD (inverseCdf (kept.map (·.2)) (drawU seed position 0 side)) (0, 0)).1

/-- The cause of R179 for a final list that yields no token, the lowest code first (Table 06-7). -/
def noTokenCause (f : ResultFlags) : Option Nat :=
  if f.empty then some 1 else if f.contribLost then some 2 else if f.portError then some 3
  else if f.slabError then some 4 else none

end Sys2Proof.Machine
end

