-- ==== Sys2Proof/Machine/State.lean ====
section
/-! DEFINITION. The state of one Cheldo instance as plain data: one structure per unit, each field the state the
manual gives that unit. -/

namespace Sys2Proof.Machine
open Sys2Proof

/-! ### The Granary (chapter 2) -/

/-- Request states (Table 02-2). -/
inductive ReqState where
  | free | admitting | queued | prefill | decode | siding | waking | draining | done | lost | rebuild | fwtracked
  deriving DecidableEq, Repr, Inhabited

/-- FLAGS of a Granary entry (Table 02-3), the pending bits [3:0] apart: the lead's sequencer holds them (R292). -/
structure EntryFlags where
  autoFree : Bool := false
  inputOpen : Bool := false
  voiceReserve : Bool := false
  strainEn : Bool := false
  specEn : Bool := false
  specPlain : Bool := false
  penaltyOvf : Bool := false
  fromFwtrack : Bool := false
  rebuilt : Bool := false
  deriving DecidableEq, Repr, Inhabited

/-- The pending bits of R292. -/
structure PendingBits where
  pause : Bool := false
  trunc : Bool := false
  cancel : Bool := false
  append : Bool := false
  deriving DecidableEq, Repr, Inhabited

/-- A Granary entry (Table 02-1). `pages` is the whole page list (INLINE_PAGES, the words from PAGE_LIST_PTR
and PAGE_COUNT are read off it, R101); `scratch` the scratch pages of the slot's region; `granule` places the
transcript region that TRANSCRIPT_PTR addresses. -/
structure Entry where
  handle : Nat := 0
  state : ReqState := .free
  endReason : Nat := 0
  flags : EntryFlags := default
  tenant : Nat := 0
  classPrio : Nat := 0
  effectivePrio : Nat := 0
  models : Nat := 0
  deadlineMode : Nat := 0
  strain : Nat := 0
  admitTime : Nat := 0
  nextDeadline : Nat := 0
  cadencePeriod : Nat := 0
  deadlinesMissed : Nat := 0
  committedLen : Nat := 0
  transcriptLen : Nat := 0
  genCount : Nat := 0
  maxGen : Nat := 0
  emitCount : Nat := 0
  specTailLen : Nat := 0
  treeWidth : Nat := 0
  treeDepth : Nat := 0
  pages : List Nat := []
  scratch : List Nat := []
  sharedPages : Nat := 0
  tier : Nat := 0
  sidingExpiry : Nat := 0
  granule : Nat := 0
  transcriptCap : Nat := 0
  strainVersion : Nat := 0
  seed : Nat := 0
  sampling : Sampling := default
  stopToken : Nat := 0
  acceptEma : Nat := 0
  zeroAcceptRun : Nat := 0
  probeCountdown : Nat := 0
  stepsVerified : Nat := 0
  tokensAccepted : Nat := 0
  lostCount : Nat := 0
  tokenRing : Nat := 0
  tokenProd : Nat := 0
  tokenCons : Nat := 0
  eventRing : Nat := 0
  eventProd : Nat := 0
  eventCons : Nat := 0
  ownerSession : Nat := 0
  eventsDropped : Nat := 0
  lastJunction : Nat := 0
  deriving DecidableEq, Repr, Inhabited

/-- An event ring entry (Table 02-8), PHASE apart. -/
structure Event where
  code : Nat
  handle : Nat
  time : Nat
  arg0 : Nat := 0
  arg1 : Nat := 0
  arg2 : Nat := 0
  deriving DecidableEq, Repr, Inhabited

/-- A transcript region (R41, R42, R59, R300): its granules, its admission record with the tail, and its
tokens, each (INPUT, vocabulary index). -/
structure Region where
  granules : Nat
  cap : Nat
  record : AdmitParams
  ownerSession : Nat
  setCount : Nat := 0
  setSampling : Sampling := default
  inputClosed : Bool := false
  fromFwtrack : Bool := false
  tokens : List (Bool × Nat) := []
  deriving DecidableEq, Repr, Inhabited

/-- A valid penalty slab entry (Table 06-4); a slab is the table of its valid entries by number 0 to 1,023. -/
structure SlabEntry where
  count : Nat
  token : Nat
  lastSeen : Nat
  deriving DecidableEq, Repr, Inhabited

/-- What every instance keeps about a request beside its entry: the holds of R69, whether its END has been posted
and the END of R58 that waits for room, and the walk result it waits for (R113). -/
structure ReqSide where
  ringHold : Bool := false
  rationHold : Bool := false
  ended : Bool := false
  heldEnd : Option Event := none
  walkPending : Bool := false
  /-- positions re-prefilled so far in REBUILD, for the REBUILT event -/
  rebuildFrom : Nat := 0
  deriving DecidableEq, Repr, Inhabited

/-- An entry of the firmware queue (R60 to R62, Table 15-12): a ticket with the request's region, or (ticket 0)
a request moved out of a bank with its saved entry. -/
structure FwEntry where
  ticket : Nat
  session : Nat
  acceptTime : Nat
  granule : Nat
  strainVersion : Nat
  moved : Option Entry := none
  /-- the penalty slab of a moved request -/
  slab : Table SlabEntry := []
  /-- what is kept beside the entry of a moved request -/
  side : ReqSide := {}
  deriving DecidableEq, Repr, Inhabited

/-- What a step leaves staged for a request's junction (R17 stage 7): the tokens of its rows in position order,
the cause of R179 when there is none, and the result of a tree walk. -/
structure GenToken where
  token : Nat
  inf : Bool := false
  approx : Bool := false
  bonus : Bool := false
  deriving DecidableEq, Repr, Inhabited

structure StepResult where
  handle : Nat
  tokens : List GenToken := []
  /-- (position, cause) of a row that yields no token -/
  noToken : Option (Nat × Nat) := none
  /-- accepted nodes of a verify step (R212) -/
  verify : Option Nat := none
  /-- COMMITTED_LEN after a tree that stopped at a node with no token (R213) -/
  committedAt : Option Nat := none
  deriving DecidableEq, Repr, Inhabited

/-- A prefix walk (R113): the request, whether the step's walk has finished, and the nodes matched. -/
structure Walk where
  handle : Nat
  /-- the junction that began it -/
  begun : Nat
  finished : Bool
  nodes : List Nat
  deriving DecidableEq, Repr, Inhabited

structure Granary where
  entries : Table Entry
  /-- the generation tag of a slot; 0 where the slot has never been taken (R28) -/
  tags : Table Nat
  freeList : Runs
  banksOut : List Nat
  regions : Table Region
  slabs : Table (Table SlabEntry)
  side : Table ReqSide
  results : List StepResult
  walks : List Walk
  /-- losses of the step in flight, by handle, with their cause: rows discarded (R51) -/
  losses : List (Nat × Nat)
  /-- requests whose slab the next junction rebuilds (R164) -/
  slabErrors : List Nat
  fwQueue : List FwEntry
  nextTicket : Nat
  /-- old handles of moved requests are looked up in fwQueue; events that junction J - 1 posted (R239) -/
  lastEvents : List (Nat × Nat × Nat × Event)
  /-- END events of requests that have left, held until their rings have room (R58): the entry as it left, and the event -/
  heldEnds : List (Entry × Event)
  deriving DecidableEq, Repr, Inhabited

/-! ### Classes, tenants, strains (chapter 3) -/

structure ClassState where
  cfg : ClassCfg
  share : Nat
  reserve : Int
  deriving DecidableEq, Repr, Inhabited

/-- Tenant counters (Table 17-6). -/
structure TenantCounters where
  prefillPositions : Nat := 0
  generatedTokens : Nat := 0
  reserveUsed : Nat := 0
  admissions : Nat := 0
  deadlineMisses : Nat := 0
  holds : Nat := 0
  deriving DecidableEq, Repr, Inhabited

structure TenantState where
  cfg : TenantCfg
  prefill : Int := 0
  gen : Int := 0
  counters : TenantCounters := default
  deriving DecidableEq, Repr, Inhabited

/-- Strain version states (Table 03-7); EMPTY is absence from the list. -/
inductive StrainState where
  | loading | ready | retiring
  deriving DecidableEq, Repr, Inhabited

/-- A strain version: its run of 4 KiB granules in the strain pool, its data, and the CRC it must have. -/
structure StrainVersion where
  descriptor : Nat
  strain : Nat
  version : Nat
  state : StrainState
  granule : Nat
  granules : Nat
  data : List Byte
  crc : Nat
  /-- the session whose deferred reply waits (on the instance that accepted the load) -/
  dropAt : Option Nat := none
  deriving DecidableEq, Repr, Inhabited

structure Policy where
  classes : List ClassState
  /-- the tenants that differ from reset (R84) -/
  tenants : Table TenantState
  lastTick : Nat
  /-- false until the first junction after a fresh or cold formation (R85) -/
  tickValid : Bool
  strains : List StrainVersion
  /-- (descriptor, strain) packed, and the version numbered last -/
  strainNumbers : List (Nat × Nat × Nat)
  deriving DecidableEq, Repr, Inhabited

/-! ### Pages and the Rhizome (chapter 4) -/

/-- A page descriptor (Table 04-1); a page on its stack has no descriptor here. -/
structure PageDesc where
  node : Option Nat := none
  sharers : Nat := 1
  movePending : Bool := false
  deriving DecidableEq, Repr, Inhabited

/-- A tier move (R118): its pages by page number (Table of R95) and its request's handle. -/
structure Move where
  seq : Nat
  src : Nat
  dst : Nat
  handle : Nat
  back : Bool
  /-- the request's class and effective level when it was opened -/
  cls : Nat := 0
  level : Nat := 0
  /-- issued to the copy engines; completed on this instance -/
  issued : Bool := false
  completed : Bool := false
  deriving DecidableEq, Repr, Inhabited

/-- A Rhizome node (Table 04-3) with its stored tokens; bucket chains are kept as lists. -/
structure Node where
  key : Nat
  parent : Option Nat
  page : Nat
  children : Nat
  block : Nat
  lastUse : Nat
  context : Nat
  model : Nat
  bucket : Nat
  tokens : List Nat
  deriving DecidableEq, Repr, Inhabited

structure Pages where
  /-- free pages of tier 0, 1, 2, top first (R99) -/
  stack0 : Runs
  stack1 : Runs
  stack2 : Runs
  /-- descriptors of pages in use, by page number -/
  desc : Table PageDesc
  moves : List Move
  nextMoveSeq : Nat
  completedMark : Nat
  nodes : Table Node
  /-- free nodes, head first (R110) -/
  freeNodes : Runs
  /-- bucket chains, by bucket, head first (R111) -/
  buckets : Table (List Nat)
  deriving DecidableEq, Repr, Inhabited

/-! ### Models, templates, shard maps (chapters 5, 7, 11) -/

/-- A template node record (Table 05-2). -/
structure TNode where
  opClass : Nat
  energyClass : Nat
  sampledOnly : Bool
  collective : Bool
  crit : Bool
  rowSet : Nat
  kind : Nat
  layerOperator : Nat
  groupPos : Nat
  tiles : Nat
  groups : Nat
  platformSet : Nat
  levelClass : Nat
  inputs : List Nat
  fanout : Nat
  collectiveGroup : Nat
  model : Nat
  deriving DecidableEq, Repr, Inhabited

/-- A template (Tables 05-1 and 05-2). -/
structure Template where
  id : Nat
  crc : Nat
  timeouts : List Nat
  nodes : List TNode
  deriving DecidableEq, Repr, Inhabited

/-- A shard map entry (Table 07-1); `rank` is the group rank INSTANCE names. -/
structure Shard where
  rank : Nat
  replicaSet : Nat
  lo : Nat
  hi : Nat
  deriving DecidableEq, Repr, Inhabited

/-- An ACTIVE descriptor. -/
structure Descriptor where
  load : LoadParams
  stage : StageParams
  map : List Shard
  epoch : Nat
  deriving DecidableEq, Repr, Inhabited

/-- The models of this instance and the parameters in force (R302, R311). -/
structure Models where
  /-- what MODEL_STAGE recorded, by descriptor (R301); the images stay in the staging area (R359) -/
  staged : Table StageParams
  /-- STAGE_BASE (R359) -/
  stageBase : Nat
  active : Table Descriptor
  template : Option Template
  maxLive : Nat
  maxContext : Nat
  n0 : Nat
  spec : SpecBlock
  glean : GleanBlock
  stepPositions : Nat
  idleInterval : Nat
  watchdog : Nat
  /-- LOG_BASE of the last main model loaded (R224); none before the first load commits (R482) -/
  logBase : Option Nat
  deriving DecidableEq, Repr, Inhabited

/-! ### Timetable, Stook, ready queues and platforms (chapter 5) -/

/-- Node instance states (Table 05-8). -/
inductive NodeState where
  | pending | matching | readyWait | queued | issued | done
  deriving DecidableEq, Repr, Inhabited

structure NodeInst where
  state : NodeState
  count : Nat
  staged : Nat
  completed : Nat
  deriving DecidableEq, Repr, Inhabited

/-- A timetable buffer: the junction of its step, the consist it was made from and its node records. -/
structure Buffer where
  junction : Nat
  epoch : Nat
  template : Template
  consist : Consist
  /-- nodes instantiated so far; instantiation may pause (R141) -/
  made : Nat
  nodes : Table NodeInst
  deriving DecidableEq, Repr, Inhabited

/-- A copy item's body (Table 05-7) with the request it serves; `seq` for a tier move. -/
structure CopyItem where
  kind : Nat
  src : Nat
  dst : Nat
  srcOffset : Nat
  dstOffset : Nat
  posCount : Nat
  handle : Nat
  seq : Option Nat
  /-- the junction that issued it and its epoch (R234) -/
  step : Nat
  epoch : Nat
  deriving DecidableEq, Repr, Inhabited

/-- A run of the ready queues (R136), or of the copy queue. -/
structure Run where
  level : Nat
  cls : Nat
  arrival : Nat
  node : Nat
  items : List Nat
  copy : Option CopyItem
  gang : Bool
  /-- platforms whose slots a gang has reserved (R138) -/
  reserved : List Nat
  /-- set for a reissued item (R145): it goes ahead of its queue, and not to these platforms -/
  reissue : Bool
  left : List Nat
  issues : Nat
  /-- when it entered its queue (R462) -/
  since : Nat
  deriving DecidableEq, Repr, Inhabited

/-- An item staged or running on a platform. -/
structure OpenItem where
  tag : Nat
  node : Nat
  item : Nat
  copy : Option CopyItem
  level : Nat
  cls : Nat
  opClass : Nat
  energy : Nat
  platform : Nat
  slot : Nat
  issues : Nat
  left : List Nat
  /-- when it became the oldest open item of its platform (R144) -/
  oldestAt : Option Nat
  /-- accepted, its operand token delayed (R204) -/
  held : Bool
  step : Nat
  /-- predicted current and duration debited at issue (R251) -/
  current : Nat
  /-- the unguarded prediction (R265), kept as `current` is -/
  raw : Nat
  collective : Bool
  deriving DecidableEq, Repr, Inhabited

/-- A platform's 64-bit totals and snapshots (R445, R451): counts are kept whole, VALUE and WRAPS are read off
them. `last` is the start snapshot of the last counted record, `lastEnd` its end snapshot where it had one. -/
structure PlatformCounters where
  busy : Nat := 0
  stall : Nat := 0
  idle : Nat := 0
  items : Nat := 0
  satSeen : Bool := false
  last : Option (Nat × Nat × Nat) := none
  lastEnd : Option (Nat × Nat × Nat) := none
  lastTime : Nat := 0
  /-- when the item of the last record became its platform's oldest -/
  lastStart : Nat := 0
  /-- an item with a status other than OK, waiting for its end snapshot: node, tag, STATUS byte (R445) -/
  waiting : Option (Nat × Nat × Nat) := none
  /-- a new template has taken effect since: the waiting item's node has no bin any more (R449) -/
  oldNode : Bool := false
  deriving DecidableEq, Repr, Inhabited

structure Platform where
  entry : PlatformEntry
  inService : Bool
  /-- taken into service by PLATFORM_MAP, joining at the next junction (R148) -/
  joining : Bool
  /-- open items, oldest first, by tag -/
  items : List Nat
  counters : PlatformCounters
  deriving DecidableEq, Repr, Inhabited

structure Dispatch where
  /-- the buffer of the current step and the one being made -/
  current : Option Buffer
  next : Option Buffer
  nextInsert : Nat
  stook : List Nat
  readyWait : List Nat
  runs : List Run
  arrival : Nat
  issueSeq : Nat
  openItems : List OpenItem
  /-- tags of the current step reissued away (R156) -/
  oldTags : List Nat
  platforms : Table Platform
  staleCompletions : Nat
  deriving DecidableEq, Repr, Inhabited

/-! ### Thresher, Glean, speculation (chapters 6 to 8) -/

/-- A row context (R155). -/
structure RowContext where
  port : Nat
  row : Nat
  tag : Nat
  format : Nat
  nextIndex : Nat
  /-- beats received (Table 17-10) -/
  beats : Nat := 0
  acc : RowAcc
  portError : Bool
  slabError : Bool
  /-- its SEG_LAST has come -/
  ended : Bool := false
  deriving DecidableEq, Repr, Inhabited

structure Thresher where
  contexts : List RowContext
  /-- rows of the step whose partial result has left selection -/
  closed : List Nat
  /-- what has come of those rows since, or last came, by tag: the headers of a rerun are checked like any other (R154, R156) -/
  shadows : List RowContext
  /-- the skid queues: segments that wait at a port, oldest first (R323), each with whether its tag named an open item when it came -/
  skid : List (Nat × Segment × Bool)
  /-- requests whose slab could not be staged for this step (R164) -/
  slabBad : List Nat
  reissueSegments : Nat
  /-- beats discarded in Buffer Stop (R319) -/
  stopBeats : Nat
  deriving DecidableEq, Repr, Inhabited

/-- A sampled row at the Glean. -/
structure GleanRow where
  first : Option Nat := none
  resendAt : Option Nat := none
  contribs : Table (Nat × PartialResult) := []
  verdict : Option Verdict := none
  verdictAt : Option Nat := none
  /-- the final list in effect (R190) -/
  final : Option PartialResult := none
  deriving DecidableEq, Repr, Inhabited

structure Glean where
  rows : Table GleanRow
  /-- the resend area (R186): the FORMAT and the result by row, with its step -/
  resend : Table (Nat × Nat × PartialResult)
  /-- RESEND_REQ for rows not yet closed: (row, requester, STEP) (R187) -/
  asked : List (Nat × Nat × Nat)
  mismatches : Table Nat
  /-- the aligned second that `mismatches` counts in -/
  second : Nat
  discarded : Nat
  /-- decisions count from here after a takeover (R191) -/
  since : Nat
  deriving DecidableEq, Repr, Inhabited

/-- A tree node (Table 08-5). -/
structure TreeNode where
  depth : Nat
  parent : Nat
  sibling : Nat
  inplace : Bool
  spine : Bool
  token : Option Nat
  void : Bool
  q : F32
  scratch : Option Nat
  deriving DecidableEq, Repr, Inhabited

/-- A tree record (Table 08-4), with the depths whose children are drawn. -/
structure Tree where
  handle : Nat
  rootPos : Nat
  widths : List Nat
  nodes : List TreeNode
  sets : Table (List (Nat × F32))
  drawn : List Nat
  walked : Bool
  deriving DecidableEq, Repr, Inhabited

/-! ### The Coupling Unit (chapters 9, 16, 18) -/

inductive GroupState where
  | forming | running | bufferStop
  deriving DecidableEq, Repr, Inhabited

/-- A READY packet held (Table 09-3). -/
structure Ready where
  doneTime : Nat
  logCrc : Nat
  moveSeq : Nat
  deriving DecidableEq, Repr, Inhabited

/-- A log being reassembled from its LOG packets (R224, R343). -/
structure LogParts where
  /-- the sender -/
  src : Nat
  log : JLog
  count : Nat
  got : List Nat
  deriving DecidableEq, Repr, Inhabited

/-- The takeover a new lead has started (R236 to R238). -/
structure Collect where
  sentAt : Nat
  oldLead : Nat
  junction : Nat
  /-- rank, copies it counted -/
  acks : Table Nat
  copies : Table Nat
  deriving DecidableEq, Repr, Inhabited

/-- A proposal at the lead (Table 09-7). -/
structure Proposal where
  number : Nat
  junction : Nat
  epoch : Nat
  cmd : CmdRecord
  /-- rank -> MEM_AVAILABLE, PAGE_BYTES, W + STRAIN_POOL + X -/
  prepared : Table (Nat × Nat × Nat)
  /-- rank -> status, DETAIL -/
  refused : Table (Nat × Nat)
  deriving DecidableEq, Repr, Inhabited

/-- A proposal staged on an instance (R232). -/
structure StagedProposal where
  number : Nat
  junction : Nat
  epoch : Nat
  params : Params
  stage : Option StageParams
  template : Option Template
  map : List Shard
  platforms : List PlatformEntry
  prepared : Bool
  /-- the term of the lead that proposed it (R240) -/
  term : Nat := 0
  deriving DecidableEq, Repr, Inhabited

/-- A GROUP command in the lead's sequencer (R289). -/
structure SeqCmd where
  junction : Nat
  cmd : CmdRecord
  /-- record bytes -/
  size : Nat
  deriving DecidableEq, Repr, Inhabited

/-- What selection reserved for a unit, and what its full form then asked for (R80). -/
structure Reservation where
  handle : Nat
  rows : Nat
  positions : Nat
  fullRows : Nat
  fullPositions : Nat
  deriving DecidableEq, Repr, Inhabited

/-- The sequencer and the Yard of the lead (R19, R80, R289). -/
structure Sequencer where
  cmds : List SeqCmd
  /-- deferrals accepted, by effective junction -/
  tickets : List (Nat × TicketRec)
  /-- consumer reports: handle, TOKEN_CONS, EVENT_CONS -/
  consumer : Table (Nat × Nat)
  /-- reports that find no room in the open log -/
  consumerWait : Table (Nat × Nat)
  losses : List (Nat × Nat)
  banks : List Nat
  holds : List (Nat × Nat)
  ringWrites : List (Nat × Nat)
  nextTicket : Nat
  closing : Bool
  /-- the log closed for the next junction -/
  closed : Option JLog
  proposal : Option Proposal
  proposalNo : Nat
  /-- the decision of R231 for the next junction: epoch, 1 or 2, number -/
  decision : Option (Nat × Nat × Nat)
  /-- the units selection reserved for the next consist -/
  selected : List Reservation
  /-- rows whose token entries this lead has written -/
  written : List Nat
  /-- log resends asked for before the log was closed (R224) -/
  resendAsked : List (Nat × Nat × Nat)
  /-- the old lead, until the first log of the new term is closed (R239) -/
  takeover : Option Nat
  /-- the old term's log J that is reused -/
  reuse : Option JLog
  deriving DecidableEq, Repr, Inhabited

/-- LEAD_CHANGE and LEAD_CHANGE_JUNCTION (R492). -/
structure LeadChange where
  term : Nat := 0
  oldLead : Nat := 0
  newLead : Nat := 0
  reused : Bool := false
  junction : Nat := 0
  deriving DecidableEq, Repr, Inhabited

structure Coupling where
  rank : Nat
  n : Nat
  state : GroupState
  fresh : Bool
  term : Nat
  leadRank : Nat
  barred : List Nat
  epoch : Nat
  /-- last junction applied, its digest, and whether it is complete (R228) -/
  applied : Nat
  digest : Nat
  complete : Bool
  /-- the lead's DIGEST last received: junction and digest -/
  leadDigest : Option (Nat × Nat)
  digests : Table Nat
  digestSentAt : Nat
  agreedAt : Nat
  stepEst : Nat
  firstJunction : Bool
  stepDone : Option Nat
  /-- lead-independent completion of the step (R235) -/
  leadTimer : Option Nat
  leadLimit : Nat
  ready : Table Ready
  /-- when this instance first sent READY for the next junction -/
  readySent : Option Nat
  /-- when it last sent it, and what it sent -/
  readyAt : Nat
  sent : Option Ready
  /-- its own READY of the junction last agreed (R225) -/
  lastReady : Option Ready
  log : Option JLog
  prevLog : Option JLog
  /-- logs being reassembled: of the next junction and of the one after -/
  parts : List LogParts
  logAskedAt : Option Nat
  staged : Option StagedProposal
  stageLost : Bool
  /-- a later proposal that came before the junction of `staged` (R231, R233) -/
  stagedNext : Option StagedProposal
  collect : Option Collect
  leadChange : LeadChange
  /-- GROUP_EVENT [0] (R493) -/
  leadEvent : Bool
  /-- a lead role lost whose LEAD_FAULT record waits for the log of the takeover: the new lead and its term (R237) -/
  roleLost : Option (Nat × Nat)
  deriving DecidableEq, Repr, Inhabited

/-! ### Ports and outputs (model's own records) -/

/-- The messages of the Fabric Port (chapters 7, 9, 12, 16, 18), one constructor per kind. -/
inductive Msg where
  | ready (junction term doneTime logCrc moveSeq : Nat)
  | digest (junction term digest : Nat)
  | takeover (junction term oldLead lastApplied : Nat)
  | takeoverAck (junction term lastApplied copies : Nat)
  | log (l : JLog)
  | logResend (junction firstFrag count : Nat)
  | gleanData (row step format : Nat) (r : PartialResult)
  | gleanVerdict (row step : Nat) (v : Verdict)
  | gleanResendReq (row step rank : Nat)
  | propose (h : EpochHead) (cmd : CmdRecord)
  | prepared (h : EpochHead) (mem page fixed : Nat)
  | refused (h : EpochHead) (status detail : Nat)
  | capReport (h : EpochHead) (cap seq : Nat)
  | capSet (h : EpochHead) (cap seq effective low : Nat)
  | lossReport (h : EpochHead) (r : LossReport)
  | formReport (r : FormReport)
  | formCommit (term : Nat) (c : FormCommit)
  | roster (term recoverId count : Nat) (entries : List RosterEntry)
  | halt (source cause rank detail time : Nat)
  | linkmap (link rank time : Nat)
  deriving DecidableEq, Repr, Inhabited

/-- A write of the Memory Port within one 256-byte block: its bytes, its order (0 ring and completion entries and replies, 1 trace
records, 2 the rest), and the address range whose writes must have been answered before it (R336, R338, R456). -/
structure WriteReq where
  addr : Nat
  data : List Byte
  order : Nat := 2
  follows : Option (Nat × Nat) := none
  /-- an entry of a token or event ring, which goes with Buffer Stop while it is not issued (R319) -/
  ring : Bool := false
  deriving DecidableEq, Repr, Inhabited

/-- What leaves the block at its ports, in order (a record of the model: the manual gives the ports, not a
history of them). `packet` carries the class of Table 12-12 and the destination rank. -/
inductive Out where
  /-- a packet: class, destination (none: broadcast), route, fragment, fragments of the message, MSG_ID, and its 64 bytes -/
  | packet (cls : Nat) (dest : Option Nat) (route frag count msgId : Nat) (m : Msg) (bytes : List Byte)
  /-- receive credits of a class returned (R340) -/
  | credit (cls count : Nat)
  /-- a read request of the Memory Port: channel, first line, lines, tag, stream, PF (Table 12-8) -/
  | memRead (channel line lines tag stream : Nat) (ahead : Bool)
  /-- a write request with its beats: data, byte enables, CRC -/
  | memWrite (channel line lines : Nat) (beats : List (List Byte × Nat × Nat))
  /-- a STAGE: platform, slot, the 32-byte descriptor and DP_CRC (R324) -/
  | stage (platform slot : Nat) (desc : List Byte) (crc : Nat)
  | revoke (platform crc : Nat)
  /-- feed-forward frame of a tick (Table 13-7): rail, F[n + FFT] and BREAK of each enabled rail, FF_AT, FF_CRC -/
  | forecast (rails : List (Nat × Nat × Bool)) (due crc : Nat)
  | endpointQuery (rank : Nat)
  /-- an MCTP message to an EID: its type, its body after the type, and its packets, each with MG_TX_CRC (R370) -/
  | mctp (dest type : Nat) (body : List Byte) (packets : List (List Byte × Nat))
  /-- a response beat of the Host Aperture Port (Table 13-2): status, data, LAST and CRC; of a write, status and CRC -/
  | read (status value : Nat) (last : Bool) (crc : Nat)
  | written (status crc : Nat)
  deriving DecidableEq, Repr, Inhabited

/-- Work a junction collects for the page phases (R103); empty between commands. -/
structure Work where
  /-- slots whose tree tail goes, with COMMITTED_LEN as the step results left it (R103) -/
  tail : List (Nat × Nat) := []
  trunc : List Nat := []
  all : List Nat := []
  pause : List (Nat × Nat) := []
  freed : List Nat := []
  /-- handle, first position and number of tokens the step can have written (R73) -/
  emitted : List (Nat × Nat × Nat) := []
  /-- an entry as it was charged, and its generated tokens that survive the junction (R85) -/
  survivors : List (Entry × Nat) := []
  /-- slots whose bank leaves service with this junction (R62) -/
  moved : List Nat := []
  /-- slots whose penalty slab was cleared and rebuilt (R164) -/
  rebuilt : List Nat := []
  deriving DecidableEq, Repr, Inhabited

/-! ### The Fabric Port (chapter 12) -/

/-- A packet waiting to be sent: destination (none: broadcast), the route where one is fixed (R345). -/
structure TxPacket where
  cls : Nat
  dest : Option Nat
  route : Option Nat
  frag : Nat
  count : Nat
  msgId : Nat
  msg : Msg
  deriving DecidableEq, Repr, Inhabited

/-- A message being reassembled, or reassembled, from the packets of a sender (R342). -/
structure RxParts where
  src : Nat
  cls : Nat
  msgId : Nat
  /-- the step it belongs to -/
  step : Nat
  got : List Nat
  deriving DecidableEq, Repr, Inhabited

structure Fabric where
  /-- transmit credits of classes 1 to 6 (R340) -/
  credits : List Nat
  /-- receive credits that the fabric holds of each class (R340) -/
  given : List Nat
  queue : List TxPacket
  /-- own copies of messages that have been delivered inside the adapter (R341) and not yet taken -/
  selfIn : List Msg
  /-- the message count of each class (R342) -/
  msgIds : List Nat
  /-- ROUTE_TABLE: the links of a destination rank and route (R242) -/
  routes : List (List (List Nat))
  linksOut : List Nat
  /-- when each link was last marked -/
  linkAt : Table Nat
  /-- the open endpoint query: the rank and when it was asked (R346) -/
  query : Option (Nat × Nat)
  /-- stamps of the last packet of each class from each rank (R468): rank × 8 + class -/
  views : Table Nat
  /-- messages of which packets have come since the last junction (R342) -/
  parts : List RxParts
  deriving DecidableEq, Repr, Inhabited

/-! ### Faults (chapter 16) -/

/-- What CUT_TIME keeps for the hang dumps (R468, R469): the sections but WAIT_FOR, that section, and the stamps of the views of
engines, links and peers. -/
structure Cut where
  sections : List (List Byte)
  waitFor : List Byte
  stamps : List Nat
  deriving DecidableEq, Repr, Inhabited

structure Faults where
  /-- own first cause since entry -/
  own : Option Nat
  /-- the group's first cause: cause, time, rank -/
  group : Option (Nat × Nat × Nat)
  /-- the largest resume kind known is cold -/
  cold : Bool
  halts : Nat
  corrected : Nat
  uncorrected : Nat
  /-- DIAG of Table 16-6: 0 not started, 1 running, 2 PASS, 3 FAIL -/
  diag : Nat
  diagUnit : Nat
  queried : Bool
  firstFatal : Nat
  /-- slots found uncorrectable in the sweep (R433) -/
  sweep : List Nat
  enteredAt : Nat
  cutTime : Option Nat
  /-- the cut of the last Buffer Stop that reached CUT_TIME -/
  cut : Cut
  perturbedAt : Bool
  /-- reports not yet seen in a log, with the time last sent (R426) -/
  reports : List (LossReport × Nat)
  /-- per bank in the scrub pass: corrected errors, and entries found uncorrectable (R425) -/
  passCorrected : Table Nat
  passEntries : Table (List Nat)
  /-- FAULT_STICKY (R497) -/
  sticky : Nat
  /-- GROUP_EVENT [1] (R493) -/
  stopEvent : Bool
  deriving DecidableEq, Repr, Inhabited

/-! ### The Gradient (chapter 10) -/

/-- An energy table entry (Table 10-4). -/
structure EnergyCell where
  current : Nat
  corr : Nat
  dur : Nat
  deriving DecidableEq, Repr, Inhabited

/-- The sums of a 1 µs window (R265): samples, L, filler, unguarded predictions, ticks; whether HARD stood in it. -/
structure RailWindow where
  sample : Nat := 0
  level : Nat := 0
  fill : Nat := 0
  raw : Nat := 0
  ticks : Nat := 0
  hard : Bool := false
  classes : List Nat := []
  peak : Nat := 0
  deriving DecidableEq, Repr, Inhabited

/-- What a rail's registers show between ticks: L, K, the guard and its flags as they stood at the last tick (R498). -/
structure RailView where
  level : Nat := 0
  k : Nat := 0
  guard : Nat := 0
  guardAll : Bool := false
  recal : Bool := false
  deriving DecidableEq, Repr, Inhabited

structure Rail where
  cfg : RailCfg
  energy : List EnergyCell
  k : Nat
  capRail : Nat
  /-- F[n], F[n + 1], … F[n + FFT - 1], F[n + FFT] -/
  fore : List Nat
  /-- samples, latest first, at most 40 -/
  samples : List Nat
  /-- when the last valid sample came; when the rail was enabled, before the first -/
  lastValid : Nat
  /-- the last tick carried a valid sample -/
  sampled : Bool
  hard : Bool
  hardSince : Nat
  guard : Nat
  guardAll : Bool
  recal : Bool
  overs : Nat
  good : Nat
  goodPeak : Nat
  phi : Nat
  u : Int
  window : RailWindow
  /-- what the registers show of it (R498) -/
  shown : RailView
  deriving DecidableEq, Repr, Inhabited

inductive PowerState where
  | normal | chase | hold
  deriving DecidableEq, Repr, Inhabited

/-- A barrier (R262): its start, the next wave, platforms released in it, and when its next release may come. -/
structure Barrier where
  start : Nat
  wave : Nat
  nextAt : Nat
  deriving DecidableEq, Repr, Inhabited

structure Power where
  configured : Bool
  pendingCfg : List PowerConfigParams
  global : GlobalPower
  rails : List Rail
  groups : List EngineGroup
  tick : Nat
  lastFrame : Nat
  state : PowerState
  /-- the two cap sources and the group's (R269, R272), 0.25 W; 65,535 no cap -/
  pinCap : Nat
  pinUrgent : Bool
  cmdCap : Nat
  groupCap : Nat
  /-- C in force -/
  cap : Nat
  /-- SOURCE byte of the change that set it (Table 10-7) -/
  capBy : Nat
  deadline : Option Nat
  /-- C_loc as formed at the last tick, and the sources set since with their times: 0 pin, 1 command, 2 group (R365) -/
  loc : Nat
  touched : List (Nat × Nat)
  /-- collective nodes whose items keep the caps before a change: node -> (K, cap_rail) of each rail (R271) -/
  exempt : Table (List (Nat × Nat))
  reportSeq : Nat
  /-- reports the lead holds: rank -> (SEQ, C_loc) -/
  reports : Table (Nat × Nat)
  setSeq : Nat
  setCap : Nat
  setRank : Nat
  setEffective : Nat
  appliedSeq : Nat
  /-- a CAP_SET that waits for its junction: SEQ, cap, EFFECTIVE. `setRank` is the rank of the CAP_SET of the highest SEQ seen. -/
  waiting : List (Nat × Nat × Nat)
  droop : Option Nat
  ramp : Bool
  /-- DROOP_RAMP and POWER_STATE as POWER_STATUS shows them (R498) -/
  shownRamp : Bool
  shownState : PowerState
  /-- K returns to cap_rail at the next tick (R268) -/
  droopEnd : Bool
  barrier : Option Barrier
  /-- time of the last change of power state, for HOLD_NS and CHASE_NS -/
  stateSince : Nat
  deriving DecidableEq, Repr, Inhabited

/-! ### Observability (chapter 17) -/

/-- A bin (Table 17-3); 64-bit counts are kept whole, so VALUE and WRAPS are read off them (R450). -/
structure Bin where
  layerOperator : Nat := 0
  epoch : Nat := 0
  sat : Nat := 0
  items : Nat := 0
  busy : Nat := 0
  stall : Nat := 0
  idle : Nat := 0
  reissued : Nat := 0
  byReason : Table Nat := []
  deriving DecidableEq, Repr, Inhabited

/-- A dump directive (R463) with what its header will report (R466). -/
structure Dump where
  step : Nat
  layerOperator : Nat
  handle : Nat
  addr : Nat
  bytes : Nat
  dropped : Bool
  items : Nat
  positions : Nat
  deriving DecidableEq, Repr, Inhabited

/-- A CORE record being gathered: outcomes of conditional branches, oldest first, and instructions retired since the last SYNC. -/
structure CoreTrace where
  bits : List Bool := []
  retired : Nat := 0
  deriving DecidableEq, Repr, Inhabited

structure Observe where
  /-- unit counters by ID (Table 17-5) -/
  counters : Table Nat
  bins : Table Bin
  /-- accumulations of the step in flight (R449) -/
  stepBins : Table Bin
  traceMask : Nat
  traceAddr : Nat
  traceCap : Nat
  traceWrite : Nat
  /-- trace records dropped since the previous record (R456) -/
  traceLost : Nat
  /-- trace records of the command being carried out, not yet in the staging queue: time, kind, content -/
  traced : List (Nat × Nat × List Byte)
  /-- the open CORE record of each Signal Box core (R457, R458) -/
  cores : List CoreTrace
  censusOn : Bool
  censusInterval : Nat
  censusAddr : Nat
  censusCap : Nat
  censusWrite : Nat
  /-- junctions left to a census in a running group (R461) -/
  censusLeft : Option Nat
  censusAt : Nat
  /-- waits of the items staged in the interval, by level × 8 + class: their sum and number (R462) -/
  waits : Table (Nat × Nat)
  /-- d_busy of the records counted in the interval, by platform -/
  busy : Table Nat
  base : Nat
  tickPs : Nat
  dumps : List Dump
  /-- the counter window's sampled values (R500) -/
  snapped : Table Nat
  deriving DecidableEq, Repr, Inhabited

/-! ### Sessions and commands (chapters 11 and 14) -/

inductive SessState where
  | closed | opening | opened | closing
  deriving DecidableEq, Repr, Inhabited

/-- A fetched command: its queue entry and its packet. -/
structure Current where
  entry : CmdEntry
  pkt : Packet
  deriving DecidableEq, Repr, Inhabited

/-- A reply still deferred (R294): the command, and the junction it names or was accepted for. -/
structure Deferred where
  opcode : Nat
  seq : Nat
  entry : CmdEntry
  effective : Nat
  params : Params
  /-- version that a STRAIN_LOAD was assigned -/
  assigned : Nat := 0
  deriving DecidableEq, Repr, Inhabited

/-- A session with its doorbell page (R280, R387, chapter 13). -/
structure Session where
  state : SessState := .closed
  tenant : Nat := 0
  major : Nat := 0
  minor : Nat := 0
  ks : List Byte := []
  openedAt : Nat := 0
  fails : Nat := 0
  lockedAt : Option Nat := none
  expected : Nat := 0
  cmdBase : Nat := 0
  cplBase : Nat := 0
  cmdLog : Nat := 0
  cplLog : Nat := 0
  tail : Nat := 0
  fetch : Nat := 0
  cplTail : Nat := 0
  cplHead : Nat := 0
  /-- completion entries held by commands without a reply yet -/
  reserved : Nat := 0
  current : Option Current := none
  deferred : List Deferred := []
  /-- IRQ_CTL (Table 13-4) -/
  cplPending : Bool := false
  irqEn : Bool := false
  deriving DecidableEq, Repr, Inhabited

/-- The keys of this instance (R382). -/
structure Keys where
  /-- channel keys of secure sessions 0 to 15 -/
  channel : Table (List Byte)
  tenant : Table (List Byte)
  /-- OTP (Table 14-1) -/
  deviceSecret : List Byte
  bootWrap : Option (List Byte)
  rollback : Nat
  revoke : Nat
  /-- KB registers (Table 14-2) -/
  certWrite : Bool
  updateDis : Bool
  attempts : Nat
  locked : Bool
  fail : Bool
  blob : List Byte
  /-- the running action (1 or 2) with its outcome: the unwrapped key -/
  action : Option (Nat × Option (List Byte))
  /-- the random bit generator passes its health tests (R380) -/
  drbgOk : Bool
  /-- test-mode entries since PORESET_N (R373) -/
  testEntries : Nat
  deriving DecidableEq, Repr, Inhabited

/-- A RECOVER in formation (R435, R480). -/
structure Formation where
  recoverId : Nat
  /-- acceptance time -/
  since : Nat
  sentAt : Nat
  /-- whether the instance held state of the old group, and its former fault state -/
  fresh : Bool
  former : Faults
  reports : Table FormReport
  roster : List RosterEntry
  /-- kind 0 fresh, 1 warm, 2 cold; first junction, term, lead: the result worked out -/
  result : Option FormCommit
  /-- a FORM_COMMIT that came before the result -/
  held : Option FormCommit
  committed : Bool
  session : Nat
  lost : Nat
  unrecoverable : Nat
  deriving DecidableEq, Repr, Inhabited

/-! ### The Memory Port (R333 to R338) -/

/-- A structure that a unit wants read: its stream, what is left of it, and what it is for. -/
structure ReadAsk where
  stream : Nat
  addr : Nat
  bytes : Nat
  use : MemRead
  deriving DecidableEq, Repr, Inhabited

/-- An outstanding read: its tag, stream, first line, what it is for, the lines not yet transferred, and the addresses and lengths of the
writes to its lines issued since. -/
structure ReadReq where
  tag : Nat
  stream : Nat
  line : Nat
  use : MemRead
  left : List Nat
  written : List (Nat × Nat) := []
  deriving DecidableEq, Repr, Inhabited

structure MemPort where
  /-- write requests of each channel not yet answered, oldest first -/
  writes0 : List WriteReq
  writes1 : List WriteReq
  /-- write requests that wait to be issued -/
  writeWait : List WriteReq
  asks : List ReadAsk
  reads : List ReadReq
  /-- the stream served last in each group of Table 12-9, by priority 2 to 6 -/
  served : List Nat
  deriving DecidableEq, Repr, Inhabited

/-! ### The host aperture (chapters 13, 15 and 19) -/

/-- A data channel (Table 13-5); SIZE follows from the target. -/
structure Channel where
  target : Nat := 0
  select : Nat := 0
  session : Nat := 0
  owner : Nat := 0
  cursor : Nat := 0
  changed : Bool := false
  crcError : Bool := false
  denied : Bool := false
  busy : Bool := false
  foreign : Bool := false
  rdError : Bool := false
  overrun : Bool := false
  deriving DecidableEq, Repr, Inhabited

/-- A mailbox message: type, flags, status, MSG_SEQ, body; a FATAL notice is marked. -/
structure MailMsg where
  type : Nat
  flags : Nat := 0
  status : Nat := 0
  seq : Nat := 0
  body : List Byte := []
  fatal : Bool := false
  deriving DecidableEq, Repr, Inhabited

/-- A mailbox channel (Table 15-8) with its waiting messages (R415). -/
structure Mailbox where
  inPtr : Nat := 0
  inOverrun : Bool := false
  inPending : Bool := false
  inAgent : Nat := 0
  outBase : Nat := 0
  dropped : Nat := 0
  outSlot : Nat := 0
  subscribe : Nat := 0
  irqEn : Bool := false
  outEnable : Bool := false
  outPending : Bool := false
  /-- the slot the next message takes -/
  next : Nat := 0
  /-- the address of a message written and not yet answered by the Memory Port -/
  writing : Option Nat := none
  waiting : List MailMsg := []
  /-- Cheldo's own MSG_SEQ -/
  seq : Nat := 0
  deriving DecidableEq, Repr, Inhabited

/-- The time base as the aperture shows it (R368, Table 19-4). -/
structure TimeBase where
  valid : Bool
  /-- TB_VALID has been high at an edge since reset -/
  seen : Bool
  armed : Bool
  lost : Bool
  /-- lost, with no TB_SYNC accepted since -/
  absent : Bool
  losses : Nat
  lastSync : Nat
  deriving DecidableEq, Repr, Inhabited

structure Aperture where
  ns : Channel
  sec : Channel
  /-- answers that wait, oldest first: the window writes still without a Memory Port response (R360), and the beats of the answer -/
  answers : List (List Nat × List Out)
  locks : Table Nat
  mail : Table Mailbox
  /-- GROUP_SETUP (Table 18-2) is the N and the rank of the Coupling Unit -/
  routesLoaded : Option Nat
  tb : TimeBase
  /-- port clocks seen lost and not seen since (R374, R434) -/
  lostClocks : List PortClock
  /-- SNAP_TIME (Table 19-9) -/
  snapTime : Nat
  deriving DecidableEq, Repr, Inhabited

/-! ### The Signal Box (chapters 14 and 15) -/

/-- A sensor register (Table 15-4). -/
structure Sensor where
  valid : Bool := false
  alarm : Nat := 0
  value : Nat := 0
  deriving DecidableEq, Repr, Inhabited

/-- Where the reset sequence stands (R375, R403, R473): reset asserted; released, the boot ROM not yet run; ROM
recovery; the firmware runs; a test mode has been entered (R373). -/
inductive BootPhase where
  | held | released | recovery | firmware | test
  deriving DecidableEq, Repr, Inhabited

/-- A record of the volatile log without its SEQ (Table 15-7); AGENT is 0 for an internal cause. -/
structure LogEntry where
  time : Nat
  source : Nat
  code : Nat
  sev : Nat
  args : List Nat := []
  agent : Nat := 0
  /-- the rank that this instance had as the record was posted -/
  rank : Nat := 0
  deriving DecidableEq, Repr, Inhabited

/-- What a flash command serves (R405, R406). -/
inductive FlashUse where
  | boot | update | commit | log | certificate
  deriving DecidableEq, Repr, Inhabited

/-- A flash command (Table 15-3): sector erase, or the program of at most 256 bytes; a log flush carries its records. -/
structure FlashCmd where
  erase : Bool
  addr : Nat
  data : List Byte
  use : FlashUse
  records : List (Nat × LogEntry) := []
  deriving DecidableEq, Repr, Inhabited

/-- States of the firmware update (R395, R396). -/
inductive UpdatePhase where
  | learn | ready | erasing | download | verify | apply | activate
  deriving DecidableEq, Repr, Inhabited

structure Update where
  agent : Nat
  phase : UpdatePhase
  maxTransfer : Nat
  slot : Nat
  size : Nat
  /-- bytes received -/
  got : Nat
  /-- the last of them, which do not yet fill a page (R420) -/
  page : List Byte := []
  failed : Bool
  deriving DecidableEq, Repr, Inhabited

/-- How far an SPDM connection has got (R397): nothing, version, capabilities, algorithms. -/
inductive SpdmState where
  | start | version | capabilities | negotiated
  deriving DecidableEq, Repr, Inhabited

/-- Who sent a message of the Management Port, the tag its answer carries, and its first four bytes: its type, and the type's own header. -/
structure MctpHead where
  source : Nat
  tag : Nat
  bytes : List Byte
  deriving DecidableEq, Repr, Inhabited

/-- A message of the Management Port being put together: its sender, the TO bit and the message tag, the sequence number due next, its
bytes so far, and the first four of them. -/
structure MctpPart where
  source : Nat
  flow : Nat
  next : Nat
  size : Nat
  head : List Byte
  deriving DecidableEq, Repr, Inhabited

structure SignalBox where
  phase : BootPhase
  /-- the running slot: 0 A, 1 B -/
  slot : Option Nat
  /-- the payload as it stands in local memory, from address 0 on (R401, R403) -/
  localMem : List Byte
  tested : Bool
  /-- RET_ACK of each core (R377) -/
  acks : List Bool
  sensors : Table Sensor
  /-- volatile log records that core 2 has seen -/
  seen : Nat
  /-- records of the volatile log lost to an uncorrectable error (Table 16-1) -/
  dropped : List Nat
  /-- staging buffer of the persistent log, and when its oldest record came (R411) -/
  stage : List LogEntry
  stagedAt : Nat
  stageDropped : Nat
  /-- the persistent log: SEQ and record -/
  plog : List (Nat × LogEntry)
  plogNext : Nat
  /-- flash contents by 256-byte page; a page not listed is erased -/
  flash : Table (List Byte)
  queue : List FlashCmd
  /-- the flash controller has been given the first command of the queue -/
  flashBusy : Bool
  /-- when the running flash command was started -/
  startedAt : Nat
  update : Option Update
  /-- why the last update ended, as GetStatus reports it -/
  lastResult : Nat
  eid : Nat
  mctpDiscards : Nat
  /-- the messages being put together, at most 4 (Table 13-10) -/
  mctpParts : List MctpPart
  /-- the PLDM state before the present one (GetStatus) -/
  pldmPrev : Nat
  spdm : SpdmState
  /-- certificate chain of slot 0 -/
  chain : Option (List Byte)
  /-- a SET_CERTIFICATE being written: the requester and the chain -/
  chainWrite : Option (Nat × Nat × List Byte)
  /-- the instruction register of the test access port (Table 13-11) -/
  ir : Nat
  /-- WS_SAFE drives the outputs at their reset values (R372) -/
  safe : Bool
  deriving DecidableEq, Repr, Inhabited

/-! ### The whole block -/

/-- The block's own state. -/
structure Block where
  now : Nat
  gr : Granary
  pol : Policy
  pg : Pages
  mdl : Models
  dsp : Dispatch
  thr : Thresher
  gln : Glean
  trees : List Tree
  fab : Fabric
  mp : MemPort
  flt : Faults
  pwr : Power
  obs : Observe
  ses : Table Session
  keys : Keys
  ap : Aperture
  sb : SignalBox
  form : Option Formation
  cp : Coupling
  seq : Sequencer
  /-- the model's own: every value the manual leaves open is drawn at a count of its own -/
  fresh : Nat
  /-- every record of the volatile log since PORESET_N, oldest first -/
  vlog : List LogEntry
  /-- the model's own: the agent whose access is being carried out; 0 between commands and for an internal cause -/
  agent : Nat
  out : List Out
  work : Work
  /-- the model's own: writes to memory that the running command makes, latest first: those it has issued on the Memory Port, and what
  host software has written before a fetch; empty between commands -/
  posted : List (Nat × List Byte)
  /-- the model's own: when each W1C bit was last set (R12) -/
  setAt : Table Nat
  deriving DecidableEq, Repr, Inhabited

/-! ### Reset (R275, R278, R375, R473, R477, R482, Tables 02-1 to 19-12) -/

/-- The reset configuration of a class (Table 03-5). -/
def classReset : ClassCfg :=
  { mode := 0, ceiling := 0, numThresh := 0, thresh := [0, 0, 0], firstDue := 0, chunkPos := 512, weight := 1
    shareMin := 32, shareMax := 128, shareQref := 16384, slackGuard := 0, reserveRate := 0, reserveBurst := 0 }

/-- A rail at reset; its energy table is empty until a POWER_CALIBRATE, and reads as Table 10-4's reset values. -/
def railReset : Rail :=
  { cfg := { enable := false, hardLimit := 0, sustLimit := 0, base := 0, nominalMv := 0, capShare := 0, slopeUp := 50
             slopeDown := 50, bandHi := 0, guardBase := 1200, guardStep := 100, guardMax := 2000, hardThrottle := 64, hardRelease := 900 }
    energy := [], k := 0, capRail := 0, fore := [], samples := [], lastValid := 0, sampled := false, hard := false
    hardSince := 0, guard := 1200, guardAll := false, recal := false, overs := 0, good := 0, goodPeak := 0, phi := 0, u := 0
    window := {}, shown := {} }

def Granary.reset : Granary :=
  { entries := [], tags := [], freeList := [(0, 32768)], banksOut := [], regions := [], slabs := [], side := [], results := []
    walks := [], losses := [], slabErrors := [], fwQueue := [], nextTicket := 1, lastEvents := [], heldEnds := [] }

def Policy.reset : Policy :=
  { classes := List.replicate 8 ⟨classReset, 0, 0⟩, tenants := [], lastTick := 0, tickValid := false, strains := [], strainNumbers := [] }

def Pages.reset : Pages :=
  { stack0 := [], stack1 := [], stack2 := [], desc := [], moves := [], nextMoveSeq := 0, completedMark := 0, nodes := []
    freeNodes := [], buckets := [] }

def Models.reset : Models :=
  { staged := [], stageBase := 0, active := [], template := none, maxLive := 0, maxContext := 0, n0 := 0
    spec := { depthMax := 0, widthMax := 0, nodesMax := 0, depthLead := 0, widthGain := 0, drawWaitClass := 0, emaInit := 0 }
    glean := { resendAfter := 0, gleanTimeout := 0 }, stepPositions := 0, idleInterval := 100000, watchdog := 10000, logBase := none }

def Dispatch.reset : Dispatch :=
  { current := none, next := none, nextInsert := 0, stook := [], readyWait := [], runs := [], arrival := 0, issueSeq := 0
    openItems := [], oldTags := [], platforms := [], staleCompletions := 0 }

def Fabric.reset : Fabric :=
  { credits := List.replicate 7 0, given := List.replicate 7 0, queue := [], selfIn := [], msgIds := List.replicate 7 0, routes := [], linksOut := [], linkAt := []
    query := none, views := [], parts := [] }

def Faults.reset : Faults :=
  { own := none, group := none, cold := false, halts := 0, corrected := 0, uncorrected := 0, diag := 0, diagUnit := 0
    queried := false, firstFatal := 0, sweep := [], enteredAt := 0, cutTime := none, cut := ⟨[], [], []⟩, perturbedAt := false, reports := []
    passCorrected := [], passEntries := [], sticky := 0, stopEvent := false }

/-- The Gradient at reset: Tables 10-1 to 10-3, both cap sources without a cap (R269). -/
def Power.reset : Power :=
  { configured := false, pendingCfg := []
    global := { waveSize := 32, waveInterval := 20, ffLead := 2000, capGrace := 500, capGraceUrgent := 20, grantSettle := 100
                recalErr := 80, recalWindows := 100, recalClear := 1000, onlineShift := 10, droopRampAfter := 1000, hardStuck := 50 }
    rails := List.replicate 16 railReset, groups := List.replicate 256 ⟨0, 1⟩, tick := 0, lastFrame := 0, state := .normal
    pinCap := 0xFFFF, pinUrgent := false, cmdCap := 0xFFFF, groupCap := 0xFFFF, cap := 0xFFFF, capBy := 0, deadline := none, loc := 0xFFFF, touched := []
    exempt := [], reportSeq := 0, reports := [], setSeq := 0, setCap := 0xFFFF, setRank := 0, setEffective := 0, appliedSeq := 0
    waiting := [], droop := none, ramp := false, shownRamp := false, shownState := .normal, droopEnd := false, barrier := none, stateSince := 0 }

def Observe.reset : Observe :=
  { counters := [], bins := [], stepBins := [], traceMask := 0, traceAddr := 0, traceCap := 0, traceWrite := 0, traceLost := 0, traced := [], cores := List.replicate 4 {}, censusOn := false
    censusInterval := 0, censusAddr := 0, censusCap := 0, censusWrite := 0, censusLeft := none, censusAt := 0, waits := [], busy := []
    base := 0, tickPs := 0, dumps := [], snapped := [] }

/-- Keys of a part whose OTP is blank (Tables 14-1 and 14-2). -/
def Keys.reset : Keys :=
  { channel := [], tenant := [], deviceSecret := [], bootWrap := none, rollback := 0, revoke := 0, certWrite := false
    updateDis := false, attempts := 8, locked := false, fail := false, blob := List.replicate 64 0, action := none, drbgOk := true
    testEntries := 0 }

def Aperture.reset : Aperture :=
  { ns := {}, sec := {}, answers := [], locks := [], mail := [], routesLoaded := none
    tb := { valid := false, seen := false, armed := false, lost := false, absent := false, losses := 0, lastSync := 0 }, lostClocks := [], snapTime := 0 }

/-- The Signal Box before the boot ROM has run, with an erased flash. -/
def SignalBox.reset : SignalBox :=
  { phase := .released, slot := none, localMem := [], tested := false, acks := [false, false, false, false], sensors := [], seen := 0, dropped := []
    stage := [], stagedAt := 0, stageDropped := 0, plog := [], plogNext := 0, flash := [], queue := [], flashBusy := false, startedAt := 0, update := none
    lastResult := 0, eid := 0, mctpDiscards := 0, mctpParts := [], pldmPrev := 0, spdm := .start, chain := none, chainWrite := none, ir := 0x01, safe := false }

/-- The Coupling Unit: FORMING, never run in a group (R473). -/
def Coupling.reset : Coupling :=
  { rank := 0, n := 0, state := .forming, fresh := true, term := 0, leadRank := 0, barred := [], epoch := 0, applied := 0, digest := 0
    complete := false, leadDigest := none, digests := [], digestSentAt := 0, agreedAt := 0, stepEst := 0, firstJunction := true
    stepDone := none, leadTimer := none, leadLimit := 0, ready := [], readySent := none, readyAt := 0, sent := none, lastReady := none
    log := none, prevLog := none, parts := [], logAskedAt := none, staged := none, stageLost := false, stagedNext := none, collect := none, leadChange := {}
    leadEvent := false, roleLost := none }

def Sequencer.reset : Sequencer :=
  { cmds := [], tickets := [], consumer := [], consumerWait := [], losses := [], banks := [], holds := [], ringWrites := []
    nextTicket := 1, closing := false, closed := none, proposal := none, proposalNo := 0, decision := none, selected := [], written := []
    resendAsked := [], takeover := none, reuse := none }

/-- The block right after reset release, at time-base value 0 (log entry 5). -/
def Block.reset : Block :=
  { now := 0, gr := .reset, pol := .reset, pg := .reset, mdl := .reset, dsp := .reset
    thr := { contexts := [], closed := [], shadows := [], skid := [], slabBad := [], reissueSegments := 0, stopBeats := 0 }
    gln := { rows := [], resend := [], asked := [], mismatches := [], second := 0, discarded := 0, since := 0 }
    trees := [], fab := .reset
    mp := { writes0 := [], writes1 := [], writeWait := [], asks := [], reads := [], served := List.replicate 5 63 }, flt := .reset, pwr := .reset, obs := .reset, ses := []
    keys := .reset, ap := .reset, sb := .reset, form := none, cp := .reset, seq := .reset, fresh := 0, vlog := [], agent := 0, out := []
    work := {}, posted := [], setAt := [] }

/-! ### The machine -/

/-- Faults of a command: none. Every command of the table has an effect in every state, errors of the hardware among them. -/
inductive Fault where
  deriving DecidableEq, Repr

/-- Refusals of the model. -/
inductive Refusal where
  /-- raised by Dispatch for a command that has no meaning yet; safe -/
  | notModelled (mnemonic : String)
  deriving DecidableEq, Repr

/-- The state of one instance: the block, device memory as its Memory Port sees it, and the commands that wait. -/
structure State where
  blk : Block
  mem : List Host.Cell
  /-- the model's own: commands not yet taken, oldest first -/
  pending : List Instr
  deriving DecidableEq, Repr

/-- The machine right after reset. -/
def State.reset : State := { blk := Block.reset, mem := [], pending := [] }

end Sys2Proof.Machine
end

