-- ==== Sys2Proof/Machine/Ops.lean ====
section
/-! DEFINITION. The named operations over the state that the meanings share: entries, events, free values, port
outputs, log records, memory writes. -/

namespace Sys2Proof.Machine
open Sys2Proof

/-! ### Outputs, writes, free values, the volatile log -/

/-- Cut bytes at the 256-byte blocks of memory (R334). -/
def cutBlocks : Nat → Nat → List Byte → List (Nat × List Byte)
  | 0, _, _ => []
  | n + 1, addr, bs =>
    let k := 256 - addr % 256
    if bs.isEmpty then [] else (addr, bs.take k) :: cutBlocks n (addr + k) (bs.drop k)

/-- A write of the Memory Port waits to be issued; `follows` is an address and a length that must have been written before. -/
def Block.write (b : Block) (addr : Nat) (bs : List Byte) (order : Nat := 2) (follows : Option (Nat × Nat) := none) (ring : Bool := false) : Block :=
  let ws := (cutBlocks (bs.length / 256 + 2) addr bs).map fun p => ({ addr := p.1, data := p.2, order, follows, ring } : WriteReq)
  { b with mp := { b.mp with writeWait := b.mp.writeWait ++ ws } }

/-- A unit asks for a structure in memory to be read, on its stream (R338). -/
def Block.ask (b : Block) (stream addr bytes : Nat) (use : MemRead) : Block :=
  { b with mp := if bytes = 0 then b.mp else { b.mp with asks := b.mp.asks ++ [{ stream, addr, bytes, use }] } }

/-- No read of a structure is asked for or outstanding. -/
def Block.readDone (b : Block) (use : MemRead) : Bool :=
  !(b.mp.asks.any fun a => a.use == use) && !(b.mp.reads.any fun r => r.use == use)

/-! ### W1C bits (R12) -/

/-- The W1C bits that events set: GROUP_EVENT, FAULT_STICKY, DP_STATUS of a data channel, OUT_STATUS of a mailbox channel, IRQ_CTL of a
session, KB_STATUS. The bits that only accesses set are not among them: accesses take effect in order (R351). -/
def w1cGroup (i : Nat) : Nat := i
def w1cSticky (i : Nat) : Nat := 8 + i
def w1cChannel (sec : Bool) (i : Nat) : Nat := (if sec then 40 else 32) + i
def w1cKey : Nat := 48
def w1cMailOut (c : Nat) : Nat := 96 + c
def w1cSession (s : Nat) : Nat := 128 + s

/-- An event sets a W1C bit at this moment. -/
def Block.noteSet (b : Block) (key : Nat) : Block := { b with setAt := Tab.set key b.now b.setAt }

/-- A W1C bit after a write that carries `one`: a bit that an event has set at the same moment stays set (R12). -/
def Block.cleared (b : Block) (key : Nat) (old one : Bool) : Bool := old && (!one || Tab.get? key b.setAt == some b.now)

/-- Drive something on a port; under WS_SAFE every output keeps its reset value (R372). -/
def Block.emit (b : Block) (o : Out) : Block := { b with out := if b.sb.safe then b.out else b.out ++ [o] }

/-- The FAULT_STICKY bit of an event code (Table 19-6, R497). -/
def stickyBit (code : Nat) : Option Nat :=
  if code = 0x0100 then some 0 else if code = 0x0101 || code = 0x0102 || code = 0x0103 then some 1
  else if code = 0x0110 then some 2 else if code = 0x0120 then some 3 else if code = 0x0121 then some 4
  else if code = 0x0131 then some 5 else if code = 0x0104 then some 6 else if code = 0x0190 then some 7
  else if code = 0x0150 then some 8 else none

/-- A bit of FAULT_STICKY is set for an event that an instance of the group has reported (R497). -/
def Block.noteSticky (b : Block) (i : Nat) : Block :=
  { b with flt := { b.flt with sticky := b.flt.sticky ||| 2 ^ i }, setAt := Tab.set (w1cSticky i) b.now b.setAt }

/-- A record of the volatile log (Table 15-7): SOURCE, event code, SEVERITY and arguments. -/
def Block.logRec (b : Block) (source code sev : Nat) (args : List Nat := []) : Block :=
  { b with
    vlog := b.vlog ++ [{ time := b.now, source, code, sev, args, agent := b.agent, rank := b.cp.rank }]
    flt := { b.flt with sticky := match stickyBit code with
      | some i => b.flt.sticky ||| 2 ^ i
      | none => b.flt.sticky }
    setAt := match stickyBit code with
      | some i => Tab.set (w1cSticky i) b.now b.setAt
      | none => b.setAt }

/-- n bytes the manual does not fix. -/
def Block.freeBytes (b : Block) (n : Nat) : List Byte × Block :=
  ((List.range n).map fun k => Config.freeByte b.fresh k, { b with fresh := b.fresh + 1 })

/-- A number below m that the manual does not fix. -/
def Block.freeNat (b : Block) (m : Nat) : Nat × Block :=
  (Config.freeNat b.fresh % max 1 m, { b with fresh := b.fresh + 1 })

/-! ### Roles and models -/

/-- This instance holds the lead role. -/
def Block.isLead (b : Block) : Bool := b.cp.leadRank == b.cp.rank

/-- An instance that has never run in a group and whose DIAG is FAIL takes no part in formation (R474, R475). -/
def Block.unfit (b : Block) : Bool := b.cp.fresh && b.flt.diag == 3

/-- The group runs: RUNNING, or its first junction is being agreed after FORM_COMMIT (R481). -/
def Block.running (b : Block) : Bool :=
  b.cp.state == .running || (b.cp.state == .forming && !b.unfit && b.form.any fun f => f.committed)

def isDraftLoad (l : LoadParams) : Bool := bit l.loadFlags 3

/-- The ACTIVE main model. -/
def Block.mainModel (b : Block) : Option (Nat × Descriptor) := b.mdl.active.find? fun d => !isDraftLoad d.2.load

/-- The ACTIVE draft model. -/
def Block.draftModel (b : Block) : Option (Nat × Descriptor) := b.mdl.active.find? fun d => isDraftLoad d.2.load

/-- G, the page size in tokens (R96); 1 while no model is loaded. -/
def Block.pageTokens (b : Block) : Nat := match b.mainModel with
  | some (_, d) => max 1 d.load.pageTokens
  | none => 1

def Block.kvMin (b : Block) : Nat := match b.mainModel with
  | some (_, d) => d.load.kvMinPages
  | none => 0

/-- RHIZOME_SCOPE (R109). -/
def Block.scope (b : Block) : Nat := match b.mainModel with
  | some (_, d) => bits d.load.loadFlags 5 4
  | none => 0

def Block.ctlBase (b : Block) : Nat := match b.mainModel with
  | some (_, d) => d.stage.ctlBase
  | none => 0

def Block.treeBase (b : Block) : Nat := match b.mainModel with
  | some (_, d) => d.stage.treeBase
  | none => 0

/-- SCRATCH_MAX (R101). -/
def Block.scratchMax (b : Block) : Nat := ceilDiv 64 b.pageTokens

/-- PL_STRIDE (R101). -/
def plStride (maxContext g : Nat) : Nat := 64 * ceilDiv (4 * (maxContext / g + ceilDiv 16 g + 1 + ceilDiv 64 g - 12)) 64

/-- LIST_BASE of a slot (R101). -/
def Block.listBase (b : Block) (slot : Nat) : Nat :=
  Config.structBase 2 b.ctlBase + slot * plStride b.mdl.maxContext b.pageTokens

/-- PENALTY_SLAB_PTR of a slot (R160). -/
def Block.slabPtr (b : Block) (slot : Nat) : Nat := Config.structBase 1 b.ctlBase + slot * 8192

/-- The address of a transcript granule (R41). -/
def Block.transcriptPtr (b : Block) (granule : Nat) : Nat := Config.structBase 3 b.ctlBase + granule * 4096

/-- The address of a strain pool granule (R88). -/
def Block.strainPtr (b : Block) (granule : Nat) : Nat := Config.structBase 5 b.ctlBase + granule * 4096

/-! ### Entries -/

def slotOf (handle : Nat) : Nat := handle % 1048576
def tagOf (handle : Nat) : Nat := handle / 1048576
def mkHandle (tag slot : Nat) : Nat := (tag % 4096) * 1048576 + slot

/-- The entry of a slot; FREE where none is listed. -/
def Block.ent (b : Block) (slot : Nat) : Entry := Tab.getD slot {} b.gr.entries

def Block.setEnt (b : Block) (slot : Nat) (e : Entry) : Block :=
  { b with gr := { b.gr with entries := Tab.set slot e b.gr.entries } }

def Block.modEnt (b : Block) (slot : Nat) (f : Entry → Entry) : Block := b.setEnt slot (f (b.ent slot))

def Block.side (b : Block) (slot : Nat) : ReqSide := Tab.getD slot {} b.gr.side

def Block.modSide (b : Block) (slot : Nat) (f : ReqSide → ReqSide) : Block :=
  { b with gr := { b.gr with side := Tab.set slot (f (b.side slot)) b.gr.side } }

/-- The live entry that a handle names: slot in the table with the same tag (R30). -/
def Block.byHandle (b : Block) (h : Nat) : Option (Nat × Entry) :=
  match Tab.get? (slotOf h) b.gr.entries with
  | some e => if e.handle = h then some (slotOf h, e) else none
  | none => none

def Block.liveSlots (b : Block) : List Nat := Tab.keys b.gr.entries

/-- Live requests (R94): the entries that are not FREE. -/
def Block.liveCount (b : Block) : Nat := b.gr.entries.length

def Block.region (b : Block) (g : Nat) : Option Region := Tab.get? g b.gr.regions

def Block.modRegion (b : Block) (g : Nat) (f : Region → Region) : Block :=
  { b with gr := { b.gr with regions := Tab.modify g f b.gr.regions } }

/-- The transcript of an entry. -/
def Block.transcript (b : Block) (e : Entry) : List (Bool × Nat) := match b.region e.granule with
  | some r => r.tokens
  | none => []

/-- region(c) in granules (R91). -/
def regionGranules (c : Nat) : Nat := ceilDiv (256 + 4 * c) 4096

/-- TRANSCRIPT_CAP of a MAX_CONTEXT (R41). -/
def transcriptCapOf (c : Nat) : Nat := roundUp c 16

/-- Granules of the transcript pool (R41). -/
def Block.poolGranules (b : Block) : Nat := match b.mainModel with
  | some (_, d) => b.mdl.maxLive * regionGranules b.mdl.maxContext + d.load.transcriptExtra / 4096
  | none => 0

/-- Runs of granules in use, ascending. -/
def Block.usedGranules (b : Block) : List (Nat × Nat) := b.gr.regions.map fun (g, r) => (g, r.granules)

/-- Free transcript granules (Table 09-4). -/
def Block.freeGranules (b : Block) : Nat := b.poolGranules - (b.usedGranules.foldl (fun n p => n + p.2) 0)

/-- Allocate a region for an admission (R41, R42): its first granule. -/
def Block.allocRegion (b : Block) (p : AdmitParams) (session : Nat) : Option (Nat × Block) :=
  let n := regionGranules (transcriptCapOf p.maxContext)
  match lowestFit b.poolGranules n b.usedGranules with
  | none => none
  | some g =>
    let r : Region := { granules := n, cap := transcriptCapOf p.maxContext, record := { p with input := [] }
                        ownerSession := session, tokens := p.input.map fun t => (true, t % 16777216) }
    some (g, { b with gr := { b.gr with regions := Tab.set g r b.gr.regions } })

/-- A request's penalty slab is to be rebuilt at the next junction (R164). -/
def Block.slabBroken (b : Block) (handle : Nat) : Block :=
  { b with gr := { b.gr with slabErrors := if b.gr.slabErrors.contains handle then b.gr.slabErrors else b.gr.slabErrors ++ [handle] } }

def Block.freeRegion (b : Block) (g : Nat) : Block := { b with gr := { b.gr with regions := Tab.erase g b.gr.regions } }

/-! ### Rings and events (R54 to R58) -/

def ringBase (desc : Nat) : Nat := desc / 64 * 64
def ringSize (desc : Nat) : Nat := 2 ^ (desc % 64)

/-- PHASE of index i in a ring (R54): 1 while (i >> log2 size) is even. -/
def ringPhase (desc i : Nat) : Bool := (i / ringSize desc) % 2 == 0

def freeEvents (e : Entry) : Nat := ringSize e.eventRing - sub32 e.eventProd e.eventCons

def freeTokens (e : Entry) : Nat := ringSize e.tokenRing - sub32 e.tokenProd e.tokenCons

/-- An event ring entry as bytes (Table 02-8). -/
def eventBytes (desc i : Nat) (ev : Event) : List Byte :=
  le 2 ev.code ++ le 1 (128 * b2n (ringPhase desc i)) ++ zeros 1 ++ le 4 ev.handle ++ le 8 ev.time ++
  le 4 ev.arg0 ++ le 4 ev.arg1 ++ le 8 ev.arg2

/-- Write an event at an entry's producer index; only the lead writes rings (R16), and none in Buffer Stop. -/
def Block.putEvent (b : Block) (e : Entry) (ev : Event) : Block × Entry :=
  let i := e.eventProd
  let addr := ringBase e.eventRing + i % ringSize e.eventRing * 32
  let bs := eventBytes e.eventRing i ev
  let b := if b.isLead && b.running then b.write addr bs 0 none true else b
  ({ b with gr := { b.gr with lastEvents := b.gr.lastEvents ++ [(addr, e.eventRing, i, ev)] } },
   { e with eventProd := add32 i 1 })

/-- Post an event other than END for an entry (R58). -/
def Block.postTo (b : Block) (e : Entry) (ev : Event) : Block × Entry :=
  let n := freeEvents e
  if n ≥ 2 then b.putEvent e ev
  else
    let (b, e) := if n = 1 then b.putEvent e { code := 6, handle := ev.handle, time := ev.time } else (b, e)
    (b, { e with eventsDropped := satInc 65535 e.eventsDropped })

/-- Post an event of a slot's request; none follows its END (R58). -/
def Block.post (b : Block) (slot : Nat) (ev : Event) : Block :=
  if (b.side slot).ended then b else
  let (b, e) := b.postTo (b.ent slot) ev
  b.setEnt slot e

/-- Post the END event of a slot's request, holding it where the ring has no free entry (R58). -/
def Block.postEnd (b : Block) (slot : Nat) (ev : Event) : Block :=
  let e := b.ent slot
  let b := b.modSide slot fun x => { x with ended := true }
  if freeEvents e ≥ 1 then
    let (b, e) := b.putEvent e ev
    b.setEnt slot e
  else b.modSide slot fun x => { x with heldEnd := some ev }

/-- After a consumer report: a held END is written first (R58). -/
def Block.flushEnd (b : Block) (slot : Nat) : Block :=
  match (b.side slot).heldEnd with
  | some ev =>
    if freeEvents (b.ent slot) ≥ 1 then
      let (b, e) := b.putEvent (b.ent slot) ev
      (b.setEnt slot e).modSide slot fun x => { x with heldEnd := none }
    else b
  | none => b

/-! ### Tenants and classes -/

/-- The reset configuration of a tenant (Table 03-6). -/
def tenantReset (i : Nat) : TenantCfg :=
  { flags := if i = 0 then 7 else 0, maxLive := 0, prefillRate := 0, prefillBurst := 0, genRate := 0, genBurst := 0 }

def Block.tenant (b : Block) (i : Nat) : TenantState := Tab.getD i { cfg := tenantReset i } b.pol.tenants

def Block.modTenant (b : Block) (i : Nat) (f : TenantState → TenantState) : Block :=
  { b with pol := { b.pol with tenants := Tab.set i (f (b.tenant i)) b.pol.tenants } }

def tenantEnabled (c : TenantCfg) : Bool := bit c.flags 0
def prefillUnlimited (c : TenantCfg) : Bool := bit c.flags 1
def genUnlimited (c : TenantCfg) : Bool := bit c.flags 2

def Block.cls (b : Block) (i : Nat) : ClassState := b.pol.classes.getD i ⟨classReset, 0, 0⟩

def Block.modClass (b : Block) (i : Nat) (f : ClassState → ClassState) : Block :=
  { b with pol := { b.pol with classes := b.pol.classes.modify i f } }

def classOf (classPrio : Nat) : Nat := bits classPrio 6 4
def baseLevel (classPrio : Nat) : Nat := classPrio % 16

/-- Count a missed deadline of a request (R73 to R75). -/
def Block.countMiss (b : Block) (slot : Nat) : Block :=
  let t := (b.ent slot).tenant
  (b.modEnt slot fun e => { e with deadlinesMissed := satInc 65535 e.deadlinesMissed }).modTenant t fun s =>
    { s with counters := { s.counters with deadlineMisses := s.counters.deadlineMisses + 1 } }

/-! ### Strains -/

/-- The READY version of a strain. -/
def Block.readyStrain (b : Block) (desc strain : Nat) : Option StrainVersion :=
  b.pol.strains.find? fun v => v.descriptor == desc && v.strain == strain && v.state == .ready

/-- References to a version (R89): the live requests, the firmware queue's among them, that pin it. -/
def Block.strainRefs (b : Block) (desc strain version : Nat) : Nat :=
  let pins := fun (e : Entry) => e.flags.strainEn && e.models % 16 == desc && e.strain == strain && e.strainVersion == version
  ((Tab.vals b.gr.entries).filter pins).length +
  (b.gr.fwQueue.filter fun f => match f.moved with
    | some e => pins e
    | none => match b.region f.granule with
      | some r => bit r.record.admitFlags 1 && r.record.models % 16 == desc && r.record.strain == strain &&
          f.strainVersion == version
      | none => false).length

end Sys2Proof.Machine
end

