-- ==== Sys2Proof/Machine/Encode.lean ====
section
/-! DEFINITION. The layouts of the manual as bytes: Granary entries, command packets, the junction log. -/

namespace Sys2Proof.Machine
open Sys2Proof

def ReqState.code : ReqState → Nat
  | .free => 0 | .admitting => 1 | .queued => 2 | .prefill => 3 | .decode => 4 | .siding => 5 | .waking => 6
  | .draining => 7 | .done => 8 | .lost => 9 | .rebuild => 10 | .fwtracked => 11

/-- FLAGS (Table 02-3). -/
def flagsCode (f : EntryFlags) (p : PendingBits) : Nat :=
  ofBools [p.append, p.cancel, p.trunc, p.pause, f.rebuilt, f.fromFwtrack, f.penaltyOvf, f.specPlain, f.specEn,
    f.strainEn, f.voiceReserve, f.inputOpen, f.autoFree]

/-- SAMPLING, 24 bytes (Table 11-9). -/
def samplingBytes (p : Sampling) : List Byte :=
  le 4 p.temperature.toNat ++ le 4 p.topP.toNat ++ le 4 p.minP.toNat ++ le 4 p.repetition.toNat ++
  le 4 p.presence.toNat ++ le 4 p.frequency.toNat

/-- A Granary entry, 256 bytes (Table 02-1). -/
def Block.entryBytes (b : Block) (slot : Nat) (e : Entry) (p : PendingBits := {}) : List Byte :=
  le 4 e.handle ++ le 1 e.state.code ++ le 1 e.endReason ++ le 2 (flagsCode e.flags p) ++
  le 2 e.tenant ++ le 1 e.classPrio ++ le 1 e.effectivePrio ++ le 1 e.models ++ le 1 e.deadlineMode ++ le 2 e.strain ++
  le 8 e.admitTime ++ le 8 e.nextDeadline ++ le 4 e.cadencePeriod ++ le 2 e.deadlinesMissed ++ zeros 2 ++
  le 4 e.committedLen ++ le 4 e.transcriptLen ++ le 4 e.genCount ++ le 4 e.maxGen ++ le 4 e.emitCount ++
  le 2 e.specTailLen ++ le 1 e.treeWidth ++ le 1 e.treeDepth ++
  le 8 (if e.pages.length > 12 then b.listBase slot else 0) ++
  ((List.range 12).flatMap fun i => le 4 (e.pages.getD i 0xFFFFFFFF)) ++
  le 4 e.pages.length ++ le 2 e.sharedPages ++ le 1 e.tier ++ zeros 1 ++ le 8 e.sidingExpiry ++
  le 8 (b.transcriptPtr e.granule) ++ le 4 e.transcriptCap ++ le 2 e.strainVersion ++ zeros 2 ++ le 8 e.seed ++
  samplingBytes e.sampling ++ le 2 e.sampling.topK ++ le 1 e.sampling.sampleMode ++ zeros 1 ++ le 4 e.stopToken ++
  le 8 (b.slabPtr slot) ++ le 2 e.acceptEma ++ le 1 e.zeroAcceptRun ++ le 1 e.probeCountdown ++ le 4 e.stepsVerified ++
  le 4 e.tokensAccepted ++ le 2 e.lostCount ++ zeros 2 ++ le 8 e.tokenRing ++ le 4 e.tokenProd ++ le 4 e.tokenCons ++
  le 8 e.eventRing ++ le 4 e.eventProd ++ le 4 e.eventCons ++ le 1 e.ownerSession ++ zeros 1 ++ le 2 e.eventsDropped ++
  le 4 e.lastJunction

/-! ### Command parameters (Tables 11-8 to 11-17) -/

/-- A byte of flags of which bits from n on are reserved. -/
def flagByte (fill : Byte) (n : Nat) (v : Nat) : List Byte := [BitVec.ofNat 8 v ||| (fill <<< n)]

/-- The fixed part of REQ_ADMIT, 96 bytes; `owner` is byte 0x58 of an admission record (R42). -/
def admitBytes (p : AdmitParams) (owner : Nat := 0) (fill : Byte := 0) : List Byte :=
  le 2 p.tenant ++ le 1 p.classPrio ++ le 1 p.models ++ le 1 p.deadlineMode ++ le 1 p.sampling.sampleMode ++
  le 2 p.admitFlags ++ le 2 p.strain ++ le 2 p.sampling.topK ++ le 4 p.cadencePeriod ++ le 8 p.deadline ++ le 8 p.seed ++
  samplingBytes p.sampling ++ le 4 p.stopToken ++ le 4 p.maxGen ++ le 4 p.maxContext ++ le 4 p.inputCount ++
  le 8 p.tokenRing ++ le 8 p.eventRing ++ le 1 owner ++ rsv fill 7

/-- The record of a region with its tail, 256 bytes (R42, R300). -/
def regionHead (r : Region) : List Byte :=
  padTo 256 (admitBytes r.record r.ownerSession ++ le 4 r.setCount ++ le 4 (ofBools [r.inputClosed, r.fromFwtrack]) ++
    (if r.setCount = 0 then zeros 32 else samplingBytes r.setSampling ++ le 2 r.setSampling.topK ++ le 1 r.setSampling.sampleMode ++ zeros 5))

/-- A token entry as stored (R59). -/
def storedToken (t : Bool × Nat) : List Byte := le 4 (t.2 % 16777216 + 16777216 * b2n t.1)

/-- A penalty slab entry (Table 06-4). -/
def slabEntryBytes (e : Option SlabEntry) : List Byte := match e with
  | some e => le 8 (e.lastSeen + e.token * 134217728 + e.count * 2251799813685248 + 9223372036854775808)
  | none => zeros 8

def headBytes (h : ReqHead) : List Byte := le 4 h.handle ++ le 4 h.ticket

def specBytes (s : SpecBlock) (fill : Byte := 0) : List Byte :=
  le 1 s.depthMax ++ le 1 s.widthMax ++ le 1 s.nodesMax ++ le 1 s.depthLead ++ le 1 s.widthGain ++ le 1 s.drawWaitClass ++
  le 2 s.emaInit ++ rsv fill 24

def gleanBytes (g : GleanBlock) : List Byte := le 4 g.resendAfter ++ le 4 g.gleanTimeout

def loadBytes (p : LoadParams) (fill : Byte := 0) : List Byte :=
  le 8 p.junction ++ le 1 p.descriptor ++ le 1 p.loadFlags ++ le 1 p.shardCount ++ le 1 p.kvMinPages ++ le 4 p.vocabSize ++
  le 4 p.stepPositions ++ le 2 p.pageTokens ++ rsv fill 2 ++ le 4 p.maxContext ++ le 4 p.maxLive ++ le 8 p.strainPool ++
  le 4 p.tier1Pages ++ le 4 p.tier2Pages ++ le 4 p.rhizomeNodes ++ le 4 p.fwQueueDepth ++ le 4 p.idleInterval ++
  le 4 p.junctionWatchdog ++ le 4 p.templateCrc ++ le 4 p.mapCrc ++ specBytes p.spec fill ++ gleanBytes p.glean ++
  le 8 p.transcriptExtra ++ rsv fill 8

def stageBytes (p : StageParams) (fill : Byte := 0) : List Byte :=
  le 1 p.descriptor ++ le 1 p.shardCount ++ rsv fill 6 ++ le 8 p.memAvailable ++ le 8 p.w ++ le 8 p.pageBytes ++ le 8 p.kvBase ++
  le 8 p.tier1Base ++ le 8 p.tier2Base ++ le 8 p.ctlBase ++ le 8 p.gleanBase ++ le 8 p.logBase ++ le 8 p.treeBase ++ rsv fill 8

def modeBytes (p : ModeParams) (fill : Byte := 0) : List Byte :=
  le 8 p.junction ++ le 1 p.descriptor ++ le 1 p.flags ++ le 1 p.shardCount ++ rsv fill 5 ++ le 4 p.templateCrc ++ le 4 p.mapCrc ++
  specBytes p.spec fill ++ gleanBytes p.glean ++ le 4 p.stepPositions ++ le 4 p.idleInterval

def tenantBytes (t : Nat) (c : TenantCfg) (fill : Byte := 0) : List Byte :=
  le 2 t ++ le 1 c.flags ++ rsv fill 1 ++ le 2 c.maxLive ++ rsv fill 2 ++ le 4 c.prefillRate ++ le 4 c.prefillBurst ++ le 4 c.genRate ++
  le 4 c.genBurst

def classBytes (i : Nat) (c : ClassCfg) (fill : Byte := 0) : List Byte :=
  le 1 i ++ le 1 c.mode ++ le 1 c.ceiling ++ le 1 c.numThresh ++ ((List.range 3).flatMap fun k => le 4 (ofInt32 (c.thresh.getD k 0))) ++
  le 4 c.firstDue ++ le 2 c.chunkPos ++ le 1 c.weight ++ rsv fill 1 ++ le 2 c.shareMin ++ le 2 c.shareMax ++ le 4 c.shareQref ++
  le 4 (ofInt32 c.slackGuard) ++ le 4 c.reserveRate ++ le 4 c.reserveBurst ++ rsv fill 4

def globalBytes (g : GlobalPower) (fill : Byte := 0) : List Byte :=
  le 2 g.waveSize ++ le 2 g.waveInterval ++ le 2 g.ffLead ++ le 2 g.grantSettle ++ le 4 g.capGrace ++ le 4 g.capGraceUrgent ++
  le 2 g.recalErr ++ le 2 g.recalWindows ++ le 4 g.recalClear ++ le 1 g.onlineShift ++ rsv fill 1 ++ le 4 g.droopRampAfter ++ le 2 g.hardStuck

def railBytes (r : RailCfg) (fill : Byte := 0) : List Byte :=
  flagByte fill 1 (b2n r.enable) ++ le 1 r.hardThrottle ++ le 2 r.hardLimit ++ le 2 r.sustLimit ++ le 2 r.base ++ le 2 r.nominalMv ++
  le 2 r.capShare ++ le 2 r.slopeUp ++ le 2 r.slopeDown ++ le 2 r.bandHi ++ le 2 r.guardBase ++ le 2 r.guardStep ++
  le 2 r.guardMax ++ le 2 r.hardRelease ++ rsv fill 6

def platformBytes (p : PlatformEntry) (fill : Byte := 0) : List Byte := le 2 p.setMask ++ le 1 p.kind ++ le 1 p.engineGroup ++ flagByte fill 1 (b2n p.inService) ++ rsv fill 3

/-- OPCODE of a parameter layout (Table 11-7). -/
def opcodeOf : Params → Nat
  | .sessionOpen .. => 0x0001 | .sessionConfirm .. => 0x0002 | .sessionClose => 0x0003 | .capQuery => 0x0004
  | .groupQuery => 0x0005 | .keyProvision .. => 0x0006 | .modelLoad .. => 0x0101 | .modelQuery .. => 0x0102
  | .modelStage .. => 0x0103 | .modelUnload .. => 0x0104 | .strainLoad .. => 0x0105 | .strainDrop .. => 0x0106
  | .tenantConfig .. => 0x0107 | .classConfig .. => 0x0108 | .reqAdmit .. => 0x0201 | .reqAppend .. => 0x0202
  | .reqTruncate .. => 0x0203 | .reqCancel .. => 0x0204 | .reqPause .. => 0x0205 | .reqResume .. => 0x0206
  | .reqFree .. => 0x0207 | .reqSetSampling .. => 0x0208 | .reqQuery .. => 0x0209 | .powerConfig .. => 0x0301
  | .powerCalibrate .. => 0x0302 | .powerCap .. => 0x0303 | .modeSet .. => 0x0401 | .linkMap .. => 0x0402
  | .maintWindow .. => 0x0403 | .platformMap .. => 0x0404 | .counterRead .. => 0x0501 | .traceConfig .. => 0x0502
  | .censusConfig .. => 0x0503 | .tensorDump .. => 0x0504 | .hangDump .. => 0x0505 | .logRead .. => 0x0506
  | .bufferStop .. => 0x0601 | .recover .. => 0x0602 | .faultQuery => 0x0603 | .other op _ => op

/-- The parameters as the packet carries them, padded to 8 bytes (R284), with `fill` in every reserved bit. -/
def paramBytes (x : Params) (fill : Byte := 0) : List Byte := match x with
  | .sessionOpen t ma mi n => le 2 t ++ le 1 ma ++ le 1 mi ++ rsv fill 4 ++ padTo 32 n
  | .sessionConfirm p => padTo 32 p
  | .sessionClose | .capQuery | .groupQuery | .faultQuery => []
  | .keyProvision k i w f => le 1 k ++ rsv fill 1 ++ le 2 i ++ rsv fill 4 ++ padTo 40 w ++ le 4 f ++ rsv fill 20
  | .modelLoad p => loadBytes p fill
  | .modelQuery d => le 1 d ++ rsv fill 7
  | .modelStage p => stageBytes p fill
  | .modelUnload j d => le 8 j ++ le 1 d ++ rsv fill 7
  | .strainLoad d s z c o => le 1 d ++ rsv fill 1 ++ le 2 s ++ le 4 z ++ le 4 c ++ le 4 o
  | .strainDrop d s v => le 1 d ++ rsv fill 1 ++ le 2 s ++ le 2 v ++ rsv fill 2
  | .tenantConfig t c => tenantBytes t c fill
  | .classConfig i c => classBytes i c fill
  | .reqAdmit p => pad8 (admitBytes p fill.toNat fill ++ p.input.flatMap fun t => le 4 t) fill
  | .reqAppend h f n ts => pad8 (headBytes h ++ le 2 f ++ rsv fill 2 ++ le 4 n ++ ts.flatMap fun t => le 4 t) fill
  | .reqTruncate h p => headBytes h ++ le 4 p ++ rsv fill 4
  | .reqCancel h | .reqResume h | .reqFree h | .reqQuery h => headBytes h
  | .reqPause h t ttl => headBytes h ++ le 1 t ++ rsv fill 7 ++ le 8 ttl
  | .reqSetSampling h p => headBytes h ++ samplingBytes p ++ le 2 p.topK ++ le 1 p.sampleMode ++ rsv fill 5
  | .powerConfig p =>
    le 2 (maskOf (Tab.keys p.rails)) ++ flagByte fill 2 (b2n p.globalBlock.isSome + 2 * b2n p.groups.isSome) ++ rsv fill 5 ++
    (match p.globalBlock with
      | some g => globalBytes g fill
      | none => []) ++
    (p.rails.flatMap fun r => railBytes r.2 fill) ++
    (match p.groups with
      | some l => l.flatMap fun g => le 1 g.rail ++ rsv fill 1 ++ le 2 g.fullCurrent
      | none => [])
  | .powerCalibrate r bh es => le 1 r ++ rsv fill 1 ++ le 2 bh ++ rsv fill 4 ++ es.flatMap fun e => rsv fill 2 ++ le 2 e.durNs ++ rsv fill 2 ++ le 2 e.itemCurrent
  | .powerCap c => le 2 c ++ rsv fill 6
  | .modeSet p => modeBytes p fill
  | .linkMap n rs => le 2 n ++ rsv fill 6 ++ rs.flatMap fun d => (List.range 4).flatMap fun r =>
      (List.range 8).flatMap fun k => le 2 ((d.getD r []).getD k 0xFFFF)
  | .maintWindow n ls => pad8 (le 2 n ++ rsv fill 6 ++ ls.flatMap fun l => le 2 l) fill
  | .platformMap f n rd es => le 2 f ++ le 2 n ++ flagByte fill 1 (b2n rd) ++ rsv fill 3 ++ es.flatMap fun e => platformBytes e fill
  | .counterRead s f n => le 2 s ++ rsv fill 2 ++ le 4 f ++ le 4 n ++ rsv fill 4
  | .traceConfig m a n => le 4 m ++ rsv fill 4 ++ le 8 a ++ le 4 n ++ rsv fill 4
  | .censusConfig e i a n => le 1 e ++ rsv fill 3 ++ le 4 i ++ le 8 a ++ le 4 n ++ rsv fill 4
  | .tensorDump l o h s a n => le 2 l ++ le 2 o ++ le 4 h ++ le 8 s ++ le 8 a ++ le 4 n ++ rsv fill 4
  | .hangDump a n w => le 8 a ++ le 4 n ++ flagByte fill 1 (b2n w) ++ rsv fill 3
  | .logRead l f n => pad8 (le 1 l ++ rsv fill 3 ++ le 4 f ++ le 4 n) fill
  | .bufferStop r => le 4 r ++ rsv fill 4
  | .recover i rb cb => le 4 i ++ flagByte fill 2 (ofBools [rb, cb]) ++ rsv fill 3
  | .other _ raw => raw

/-- A layout with what stands in its reserved bits: `zero` and `ones` are the layout with 0 and with 1 in each of them (R13). -/
def overlay : List Byte → List Byte → List Byte → List Byte
  | zero, _, [] => zero
  | x :: zero, y :: ones, r :: rs => (x ||| ((x ^^^ y) &&& r)) :: overlay zero ones rs
  | zero, _, _ => zero

/-- Parameters as received (R290): `r` is what stands in their reserved bits. -/
def paramsAs (p : Params) (r : List Byte) : List Byte := overlay (paramBytes p) (paramBytes p 0xFF) r

/-- The header of a packet (Table 11-3). -/
def packetHeader (p : Packet) (fill : Byte := 0) : List Byte :=
  le 2 (opcodeOf p.params) ++ le 1 p.version ++ rsv fill 1 ++ le 1 p.session ++ rsv fill 3 ++ le 8 p.seq ++ le 4 p.paramLen ++ rsv fill 12

/-- What the MAC covers (R284), reserved bits as they stand in the packet (R13). -/
def packetMacBytes (p : Packet) : List Byte :=
  let n := p.paramLen
  overlay (packetHeader p ++ padTo n ((paramBytes p.params).take n)) (packetHeader p 0xFF ++ padTo n ((paramBytes p.params 0xFF).take n)) p.rsvd

/-! ### The junction log (Tables 09-1, 09-2, 11-6, 03-2, 03-3) -/

def recResultBytes : RecResult → List Byte
  | .none => []
  | .model l c n => le 4 l ++ le 4 c ++ le 4 n ++ zeros 4
  | .strainData d => pad8 d

def cmdRecordBytes (c : CmdRecord) : List Byte :=
  let p := pad8 (paramsAs c.params c.rsvd)
  let r := recResultBytes c.result
  le 2 (opcodeOf c.params) ++ le 1 c.session ++ zeros 1 ++ le 4 (24 + p.length + r.length) ++ le 8 c.acceptTime ++ le 8 c.assigned ++ p ++ r

def rowBytes (r : RowRec) : List Byte :=
  le 4 r.handle ++ le 1 (r.kind + 32 * b2n r.sample + 64 * b2n r.rebuild) ++ le 1 r.model ++ le 2 r.posCount ++ le 4 r.firstPos ++
  le 2 r.treeNode ++ le 2 r.strain ++ le 8 r.strainBase ++ le 1 (16 * r.cls + r.level) ++ zeros 7

def sumPos (rs : List RowRec) : Nat := rs.foldl (fun n r => n + r.posCount) 0

def distinctHandles (rs : List RowRec) : Nat := (rs.map (·.handle)).eraseDups.length

def consistBytes (c : Consist) : List Byte :=
  le 8 c.step ++ le 4 c.epoch ++ le 2 c.rows.length ++ le 2 (distinctHandles c.rows) ++ le 4 (sumPos c.rows) ++
  le 4 (sumPos (c.rows.filter fun r => r.kind == 1)) ++ le 4 c.stepEst ++ zeros 4 ++ c.rows.flatMap rowBytes

/-- TICKETS entries: the manual gives no bytes, so the model lays them out as their fields, in 8-byte words. -/
def ticketBytes : TicketRec → List Byte
  | .deferral t s a p => le 8 0 ++ le 8 t ++ le 8 s ++ le 8 a ++ pad8 (admitBytes p ++ p.input.flatMap fun x => le 4 x)
  | .admission t o h => le 8 1 ++ le 8 t ++ le 8 o ++ le 8 h

/-- A section with its header; none when it has no content (R222). -/
def sectionBytes (type : Nat) (content : List Byte) : List Byte :=
  if content.isEmpty then [] else let c := pad8 content; le 2 type ++ zeros 2 ++ le 4 (8 + c.length) ++ c

def logSections (l : JLog) : List (List Byte) :=
  [ sectionBytes 1 (match l.takeover with
      | some (old, re) => le 8 (old + 65536 * b2n re)
      | none => []),
    sectionBytes 2 (l.commands.flatMap cmdRecordBytes),
    sectionBytes 3 (l.tickets.flatMap ticketBytes),
    sectionBytes 4 (l.consumer.flatMap fun c => le 4 c.1 ++ le 4 c.2.1 ++ le 4 c.2.2),
    sectionBytes 5 (l.ringWrites.flatMap fun w => le 4 w.1 ++ le 8 w.2),
    sectionBytes 6 (l.losses.flatMap fun x => le 4 x.1 ++ le 4 x.2),
    sectionBytes 7 (l.banks.flatMap fun k => le 8 k),
    sectionBytes 8 (match l.mode with
      | some (e, d, n) => le 4 e ++ le 1 d ++ le 3 n
      | none => []),
    sectionBytes 9 (consistBytes l.consist),
    sectionBytes 10 (l.holds.flatMap fun h => le 4 h.1 ++ le 1 h.2 ++ zeros 3) ]

def logBytes (l : JLog) : List Byte :=
  let ss := (logSections l).filter fun s => !s.isEmpty
  let body := ss.flatten
  le 8 l.junction ++ le 4 l.leadTerm ++ le 2 l.leadRank ++ le 2 ss.length ++ le 4 (32 + body.length) ++ le 4 l.epoch ++
  le 8 l.closeTime ++ body

/-- LOG_CRC (Table 09-3). -/
def logCrc (l : JLog) : Nat := crc64 (logBytes l)

end Sys2Proof.Machine
end

