-- ==== Sys2Proof/Machine/Fabric.lean ====
section
/-! DEFINITION. The Fabric Port (chapter 12): messages cut into packets, credits, routes, own copies; unit counters
and trace records (chapter 17). -/

namespace Sys2Proof.Machine
open Sys2Proof

/-! ### Counters and trace (R450, R454 to R456) -/

/-- Raise a unit counter of Table 17-5. -/
def Block.count (b : Block) (id : Nat) (n : Nat := 1) : Block :=
  { b with obs := { b.obs with counters := Tab.upd id 0 (· + n) b.obs.counters } }

/-- A trace kind of Table 17-7 other than CORE is enabled: kinds 1 to 9, and 11. -/
def Block.scheduleTraced (b : Block) : Bool := bits b.obs.traceMask 9 1 != 0 || bit b.obs.traceMask 11

/-- Such a kind is enabled, or a census runs (R459). -/
def Block.perturbed (b : Block) : Bool := b.obs.censusOn || b.scheduleTraced

/-- Write the next trace record: TIME, KIND with PHASE, bytes 0x09 to 0x1F (R455, Table 17-7). -/
def Block.putTrace (b : Block) (time kind : Nat) (body : List Byte) : Block :=
  let i := b.obs.traceWrite
  let phase := (i / b.obs.traceCap) % 2 == 0
  let b := b.write (b.obs.traceAddr + 32 * (i % b.obs.traceCap)) (le 8 time ++ le 1 (kind + 128 * b2n phase) ++ padTo 23 body) 1
  { b with obs := { b.obs with traceWrite := add32 i 1 } }

/-- Records in the trace staging queue (R456). -/
def Block.staging (b : Block) : Nat := (b.mp.writeWait.filter fun w => w.order == 1).length

/-- A trace record of a kind with a TIME. It enters the staging queue with the others of its moment. -/
def Block.traceAt (b : Block) (time kind : Nat) (body : List Byte) : Block :=
  if b.obs.traceCap = 0 || !bit b.obs.traceMask kind then b
  else { b with obs := { b.obs with traced := b.obs.traced ++ [(time, kind, body)] } }

/-- A trace record enters the staging queue. One that finds it full is dropped and counted, and the next one written has a TRACE_LOSS
record before it (R456). -/
def Block.stageTrace (b : Block) (x : Nat × Nat × List Byte) : Block :=
  let lost := b.obs.traceLost
  if b.staging ≥ 2048 then { b with obs := { b.obs with traceLost := lost + 1 } }.count 29
  else
    let b := if lost = 0 then b else { b with obs := { b.obs with traceLost := 0 } }.putTrace b.now 11 (zeros 3 ++ le 4 lost)
    b.putTrace x.1 x.2.1 x.2.2

/-- The records of a command enter the staging queue: in the order of their times, those of one instant in ascending kind (R456). -/
def Block.stageTraces (b : Block) : Block :=
  let rs := sortBy (fun (x y : Nat × Nat × List Byte) => x.1 < y.1 || (x.1 == y.1 && x.2.1 < y.2.1)) b.obs.traced
  rs.foldl Block.stageTrace { b with obs := { b.obs with traced := [] } }

/-- Enter a trace record of this moment. -/
def Block.trace (b : Block) (kind : Nat) (body : List Byte) : Block := b.traceAt b.now kind body

/-! ### Classes and lengths (Tables 12-13, 12-14) -/

def formBodyBytes : Nat := 80

/-- The class of a message (Table 12-13). -/
def Msg.cls : Msg → Nat
  | .ready .. | .digest .. | .takeover .. | .takeoverAck .. => 1
  | .log _ | .logResend .. => 2
  | .gleanData .. | .gleanVerdict .. | .gleanResendReq .. => 3
  | .halt .. => 5
  | .linkmap .. => 6
  | _ => 4

/-- Bytes of a message. -/
def Msg.size : Msg → Nat
  | .log l => (logBytes l).length
  | .gleanData _ _ _ r => 64 + 8 * r.k
  | .gleanVerdict .. => 48
  | .gleanResendReq .. => 16
  | .propose _ c => 40 + (paramBytes c.params).length
  | .prepared .. => 56
  | .refused .. => 40
  | .capReport .. | .capSet .. | .lossReport .. => 48
  | .formReport _ | .formCommit .. => 32 + formBodyBytes
  | .roster _ _ _ es => 32 + 80 * es.length
  | _ => 48

/-! ### Layouts of the messages (Tables 07-2, 07-3, 09-3, 10-5, 12-12, 12-14, 12-15, 16-2, 16-7, 18-3) -/

/-- A JUNCTION packet's payload but for its last three words. -/
def junctionHead (rank j term kind : Nat) : List Byte := le 8 j ++ le 4 term ++ le 1 kind ++ zeros 1 ++ le 2 rank

def gleanHead (rank step row kind fmt body want : Nat) : List Byte :=
  le 4 step ++ le 2 row ++ le 1 kind ++ le 1 fmt ++ le 2 rank ++ le 2 body ++ le 1 want ++ zeros 3

def verdictBytes (v : Verdict) : List Byte := le 1 v.outcome ++ zeros 7 ++ le 8 v.used ++ le 8 v.missing ++ le 8 v.digest

def epochBytes (kind : Nat) (h : EpochHead) : List Byte :=
  le 1 kind ++ le 3 h.proposal ++ le 4 h.leadTerm ++ le 4 h.epoch ++ zeros 4 ++ le 8 h.junction ++ zeros 8

def rosterBytes (x : RosterEntry) : List Byte :=
  le 4 x.handle ++ le 1 x.state ++ le 1 x.endReason ++ le 2 x.flags ++ le 4 x.granule ++ le 4 x.transcriptLen ++ le 4 x.genCount ++
  le 4 x.emitCount ++ le 4 x.tokenProd ++ le 4 x.tokenCons ++ le 4 x.eventProd ++ le 4 x.eventCons ++ le 8 x.admitTime ++
  le 8 x.nextDeadline ++ le 2 x.deadlinesMissed ++ le 2 x.lostCount ++ le 2 x.eventsDropped ++ le 2 x.strainVersion ++
  le 8 x.transcriptCrc ++ zeros 8

/-- A head with only a term, an epoch and a junction (R479). -/
def formHead (term epoch junction : Nat) : EpochHead := { source := 0, proposal := 0, leadTerm := term, epoch, junction }

/-- A message as its sender puts it into payloads. -/
def Msg.bytes (rank : Nat) : Msg → List Byte
  | .ready j term t crc seq => junctionHead rank j term 0 ++ le 8 t ++ le 8 crc ++ le 4 seq ++ zeros 12
  | .digest j term d => junctionHead rank j term 1 ++ le 8 d ++ zeros 24
  | .takeover j term old last => junctionHead rank j term 2 ++ le 8 old ++ le 8 last ++ zeros 16
  | .takeoverAck j term last copies => junctionHead rank j term 3 ++ le 8 last ++ le 8 copies ++ zeros 16
  | .log l => logBytes l
  | .logResend _ first count => le 2 first ++ le 2 count ++ zeros 44
  | .gleanData row step fmt r => gleanHead rank step row 0 fmt (48 + 8 * r.k) 0 ++ partialBytes r
  | .gleanVerdict row step v => gleanHead rank step row 1 0 32 0 ++ verdictBytes v
  | .gleanResendReq row step want => gleanHead rank step row 2 0 0 want
  | .propose h c => epochBytes 1 h ++ le 2 (opcodeOf c.params) ++ zeros 6 ++ paramsAs c.params c.rsvd
  | .prepared h mem page fixed => epochBytes 2 h ++ le 8 mem ++ le 8 page ++ le 8 fixed
  | .refused h status detail => epochBytes 3 h ++ le 2 status ++ zeros 2 ++ le 4 detail
  | .capReport h cap seq => epochBytes 4 h ++ le 2 cap ++ le 2 rank ++ le 4 seq ++ zeros 8
  | .capSet h cap seq effective low => epochBytes 5 h ++ le 2 cap ++ le 2 low ++ le 4 seq ++ le 8 effective
  | .lossReport h r => epochBytes 6 h ++ le 4 r.handle ++ le 1 r.cause ++ le 1 (b2n r.bankReport) ++ le 1 r.bank ++ zeros 9
  | .formReport r => epochBytes 7 (formHead r.highestTerm r.epoch r.junction) ++ le 4 r.recoverId ++ le 2 r.n ++ le 1 r.resumeHint ++
      le 1 (b2n r.oldState) ++ le 8 r.lastDigest ++ le 64 (maskOf r.barred)
  | .formCommit term c => epochBytes 8 (formHead term 0 0) ++ le 4 c.recoverId ++ le 2 c.n ++ le 1 c.resumeKind ++ zeros 1 ++ le 8 c.firstJunction ++
      le 4 c.leadTerm ++ le 2 c.leadRank ++ zeros 58
  | .roster term _ _ es => epochBytes 9 (formHead term 0 0) ++ es.flatMap rosterBytes
  | .halt source cause _ _ time => le 4 cause ++ le 2 source ++ zeros 2 ++ le 8 time ++ zeros 32
  | .linkmap link rank time => le 4 link ++ le 2 rank ++ zeros 2 ++ le 8 time ++ zeros 32

/-- A packet of a message: header, PKT_CRC and 48 bytes of it (Table 12-12). -/
def packetBytes (rank : Nat) (dest : Option Nat) (cls frag count msgId : Nat) (m : Msg) : List Byte :=
  let request := match m with
    | .logResend .. => true
    | _ => false
  let head := le 1 cls ++ le 1 (ofBools [frag == 0, frag + 1 == count, dest.isNone, request]) ++ le 2 rank ++ le 2 (dest.getD 0x1FF) ++
    le 2 frag ++ le 4 msgId
  let body := padTo 48 ((m.bytes rank).drop (48 * frag))
  head ++ le 4 (crc32c (head ++ body)) ++ body

/-- PKT_CRC of the 64 bytes of a packet is that of its header and payload (Table 12-12). -/
def packetIntact (p : List Byte) : Bool := p.length == 64 && ofLe ((p.drop 12).take 4) == crc32c (p.take 12 ++ p.drop 16)

/-! ### Routes (R242 to R244) -/

/-- The links of a route to a rank; none where it is absent. -/
def Block.routeLinks (b : Block) (dest r : Nat) : Option (List Nat) :=
  match ((b.fab.routes.getD dest []).getD r []) with
  | [] => none
  | l :: ls => if l = 0xFFFF then none else some ((l :: ls).filter fun x => x != 0xFFFF)

/-- A route to a rank is in service. -/
def Block.routeUp (b : Block) (dest r : Nat) : Bool := match b.routeLinks dest r with
  | none => false
  | some ls => !(ls.any fun l => b.fab.linksOut.contains l)

/-- The lowest route in service to a rank. -/
def Block.lowRoute (b : Block) (dest : Nat) : Option Nat := (List.range 4).find? fun r => b.routeUp dest r

def Block.peers (b : Block) : List Nat := (List.range b.cp.n).filter fun r => r != b.cp.rank

/-- The lowest route in service to every rank. -/
def Block.bcastRoute (b : Block) : Option Nat := (List.range 4).find? fun r => b.peers.all fun d => b.routeUp d r

/-! ### Sending -/

/-- Cut a message into packets for a destination (none: broadcast) and queue them; a broadcast and a message to the own
rank end with the own copy (R341, R342). -/
def Block.send (b : Block) (dest : Option Nat) (m : Msg) : Block :=
  let c := m.cls
  let id := match m with
    | .log l => l.junction % 4294967296
    | .logResend j _ _ => j % 4294967296
    | _ => b.fab.msgIds.getD c 0
  let n := max 1 (ceilDiv m.size 48)
  let own := ({ cls := c, dest := some b.cp.rank, route := none, frag := 0, count := 1, msgId := id, msg := m } : TxPacket)
  let external := if dest = some b.cp.rank || (dest.isNone && b.peers.isEmpty) then []
    else (List.range n).map fun i => ({ cls := c, dest, route := none, frag := i, count := n, msgId := id, msg := m } : TxPacket)
  let mine := if dest.isNone || dest = some b.cp.rank then [own] else []
  { b with fab := { b.fab with
      queue := b.fab.queue ++ external ++ mine
      msgIds := if c = 2 then b.fab.msgIds else b.fab.msgIds.set c (add32 (b.fab.msgIds.getD c 0) 1) } }

/-- HALT to every rank on every route still in service, as unicast packets (R345). -/
def Block.sendHalt (b : Block) (cause : Nat) : Block :=
  let m := Msg.halt b.cp.rank cause b.cp.rank 0 b.now
  let ps := b.peers.flatMap fun d => (List.range 4).filterMap fun r =>
    if b.routeUp d r then some ({ cls := 5, dest := some d, route := some r, frag := 0, count := 1
                                  msgId := b.fab.msgIds.getD 5 0, msg := m } : TxPacket) else none
  { b with fab := { b.fab with
      queue := b.fab.queue ++ ps, msgIds := b.fab.msgIds.set 5 (add32 (b.fab.msgIds.getD 5 0) 1) } }

/-- Whether a packet may go now: own copies need no credit; in Buffer Stop only HALT and LINKMAP are sent (R319, R340). -/
def Block.sendable (b : Block) (p : TxPacket) : Bool :=
  (b.running || p.cls == 5 || p.cls == 6 || (b.form.isSome && b.cp.state == .forming && !b.unfit)) &&
  (p.dest == some b.cp.rank || b.fab.credits.getD p.cls 0 > 0)

/-- The next packet to transmit, in the priority order of Table 12-13, and the queue without it. -/
def Block.nextPacket (b : Block) : Option (TxPacket × List TxPacket) :=
  [5, 1, 4, 6, 3, 2].findSome? fun c =>
    match b.fab.queue.find? fun p => p.cls == c with
    | some p => if b.sendable p then some (p, b.fab.queue.erase p) else none
    | none => none

/-- A packet as it leaves on a route. -/
def Block.packet (b : Block) (p : TxPacket) (dest : Option Nat) (route : Nat) : Out :=
  .packet p.cls dest route p.frag p.count p.msgId p.msg (packetBytes b.cp.rank dest p.cls p.frag p.count p.msgId p.msg)

/-- Transmit one packet: a credit is spent, a broadcast without a common route gains unicast copies (R341). -/
def Block.transmit (b : Block) (p : TxPacket) (rest : List TxPacket) : Block :=
  if p.dest = some b.cp.rank then { b with fab := { b.fab with queue := rest, selfIn := b.fab.selfIn ++ [p.msg] } }
  else
    let left := { b with fab := { b.fab with queue := rest } }
    let b := { left with fab := { left.fab with credits := b.fab.credits.modify p.cls (· - 1) } }
    match p.dest with
    | some d =>
      let r := p.route.orElse fun _ => b.lowRoute d
      match r with
      | some r => b.emit (b.packet p (some d) r)
      | none => left
    | none =>
      match b.bcastRoute with
      | some r => b.emit (b.packet p none r)
      | none =>
        let copies := (b.peers.filter fun d => !b.routeUp d 0).map fun d => { p with dest := some d }
        let b := b.emit (b.packet p none 0)
        { b with fab := { b.fab with queue := copies ++ b.fab.queue } }

/-- Transmit as long as credits allow. -/
def Block.pump : Nat → Block → Block
  | 0, b => b
  | n + 1, b => match b.nextPacket with
    | some (p, rest) => Block.pump n (b.transmit p rest)
    | none => b

def Block.pumpAll (b : Block) : Block :=
  Block.pump (b.fab.queue.length + b.fab.credits.foldl (· + ·) 0 + 1) b

/-- TX_CREDIT_RETURN (R340). -/
def Block.returnCredit (b : Block) (cls : Nat) : Block :=
  if cls = 0 || cls > 6 then b else { b with fab := { b.fab with credits := b.fab.credits.modify cls (· + 1) } }

/-- Receive stamps (R468). -/
def Block.viewed (b : Block) (src cls : Nat) : Block :=
  { b with fab := { b.fab with views := Tab.set (src * 8 + cls) b.now b.fab.views } }

end Sys2Proof.Machine
end

