-- ==== Sys2Proof/Machine/MemPort.lean ====
section
/-! DEFINITION. The Memory Port's request channels (R333 to R338): writes and reads as they are issued, their order, limits, tags
and streams. -/

namespace Sys2Proof.Machine
open Sys2Proof

/-- Two address ranges, each an address and a length, share a byte. -/
def overlaps (a n c m : Nat) : Bool := a < c + m && c < a + n

/-- The channel of an address (R334). -/
def channelOf (addr : Nat) : Nat := addr / 256 % 2

/-- Writes issued and not yet answered. -/
def Block.unanswered (b : Block) : List WriteReq := b.mp.writes0 ++ b.mp.writes1

/-! ### Writes -/

/-- The beats of a write: each line's 64 bytes as driven, its byte enables, MPc_WD_CRC (Table 12-8). -/
def writeBeats (w : WriteReq) : List (List Byte × Nat × Nat) :=
  let first := w.addr / 64
  let last := (w.addr + w.data.length - 1) / 64
  (List.range (last + 1 - first)).map fun l =>
    let at_ := fun i => 64 * (first + l) + i
    let on := (List.range 64).filter fun i => w.addr ≤ at_ i && at_ i < w.addr + w.data.length
    let data := (List.range 64).map fun i => if w.addr ≤ at_ i then w.data.getD (at_ i - w.addr) 0 else 0
    (data, maskOf on, crc32c data)

/-- Whether a write may be issued (R335, R336), where `held` waits before it: its channel has room, no write to its bytes is
unanswered or waits, what it must follow has been answered, and no write of its order and channel waits before it, but that one
reply never holds back another. -/
def Block.mayIssue (b : Block) (held : List WriteReq) (w : WriteReq) : Bool :=
  let busy := b.unanswered ++ held
  (if channelOf w.addr = 0 then b.mp.writes0 else b.mp.writes1).length < 256 &&
  !(busy.any fun x => overlaps x.addr x.data.length w.addr w.data.length) &&
  (match w.follows with
    | none => true
    | some (a, n) => !(busy.any fun x => overlaps x.addr x.data.length a n)) &&
  (w.order == 0 || !(held.any fun x => x.order == w.order && channelOf x.addr == channelOf w.addr))

/-- An outstanding read, as a write is issued: one of its lines notes it. -/
def ReadReq.note (w : WriteReq) (r : ReadReq) : ReadReq :=
  if r.left.any fun i => r.line + 64 * i < w.addr + w.data.length && w.addr < r.line + 64 * i + 64 then
    { r with written := r.written ++ [(w.addr, w.data.length)] } else r

/-- A write request leaves, with its beats. -/
def Block.issueWrite (b : Block) (w : WriteReq) : Block :=
  let b := { b with mp := { b.mp with reads := b.mp.reads.map (ReadReq.note w) } }
  let b := b.emit (.memWrite (channelOf w.addr) (w.addr / 64 * 64) ((w.addr + w.data.length - 1) / 64 + 1 - w.addr / 64) (writeBeats w))
  { b with posted := (w.addr, w.data) :: b.posted
           mp := if channelOf w.addr = 0 then { b.mp with writes0 := b.mp.writes0 ++ [w] } else { b.mp with writes1 := b.mp.writes1 ++ [w] } }

/-- Issue the writes that may go: ring and completion entries and replies first, then trace records, then the rest (R338, R456). -/
def Block.issueWrites (b : Block) : Block :=
  let ws := [0, 1, 2].flatMap fun o => b.mp.writeWait.filter fun w => w.order == o
  let r := ws.foldl (fun (x : Block × List WriteReq) w => if x.1.mayIssue x.2 w then (x.1.issueWrite w, x.2) else (x.1, x.2 ++ [w]))
    ({ b with mp := { b.mp with writeWait := [] } }, [])
  { r.1 with mp := { r.1.mp with writeWait := r.2 } }

/-! ### Reads -/

/-- The streams of Table 12-9 from priority 2 to priority 6. -/
def streamGroups : List (Nat × Nat) := [(32, 47), (0, 15), (60, 63), (16, 31), (48, 59)]

/-- The streams of group g in round-robin order, after the one served last. -/
def MemPort.order (m : MemPort) (g : Nat) : List Nat :=
  let lo := (streamGroups.getD g (0, 0)).1
  let hi := (streamGroups.getD g (0, 0)).2
  let ss := (List.range (hi + 1 - lo)).map (lo + ·)
  let last := m.served.getD g 0
  ss.filter (fun s => s > last) ++ ss.filter fun s => s ≤ last

/-- A free tag for a stream: one of its own 8, or a shared one. -/
def MemPort.freeTag (m : MemPort) (stream : Nat) : Option Nat :=
  ((List.range 8).map (8 * stream + ·) ++ (List.range 512).map (512 + ·)).find? fun t => !(m.reads.any fun r => r.tag == t)

/-- What one request takes of what is asked for: up to the end of the 256-byte block (R334). -/
def ReadAsk.take (a : ReadAsk) : Nat := min (256 - a.addr % 256) a.bytes

/-- The lines of a request: their number. -/
def ReadAsk.lines (a : ReadAsk) : Nat := (a.addr + a.take - 1) / 64 + 1 - a.addr / 64

/-- The first thing asked for on a stream may be read now (R335, R336, R338); in Buffer Stop nothing is read ahead (R319). -/
def Block.mayRead (b : Block) (a : ReadAsk) : Bool :=
  (b.mp.reads.filter fun r => r.stream == a.stream).length < 64 &&
  !((b.unanswered ++ b.mp.writeWait).any fun w => overlaps w.addr w.data.length (a.addr / 64 * 64) (64 * a.lines)) &&
  !(b.cp.state == .bufferStop && a.stream < 48)

/-- A unit waits for a structure: a walk for what it reads, a segment at the head of a port for its row's slab (R323). -/
def Block.waitedFor (b : Block) : MemRead → Bool
  | .walk _ => true
  | .slab h => b.thr.skid.any fun x => x.2.1.header.any fun y => b.cp.prevLog.any fun l => l.consist.rows[y.row]?.any fun r => r.handle == h
  | _ => false

/-- A read request leaves; PF where nothing waits for it yet. -/
def Block.issueRead (b : Block) (group tag : Nat) (a : ReadAsk) : Block :=
  let ahead := decide (a.stream < 48) && !b.waitedFor a.use
  let b := b.emit (.memRead (channelOf a.addr) (a.addr / 64 * 64) a.lines tag a.stream ahead)
  let asks := if a.bytes ≤ a.take then b.mp.asks.erase a
    else b.mp.asks.replace a { a with addr := a.addr + a.take, bytes := a.bytes - a.take }
  { b with mp := { b.mp with
      asks, served := b.mp.served.set group a.stream
      reads := b.mp.reads ++ [{ tag, stream := a.stream, line := a.addr / 64 * 64, use := a.use, left := List.range a.lines }] } }

/-- The request that goes next. -/
def Block.nextRead (b : Block) : Option Block :=
  (List.range 5).findSome? fun g => (b.mp.order g).findSome? fun s =>
    match b.mp.asks.find? fun a => a.stream == s with
    | none => none
    | some a => if b.mayRead a then (b.mp.freeTag s).map fun t => b.issueRead g t a else none

/-- Issue reads while any may go. -/
def Block.issueReads : Nat → Block → Block
  | 0, b => b
  | n + 1, b => if b.mp.asks.isEmpty then b else match b.nextRead with
    | none => b
    | some c => Block.issueReads n c

/-- The request channels take what may go: writes, then reads (R338). -/
def Block.memPump (b : Block) : Block := Block.issueReads 1024 b.issueWrites

/-- A line of a read has transferred; its tag is free after the last (R335). The read, where the tag is in use. -/
def Block.transferred (b : Block) (channel tag beat : Nat) : Option (ReadReq × Block) :=
  match b.mp.reads.find? fun r => r.tag == tag && channelOf r.line == channel && r.left.contains beat with
  | none => none
  | some r =>
    let left := r.left.erase beat
    let reads := if left.isEmpty then b.mp.reads.erase r else b.mp.reads.replace r { r with left }
    some (r, { b with mp := { b.mp with reads } })

/-- A line that can be read: its bytes are what device memory holds there, but for those written since the read was issued, which it may
show as they were (R336; DESIGN CHOICE, log entry 93). -/
def Block.lineRead (b : Block) (r : ReadReq) (beat : Nat) (data : List Byte) : Block :=
  let base := r.line + 64 * beat
  let fresh := (List.range 64).filter fun i => !r.written.any fun w => w.1 ≤ base + i && base + i < w.1 + w.2
  { b with posted := (fresh.map fun i => (base + i, [data.getD i 0])) ++ b.posted }

end Sys2Proof.Machine
end

