-- ==== Sys2Proof/Machine/Pages.lean ====
section
/-! DEFINITION. The Page and Prefix Manager (chapter 4): stacks, descriptors, the guard, the Rhizome and the seven
page phases of a junction. -/

namespace Sys2Proof.Machine
open Sys2Proof

/-! ### Page numbers, stacks and descriptors (R95, R99, R100) -/

def pageOf (tier idx : Nat) : Nat := tier * 1073741824 + idx
def tierOf (page : Nat) : Nat := page / 1073741824
def indexOf (page : Nat) : Nat := page % 16777216

def Pages.stack (p : Pages) (tier : Nat) : Runs := if tier = 0 then p.stack0 else if tier = 1 then p.stack1 else p.stack2

def Pages.setStack (p : Pages) (tier : Nat) (r : Runs) : Pages :=
  if tier = 0 then { p with stack0 := r } else if tier = 1 then { p with stack1 := r } else { p with stack2 := r }

def Block.freePages (b : Block) (tier : Nat) : Nat := Runs.count (b.pg.stack tier)

def Block.desc (b : Block) (page : Nat) : PageDesc := Tab.getD page { sharers := 0 } b.pg.desc

def Block.modDesc (b : Block) (page : Nat) (f : PageDesc → PageDesc) : Block :=
  { b with pg := { b.pg with desc := Tab.set page (f (b.desc page)) b.pg.desc } }

/-- alloc (R99): a page off the top of a tier's stack, with one sharer. -/
def Block.popPage (b : Block) (tier : Nat) : Option (Nat × Block) :=
  match Runs.pop (b.pg.stack tier) with
  | none => none
  | some (i, r) =>
    let p := pageOf tier i
    some (p, { b with pg := { b.pg.setStack tier r with desc := Tab.set p { sharers := 1 } b.pg.desc } })

/-- release (R99). -/
def Block.pushPage (b : Block) (page : Nat) : Block :=
  let t := tierOf page
  { b with pg := { b.pg.setStack t (Runs.pushHead (indexOf page) (b.pg.stack t)) with desc := Tab.erase page b.pg.desc } }

/-- A page whose SHARERS is 0 and whose NODE is unset goes back to its stack, unless a move holds it (R103, R119). -/
def Block.settlePage (b : Block) (page : Nat) : Block :=
  let d := b.desc page
  if d.sharers = 0 && d.node.isNone && !d.movePending then b.pushPage page else b

/-- One page list gives the page up. -/
def Block.unshare (b : Block) (page : Nat) : Block :=
  (b.modDesc page fun d => { d with sharers := d.sharers - 1 }).settlePage page

/-! ### The guard (R104) -/

/-- own(r): the scratch pages, and the private position pages, whose first position lies below TRANSCRIPT_LEN. -/
def Block.ownPages (b : Block) (e : Entry) : Nat :=
  e.scratch.length + ((e.pages.take (ceilDiv e.transcriptLen b.pageTokens)).filter fun p => tierOf p == 0 && (b.desc p).sharers == 1 && (b.desc p).node.isNone).length

def guardState : ReqState → Bool
  | .queued | .prefill | .decode | .siding | .waking | .lost | .rebuild => true
  | _ => false

/-- What a FWTRACKED request adds to the guard. -/
def Block.guardMoved (b : Block) (e : Entry) : Nat := if e.pages.isEmpty && e.scratch.isEmpty then 0 else b.kvMin - b.ownPages e

/-- The guard: a request that this junction moves out of its bank counts as FWTRACKED already (R62). -/
def Block.guard (b : Block) : Nat :=
  (b.gr.entries.foldl (fun n x =>
    if b.work.moved.contains x.1 then n + b.guardMoved x.2
    else if guardState x.2.state then n + (b.kvMin - b.ownPages x.2) else n) 0) +
  (b.gr.fwQueue.foldl (fun n f => match f.moved with
    | some e => n + b.guardMoved e
    | none => n) 0)

/-- Whether an allocation for an entry may proceed (R104). -/
def Block.allowed (b : Block) (e : Entry) (position : Bool) : Bool :=
  if position && b.ownPages e < b.kvMin then b.freePages 0 ≥ 1 else b.freePages 0 ≥ b.guard + 1

/-! ### The Rhizome (R110 to R116) -/

def Block.node? (b : Block) (i : Nat) : Option Node := Tab.get? i b.pg.nodes

def Block.modNode (b : Block) (i : Nat) (f : Node → Node) : Block :=
  { b with pg := { b.pg with nodes := Tab.modify i f b.pg.nodes } }

/-- A node is unreferenced when its page has no sharer and it has no children (R116). -/
def Block.unreferenced (b : Block) (n : Node) : Bool := (b.desc n.page).sharers == 0 && n.children == 0

/-- Unlink a node, lower its parent's CHILDREN, return it to the head of the free list (R116); its page keeps its
sharers and loses NODE. -/
def Block.dropNode (b : Block) (i : Nat) : Block :=
  match b.node? i with
  | none => b
  | some n =>
    let b := match n.parent with
      | some p => b.modNode p fun q => { q with children := q.children - 1 }
      | none => b
    let chain := (Tab.getD n.bucket [] b.pg.buckets).filter (· != i)
    let pg := { b.pg with
      nodes := Tab.erase i b.pg.nodes
      freeNodes := Runs.pushHead i b.pg.freeNodes
      buckets := if chain.isEmpty then Tab.erase n.bucket b.pg.buckets else Tab.set n.bucket chain b.pg.buckets }
    ({ b with pg }).modDesc n.page fun d => { d with node := none }

/-- Evict one node under R116: the unreferenced node of lowest LAST_USE, ties to the lowest index. -/
def Block.evictOne (b : Block) : Option Block :=
  match minBy (fun (x y : Nat × Node) => x.2.lastUse < y.2.lastUse || (x.2.lastUse == y.2.lastUse && x.1 < y.1))
      (b.pg.nodes.filter fun p => b.unreferenced p.2) with
  | none => none
  | some (i, n) => some ((b.dropNode i).settlePage n.page)

/-- Allocate a tier-0 page for the request of a slot, evicting under R105; `fuel` bounds the evictions. -/
def Block.allocEvict (slot : Nat) (position : Bool) : Nat → Block → Option (Nat × Block)
  | fuel, b =>
    if b.allowed (b.ent slot) position then b.popPage 0
    else match fuel with
      | 0 => none
      | fuel + 1 => match b.evictOne with
        | none => none
        | some b => Block.allocEvict slot position fuel b

/-- Evict node after node until none is unreferenced: what an allocation that still fails leaves (R105). -/
def Block.evictAll : Nat → Block → Block
  | 0, b => b
  | fuel + 1, b => match b.evictOne with
    | none => b
    | some b => Block.evictAll fuel b

def Block.allocPage (b : Block) (slot : Nat) (position : Bool) : Option (Nat × Block) :=
  Block.allocEvict slot position b.pg.nodes.length b

/-- CONTEXT of a request (Table 04-3). -/
def nodeContext (e : Entry) : Nat := if e.flags.strainEn then e.strainVersion * 65536 + e.strain else 0

/-- Token k·G + i of a transcript. -/
def blockTokens (g k : Nat) (ts : List (Bool × Nat)) : List (Bool × Nat) := (ts.drop (k * g)).take g

/-- key(k) (R111). -/
def blockKey (ts : List (Bool × Nat)) : Nat := crc64 (ts.flatMap fun t => le 4 t.2)

/-- bucket(k) (R111). -/
def bucketOf (key prevKey nodes : Nat) : Nat := (key ^^^ rotl64 prevKey) % nodes

def Block.rhizomeNodes (b : Block) : Nat := match b.mainModel with
  | some (_, d) => max 1 d.load.rhizomeNodes
  | none => 1

/-- The first node of a bucket chain that matches block k (R112). -/
def Block.findNode (b : Block) (e : Entry) (parent : Option Nat) (k key bucket : Nat) (toks : List Nat) : Option Nat :=
  (Tab.getD bucket [] b.pg.buckets).find? fun i => match b.node? i with
    | some n => n.key == key && n.parent == parent && n.block == k && n.context == nodeContext e &&
        n.model == e.models % 16 && n.tokens == toks
    | none => false

/-- The prefix walk of R113: the nodes matched from block k on; `fuel` counts the blocks left. -/
def Block.walkFrom (b : Block) (e : Entry) (ts : List (Bool × Nat)) : Nat → Nat → Nat → Option Nat → List Nat
  | 0, _, _, _ => []
  | fuel + 1, k, prevKey, parent =>
    let blk := blockTokens b.pageTokens k ts
    let key := blockKey blk
    match b.findNode e parent k key (bucketOf key prevKey b.rhizomeNodes) (blk.map (·.2)) with
    | none => []
    | some i => i :: b.walkFrom e ts fuel (k + 1) key (some i)

def Block.walk (b : Block) (e : Entry) : List Nat :=
  b.walkFrom e (b.transcript e) ((e.transcriptLen - 1) / b.pageTokens) 0 0 none

/-- What the walk of a request reads (R113, R338): its transcript, and of every block the bucket head, the nodes of the bucket's
chain, and the token block of a node that matches. -/
def Block.readWalk (b : Block) (slot : Nat) (e : Entry) : Block :=
  let g := b.pageTokens
  let ts := b.transcript e
  let blocks := List.range ((e.transcriptLen - 1) / g)
  let key := fun (k : Nat) => blockKey (blockTokens g k ts)
  let matched := b.walk e
  let b := b.ask (48 + slot % 12) (b.transcriptPtr e.granule + 256) (4 * g * blocks.length) (.transcript e.handle)
  blocks.foldl (fun (b : Block) k =>
    let bucket := bucketOf (key k) (if k = 0 then 0 else key (k - 1)) b.rhizomeNodes
    let b := b.ask (16 + slot % 16) (Config.structBase 7 b.ctlBase + 4 * bucket) 4 (.walk e.handle)
    (Tab.getD bucket [] b.pg.buckets).foldl (fun (b : Block) i =>
      let b := b.ask (16 + slot % 16) (Config.structBase 6 b.ctlBase + 64 * i) 64 (.walk e.handle)
      if matched.contains i then b.ask (16 + slot % 16) (Config.structBase 4 b.ctlBase + 4 * g * i) (4 * g) (.walk e.handle) else b) b) b

/-- The walks begun at a junction start to read. -/
def Block.readWalks (b : Block) : Block :=
  (b.gr.walks.filter fun w => !w.finished).foldl (fun (b : Block) w => match b.byHandle w.handle with
    | some (slot, e) => b.readWalk slot e
    | none => b) b

/-! ### Phase 1: completed moves (R118, R119, R121) -/

/-- A move closes: its pages lose MOVE_PENDING unless another open move holds them. -/
def Block.closeMove (b : Block) (m : Move) : Block :=
  let rest := b.pg.moves.filter fun x => x.seq != m.seq
  let b := { b with pg := { b.pg with moves := rest } }
  [m.src, m.dst].foldl (fun b p =>
    if rest.any fun x => x.src == p || x.dst == p then b
    else (b.modDesc p fun d => { d with movePending := false }).settlePage p) b

/-- No entry of the request names a tier-1 or tier-2 page and no move of it is open (R121). -/
def Block.wakeDone (b : Block) (e : Entry) : Bool :=
  e.pages.all (fun p => tierOf p == 0) && !(b.pg.moves.any fun m => m.handle == e.handle && m.back)

/-- A request leaves WAKING (R50, R121). -/
def Block.wake (b : Block) (slot a : Nat) : Block :=
  let st := if (b.ent slot).genCount = 0 then ReqState.prefill else .decode
  let b := b.modEnt slot fun e => { e with
    state := st, tier := 0
    nextDeadline := if e.deadlineMode = 2 then a + e.cadencePeriod else e.nextDeadline }
  b.post slot { code := 0x0A, handle := (b.ent slot).handle, time := a, arg0 := if st == .prefill then 3 else 4 }

/-- Completed moves, in ascending slot order. A request all of whose KV stayed in tier 0 has no copy-back to wait for: it leaves WAKING at the junction at which
it enters it, of which the manual says nothing (DESIGN CHOICE, log entry 110). -/
def Block.phase1 (b : Block) (mark a : Nat) : Block :=
  let b := { b with pg := { b.pg with completedMark := mark } }
  let done := b.pg.moves.filter fun m => before32 m.seq mark
  let b := (sortBy (fun (x y : Move) => slotOf x.handle < slotOf y.handle) done).foldl Block.closeMove b
  b.liveSlots.foldl (fun b s => if (b.ent s).state == .waking && !b.work.moved.contains s && b.wakeDone (b.ent s) then b.wake s a else b) b

/-! ### Phase 2: walk results (R113) -/

def Block.applyWalk (b : Block) (a : Nat) (w : Walk) : Block :=
  match b.byHandle w.handle with
  | none => b
  | some (slot, _) =>
    let b := w.nodes.foldl (fun b i => match b.node? i with
      | some n => (b.modDesc n.page fun d => { d with sharers := d.sharers + 1 }).modNode i fun n => { n with lastUse := a }
      | none => b) b
    let m := w.nodes.length
    let pages := w.nodes.filterMap fun i => (b.node? i).map (·.page)
    (b.modEnt slot fun e => { e with pages, committedLen := m * b.pageTokens, sharedPages := m }).modSide slot
      fun x => { x with walkPending := false, rebuildFrom := m * b.pageTokens }

/-- The walks begun at an earlier junction; those of this one go on during the step. -/
def Block.phase2 (b : Block) (a : Nat) : Block :=
  let old := b.gr.walks.filter fun w => w.begun != b.cp.applied
  let ws := sortBy (fun (x y : Walk) => slotOf x.handle < slotOf y.handle) old
  ws.foldl (fun b w => b.applyWalk a w) { b with gr := { b.gr with walks := b.gr.walks.filter fun w => w.begun == b.cp.applied } }

/-! ### Phase 3: publication (R115) -/

def setPage (pages : List Nat) (i p : Nat) : List Nat := pages.set i p

/-- Publish block k of a slot's request; none when it cannot be (or not now). -/
def Block.publishOne (b : Block) (slot a : Nat) (ts : List (Bool × Nat)) : Option Block :=
  let e := b.ent slot
  let g := b.pageTokens
  let k := e.sharedPages
  let page := e.pages.getD k 0
  let blk := blockTokens g k ts
  if e.committedLen < (k + 1) * g || e.pages.length ≤ k || tierOf page != 0 then none
  else if b.scope = 1 && !(blk.all fun t => t.1) then none
  else
    let key := blockKey blk
    let prev := if k = 0 then 0 else blockKey (blockTokens g (k - 1) ts)
    let bucket := bucketOf key prev b.rhizomeNodes
    let parent := if k = 0 then none else (b.desc (e.pages.getD (k - 1) 0)).node
    match b.findNode e parent k key bucket (blk.map (·.2)) with
    | some i =>
      let np := ((b.node? i).map (·.page)).getD 0
      if np = page then some (b.modEnt slot fun e => { e with sharedPages := k + 1 })
      else
        let b := (b.modDesc np fun d => { d with sharers := d.sharers + 1 }).modNode i fun n => { n with lastUse := a }
        let b := b.modEnt slot fun e => { e with pages := setPage e.pages k np, sharedPages := k + 1 }
        some (b.unshare page)
    | none =>
      let b? := if (Runs.head? b.pg.freeNodes).isSome then some b else b.evictOne
      match b? with
      | none => none
      | some b =>
        match Runs.pop b.pg.freeNodes with
        | none => none
        | some (i, rest) =>
          let n : Node := { key, parent, page, children := 0, block := k, lastUse := a, context := nodeContext e
                            model := e.models % 16, bucket, tokens := blk.map (·.2) }
          let b := { b with pg := { b.pg with
            freeNodes := rest, nodes := Tab.set i n b.pg.nodes
            buckets := Tab.set bucket (i :: Tab.getD bucket [] b.pg.buckets) b.pg.buckets } }
          -- the token block, at TOKEN_BASE + node × 4G
          let b := b.write (Config.structBase 4 b.ctlBase + i * (4 * g)) (blk.flatMap fun t => le 4 t.2)
          let b := match parent with
            | some p => b.modNode p fun q => { q with children := q.children + 1 }
            | none => b
          some ((b.modDesc page fun d => { d with node := some i }).modEnt slot fun e => { e with sharedPages := k + 1 })

def Block.publish (slot a : Nat) (ts : List (Bool × Nat)) : Nat → Block → Block
  | 0, b => b
  | fuel + 1, b => match b.publishOne slot a ts with
    | none => b
    | some b => Block.publish slot a ts fuel b

/-- Requests in PREFILL, DECODE or REBUILD, and those that reach DONE at this junction. -/
def Block.phase3 (b : Block) (a : Nat) : Block :=
  if b.scope = 0 then b else
  b.liveSlots.foldl (fun b s =>
    let e := b.ent s
    if b.work.moved.contains s then b
    else if e.state == .prefill || e.state == .decode || e.state == .rebuild || (e.state == .done && b.work.all.contains s) then
      Block.publish s a (b.transcript e) e.pages.length b
    else b) b

/-! ### Phase 4: releases (R103, R109, R122, R215) -/

/-- Release the scratch pages of a slot, last first, then its position pages from entry n on, last first. -/
def Block.releaseFrom (b : Block) (slot n : Nat) (scratch : Bool) : Block :=
  let e := b.ent slot
  let b := if scratch then e.scratch.reverse.foldl Block.unshare b else b
  let b := (e.pages.drop n).reverse.foldl Block.unshare b
  b.modEnt slot fun e => { e with pages := e.pages.take n, scratch := if scratch then [] else e.scratch }

def sortNat (l : List Nat) : List Nat := (sortBy (fun (x y : Nat) => x < y) l).eraseDups

/-- The three passes: tree tails, from COMMITTED_LEN as the step left it; what a TRUNCATE leaves beyond COMMITTED_LEN; and all pages. -/
def Block.phase4 (b : Block) : Block :=
  let g := b.pageTokens
  let tails := sortBy (fun (x y : Nat × Nat) => x.1 < y.1) b.work.tail
  let b := tails.foldl (fun b s => b.releaseFrom s.1 (ceilDiv s.2 g) true) b
  let b := (sortNat b.work.trunc).foldl (fun b s => b.releaseFrom s (ceilDiv (b.ent s).committedLen g) true) b
  (sortNat b.work.all).foldl (fun b s => b.releaseFrom s 0 true) b

/-! ### Phase 5: pauses (R120) -/

/-- A tier's pool size. -/
def Block.tierPages (b : Block) (tier : Nat) : Nat := match b.mainModel with
  | some (_, d) => if tier = 1 then d.load.tier1Pages else if tier = 2 then d.load.tier2Pages else b.mdl.n0
  | none => 0

/-- Open a move of one page of an entry's request (R118). -/
def Block.openMove (b : Block) (src dst : Nat) (e : Entry) (back : Bool) : Block :=
  let m : Move := { seq := b.pg.nextMoveSeq, src, dst, handle := e.handle, back, cls := classOf e.classPrio, level := e.effectivePrio % 16 }
  let b := { b with pg := { b.pg with moves := b.pg.moves ++ [m], nextMoveSeq := add32 b.pg.nextMoveSeq 1 } }
  (b.modDesc src fun d => { d with movePending := true }).modDesc dst fun d => { d with movePending := true }

/-- The entries of a page list to move, from the last down, removing leaf nodes on the way. -/
def Block.markPages (slot : Nat) : Nat → Block → List Nat × Block
  | 0, b => ([], b)
  | i + 1, b =>
    let p := (b.ent slot).pages.getD i 0
    let d := b.desc p
    if d.sharers > 1 then Block.markPages slot i b
    else match d.node with
      | none => let (l, b) := Block.markPages slot i b; (l ++ [i], b)
      | some n =>
        if ((b.node? n).map (·.children)).getD 0 > 0 then Block.markPages slot i b
        else let (l, b) := Block.markPages slot i (b.dropNode n); (l ++ [i], b)

/-- The number of leading entries of a page list whose NODE is set. -/
def Block.leadingNodes (b : Block) (slot : Nat) : Nat := ((b.ent slot).pages.takeWhile fun p => (b.desc p).node.isSome).length

/-- The lowest-numbered present tier, at or beyond the tier named, that can hold n pages; none where the KV stays in
tier 0 (R120). -/
def Block.pauseTier (b : Block) (tier n : Nat) : Option Nat :=
  if tier = 0 then none else [1, 2].find? fun t => t ≥ tier && b.tierPages t > 0 && b.freePages t ≥ n

/-- Move entry i of a slot's page list to tier t (R120). -/
def Block.moveOut (b : Block) (slot t i : Nat) : Block :=
  match b.popPage t with
  | none => b
  | some (q, b) =>
    let p := (b.ent slot).pages.getD i 0
    let b := b.modEnt slot fun e => { e with pages := setPage e.pages i q }
    (b.openMove p q (b.ent slot) false).modDesc p fun d => { d with sharers := d.sharers - 1 }

/-- Detach and move the pages of a request entering SIDING (R120). -/
def Block.pauseRequest (b : Block) (slot tier a : Nat) : Block :=
  let mb := Block.markPages slot (b.ent slot).pages.length b
  let b := mb.2
  let t := (b.pauseTier tier mb.1.length).getD 0
  let b := if t = 0 then b else mb.1.foldl (fun (b : Block) i => b.moveOut slot t i) b
  let b := b.modEnt slot fun e => { e with tier := t, sharedPages := b.leadingNodes slot }
  b.post slot { code := 9, handle := (b.ent slot).handle, time := a, arg0 := t, arg2 := (b.ent slot).sidingExpiry }

/-- The requests that enter SIDING. One that the same log's loss takes to LOST is in SIDING no more: its pause has no effect (DESIGN
CHOICE, log entry 110: R38 does not place the loss in its order). -/
def Block.phase5 (b : Block) (a : Nat) : Block :=
  (sortBy (fun (x y : Nat × Nat) => x.1 < y.1) b.work.pause).foldl
    (fun b p => if (b.ent p.1).state == .siding then b.pauseRequest p.1 p.2 a else b) b

/-! ### Phase 6: consist allocation (R104, R108, R208) -/

/-- A copy item enters the copy queue as a run of one (R136, R143). -/
def Block.queueCopy (b : Block) (c : CopyItem) (level cls : Nat) : Block :=
  let r : Run := { level, cls, arrival := b.dsp.arrival, node := 0xFFFF, items := [0], copy := some c, gang := false
                   reserved := [], reissue := false, left := [], issues := 0, since := b.now }
  { b with dsp := { b.dsp with
      runs := b.dsp.runs ++ [r], arrival := add32 b.dsp.arrival 1 } }

/-- Copy-on-append of page-list entry i (R108). -/
def Block.copyOnAppend (b : Block) (slot i step : Nat) (position : Bool) : Block :=
  let e := b.ent slot
  let old := e.pages.getD i 0
  match b.allocPage slot position with
  | none => b
  | some (p, b) =>
    let g := b.pageTokens
    let n := e.committedLen - i * g
    let b := b.modEnt slot fun e => { e with pages := setPage e.pages i p, sharedPages := min e.sharedPages i }
    let b := if n = 0 then b else
      b.queueCopy { kind := 1, src := old, dst := p, srcOffset := 0, dstOffset := 0, posCount := min n g, handle := e.handle
                    seq := none, step, epoch := b.cp.epoch } 0 (classOf e.classPrio)
    b.unshare old

/-- Entry i of a slot's page list will be written: extend the list, or copy a node page. -/
def Block.needEntry (slot i step tl : Nat) : Nat → Block → Block
  | fuel, b =>
    let e := b.ent slot
    let position := decide (i * b.pageTokens < tl)
    if i < e.pages.length then
      if (b.desc (e.pages.getD i 0)).node.isSome then b.copyOnAppend slot i step position else b
    else match fuel with
      | 0 => b
      | fuel + 1 =>
        match b.allocPage slot (decide (e.pages.length * b.pageTokens < tl)) with
        | none => b
        | some (p, b) => Block.needEntry slot i step tl fuel (b.modEnt slot fun e => { e with pages := e.pages ++ [p] })

/-- Scratch page n of a slot. -/
def Block.needScratch (slot n : Nat) : Nat → Block → Block
  | fuel, b =>
    if n < (b.ent slot).scratch.length then b
    else match fuel with
      | 0 => b
      | fuel + 1 => match b.allocPage slot false with
        | none => b
        | some (p, b) => Block.needScratch slot n fuel (b.modEnt slot fun e => { e with scratch := e.scratch ++ [p] })

/-- The number of sibling nodes of a tree before a row (R208): its TILLER rows that lie off the in-place branch. -/
def siblingsBefore (rows : List RowRec) (r : RowRec) : Nat :=
  (rows.filter fun x => x.handle == r.handle && x.kind == 3 && !bit x.treeNode 15 && x.treeNode % 128 < r.treeNode % 128).length

def Block.allocRow (b : Block) (rows : List RowRec) (step : Nat) (r : RowRec) : Block :=
  match b.byHandle r.handle with
  | none => b
  | some (slot, e) =>
    let g := b.pageTokens
    if r.kind = 4 then b
    else if r.kind = 3 && !bit r.treeNode 15 then
      Block.needScratch slot (siblingsBefore rows r / g) 64 b
    else
      let lo := r.firstPos / g
      let hi := (r.firstPos + r.posCount - 1) / g
      (List.range (hi + 1 - lo)).foldl (fun b k => Block.needEntry slot (lo + k) step e.transcriptLen (hi + 1) b) b

def Block.phase6 (b : Block) (c : Consist) : Block := c.rows.foldl (fun b r => b.allocRow c.rows c.step r) b

/-! ### Phase 7: wake allocation (R105, R121) -/

/-- The key of R70. -/
def prioLt (x y : Entry) : Bool :=
  let a := x.effectivePrio % 16
  let c := y.effectivePrio % 16
  a < c || (a == c && (x.admitTime < y.admitTime || (x.admitTime == y.admitTime && slotOf x.handle < slotOf y.handle)))

/-- Copy back the entries of one waking request from index i on; false when an allocation failed (R105), the evictions
tried for it done. -/
def Block.wakeEntries (slot : Nat) : Nat → Nat → Block → Block × Bool
  | 0, _, b => (b, true)
  | fuel + 1, i, b =>
    let q := (b.ent slot).pages.getD i 0
    if tierOf q = 0 then Block.wakeEntries slot fuel (i + 1) b
    else match b.allocPage slot true with
      | none => (Block.evictAll b.pg.nodes.length b, false)
      | some (p, b) =>
        let b := b.modEnt slot fun e => { e with pages := setPage e.pages i p }
        let b := b.openMove q p (b.ent slot) true
        Block.wakeEntries slot fuel (i + 1) (b.modDesc q fun d => { d with sharers := d.sharers - 1 })

def Block.wakeAll : List Nat → Block → Block
  | [], b => b
  | s :: r, b =>
    let (b, ok) := Block.wakeEntries s (b.ent s).pages.length 0 b
    if ok then Block.wakeAll r b else b

def Block.phase7 (b : Block) : Block :=
  let ws := (Tab.vals b.gr.entries).filter fun e => e.state == .waking && !b.work.moved.contains (slotOf e.handle)
  Block.wakeAll ((sortBy prioLt ws).map fun e => slotOf e.handle) b

/-- The entry of a handle's request, live or moved out of its bank (R62). -/
def Block.requestEntry (b : Block) (h : Nat) : Option Entry :=
  ((b.byHandle h).map (·.2)).orElse fun _ => (b.gr.fwQueue.filterMap (·.moved)).find? fun e => e.handle == h

/-- Moves waiting to be issued go to the copy queue, at most 65,536 open at once: a siding copy at level 15, a copy-back at the
request's effective level, both in its class (R118); where the request has left, as they were when the move was opened. Open against that
limit are the moves issued and not completed on this instance (DESIGN CHOICE, log entry 110: MOVE_PENDING and the completed mark keep a move
open until it completes for the group). -/
def Block.issueMoves (b : Block) (junction : Nat) : Block :=
  let openN := (b.pg.moves.filter fun m => m.issued && !m.completed).length
  let todo := (b.pg.moves.filter fun m => !m.issued).take (65536 - openN)
  todo.foldl (fun b m =>
    let e := b.requestEntry m.handle
    let cls := match e with
      | some e => classOf e.classPrio
      | none => m.cls
    let level := if m.back then (match e with
      | some e => e.effectivePrio % 16
      | none => m.level) else 15
    let b := b.queueCopy { kind := 0, src := m.src, dst := m.dst, srcOffset := 0, dstOffset := 0, posCount := b.pageTokens
                           handle := m.handle, seq := some m.seq, step := junction, epoch := b.cp.epoch } level cls
    { b with pg := { b.pg with moves := b.pg.moves.map fun x => if x.seq = m.seq then { x with issued := true } else x } }) b

/-- Copy runs that entered at one moment, behind the runs `old`, are numbered from `first` in ascending class (R136). -/
def Block.numberCopies (b : Block) (old : List Run) (first : Nat) : Block :=
  let new := b.dsp.runs.drop old.length
  let order := sortBy (fun (x y : Run × Nat) => x.1.cls < y.1.cls || (x.1.cls == y.1.cls && x.2 < y.2)) (new.zip (List.range new.length))
  let numbered := (order.zip (List.range order.length)).map fun x => { x.1.1 with arrival := add32 first x.2 }
  { b with dsp := { b.dsp with runs := b.dsp.runs.take old.length ++ numbered } }

/-- The lowest MOVE_SEQ assigned and not completed, or the next one (R118). -/
def Block.moveReport (b : Block) : Nat :=
  match b.pg.moves.find? fun m => !m.completed with
  | some m => m.seq
  | none => b.pg.nextMoveSeq

end Sys2Proof.Machine
end

