-- ==== Sys2Proof/Machine/Granary.lean ====
section
/-! DEFINITION. What a junction does to one request (chapters 2, 6 and 8): staged operations and step results in the
order of R38, the penalty slab, the speculation fields, loss and rebuild. -/

namespace Sys2Proof.Machine
open Sys2Proof

/-! ### Speculation fields (R200, R216, R217) and the tree shape (R201) -/

/-- The verify mode, SAMPLE_MODE [2:1]. -/
def verifyMode (p : Sampling) : Nat := bits p.sampleMode 2 1

/-- limits() of R200. -/
def limits (sp : SpecBlock) (e : Entry) : Entry :=
  { e with
    treeDepth := max 1 (min sp.depthMax (e.acceptEma / 256 + sp.depthLead))
    treeWidth := min sp.widthMax (e.acceptEma * sp.widthGain / 1024 + 1) }

/-- TREE_DEPTH and TREE_WIDTH as R200 keeps them. -/
def keepLimits (sp : SpecBlock) (e : Entry) : Entry :=
  if !e.flags.specEn || verifyMode e.sampling = 0 || e.flags.specPlain then { e with treeDepth := 0, treeWidth := 0 }
  else limits sp e

/-- The speculation fields at admission and on entry to LOST (R200). -/
def specInit (sp : SpecBlock) (e : Entry) : Entry :=
  keepLimits sp { e with acceptEma := sp.emaInit, zeroAcceptRun := 0, probeCountdown := 0 }

/-- width[0..] of R201. -/
def treeShape (sp : SpecBlock) (e : Entry) : List Nat :=
  let room : Int := (e.transcriptCap : Int) - e.transcriptLen - 1
  let room : Int := if e.maxGen > 0 then min room ((e.maxGen : Int) - e.genCount - 1) else room
  let d := (min (e.treeDepth : Int) room).toNat
  go d 0 0 d
where
  go (dmax : Nat) : Nat → Nat → Nat → List Nat
    | _, _, 0 => []
    | d, total, fuel + 1 =>
      let w := min (min ((e.treeWidth + d) / (d + 1)) (topKOf e.sampling)) (sp.nodesMax - total)
      if w = 0 then [] else w :: go dmax (d + 1) (total + w) fuel

/-- suspend() of R217. -/
def Block.suspend (b : Block) (slot a : Nat) : Block :=
  let e := b.ent slot
  let b := b.setEnt slot { e with flags := { e.flags with specPlain := true }, probeCountdown := 64, treeDepth := 0, treeWidth := 0 }
  b.post slot { code := 0x0E, handle := e.handle, time := a, arg0 := 0, arg1 := e.zeroAcceptRun }

/-- The statistics of a verify step with n accepted nodes (R216). -/
def Block.verifyStats (b : Block) (slot n a : Nat) : Block :=
  let e := b.ent slot
  let e := { e with
    stepsVerified := add32 e.stepsVerified 1
    tokensAccepted := add32 e.tokensAccepted n
    acceptEma := ((e.acceptEma : Int) + (((n * 256 : Nat) : Int) - e.acceptEma).shiftRight 2).toNat
    zeroAcceptRun := if n = 0 then min 255 (e.zeroAcceptRun + 1) else 0 }
  let b := b.setEnt slot e
  if e.zeroAcceptRun ≥ 8 then b.suspend slot a else b.modEnt slot (keepLimits b.mdl.spec)

/-- A DECODE row of a suspended request has yielded a token (R217). -/
def Block.probe (b : Block) (slot a : Nat) : Block :=
  let e := b.ent slot
  if !e.flags.specPlain then b
  else if e.probeCountdown ≤ 1 then
    let e := { e with probeCountdown := 0, zeroAcceptRun := 7, flags := { e.flags with specPlain := false } }
    let b := b.setEnt slot (keepLimits b.mdl.spec e)
    b.post slot { code := 0x0E, handle := e.handle, time := a, arg0 := 1, arg1 := e.zeroAcceptRun }
  else b.setEnt slot { e with probeCountdown := e.probeCountdown - 1 }

/-! ### The penalty slab (R160 to R164) -/

/-- record(t, g) of R162; true where an entry was evicted. -/
def slabRecord (s : Table SlabEntry) (t g : Nat) : Table SlabEntry × Bool :=
  match s.find? fun p => p.2.token == t with
  | some (i, e) => (Tab.set i { e with count := min 4095 (e.count + 1), lastSeen := g % 134217728 } s, false)
  | none =>
    let new : SlabEntry := { count := 1, token := t, lastSeen := g % 134217728 }
    match (List.range 1024).find? fun i => !Tab.has i s with
    | some i => (Tab.set i new s, false)
    | none =>
      let age := fun (p : Nat × SlabEntry) => (g + 134217728 - p.2.lastSeen) % 134217728
      match minBy (fun (x y : Nat × SlabEntry) => age x > age y || (age x == age y && x.1 < y.1)) s with
      | some (i, _) => (Tab.set i new s, true)
      | none => (s, false)

/-- A removed generated token (R163). -/
def slabForget (s : Table SlabEntry) (t : Nat) : Table SlabEntry :=
  match s.find? fun p => p.2.token == t with
  | some (i, e) => if e.count ≥ 4095 then s else if e.count ≤ 1 then Tab.erase i s else Tab.set i { e with count := e.count - 1 } s
  | none => s

def Block.slab (b : Block) (slot : Nat) : Table SlabEntry := Tab.getD slot [] b.gr.slabs

def Block.setSlab (b : Block) (slot : Nat) (s : Table SlabEntry) : Block :=
  { b with gr := { b.gr with slabs := Tab.set slot s b.gr.slabs } }

/-- The slab of generated tokens in position order (R162, R164); true where an entry was evicted. -/
def slabOf (ts : List Nat) : Table SlabEntry × Bool :=
  ((List.range ts.length).zip ts).foldl (fun (x : Table SlabEntry × Bool) (g, t) =>
    let r := slabRecord x.1 t g
    (r.1, x.2 || r.2)) ([], false)

/-- Record generated tokens from ordinal g on (R162), posting PENALTY_OVERFLOW at the first eviction. -/
def Block.recordTokens (b : Block) (slot a : Nat) : Nat → List Nat → Block
  | _, [] => b
  | g, t :: ts =>
    let (s, evicted) := slabRecord (b.slab slot) t g
    let b := b.setSlab slot s
    let b := if evicted && !(b.ent slot).flags.penaltyOvf then
        (b.modEnt slot fun e => { e with flags := { e.flags with penaltyOvf := true } }).post slot
          { code := 0x0B, handle := (b.ent slot).handle, time := a, arg0 := 1025 }
      else b
    b.recordTokens slot a (g + 1) ts

/-- The generated tokens of a transcript in position order. -/
def generated (ts : List (Bool × Nat)) : List Nat := (ts.filter fun t => !t.1).map (·.2)

/-- Rebuild a slab from the transcript, which is read for it; in device memory it is cleared and written again (R164, R338). -/
def Block.rebuildSlab (b : Block) (slot a : Nat) : Block :=
  let e := b.ent slot
  let b := { b with work := { b.work with rebuilt := slot :: b.work.rebuilt } }
  let b := b.ask (48 + slot % 12) (b.transcriptPtr e.granule + 256) (4 * e.transcriptLen) (.transcript e.handle)
  (b.setSlab slot []).recordTokens slot a 0 (generated (b.transcript (b.ent slot)))

/-! ### Ending -/

/-- A request ends: DONE, its END event, its pages to be released (Table 02-5, R49). -/
def Block.finish (b : Block) (slot reason arg1 a : Nat) : Block :=
  let e := b.ent slot
  let b := b.setEnt slot { e with state := .done, endReason := reason, sidingExpiry := 0, specTailLen := 0 }
  let b := b.postEnd slot { code := 2, handle := e.handle, time := a, arg0 := reason, arg1, arg2 := e.genCount }
  { b with work := { b.work with all := slot :: b.work.all } }

/-- An END that still waits for room stays held when its request leaves (R58). -/
def Block.keepEnd (b : Block) (e : Entry) (side : ReqSide) : Block := match side.heldEnd with
  | some ev => { b with gr := { b.gr with heldEnds := b.gr.heldEnds ++ [(e, ev)] } }
  | none => b

/-- A slot leaves the table: transcript released, slot to the tail of the free list (R29, R37). Pages leave in phase 4. -/
def Block.freeSlot (b : Block) (slot : Nat) : Block :=
  { b with work := { b.work with all := slot :: b.work.all, freed := slot :: b.work.freed } }

/-- After phase 4: the freed slots' entries, slabs and regions go (R48). -/
def Block.reapSlots (b : Block) : Block :=
  (sortNat b.work.freed).foldl (fun b s =>
    let b := (b.keepEnd (b.ent s) (b.side s)).freeRegion (b.ent s).granule
    { b with gr := { b.gr with
        entries := Tab.erase s b.gr.entries
        slabs := Tab.erase s b.gr.slabs
        side := Tab.erase s b.gr.side
        freeList := if b.gr.banksOut.contains (s / 2048) then b.gr.freeList else Runs.pushTail s b.gr.freeList } }) b

/-! ### Step results (R38 step 2, R49, R215) -/

/-- How many of a step's tokens stand: up to the first that ends the request (R49), and none past TRANSCRIPT_CAP (R36). -/
def cutTokens (e : Entry) (ts : List Nat) : List Nat :=
  go e.genCount e.transcriptLen ts
where
  go : Nat → Nat → List Nat → List Nat
    | _, _, [] => []
    | g, l, t :: r =>
      if l ≥ e.transcriptCap then [] else if (bit e.stopToken 31 && t == e.stopToken % 16777216) || (e.maxGen > 0 && g + 1 ≥ e.maxGen) || l + 1 ≥ e.transcriptCap
      then [t] else t :: go (g + 1) (l + 1) r

/-- The rows a request ran in the step that ends. -/
def Block.rowsOf (b : Block) (handle : Nat) : List RowRec := match b.cp.prevLog with
  | some l => l.consist.rows.filter fun r => r.handle == handle
  | none => []

def Block.resultOf (b : Block) (handle : Nat) : Option StepResult := b.gr.results.find? fun r => r.handle == handle

/-- Append generated tokens to a request's transcript. -/
def Block.place (b : Block) (slot : Nat) (ts : List Nat) : Block :=
  let e := b.ent slot
  let b := b.modRegion e.granule fun r => { r with tokens := r.tokens ++ ts.map fun t => (false, t) }
  b.setEnt slot { e with transcriptLen := e.transcriptLen + ts.length, genCount := e.genCount + ts.length }

/-- NO_TOKEN (R179). -/
def Block.postNoToken (b : Block) (slot a : Nat) (x : Nat × Nat) : Block :=
  b.post slot { code := 0x0F, handle := (b.ent slot).handle, time := a, arg0 := x.1, arg1 := x.2 }

/-- The cause, where a result has one. -/
def Block.postCause (b : Block) (slot a : Nat) (x : Option (Nat × Nat)) : Block := match x with
  | some x => b.postNoToken slot a x
  | none => b

/-- COMMITTED_LEN from l on, after a tree that gave n tokens (R213, R215): as far as the walk accepted where it ended without a token. -/
def treeEntry (res : StepResult) (l n : Nat) (e : Entry) : Entry :=
  { e with specTailLen := 0, committedLen := (res.committedAt.map fun c => min c (e.transcriptLen - 1)).getD (l + n) }

/-- A tree's tail pages go, from COMMITTED_LEN on (R103, R215). -/
def Block.cutTail (b : Block) (slot : Nat) : Block :=
  { b with work := { b.work with tail := (slot, (b.ent slot).committedLen) :: b.work.tail } }

/-- The statistics of a verify step, where the result has them. -/
def Block.countVerify (b : Block) (slot a : Nat) (x : Option Nat) : Block := match x with
  | some n => b.verifyStats slot n a
  | none => b

/-- The result of a tree, of which the tokens `toks` stand. -/
def Block.applyTree (b : Block) (slot a : Nat) (res : StepResult) (toks : List Nat) : Block :=
  ((((b.place slot toks).postCause slot a res.noToken).modEnt slot
    (treeEntry res (b.ent slot).committedLen toks.length)).cutTail slot).countVerify slot a res.verify

/-- A request in PREFILL or REBUILD has its token, of a row that ends at position p: it goes on to DECODE (Table 02-5). -/
def Block.toDecode (b : Block) (slot a p : Nat) (st : ReqState) : Block :=
  if st == .prefill then b.modEnt slot fun e => { e with state := .decode }
  else if st == .rebuild then
    (b.modEnt slot fun e => { e with state := .decode }).post slot
      { code := 8, handle := (b.ent slot).handle, time := a, arg0 := p - (b.side slot).rebuildFrom }
  else b

/-- The result of a row r that is no tree's, of which the tokens `toks` stand. -/
def Block.applyRow (b : Block) (slot a : Nat) (r : RowRec) (res : StepResult) (toks : List Nat) : Block :=
  if r.sample && res.tokens.isEmpty then b.postCause slot a res.noToken
  else
    let c := b.modEnt slot fun e => { e with committedLen := r.firstPos + r.posCount }
    if !r.sample then c else
    let c := c.place slot toks
    (if r.kind = 0 then c.probe slot a else c).toDecode slot a (r.firstPos + r.posCount) (b.ent slot).state

/-- The results of the completed step for one request. -/
def Block.applyResult (b : Block) (slot a : Nat) : Block :=
  let e := b.ent slot
  let rows := b.rowsOf e.handle
  let res := (b.resultOf e.handle).getD { handle := e.handle }
  let toks := cutTokens e (res.tokens.map (·.token))
  if rows.any fun r => r.kind == 3 then b.applyTree slot a res toks
  else match rows.find? fun r => r.kind ≤ 2 with
  | none => b
  | some r => b.applyRow slot a r res toks

/-! ### TRUNCATE and APPEND (R44 to R46) -/

/-- Remove the generated tokens at positions ≥ p; what is left, and the removed ones in position order. -/
def truncTokens (p : Nat) (ts : List (Bool × Nat)) : List (Bool × Nat) × List Nat :=
  (ts.take p ++ (ts.drop p).filter (·.1), generated (ts.drop p))

/-- `placed` tokens came with this junction's step results; `unwritten` of them are in no ring (R46, R163). -/
def Block.truncate (b : Block) (slot p a placed unwritten : Nat) : Block :=
  let e := b.ent slot
  let (left, removed) := truncTokens p (b.transcript e)
  if removed.isEmpty then b
  else
    -- the tokens this junction placed are not in the slab yet: they are the last of the transcript
    let fresh := min placed removed.length
    let old := removed.take (removed.length - fresh)
    let b := b.setSlab slot (old.reverse.foldl slabForget (b.slab slot))
    let b := b.modRegion e.granule fun r => { r with tokens := left }
    let emittedOf := removed.length - min removed.length unwritten
    let b := b.setEnt slot { e with
      transcriptLen := left.length
      committedLen := min p e.committedLen
      genCount := e.genCount - removed.length
      sharedPages := min e.sharedPages (min p e.committedLen / b.pageTokens)
      nextDeadline := if e.deadlineMode = 2 then a + e.cadencePeriod else e.nextDeadline }
    let b := { b with work := { b.work with trunc := slot :: b.work.trunc } }
    b.post slot { code := 3, handle := e.handle, time := a, arg0 := p, arg1 := removed.length, arg2 := emittedOf }

/-- States in which REQ_APPEND takes effect (Table 02-6). -/
def appendState : ReqState → Bool
  | .queued | .prefill | .decode | .siding | .waking | .lost | .rebuild => true
  | _ => false

/-- Place the tokens of an APPEND; the number discarded (R45). -/
def Block.append (b : Block) (slot : Nat) (tokens : List Nat) (close : Bool) : Block × Nat :=
  let e := b.ent slot
  if !e.flags.inputOpen || !appendState e.state then (b, 0)
  else
    let fit := tokens.take (e.transcriptCap - e.transcriptLen)
    let b := b.modRegion e.granule fun r => { r with
      tokens := r.tokens ++ fit.map fun t => (true, t % 16777216)
      inputClosed := r.inputClosed || close }
    (b.setEnt slot { e with
      transcriptLen := e.transcriptLen + fit.length
      flags := { e.flags with inputOpen := !close } }, tokens.length - fit.length)

/-! ### LOST (R51, R52, R164) -/

/-- SAMPLING without its reserved bits (Tables 02-1 and 11-9, R13). -/
def samplingFields (p : Sampling) : Sampling := { p with topK := p.topK % 512, sampleMode := p.sampleMode % 8 }

/-- STOP_TOKEN without its reserved bits. -/
def stopTokenOf (x : Nat) : Nat := x % 16777216 + 2147483648 * b2n (bit x 31)

/-- REQ_ADMIT as an entry takes it: reserved bits of a field are ignored (R13). -/
def admitFields (p : AdmitParams) : AdmitParams :=
  { p with classPrio := p.classPrio % 128, deadlineMode := p.deadlineMode % 4, sampling := samplingFields p.sampling, stopToken := stopTokenOf p.stopToken }

/-- The entry rebuilt from the admission record and transcript (R52). -/
def rebuiltEntry (sp : SpecBlock) (e : Entry) (r : Region) : Entry :=
  let p := admitFields r.record
  let sampling := if r.setCount > 0 then samplingFields r.setSampling else p.sampling
  specInit sp
    { handle := e.handle, admitTime := e.admitTime, nextDeadline := e.nextDeadline, deadlinesMissed := e.deadlinesMissed
      transcriptLen := e.transcriptLen, genCount := e.genCount, eventsDropped := e.eventsDropped
      stepsVerified := e.stepsVerified, tokensAccepted := e.tokensAccepted, strainVersion := e.strainVersion
      granule := e.granule, transcriptCap := e.transcriptCap, emitCount := e.emitCount
      tokenRing := p.tokenRing, tokenProd := e.tokenProd, tokenCons := e.tokenCons
      eventRing := p.eventRing, eventProd := e.eventProd, eventCons := e.eventCons
      state := .lost, tenant := p.tenant, classPrio := p.classPrio, models := p.models, deadlineMode := p.deadlineMode
      strain := p.strain, cadencePeriod := p.cadencePeriod, maxGen := p.maxGen, seed := p.seed, sampling
      stopToken := p.stopToken, ownerSession := r.ownerSession, lostCount := satInc 65535 e.lostCount
      pages := e.pages, scratch := e.scratch, effectivePrio := baseLevel p.classPrio, lastJunction := e.lastJunction
      flags := { autoFree := bit p.admitFlags 4, voiceReserve := bit p.admitFlags 2, strainEn := bit p.admitFlags 1
                 specEn := bit p.admitFlags 0, inputOpen := bit p.admitFlags 3 && !r.inputClosed
                 fromFwtrack := r.fromFwtrack, rebuilt := true } }

def lossState : ReqState → Bool
  | .queued | .prefill | .decode | .siding | .waking | .rebuild => true
  | _ => false

/-- A walk begins for a request that entered QUEUED or LOST, unless RHIZOME_SCOPE is 0 (R113). -/
def Block.beginWalk (b : Block) (slot : Nat) : Block :=
  if b.scope = 0 then b.modSide slot fun x => { x with walkPending := false, rebuildFrom := 0 }
  else
    let b := b.modSide slot fun x => { x with walkPending := true }
    { b with gr := { b.gr with walks := b.gr.walks ++ [{ handle := (b.ent slot).handle, begun := b.cp.applied, finished := false, nodes := [] }] } }

/-- Entry to LOST: the entry and its slab are rebuilt from the admission record and the transcript, which are read for it (R52, R53,
R109). -/
def Block.enterLost (b : Block) (slot cause a : Nat) : Block :=
  let e := b.ent slot
  match b.region e.granule with
  | none => b
  | some r =>
    let b := b.setEnt slot (rebuiltEntry b.mdl.spec e r)
    let b := { b with
      work := { b.work with all := slot :: b.work.all }
      gr := { b.gr with walks := b.gr.walks.filter fun w => w.handle != e.handle } }
    let b := (b.ask (48 + slot % 12) (b.transcriptPtr e.granule) 256 (.transcript e.handle)).rebuildSlab slot a
    b.post slot { code := 7, handle := e.handle, time := a, arg0 := cause, arg1 := (b.ent slot).lostCount }

/-! ### A request's staged operations, in the order of R38 -/

/-- A PAUSE with its tier and time-to-live, or a RESUME with its acceptance time. -/
inductive SideOp where
  | pause (tier ttl : Nat)
  | resume (accepted : Nat)
  deriving DecidableEq, Repr, Inhabited

/-- A RESUME behind the others: it withdraws a PAUSE that stands last (R39). -/
def resumeOps (ops : List SideOp) (accepted : Nat) : List SideOp := match ops.getLast? with
  | some (.pause _ _) => ops.dropLast
  | _ => ops ++ [.resume accepted]

/-- A RESUME was accepted before `expiry` (R50). -/
def resumedBefore (ops : List SideOp) (expiry : Nat) : Bool := ops.any fun o => match o with
  | .pause _ _ => false
  | .resume t => t < expiry

/-- What the COMMANDS section of a log stages for one request. -/
structure Staging where
  cancel : Bool := false
  trunc : Option Nat := none
  appends : List (List Nat × Bool) := []
  /-- PAUSE and RESUME, as accepted -/
  sides : List SideOp := []
  samplings : List Sampling := []
  free : Bool := false
  deriving DecidableEq, Repr, Inhabited

/-- The operations of the records that name a handle; a resume withdraws a pause of the same log (R39). -/
def stagingOf (handle : Nat) (cmds : List CmdRecord) : Staging :=
  cmds.foldl (fun s c =>
    match c.params with
    | .reqCancel h => if h.handle = handle then { s with cancel := true } else s
    | .reqTruncate h p => if h.handle = handle then { s with trunc := some (match s.trunc with
        | some q => min p q
        | none => p) } else s
    | .reqAppend h f _ ts => if h.handle = handle then { s with appends := s.appends ++ [(ts, bit f 0)] } else s
    | .reqPause h t ttl => if h.handle = handle then { s with sides := s.sides ++ [.pause t ttl] } else s
    | .reqResume h => if h.handle = handle then { s with sides := resumeOps s.sides c.acceptTime } else s
    | .reqSetSampling h p => if h.handle = handle then { s with samplings := s.samplings ++ [p] } else s
    | .reqFree h => if h.handle = handle then { s with free := true } else s
    | _ => s) {}

def cancelState : ReqState → Bool
  | .queued | .prefill | .decode | .siding | .waking | .lost | .rebuild => true
  | _ => false

def pauseTtl (ttl : Nat) : Nat := if ttl = 0 then 120000000000 else ttl

/-- Step 5 of R38: the end conditions of Table 02-4, with the tokens this junction placed. Where several hold at one junction the reason
is STOP_TOKEN before MAX_GEN before CONTEXT_FULL, and END's ARG1 is 0 with the first two though an APPEND's tokens were discarded
(DESIGN CHOICE, log entry 110: the manual gives no order). An expiry is decided at the first junction whose log was closed at or after
SIDING_EXPIRY, since only then every resume accepted before it is known (DEDUCED, log entry 20). -/
def Block.endConditions (b : Block) (slot a closed placed discarded : Nat) (appended : Bool) (s : Staging) : Block :=
  let e := b.ent slot
  let last := (b.transcript e).getLast?
  let gens := (generated (b.transcript e)).getLast?
  if e.state == .prefill || e.state == .decode then
    if placed > 0 && bit e.stopToken 31 && gens = some (e.stopToken % 16777216) then b.finish slot 1 0 a
    else if e.maxGen > 0 && e.genCount ≥ e.maxGen then b.finish slot 2 0 a
    else if e.transcriptLen ≥ e.transcriptCap then b.finish slot 3 discarded a
    else b
  else if appendState e.state && appended && e.transcriptLen ≥ e.transcriptCap && last.isSome then b.finish slot 3 discarded a
  else if e.state == .siding && a ≥ e.sidingExpiry && closed ≥ e.sidingExpiry && !resumedBefore s.sides e.sidingExpiry then
    b.finish slot 5 0 a
  else b

/-- One PAUSE or RESUME at its junction (R50). -/
def Block.sideOp (b : Block) (slot a : Nat) (o : SideOp) : Block :=
  let e := b.ent slot
  match o with
  | .pause tier ttl =>
    if e.state == .prefill || e.state == .decode then
      let b := b.setEnt slot { e with state := .siding, sidingExpiry := a + pauseTtl ttl, specTailLen := 0 }
      { b with work := { b.work with pause := (slot, tier) :: b.work.pause } }
    else b
  | .resume t =>
    if e.state == .siding && t < e.sidingExpiry then b.setEnt slot { e with state := .waking, sidingExpiry := 0 } else b

/-- Step 6 of R38: PAUSE and RESUME, as accepted. -/
def Block.pauseResume (b : Block) (slot a : Nat) (s : Staging) : Block := s.sides.foldl (fun b o => b.sideOp slot a o) b

/-- Step 7 of R38: SET_SAMPLING, entered in the record's tail (R159, R300). -/
def Block.setSampling (b : Block) (slot : Nat) (p : Sampling) : Block :=
  let e := b.ent slot
  if e.state == .done || e.state == .draining || e.state == .free then b
  else
    let b := b.modRegion e.granule fun r => { r with setCount := add32 r.setCount 1, setSampling := p }
    b.setEnt slot (keepLimits b.mdl.spec { e with sampling := samplingFields p })

/-- Steps 2 to 4 of R38: the results of the step, unless a loss discards them, a TRUNCATE, and the penalty slab with the tokens of this
step that survive, which are the last generated ones (R162, R164). -/
def Block.requestResults (b : Block) (trunc : Option Nat) (loss written : Bool) (a slot : Nat) : Block :=
  let e0 := b.ent slot
  let b : Block := if loss then b else b.applyResult slot a
  let placed := (b.ent slot).genCount - e0.genCount
  let b : Block := match trunc with
    | some p => if (b.ent slot).state == ReqState.decode then b.truncate slot p a placed (if written then 0 else placed) else b
    | none => b
  let survive := (b.ent slot).genCount - e0.genCount
  let e := b.ent slot
  let ts := generated (b.transcript e)
  let b := b.recordTokens slot a (ts.length - survive) (ts.drop (ts.length - survive))
  let b : Block := if b.gr.slabErrors.contains e0.handle && !loss then b.rebuildSlab slot a else b
  { b with work := { b.work with survivors := (e, survive) :: b.work.survivors } }

/-- The APPENDs of a log, and how many of their tokens are discarded (R45). -/
def Block.appendAll (b : Block) (slot : Nat) : List (List Nat × Bool) → Block × Nat
  | [] => (b, 0)
  | p :: ps =>
    let r := b.append slot p.1 p.2
    let q := Block.appendAll r.1 slot ps
    (q.1, r.2 + q.2)

/-- A request in LOST, unless it entered LOST at this very junction, goes on to REBUILD (Table 02-5). -/
def Block.toRebuild (b : Block) (slot : Nat) (wasLost : Bool) : Block :=
  if wasLost && (b.ent slot).state == .lost then b.modEnt slot fun e => { e with state := .rebuild } else b

/-- A transcript loss ends a request that recomputes its KV (R53). -/
def Block.endFatal (b : Block) (slot a : Nat) (fatal : Bool) : Block :=
  if fatal && ((b.ent slot).state == .lost || (b.ent slot).state == .rebuild) then b.finish slot 6 0 a else b

/-- Steps 4 to 7 of R38: appends, end conditions, PAUSE and RESUME, SET_SAMPLING; `survive` tokens of the step's results stand. -/
def Block.requestOps (b : Block) (s : Staging) (fatal wasLost : Bool) (a closed survive slot : Nat) : Block :=
  let app := b.appendAll slot s.appends
  let appended := decide ((app.1.ent slot).transcriptLen > (b.ent slot).transcriptLen) || decide (app.2 > 0)
  let b := ((app.1.endConditions slot a closed survive app.2 appended s).endFatal slot a fatal).toRebuild slot wasLost
  s.samplings.foldl (fun b p => b.setSampling slot p) (b.pauseResume slot a s)

/-- One request at a junction with agreement time a: R38, with the losses the log names for it. A request in LOST or REBUILD whose
transcript an APPEND of the same log fills ends with CONTEXT_FULL, although the log names a loss of cause 5 for it (DESIGN CHOICE, log
entry 110: R53 and Table 02-5 name both ends and no order). A cancelled request keeps its SPEC_TAIL_LEN in DRAINING, as its results do
not act (DESIGN CHOICE, log entry 125). -/
def Block.applyRequest (b : Block) (cmds : List CmdRecord) (losses ringWrites : List (Nat × Nat)) (a closed slot : Nat) : Block :=
  let e0 := b.ent slot
  let wasLost := e0.state == .lost && !b.work.all.contains slot
  let s := stagingOf e0.handle cmds
  let fatal := (e0.state == .lost || e0.state == .rebuild) && losses.any fun l => l.1 == e0.handle && l.2 == 5
  let lossHere := fatal || losses.any fun l => l.1 == e0.handle && l.2 != 5
  if e0.state == .draining then b.freeSlot slot
  else if s.cancel && cancelState e0.state then
    let b := b.setEnt slot { e0 with state := .draining, endReason := 4, sidingExpiry := 0 }
    b.postEnd slot { code := 2, handle := e0.handle, time := a, arg0 := 4, arg2 := e0.genCount }
  else if s.cancel && e0.state == .done then b.freeSlot slot
  else
    let b := b.requestResults s.trunc lossHere (ringWrites.any fun w => w.1 == e0.handle) a slot
    let b := b.requestOps s fatal wasLost a closed ((b.ent slot).genCount - e0.genCount) slot
    if (b.ent slot).state == .done && (s.free || (e0.state == .done && e0.flags.autoFree && (b.side slot).heldEnd.isNone))
    then b.freeSlot slot else b

/-- The strain version a REQ_ADMIT pins (R89); 0 without STRAIN_EN. -/
def Block.pinVersion (b : Block) (p : AdmitParams) : Nat :=
  if bit p.admitFlags 1 then ((b.readyStrain (p.models % 16) p.strain).map (·.version)).getD 0 else 0

/-- The entry of an admission (R37, R72, R200). Until R71 first runs for it, EFFECTIVE_PRIO is the base level with no promotion (DESIGN
CHOICE, log entry 110: an admission backfilled in the consist of its own junction is ordered by it). -/
def Block.admitEntry (b : Block) (handle session acceptTime granule ver : Nat) (p0 : AdmitParams) (fw : Bool) : Entry :=
  let p := admitFields p0
  let c := (b.cls (classOf p.classPrio)).cfg
  specInit b.mdl.spec
    { handle, state := .queued, tenant := p.tenant, classPrio := p.classPrio, effectivePrio := baseLevel p.classPrio
      models := p.models, deadlineMode := p.deadlineMode, strain := p.strain, admitTime := acceptTime
      nextDeadline := if p.deadlineMode = 1 then p.deadline
        else if p.deadlineMode = 2 then acceptTime + (if c.firstDue = 0 then p.cadencePeriod else c.firstDue) else 0
      cadencePeriod := p.cadencePeriod, transcriptLen := p.input.length, maxGen := p.maxGen, granule
      transcriptCap := transcriptCapOf p.maxContext, strainVersion := ver, seed := p.seed, sampling := p.sampling
      stopToken := p.stopToken, tokenRing := p.tokenRing, eventRing := p.eventRing, ownerSession := session
      flags := { autoFree := bit p.admitFlags 4, inputOpen := bit p.admitFlags 3, voiceReserve := bit p.admitFlags 2
                 strainEn := bit p.admitFlags 1, specEn := bit p.admitFlags 0, fromFwtrack := fw } }

/-- Take a slot for a handle: out of the free list, its tag set (R28, R29). -/
def Block.takeSlot (b : Block) (handle : Nat) : Block :=
  { b with gr := { b.gr with
      freeList := Runs.remove (slotOf handle) b.gr.freeList
      tags := Tab.set (slotOf handle) (tagOf handle) b.gr.tags
      slabs := Tab.set (slotOf handle) [] b.gr.slabs
      side := Tab.set (slotOf handle) {} b.gr.side } }

/-- A REQ_ADMIT record with its handle (R37, R41 to R43). -/
def Block.admitDirect (b : Block) (c : CmdRecord) (p : AdmitParams) : Block :=
  match b.allocRegion p c.session with
  | none => b
  | some (g, b) =>
    let b := b.takeSlot c.assigned
    let b := b.setEnt (slotOf c.assigned) (b.admitEntry c.assigned c.session c.acceptTime g (b.pinVersion p) p false)
    (b.modTenant p.tenant fun t => { t with counters := { t.counters with admissions := t.counters.admissions + 1 } }).beginWalk
      (slotOf c.assigned)

/-- The base priority level of a firmware queue entry. -/
def fwLevel (b : Block) (f : FwEntry) : Nat := match f.moved with
  | some e => baseLevel e.classPrio
  | none => match b.region f.granule with
    | some r => baseLevel r.record.classPrio
    | none => 0

/-- Firmware order (R61, R62): moved requests first, then ascending level, then ascending ticket. -/
def Block.fwOrder (b : Block) : List FwEntry :=
  (b.gr.fwQueue.filter fun f => f.moved.isSome) ++
  sortBy (fun (x y : FwEntry) => fwLevel b x < fwLevel b y || (fwLevel b x == fwLevel b y && x.ticket < y.ticket))
    (b.gr.fwQueue.filter fun f => f.moved.isNone)

/-- A deferral joins the firmware queue with its region (R60). -/
def Block.deferAdmit (b : Block) (ticket session acceptTime : Nat) (p : AdmitParams) : Block :=
  match b.allocRegion p session with
  | none => b
  | some (g, b) =>
    let next := if ticket = 4294967295 then 1 else ticket + 1
    { b with gr := { b.gr with
        fwQueue := b.gr.fwQueue ++ [{ ticket, session, acceptTime, granule := g, strainVersion := b.pinVersion p }]
        nextTicket := next } }

/-- What still names a moved request by its old handle names it by the new one: its tier moves and its copy items (R118, R121). -/
def Block.rename (b : Block) (old new : Nat) : Block :=
  let copy := fun (c : CopyItem) => if c.handle = old then { c with handle := new } else c
  { b with
    pg := { b.pg with moves := b.pg.moves.map fun m => if m.handle = old then { m with handle := new } else m }
    dsp := { b.dsp with
      runs := b.dsp.runs.map fun r => { r with copy := r.copy.map copy }
      openItems := b.dsp.openItems.map fun o => { o with copy := o.copy.map copy } } }

/-- An admission from the firmware queue (R61), or the return of a moved request (R62). -/
def Block.admitQueued (b : Block) (ticket oldHandle handle junction a : Nat) : Block :=
  let hit := fun (f : FwEntry) => match f.moved with
    | some e => ticket = 0 && e.handle == oldHandle
    | none => ticket != 0 && f.ticket == ticket
  match b.gr.fwQueue.find? hit with
  | none => b
  | some f =>
    let b := { b with gr := { b.gr with fwQueue := b.gr.fwQueue.filter fun x => !hit x } }
    let b := b.takeSlot handle
    let slot := slotOf handle
    match f.moved with
    | some e =>
      let b := (b.setEnt slot { e with handle }).setSlab slot f.slab
      let b := (b.modSide slot fun _ => { f.side with walkPending := false }).rename oldHandle handle
      let b := if e.state == .queued || e.state == .lost then b.beginWalk slot else b
      b.post slot { code := 0x0C, handle, time := a, arg0 := handle, arg1 := slotOf oldHandle / 2048 }
    | none =>
      match b.region f.granule with
      | none => b
      | some r =>
        let p := { r.record with input := r.tokens.map (·.2) }
        let b := b.modRegion f.granule fun r => { r with fromFwtrack := true }
        let b := b.setEnt slot (b.admitEntry handle f.session f.acceptTime f.granule f.strainVersion p true)
        let b := b.modTenant p.tenant fun t => { t with counters := { t.counters with admissions := t.counters.admissions + 1 } }
        (b.post slot { code := 1, handle, time := a, arg0 := handle, arg1 := ticket, arg2 := junction }).beginWalk slot

/-- A cancel by ticket, or by the old handle of a moved request (R61, R62, Table 02-5). The moved request's pages go here, before the page
phases of R103 (DESIGN CHOICE, log entry 110: R103 names no phase for them). -/
def Block.cancelTicket (b : Block) (h : ReqHead) (a : Nat) : Block :=
  let hit := fun (f : FwEntry) => match f.moved with
    | some e => h.handle != 0xFFFFFFFF && e.handle == h.handle
    | none => h.handle == 0xFFFFFFFF && f.ticket == h.ticket
  match b.gr.fwQueue.find? hit with
  | none => b
  | some f =>
    let e : Entry := match f.moved with
      | some e => e
      | none => match b.region f.granule with
        | some r => { eventRing := r.record.eventRing }
        | none => {}
    -- a request that has ended posts no second END; an END that finds no room is held (R58)
    let ev : Event := { code := 2, handle := e.handle, time := a, arg0 := 4, arg2 := e.genCount }
    let b := if f.side.ended then b.keepEnd e f.side
      else if freeEvents e ≥ 1 then (b.putEvent e ev).1 else b.keepEnd e { heldEnd := some ev }
    let b := (e.scratch.reverse ++ e.pages.reverse).foldl Block.unshare b
    let b := b.freeRegion f.granule
    { b with gr := { b.gr with fwQueue := b.gr.fwQueue.filter fun x => !hit x } }

/-- The slots of a bank whose requests wait to be moved when it leaves service (R62). -/
def Block.leaving (b : Block) (unreadable : List Nat) (bank : Nat) : List Nat :=
  b.liveSlots.filter fun s => s / 2048 == bank && !unreadable.contains s && (b.ent s).state != .draining && !b.work.freed.contains s

/-- The requests that banks leaving service take to LOST although their entries read correctably: while the save area holds entries of
another bank (R418). The block is as the records of the log leave it, requests that have ended among them. -/
def Block.bankLosses (b : Block) (banks : List Nat) (unreadable : List Nat) : List (Nat × Nat) :=
  let go := fun (x : List (Nat × Nat) × List Nat) (bank : Nat) =>
    let live := b.leaving unreadable bank
    if x.2.any fun k => k != bank then (x.1 ++ live.map fun s => ((b.ent s).handle, 1), x.2)
    else (x.1, if live.isEmpty then x.2 else bank :: x.2)
  (banks.foldl go ([], (b.gr.fwQueue.filterMap (·.moved)).map fun e => slotOf e.handle / 2048)).1

/-- Take a Granary bank out of service (R62): its slots leave the free list, and its live requests wait to be moved, but those whose
entry could not be read, which are in LOST. -/
def Block.takeBankOut (b : Block) (unreadable : List Nat) (bank : Nat) : Block :=
  let lo := bank * 2048
  let b := if b.gr.banksOut.contains bank then b else b.noteSticky 6
  let out := b.leaving unreadable bank
  { b with
    gr := { b.gr with
      banksOut := if b.gr.banksOut.contains bank then b.gr.banksOut else b.gr.banksOut ++ [bank]
      freeList := Runs.removeRange lo (lo + 2048) b.gr.freeList
      walks := b.gr.walks.filter fun w => !(out.any fun s => (b.ent s).handle == w.handle) }
    work := { b.work with moved := b.work.moved ++ out } }

/-- After the page phases: the requests of the banks that left are saved in the firmware queue, ahead of every ticket (R62). -/
def Block.saveMoved (b : Block) : Block :=
  (b.work.moved.filter fun s => Tab.has s b.gr.entries).foldl (fun b s =>
    let e := b.ent s
    { b with gr := { b.gr with
        entries := Tab.erase s b.gr.entries
        slabs := Tab.erase s b.gr.slabs
        side := Tab.erase s b.gr.side
        fwQueue := b.gr.fwQueue ++ [{ ticket := 0, session := e.ownerSession, acceptTime := e.admitTime, granule := e.granule
                                      strainVersion := e.strainVersion, moved := some e, slab := b.slab s, side := b.side s }] } }) b

end Sys2Proof.Machine
end

