-- ==== Sys2Proof/Machine/Junction.lean ====
section
/-! DEFINITION. What applying a junction log does to the replicated state (R223, R227, R291): commands, tickets,
consumer reports, ring writes, losses, banks, mode, consist, holds, the page phases, deadlines, priorities, rations,
shares and the digest. -/

namespace Sys2Proof.Machine
open Sys2Proof

/-! ### Tenants, classes and strains -/

/-- TENANT_CONFIG at its junction (R84, R85). -/
def Block.applyTenant (b : Block) (i : Nat) (c : TenantCfg) : Block :=
  b.modTenant i fun t =>
    let full := tenantEnabled c && !tenantEnabled t.cfg
    let lvl := fun (burst : Nat) (x : Int) => if full then ((burst * 256 : Nat) : Int) else min x ((burst * 256 : Nat) : Int)
    { t with cfg := c, prefill := lvl c.prefillBurst t.prefill, gen := lvl c.genBurst t.gen }

/-- CLASS_CONFIG at its junction (R76, R79, R86). -/
def Block.applyClass (b : Block) (i : Nat) (c : ClassCfg) : Block :=
  b.modClass i fun s =>
    let cap : Int := ((c.reserveBurst * 256 : Nat) : Int)
    { cfg := c
      share := if c.mode = 1 && s.cfg.mode != 1 then c.shareMin else s.share
      reserve := if s.cfg.reserveBurst = 0 then cap else min s.reserve cap }

/-- Granules of the strain pool. -/
def Block.strainGranules (b : Block) : Nat := match b.mainModel with
  | some (_, d) => d.load.strainPool / 4096
  | none => 0

def Block.usedStrain (b : Block) : List (Nat × Nat) :=
  sortBy (fun (x y : Nat × Nat) => x.1 < y.1) (b.pol.strains.map fun v => (v.granule, v.granules))

/-- STRAIN_LOAD at its junction: the region is allocated and written, the version is LOADING (R88, R308). -/
def Block.applyStrainLoad (b : Block) (desc strain size crc version : Nat) (data : List Byte) : Block :=
  let n := ceilDiv size 4096
  match lowestFit b.strainGranules n b.usedStrain with
  | none => b
  | some g =>
    let v : StrainVersion := { descriptor := desc, strain, version, state := .loading, granule := g, granules := n
                               data := data.take size, crc }
    let b := b.write (b.strainPtr g) (data.take size)
    { b with pol := { b.pol with
        strains := b.pol.strains ++ [v]
        strainNumbers := (b.pol.strainNumbers.filter fun x => !(x.1 == desc && x.2.1 == strain)) ++ [(desc, strain, version)] } }

/-- LOADING versions of an earlier junction become READY or EMPTY (Table 03-7, R308). -/
def Block.settleStrains (b : Block) : Block :=
  b.pol.strains.foldl (fun b v =>
    if v.state != .loading then b
    else if crc32c v.data = v.crc then
      { b with pol := { b.pol with strains := b.pol.strains.map fun x =>
          if x.descriptor == v.descriptor && x.strain == v.strain then
            (if x.version == v.version then { x with state := .ready } else if x.state == .ready then { x with state := .retiring } else x)
          else x } }
    else { b with pol := { b.pol with strains := b.pol.strains.filter fun x =>
        !(x.descriptor == v.descriptor && x.strain == v.strain && x.version == v.version) } }) b

/-- A version goes to EMPTY: its nodes are evicted, deepest first (R116), and its region released. Nodes of equal BLOCK go in ascending node
index (DESIGN CHOICE, log entry 110). -/
def Block.emptyStrain (b : Block) (v : StrainVersion) : Block :=
  let ctx := v.version * 65536 + v.strain
  let ns := sortBy (fun (x y : Nat × Node) => x.2.block > y.2.block || (x.2.block == y.2.block && x.1 < y.1))
    (b.pg.nodes.filter fun p => p.2.context == ctx && p.2.model == v.descriptor)
  let b := ns.foldl (fun b p => (b.dropNode p.1).settlePage p.2.page) b
  { b with pol := { b.pol with strains := b.pol.strains.filter fun x =>
      !(x.descriptor == v.descriptor && x.strain == v.strain && x.version == v.version) } }

/-- RETIRING versions with no reference go to EMPTY (Table 03-7). A reference whose slot this junction frees still counts, so its version
goes at the next one (DESIGN CHOICE, log entry 110). -/
def Block.retireStrains (b : Block) : Block :=
  (b.pol.strains.filter fun v => v.state == .retiring).foldl
    (fun b v => if b.strainRefs v.descriptor v.strain v.version = 0 then b.emptyStrain v else b) b

def Block.applyStrainDrop (b : Block) (desc strain version : Nat) : Block :=
  match b.pol.strains.find? fun v => v.descriptor == desc && v.strain == strain && v.version == version with
  | some v => b.emptyStrain v
  | none => b

/-- The records of a log that act on group-wide tables, in record order (R291). -/
def Block.applyGroupCmd (b : Block) (c : CmdRecord) : Block :=
  match c.params with
  | .tenantConfig i cfg => b.applyTenant i cfg
  | .classConfig i cfg => b.applyClass i cfg
  | .strainLoad d s z crc _ => match c.result with
    | .strainData data => b.applyStrainLoad d s z crc (c.assigned % 65536) data
    | _ => b
  | .strainDrop d s v => b.applyStrainDrop d s v
  | _ => b

/-! ### Consumer reports, ring writes, deadlines -/

/-- A consumer report of a request that has left while its END was held (R58). -/
def Block.consumerLeft (b : Block) (x : Nat × Nat × Nat) : Block :=
  match b.gr.heldEnds.find? fun h => h.1.handle == x.1 with
  | none => b
  | some h =>
    let e := { h.1 with tokenCons := x.2.1, eventCons := x.2.2 }
    let rest := b.gr.heldEnds.filter fun y => y.1.handle != x.1
    let b := { b with gr := { b.gr with heldEnds := if freeEvents e ≥ 1 then rest else rest ++ [(e, h.2)] } }
    if freeEvents e ≥ 1 then (b.putEvent e h.2).1 else b

def Block.applyConsumer (b : Block) (x : Nat × Nat × Nat) : Block :=
  match b.byHandle x.1 with
  | none => b.consumerLeft x
  | some (slot, _) => (b.modEnt slot fun e => { e with tokenCons := x.2.1, eventCons := x.2.2 }).flushEnd slot

/-- The tokens of one request written at w (R73). -/
def Block.cadence (slot w p : Nat) : Nat → Nat → Block → Block
  | _, 0, b => b
  | pos, n + 1, b =>
    let d := (b.ent slot).nextDeadline
    let b := if w ≤ d then b.modEnt slot fun e => { e with nextDeadline := d + p }
      else
        let b := b.post slot { code := 4, handle := (b.ent slot).handle, time := b.cp.agreedAt, arg0 := pos, arg2 := w - d }
        (b.countMiss slot).modEnt slot fun e => { e with nextDeadline := w + p }
    Block.cadence slot w p (pos + 1) n b

/-- RING_WRITES: the rings' producer indices move on (R57), and CADENCE deadlines with them (R73). -/
def Block.applyRingWrite (b : Block) (x : Nat × Nat) : Block :=
  match b.byHandle x.1, b.work.emitted.find? fun m => m.1 == x.1 with
  | some (slot, e), some (_, pos, n) =>
    let b := b.modEnt slot fun e => { e with emitCount := e.emitCount + n, tokenProd := add32 e.tokenProd n }
    if e.deadlineMode = 2 then Block.cadence slot x.2 e.cadencePeriod pos n b else b
  | _, _ => b

def activeState : ReqState → Bool
  | .queued | .prefill | .decode | .rebuild => true
  | _ => false

/-- R74 and R75 for one request. -/
def Block.checkDeadline (b : Block) (a slot : Nat) : Block :=
  let e := b.ent slot
  if !activeState e.state || a ≤ e.nextDeadline then b
  else if e.deadlineMode = 2 || (e.deadlineMode = 1 && e.deadlinesMissed = 0) then
    let b := b.post slot { code := 4, handle := e.handle, time := a, arg0 := e.transcriptLen, arg2 := a - e.nextDeadline }
    let b := b.countMiss slot
    if e.deadlineMode = 2 then b.modEnt slot fun e => { e with nextDeadline := a + e.cadencePeriod } else b
  else b

/-- The slack of R71, a signed 64-bit value. -/
def slackOf (e : Entry) (a stepEst : Nat) : Int := (BitVec.ofNat 64 e.nextDeadline - BitVec.ofNat 64 (a + 2 * stepEst)).toInt

/-- EFFECTIVE_PRIO (R71). -/
def effectivePrioOf (c : ClassCfg) (e : Entry) (a stepEst : Nat) : Nat :=
  let base := baseLevel e.classPrio
  let promos := if e.deadlineMode = 0 then 0
    else ((c.thresh.take c.numThresh).filter fun t => slackOf e a stepEst < t).length
  let level := if base > c.ceiling then max c.ceiling (base - promos) else base
  (base - level) * 16 + level

def Block.updatePrio (b : Block) (a slot : Nat) : Block :=
  let e := b.ent slot
  if activeState e.state then
    b.setEnt slot { e with effectivePrio := effectivePrioOf (b.cls (classOf e.classPrio)).cfg e a b.cp.stepEst }
  else b

/-! ### Rations and shares -/

/-- The debits of a step's surviving tokens, in consist row order (R85, R86): an entry and how many. A VOICE_RESERVE request draws on
its class reserve in whatever state its row ran, the first token of its PREFILL included (DESIGN CHOICE, log entry 110). -/
def Block.debitTokens (b : Block) (x : Entry × Nat) : Block :=
  let e := x.1
  let t := b.tenant e.tenant
  let cost : Int := ((x.2 * 256 : Nat) : Int)
  if genUnlimited t.cfg then b.modTenant e.tenant fun t =>
    { t with counters := { t.counters with generatedTokens := t.counters.generatedTokens + x.2 } }
  else if e.flags.voiceReserve && t.gen ≤ 0 then
    (b.modClass (classOf e.classPrio) fun c => { c with reserve := c.reserve - cost }).modTenant e.tenant fun t =>
      { t with counters := { t.counters with reserveUsed := t.counters.reserveUsed + x.2 } }
  else b.modTenant e.tenant fun t =>
    { t with gen := t.gen - cost, counters := { t.counters with generatedTokens := t.counters.generatedTokens + x.2 } }

/-- The order in which requests stand in a consist. -/
def handlesOf (rows : List RowRec) : List Nat := (rows.map (·.handle)).eraseDups

/-- Rebuilt tokens are not charged (R85): a request whose row was a REBUILD row. -/
def Block.debitStep (b : Block) : Block :=
  let rows := match b.cp.prevLog with
    | some l => l.consist.rows
    | none => []
  (handlesOf rows).foldl (fun b h =>
    if rows.any fun r => r.handle == h && r.rebuild then b
    else match b.work.survivors.find? fun s => s.1.handle == h with
      | some s => if s.2 = 0 then b else b.debitTokens s
      | none => b) b

/-- The prefill debit of one row of the consist applied (R85). A row that then yields no token keeps its debit, and its successor is debited
again (DESIGN CHOICE, log entry 125: R179 debits no ration for it, and R85 debits as the consist is applied). -/
def Block.debitRow (b : Block) (r : RowRec) : Block :=
  if (r.kind = 1 && !r.rebuild) || r.kind = 2 then
    match b.byHandle r.handle with
    | none => b
    | some (_, e) => b.modTenant e.tenant fun t =>
      { t with
        prefill := if prefillUnlimited t.cfg then t.prefill else t.prefill - ((r.posCount * 256 : Nat) : Int)
        counters := { t.counters with prefillPositions := t.counters.prefillPositions + r.posCount } }
  else b

/-- The refill of R85 at agreement time a. -/
def Block.refill (b : Block) (a : Nat) : Block :=
  let tick := a / 1000000
  let ticks : Int := if b.pol.tickValid then (tick : Int) - b.pol.lastTick else 0
  let lvl := fun (rate burst : Nat) (x : Int) => min ((burst * 256 : Nat) : Int) (x + ticks * rate)
  { b with pol := { b.pol with
      lastTick := tick
      tickValid := true
      tenants := b.pol.tenants.map fun (i, t) =>
        (i, { t with prefill := lvl t.cfg.prefillRate t.cfg.prefillBurst t.prefill, gen := lvl t.cfg.genRate t.cfg.genBurst t.gen })
      classes := b.pol.classes.map fun c => { c with reserve := lvl c.cfg.reserveRate c.cfg.reserveBurst c.reserve } } }

/-- The prefill share of a RATIO class (R79). -/
def shareNext (c : ClassCfg) (share q : Nat) (m : Option Int) : Nat :=
  let target := if (match m with
      | some x => decide (x < c.slackGuard)
      | none => false) then c.shareMin
    else c.shareMin + (c.shareMax - c.shareMin) * min q c.shareQref / c.shareQref
  if target ≥ share then share + min 16 (target - share) else share - min 16 (share - target)

def Block.updateShares (b : Block) (a : Nat) : Block :=
  let es := Tab.vals b.gr.entries
  { b with pol := { b.pol with classes := ((List.range 8).zip b.pol.classes).map fun (i, c) =>
      if c.cfg.mode != 1 then c else
      let mine := es.filter fun e => classOf e.classPrio == i
      let q := (mine.filter fun e => e.state == .queued || e.state == .prefill).foldl
        (fun n e => n + (e.transcriptLen - e.committedLen)) 0
      let gens := mine.filter fun e => (e.state == .decode || e.state == .rebuild) && e.deadlineMode != 0
      let m := minBy (fun (x y : Int) => x < y) (gens.map fun e => slackOf e a b.cp.stepEst)
      { c with share := shareNext c.cfg c.share q m } } }

/-! ### Losses, mode -/

/-- A loss of the LOSSES section (R51, R53); TRANSCRIPT losses act in applyRequest. -/
def Block.applyLoss (b : Block) (a : Nat) (x : Nat × Nat) : Block :=
  match b.byHandle x.1 with
  | none => b
  | some (slot, e) => if x.2 != 5 && lossState e.state then b.enterLost slot x.2 a else b

/-- Structures of a main model as a load sets them up (R97 to R99, R110). -/
def Block.setUpPools (b : Block) (l : LoadParams) (n0 : Nat) : Block :=
  { b with pg := { b.pg with
      stack0 := Runs.upTo n0, stack1 := Runs.upTo l.tier1Pages, stack2 := Runs.upTo l.tier2Pages, desc := [], nodes := []
      freeNodes := if bits l.loadFlags 5 4 = 0 then [] else Runs.upTo l.rhizomeNodes, buckets := [] } }

/-- A value, or its default where it is 0 (R302). -/
def orDefault (x d : Nat) : Nat := if x = 0 then d else x

/-- The SPEC block with its defaults (Table 08-1). -/
def normSpec (s : SpecBlock) : SpecBlock :=
  { s with depthMax := orDefault s.depthMax 16, widthMax := orDefault s.widthMax 16, nodesMax := orDefault s.nodesMax 64 }

/-- The GLEAN block with its defaults (Table 07-4). -/
def normGlean (g : GleanBlock) : GleanBlock :=
  { g with resendAfter := orDefault g.resendAfter 20, gleanTimeout := orDefault g.gleanTimeout 200 }

/-- MODEL_LOAD with the defaults of R302. -/
def normLoad (p : LoadParams) : LoadParams :=
  { p with idleInterval := orDefault p.idleInterval 100000, junctionWatchdog := orDefault p.junctionWatchdog 10000
           spec := normSpec p.spec, glean := normGlean p.glean }

/-- MODE_SET with the defaults of R302 (R311). -/
def normMode (p : ModeParams) : ModeParams :=
  { p with idleInterval := orDefault p.idleInterval 100000, spec := normSpec p.spec, glean := normGlean p.glean }

/-- Every request's TREE_DEPTH and TREE_WIDTH under new SPEC parameters (R200). -/
def Granary.relimit (g : Granary) (sp : SpecBlock) : Granary :=
  { g with
    entries := g.entries.map fun x => (x.1, keepLimits sp x.2)
    fwQueue := g.fwQueue.map fun f => { f with moved := f.moved.map (keepLimits sp) } }

/-- A committed proposal takes effect (R233, R303, R305, R311). The platform totals of R451 go on through a new map. -/
def Block.commitMode (b : Block) (cmds : List CmdRecord) (epoch : Nat) (st : StagedProposal) : Block :=
  match st.params with
  | .modelLoad p0 =>
    let p := normLoad p0
    let fin := (cmds.findSome? fun c => match c.params, c.result with
      | .modelLoad q, .model l x n => if q.descriptor = p.descriptor then some (l, x, n) else none
      | _, _ => none).getD (p.maxLive, p.maxContext, 0)
    match st.stage with
    | none => b
    | some sg =>
      let d : Descriptor := { load := p, stage := sg, map := st.map, epoch }
      let m := { b.mdl with active := Tab.set (p.descriptor % 16) d b.mdl.active }
      if isDraftLoad p then { b with mdl := m }
      else
        let plats := ((List.range st.platforms.length).zip st.platforms).filter fun x => x.2 != ⟨0, 0, 0, false⟩
        let former := b.dsp.platforms.map fun (x : Nat × Platform) =>
          (x.1, ({ x.2 with entry := ⟨0, 0, 0, false⟩, inService := false, joining := false, items := [] } : Platform))
        let put := fun (t : Table Platform) (x : Nat × PlatformEntry) =>
          let old : Platform := Tab.getD x.1 { entry := x.2, inService := false, joining := false, items := [], counters := {} } t
          Tab.set x.1 { old with entry := x.2, joining := x.2.inService && x.2.kind != 0 } t
        ({ b with
          dsp := { b.dsp with platforms := plats.foldl put former }
          mdl := { m with
            template := st.template, maxLive := fin.1, maxContext := fin.2.1, n0 := fin.2.2, spec := p.spec, glean := p.glean
            stepPositions := p.stepPositions, idleInterval := p.idleInterval, watchdog := p.junctionWatchdog, logBase := some sg.logBase } }).setUpPools p fin.2.2
  | .modelUnload _ d =>
    let main := match Tab.get? (d % 16) b.mdl.active with
      | some x => !isDraftLoad x.load
      | none => false
    let b := { b with mdl := { b.mdl with active := Tab.erase (d % 16) b.mdl.active } }
    if main then
      { b with
        mdl := { b.mdl with template := none, maxLive := 0, maxContext := 0, n0 := 0 }
        pg := { b.pg with stack0 := [], stack1 := [], stack2 := [], desc := [], nodes := [], freeNodes := [], buckets := [] }
        pol := { b.pol with strains := [] } }
    else b
  | .modeSet p0 =>
    let p := normMode p0
    let m := b.mdl
    let m := if bit p.flags 0 then { m with template := st.template } else m
    let m := if bit p.flags 1 then { m with active := Tab.modify (p.descriptor % 16) (fun d => { d with map := st.map }) m.active } else m
    let m := if bit p.flags 2 then { m with spec := p.spec } else m
    let m := if bit p.flags 3 then { m with glean := p.glean } else m
    let m := if bit p.flags 4 then { m with stepPositions := p.stepPositions, idleInterval := p.idleInterval } else m
    { b with mdl := m, gr := if bit p.flags 2 then b.gr.relimit p.spec else b.gr }
  | _ => b

/-- The proposals that this instance has staged, the earlier first. -/
def Coupling.stages (c : Coupling) : List StagedProposal := c.staged.toList ++ c.stagedNext.toList

/-- The MODE section (R233, R240): a staged proposal commits, is cancelled, or (undecided by a takeover's log) goes. One for a later
junction that is not of the old term stays. -/
def Block.applyMode (b : Block) (l : JLog) : Block :=
  let left := b.cp.stages.filter fun st => st.junction > l.junction && (l.takeover.isNone || st.term == l.leadTerm)
  let b1 := match l.mode, b.cp.staged.filter (·.prepared) with
    | some (e, d, n), some st => if d = 1 && st.number = n then b.commitMode l.commands e st else b
    | _, _ => b
  let b1 := { b1 with cp := { b1.cp with epoch := match l.mode with
    | some (e, d, _) => if d = 1 then e else b.cp.epoch
    | none => b.cp.epoch } }
  { b1 with cp := { b1.cp with
    staged := left.head?, stagedNext := left[1]?, stageLost := b.cp.stageLost && left.length == b.cp.stages.length } }

/-! ### The consist (R102, R207, R208) -/

/-- The nodes of a tree from its TILLER rows in tree order (Tables 08-2 and 08-5). -/
def treeOf (rows : List RowRec) (h : Nat) : Option Tree :=
  let ts := rows.filter fun r => r.handle == h && r.kind == 3
  match ts with
  | [] => none
  | root :: _ =>
    let dep := fun (r : RowRec) => bits r.treeNode 13 9
    let num := fun (r : RowRec) => r.treeNode % 128
    let inp := fun (r : RowRec) => bit r.treeNode 15
    let levels := ts.foldl (fun m r => max m (dep r)) 0
    let widths := (List.range levels).map fun d => (ts.filter fun r => dep r == d + 1).length
    let nodes := ts.map fun r =>
      let d := dep r
      let sibs := ts.filter fun x => dep x == d && num x < num r
      ({ depth := d
         parent := if d = 0 then 255 else ((ts.find? fun x => dep x == d - 1 && inp x).map num).getD 0
         sibling := sibs.length
         inplace := inp r, spine := bit r.treeNode 14, token := none, void := false, q := F.zero
         scratch := if inp r then none else some (siblingsBefore rows r) } : TreeNode)
    some { handle := h, rootPos := root.firstPos, widths, nodes, sets := [], drawn := [], walked := false }

/-- VERIFY of Table 08-4. -/
def verifyByte (p : Sampling) : Nat := 2 * b2n (bit p.sampleMode 0) + b2n (verifyMode p == 2)

/-- Bit m: node m is this node or an ancestor. -/
def ancestors (nodes : List TreeNode) : Nat → Nat → Nat
  | 0, n => 2 ^ n
  | fuel + 1, n => match nodes[n]? with
    | some t => if t.parent = 255 then 2 ^ n else 2 ^ n + ancestors nodes fuel t.parent
    | none => 2 ^ n

/-- A node entry; the root's token, which no draw gives, stands as not drawn (R209 has it read from the transcript). -/
def treeNodeBytes (t : Tree) (i : Nat) (n : TreeNode) : List Byte :=
  le 4 (match n.token with
    | some x => x + (if n.void then 2147483648 else 0)
    | none => 2147483648) ++
  le 1 n.depth ++ le 1 n.parent ++ le 1 n.sibling ++ le 1 (128 * b2n n.inplace + 64 * b2n n.spine) ++
  le 4 (match n.scratch with
    | some s => 2147483648 + s
    | none => t.rootPos + n.depth) ++
  le 4 n.q.toNat ++ le 16 (ancestors t.nodes 16 i)

/-- A tree record up to its draft sets (Table 08-4). -/
def treeBytes (t : Tree) (p : Sampling) : List Byte :=
  le 4 t.handle ++ le 4 t.rootPos ++ le 1 t.widths.length ++ le 1 (t.nodes.length - 1) ++ le 1 (verifyByte p) ++
  le 1 (t.nodes.filter fun n => n.scratch.isSome).length ++ zeros 4 ++ ((List.range 16).flatMap fun d => le 1 (t.widths.getD d 0)) ++
  zeros 32 ++ padTo 2080 (((List.range t.nodes.length).zip t.nodes).flatMap fun (i, n) => treeNodeBytes t i n) ++ zeros 32 ++
  ((List.range 16).flatMap fun d =>
    let s := Tab.getD d [] t.sets
    le 2 s.length ++ zeros 6 ++ padTo 512 (s.flatMap fun e => le 4 e.1 ++ le 4 e.2.toNat)) ++ zeros 1792

/-- Where tree record i of a step stands (R207). -/
def Block.treeAddr (b : Block) (step i : Nat) : Nat := b.treeBase + step % 2 * 25198592 + 32768 + i * 12288

/-- The row directory record of a row (Table 04-2). -/
def Block.dirBytes (b : Block) (slot : Nat) : List Byte :=
  let e := b.ent slot
  le 8 (b.listBase slot) ++ le 4 e.pages.length ++ le 1 e.scratch.length ++ zeros 3 ++
  (List.range 12).flatMap fun i => le 4 (e.pages.getD i 0xFFFFFFFF)

/-- Row directory, row map and tree records of a consist that now runs (R102, R207). -/
def Block.writeConsist (b : Block) (c : Consist) : Block :=
  let b := (List.range c.rows.length).foldl (fun (b : Block) i =>
    match c.rows[i]? with
    | some r => b.write (Config.structBase 0 b.ctlBase + c.step % 2 * 262144 + i * 64) (b.dirBytes (slotOf r.handle))
    | none => b) b
  let hs := handlesOf (c.rows.filter fun r => r.kind == 3)
  let trees := hs.filterMap fun h => treeOf c.rows h
  let rowMap := c.rows.flatMap fun r =>
    le 2 (if r.kind = 3 || r.kind = 4 then hs.idxOf r.handle else 0xFFFF) ++ le 2 r.treeNode ++ zeros 4
  let b := { b with trees }
  let b := if rowMap.isEmpty then b else b.write (b.treeBase + c.step % 2 * 25198592) rowMap
  ((List.range trees.length).zip trees).foldl (fun (b : Block) (i, t) =>
    b.write (b.treeAddr c.step i) (treeBytes t (b.ent (slotOf t.handle)).sampling)) b

/-- A request has rows in the consist now current (R37, R69, R208). For REBUILD rows its record and the rows' tokens are read (R53). -/
def Block.giveUnit (b : Block) (c : Consist) (h : Nat) : Block :=
  match b.byHandle h with
  | none => b
  | some (slot, e) =>
    let rows := c.rows.filter fun r => r.handle == h
    let nodes := (rows.filter fun r => r.kind == 3).length
    let b := b.setEnt slot { e with
      state := if e.state == .queued then .prefill else e.state
      specTailLen := nodes - 1 }
    let from_ := b.transcriptPtr e.granule
    let b := rows.foldl (fun (b : Block) r => if !r.rebuild then b else
      (b.ask (48 + slot % 12) from_ 256 (.transcript h)).ask (48 + slot % 12) (from_ + 256 + 4 * r.firstPos) (4 * r.posCount) (.transcript h)) b
    b.modSide slot fun x => { x with ringHold := false, rationHold := false }

/-- A hold of the HOLDS section (R69). -/
def Block.applyHold (b : Block) (a : Nat) (x : Nat × Nat) : Block :=
  match b.byHandle x.1 with
  | none => b
  | some (slot, e) =>
    if x.2 = 1 then
      (b.post slot { code := 5, handle := e.handle, time := a, arg0 := freeTokens e, arg1 := e.treeDepth + 1 }).modSide slot
        fun s => { s with ringHold := true }
    else
      let b := b.modTenant e.tenant fun t => { t with counters := { t.counters with holds := t.counters.holds + 1 } }
      (b.post slot { code := 0x0D, handle := e.handle, time := a, arg0 := x.2 - 2, arg2 := a }).modSide slot
        fun s => { s with rationHold := true }

/-! ### The whole application -/

/-- The tokens each request of the ended step can have written: handle, first position, number (R49). -/
def Block.emittedOf (b : Block) : List (Nat × Nat × Nat) :=
  b.gr.results.filterMap fun r => match b.byHandle r.handle with
    | some (_, e) => some (r.handle, e.transcriptLen, (cutTokens e (r.tokens.map (·.token))).length)
    | none => none

/-- The junction opens: agreement time, STEP_EST (R71), nothing posted yet. -/
def Block.openJunction (b : Block) (l : JLog) (a : Nat) : Block :=
  { b with
    work := { emitted := b.emittedOf }
    gr := { b.gr with lastEvents := [] }
    cp := { b.cp with
      applied := l.junction
      stepEst := if b.cp.firstJunction then 0 else min 4294967295 (a - b.cp.agreedAt)
      agreedAt := a } }

/-- A request moved out of a bank loses its pages with the pools, and its slab is rebuilt where it goes to LOST (R164). -/
def coldMoved (b : Block) (f : FwEntry) : FwEntry := match f.moved with
  | none => f
  | some e =>
    let e := { e with pages := [], scratch := [], sharedPages := 0 }
    if lossState e.state || e.state == .lost then
      match b.region e.granule with
      | some r =>
        let s := slabOf (generated (r.tokens.take e.transcriptLen))
        let e := rebuiltEntry b.mdl.spec e r
        { f with moved := some { e with flags := { e.flags with penaltyOvf := e.flags.penaltyOvf || s.2 } }, slab := s.1 }
      | none => { f with moved := some e }
    else { f with moved := some e }

/-- The actions of R438 at the first junction of a group that resumes cold. -/
def Block.coldStart (b : Block) (a : Nat) : Block :=
  let b : Block := match b.mainModel with
    | some (_, d) => b.setUpPools d.load b.mdl.n0
    | none => b
  let b := { b with
    pg := { b.pg with moves := [], nextMoveSeq := 0, completedMark := 0 }
    gr := { b.gr with walks := [], fwQueue := b.gr.fwQueue.map (coldMoved b) } }
  -- a moved request's record and transcript are read for it (R53)
  let b := b.gr.fwQueue.foldl (fun (b : Block) f => match f.moved with
    | some e => if e.state == .lost then
        b.ask (48 + slotOf e.handle % 12) (b.transcriptPtr f.granule) (256 + 4 * e.transcriptLen) (.transcript e.handle) else b
    | none => b) b
  let drained := (b.gr.entries.filter fun (e : Nat × Entry) => e.2.state == ReqState.draining)
  let b := drained.foldl (fun (b : Block) e => b.freeRegion e.2.granule) b
  let b := { b with gr := { b.gr with entries := b.gr.entries.filter fun (e : Nat × Entry) => e.2.state != ReqState.draining } }
  let free := (Tab.keys b.gr.entries).foldl (fun (r : Runs) s => Runs.remove s r) (Runs.upTo 32768)
  let free := b.gr.banksOut.foldl (fun (r : Runs) k => Runs.removeRange (k * 2048) (k * 2048 + 2048) r) free
  let b := { b with gr := { b.gr with freeList := free } }
  let live := (b.gr.entries.filter fun (e : Nat × Entry) => lossState e.2.state || e.2.state == ReqState.lost).map Prod.fst
  let b := live.foldl (fun (b : Block) s => (b.enterLost s 4 a).beginWalk s) b
  let full := fun (t : TenantState) => if tenantEnabled t.cfg then
      { t with prefill := ((t.cfg.prefillBurst * 256 : Nat) : Int), gen := ((t.cfg.genBurst * 256 : Nat) : Int) } else t
  { b with pol := { b.pol with
      tickValid := false
      tenants := b.pol.tenants.map fun (t : Nat × TenantState) => (t.1, full t.2)
      classes := b.pol.classes.map fun (c : ClassState) => { c with reserve := ((c.cfg.reserveBurst * 256 : Nat) : Int) } } }

/-- The junction being applied is the first of a group that resumes cold. -/
def Block.resumesCold (b : Block) : Bool := b.form.any fun f => f.committed && f.result.any fun r => r.resumeKind == 2

/-- A COMMANDS record is that of a deferral, which the TICKETS section carries out: it names no handle (R290, R313). -/
def defersIn (tickets : List TicketRec) (c : CmdRecord) : Bool := c.assigned == 0 && tickets.any fun t => match t with
  | .deferral _ s a p => s == c.session && a == c.acceptTime && c.params == .reqAdmit p
  | .admission .. => false

/-- A record of the COMMANDS section beside the effects of R38 on the requests that live already (R291): an admission, with what the log
holds for it, a cancel by ticket or old handle, or a record for a group-wide table. -/
def Block.applyRecord (l : JLog) (a : Nat) (b : Block) (c : CmdRecord) : Block := match c.params with
  | .reqAdmit p =>
    if defersIn l.tickets c then b else (b.admitDirect c p).applyRequest l.commands [] [] a l.closeTime (slotOf c.assigned)
  | .reqCancel h => b.cancelTicket h a
  | _ => b.applyGroupCmd c

/-- A deferral or an admission from the queue (R60, R61). A cancel in the COMMANDS section of a ticket that this log defers acts with the
deferral (DEDUCED, log entry 70). -/
def Block.applyTicket (l : JLog) (a : Nat) (b : Block) (t : TicketRec) : Block := match t with
  | .deferral n s at_ p =>
    let b := b.deferAdmit n s at_ p
    match l.commands.findSome? fun c => match c.params with
      | .reqCancel h => if h.handle = 0xFFFFFFFF ∧ h.ticket = n then some h else none
      | _ => none with
    | some h => b.cancelTicket h a
    | none => b
  | .admission n o h => b.admitQueued n o h l.junction a

/-- COMMANDS and TICKETS (Table 09-2): the effects of R38 on each live request, then the records in their order. -/
def Block.applyRecords (b : Block) (l : JLog) (losses : List (Nat × Nat)) (a : Nat) : Block :=
  let b := b.liveSlots.foldl (fun b s => b.applyRequest l.commands losses l.ringWrites a l.closeTime s) b
  let b := l.commands.foldl (Block.applyRecord l a) b
  (l.tickets.filter fun t => match t with
    | .deferral .. => false
    | .admission .. => true).foldl (Block.applyTicket l a) ((l.tickets.filter fun t => match t with
    | .deferral .. => true
    | .admission .. => false).foldl (Block.applyTicket l a) b)

/-- The losses that a log brings: those of its LOSSES section, and those of the banks it takes out, as its records leave the banks and the
save area (R62, R418). -/
def Block.lossesOf (b : Block) (l : JLog) (a : Nat) : List (Nat × Nat) :=
  if l.banks.isEmpty then l.losses
  else l.losses ++ (b.applyRecords l l.losses a).bankLosses l.banks ((l.losses.filter fun x => x.2 == 1).map fun x => slotOf x.1)

/-- Sections 2 to 8 (Table 09-2) and the request effects of R38. -/
def Block.applySections (b : Block) (l : JLog) (a : Nat) : Block :=
  let b := if b.resumesCold then b.coldStart a else b
  let b := b.settleStrains
  let losses := b.lossesOf l a
  -- a request in LOST goes on to REBUILD, whatever the log names for it but a loss of its transcript (Table 02-5)
  let lost := (b.liveSlots.filter fun s => (b.ent s).state == .lost).map fun s => (b.ent s).handle
  let b := b.applyRecords l losses a
  let b := l.consumer.foldl Block.applyConsumer b
  let b := l.ringWrites.foldl Block.applyRingWrite b
  let b := (losses.filter fun x => !lost.contains x.1).foldl (fun b x => b.applyLoss a x) b
  let b := (losses.filter fun x => x.2 != 5).foldl (fun b x => match b.byHandle x.1 with
    | some (slot, e) => if e.state == .lost then b.beginWalk slot else b
    | none => b) b
  let unreadable := (losses.filter fun x => x.2 == 1).map fun x => slotOf x.1
  let b := l.banks.foldl (fun b k => b.takeBankOut unreadable k) b
  let b := b.retireStrains
  b.applyMode l

/-- The seven page phases with the consist (R103); the freed slots leave after phase 4. -/
def Block.applyPages (b : Block) (l : JLog) (a mark : Nat) : Block :=
  let runs := b.dsp.runs
  let first := b.dsp.arrival
  let b := b.phase1 mark a
  let b := b.phase2 a
  let b := b.phase3 a
  let b := b.phase4
  let b := b.reapSlots
  let b := b.phase5 a
  let b := b.phase6 l.consist
  let b := b.phase7
  ((b.issueMoves l.junction).numberCopies runs first).saveMoved

/-- Deadlines, priorities, rations and shares once the log has been applied (R71 to R75, R79, R85). -/
def Block.applyClock (b : Block) (l : JLog) (a : Nat) : Block :=
  let b := b.liveSlots.foldl (fun b s => b.checkDeadline a s) b
  let b := b.liveSlots.foldl (fun b s => b.updatePrio a s) b
  let b := b.debitStep
  let b := l.consist.rows.foldl Block.debitRow b
  let b := b.refill a
  b.updateShares a

/-- The summary of Table 09-4. The head and the tail of an empty list are 0xFFFFFFFF (DESIGN CHOICE, log entry 125). -/
def Block.summaryBytes (b : Block) : List Byte :=
  let top := fun (r : Runs) => Runs.count r
  le 4 ((Runs.head? b.gr.freeList).getD 0xFFFFFFFF) ++ le 4 ((Runs.tailLast? b.gr.freeList).getD 0xFFFFFFFF) ++
  le 4 (Runs.count b.gr.freeList) ++ le 4 b.liveCount ++ le 4 (top b.pg.stack0) ++ le 4 (top b.pg.stack1) ++
  le 4 (top b.pg.stack2) ++ le 4 ((Runs.head? b.pg.freeNodes).getD 0xFFFFFFFF) ++ le 4 b.pg.nextMoveSeq ++ le 4 b.gr.nextTicket ++
  le 4 b.gr.fwQueue.length ++ le 4 b.freeGranules ++ le 4 b.cp.term ++ le 4 b.cp.epoch ++ le 4 b.cp.applied ++ zeros 4

/-- The entry as a freed slot is written: its handle, no inline page (R101), LAST_JUNCTION, all else 0. -/
def freedBytes (b : Block) (slot : Nat) : List Byte :=
  le 4 (mkHandle (Tab.getD slot 0 b.gr.tags) slot) ++ zeros 68 ++ List.replicate 48 0xFF ++ zeros 132 ++ le 4 b.cp.applied

/-- LAST_JUNCTION of the changed entries, and the digest of what changed (R32, R227). -/
def Block.closeDigest (b : Block) (before : Table Entry) : Block :=
  let j := b.cp.applied % 4294967296
  let entries := b.gr.entries.map fun (s, e) => match Tab.get? s before with
    | some o => if o = e then (s, e) else (s, { e with lastJunction := j })
    | none => (s, { e with lastJunction := j })
  let b := { b with gr := { b.gr with entries } }
  let changed := entries.filter fun (s, e) => Tab.get? s before != some e
  let gone := before.filter fun p => !Tab.has p.1 entries
  let h := (changed.map fun (s, e) => crc64 (le 4 s ++ b.entryBytes s e)) ++ (gone.map fun (s, _) => crc64 (le 4 s ++ freedBytes b s))
  let d := (h.foldl (· + ·) (crc64 b.summaryBytes)) % 18446744073709551616
  { b with cp := { b.cp with digest := d }, work := {} }

/-! ### What a junction writes to device memory -/

/-- A penalty slab (R160): whole where the slot is newly taken or the slab was rebuilt (R164), else the entries that changed. -/
def Block.writeSlab (b : Block) (before : Table (Table SlabEntry)) (rebuilt : List Nat) (slot : Nat) (s : Table SlabEntry) : Block :=
  match if rebuilt.contains slot then none else Tab.get? slot before with
  | none => s.foldl (fun b x => b.write (b.slabPtr slot + 8 * x.1) (slabEntryBytes (some x.2))) (b.write (b.slabPtr slot) (zeros 8192))
  | some o => ((Tab.keys o ++ Tab.keys s).eraseDups.filter fun i => Tab.get? i o != Tab.get? i s).foldl
      (fun b i => b.write (b.slabPtr slot + 8 * i) (slabEntryBytes (Tab.get? i s))) b

/-- A page list beyond the inline entries, and the scratch pages in the last words of the slot's region (R101). -/
def Block.writeList (b : Block) (slot : Nat) (o e : Entry) : Block :=
  let words := fun (l : List Nat) => l.flatMap fun p => le 4 p
  let b := if o.pages.drop 12 = e.pages.drop 12 || e.pages.length ≤ 12 then b else b.write (b.listBase slot) (words (e.pages.drop 12))
  if o.scratch = e.scratch || e.scratch.isEmpty then b
  else b.write (b.listBase slot + plStride b.mdl.maxContext b.pageTokens - 4 * b.scratchMax) (words e.scratch)

/-- The number of leading tokens that two transcripts share. -/
def commonTokens : List (Bool × Nat) → List (Bool × Nat) → Nat
  | x :: xs, y :: ys => if x = y then commonTokens xs ys + 1 else 0
  | _, _ => 0

/-- An admission record and a transcript (R41 to R43): whole where the region is new, else the record where its tail changed and the
tokens from the first that changed. -/
def Block.writeRegion (b : Block) (o : Option Region) (g : Nat) (r : Region) : Block :=
  match o with
  | none => b.write (b.transcriptPtr g) (regionHead r ++ r.tokens.flatMap storedToken)
  | some o =>
    let b := if regionHead o = regionHead r then b else b.write (b.transcriptPtr g) (regionHead r)
    let n := commonTokens o.tokens r.tokens
    if n = r.tokens.length then b else b.write (b.transcriptPtr g + 256 + 4 * n) ((r.tokens.drop n).flatMap storedToken)

/-- The writes of a junction that took the Granary from `before`: transcripts, page lists and penalty slabs that it changed. -/
def Block.writeGranary (b : Block) (before : Granary) (rebuilt : List Nat) : Block :=
  let b := b.gr.regions.foldl (fun b x =>
    let o := Tab.get? x.1 before.regions
    if o = some x.2 then b else b.writeRegion o x.1 x.2) b
  let b := b.gr.entries.foldl (fun b x =>
    let o := Tab.getD x.1 {} before.entries
    if o = x.2 then b else b.writeList x.1 o x.2) b
  b.gr.slabs.foldl (fun b x => if Tab.get? x.1 before.slabs = some x.2 && !rebuilt.contains x.1 then b
    else b.writeSlab before.slabs rebuilt x.1 x.2) b

/-- A firmware queue entry (Table 15-12). -/
def Block.fwEntryBytes (b : Block) (f : FwEntry) : List Byte :=
  let x := match f.moved, b.region f.granule with
    | some e, _ => (e.handle, e.tenant, e.classPrio, 1, slotOf e.handle % 2048)
    | none, some r => (0, r.record.tenant, r.record.classPrio % 128, 0, 0xFFFFFFFF)
    | none, none => (0, 0, 0, 0, 0xFFFFFFFF)
  le 4 f.ticket ++ le 4 x.1 ++ le 8 f.acceptTime ++ le 8 (b.transcriptPtr f.granule) ++ le 2 x.2.1 ++ le 1 x.2.2.1 ++ le 1 x.2.2.2.1 ++
  le 4 x.2.2.2.2 ++ zeros 32

/-- The queue as it stands in memory: in firmware order, within its FW_QUEUE_DEPTH places. -/
def Block.fwImage (b : Block) : List (List Byte) := match b.mainModel with
  | some (_, d) => (b.fwOrder.take d.load.fwQueueDepth).map b.fwEntryBytes
  | none => []

/-- The firmware queue and the save area, where they changed (R418). -/
def Block.writeFwQueue (b : Block) (before : Granary) : Block :=
  if b.gr.fwQueue = before.fwQueue || b.mainModel.isNone then b else
  let old := { b with gr := before }.fwImage
  let new := b.fwImage
  let b := ((List.range new.length).zip new).foldl (fun b x =>
    if old[x.1]? = some x.2 then b else b.write (Config.structBase 8 b.ctlBase + 64 * x.1) x.2) b
  -- the places that it leaves are zeroed, so that the queue ends at a place with TICKET and KIND 0 (DESIGN CHOICE, log entry 100)
  let b := (List.range (old.length - new.length)).foldl (fun b i =>
    b.write (Config.structBase 8 b.ctlBase + 64 * (new.length + i)) (zeros 64)) b
  (b.gr.fwQueue.filter fun f => !before.fwQueue.contains f).foldl (fun b f => match f.moved with
    | some e => b.write (Config.structBase 9 b.ctlBase + 256 * (slotOf e.handle % 2048)) (b.entryBytes (slotOf e.handle) e)
    | none => b) b

/-! #### Page descriptors and the Rhizome (R100, R110) -/

/-- A tier-0 page's descriptor (Table 04-1). -/
def Block.descBytes (b : Block) (p : Nat) : List Byte :=
  let free := Runs.mem p b.pg.stack0
  let d : PageDesc := if free then { sharers := 0 } else b.desc p
  le 4 (d.node.getD 0xFFFFFFFF) ++ le 2 d.sharers ++ le 1 (ofBools [free, d.movePending]) ++ zeros 1

/-- A valid node, and the node behind it in its chain (Table 04-3). -/
def nodeBytes (n : Node) (next : Option Nat) : List Byte :=
  le 8 n.key ++ le 4 (n.parent.getD 0xFFFFFFFF) ++ le 4 n.page ++ le 4 n.children ++ le 4 n.block ++ le 8 n.lastUse ++ le 4 n.context ++
  le 4 (next.getD 0xFFFFFFFF) ++ le 1 1 ++ le 1 n.model ++ zeros 22

/-- What follows a number in a list. -/
def nextOf : List Nat → Nat → Option Nat
  | x :: y :: l, i => if x = i then some y else nextOf (y :: l) i
  | _, _ => none

/-- The node behind a valid node. -/
def Pages.nextNode (g : Pages) (i : Nat) (n : Node) : Option Nat := nextOf (Tab.getD n.bucket [] g.buckets) i

/-- The page descriptors, nodes and bucket heads that a junction changed; of a freed node its link and its state. -/
def Block.writePages (b : Block) (before : Pages) : Block :=
  if b.mainModel.isNone then b else
  let g := b.pg
  let changed := fun (a c : List Nat) (same : Nat → Bool) => ((a ++ c).eraseDups).filter fun i => !same i
  let pages := (changed (Tab.keys before.desc) (Tab.keys g.desc) fun p => Tab.get? p before.desc == Tab.get? p g.desc).filter fun p =>
    tierOf p == 0
  let b := pages.foldl (fun b p => b.write (Config.structBase 10 b.ctlBase + 8 * indexOf p) (b.descBytes p)) b
  let at' := fun (b : Block) (i : Nat) => Config.structBase 6 b.ctlBase + 64 * i
  let b := g.nodes.foldl (fun b x =>
    let next := g.nextNode x.1 x.2
    let old := Tab.get? x.1 before.nodes
    if old = some x.2 && old.bind (before.nextNode x.1) == next then b else b.write (at' b x.1) (nodeBytes x.2 next)) b
  let b := (before.nodes.filter fun x => !Tab.has x.1 g.nodes).foldl (fun b x =>
    b.write (at' b x.1 + 0x24) (le 4 ((Runs.nextOf x.1 g.freeNodes).getD 0xFFFFFFFF) ++ zeros 1)) b
  let heads := changed (Tab.keys before.buckets) (Tab.keys g.buckets) fun k =>
    (Tab.getD k [] before.buckets).head? == (Tab.getD k [] g.buckets).head?
  heads.foldl (fun b k => b.write (Config.structBase 7 b.ctlBase + 4 * k) (le 4 ((Tab.getD k [] g.buckets).head?.getD 0xFFFFFFFF))) b

/-- Apply log l with agreement time a and completed mark `mark` (R227). -/
def Block.applyLog (b : Block) (l : JLog) (a mark : Nat) : Block :=
  let before := b.gr
  let pages := b.pg
  let b := b.openJunction l a
  let b := b.applySections l a
  let b := b.applyPages l a mark
  let b := (handlesOf l.consist.rows).foldl (fun b h => b.giveUnit l.consist h) b
  let b := b.writeConsist l.consist
  let b := l.holds.foldl (fun b x => b.applyHold a x) b
  let b := b.applyClock l a
  let rebuilt := b.work.rebuilt
  let b := (((b.closeDigest before.entries).writeGranary before rebuilt).writeFwQueue before).writePages pages
  { b with
    gr := { b.gr with results := [], losses := [], slabErrors := [] }
    cp := { b.cp with prevLog := some l, log := none, firstJunction := false }
    seq := { b.seq with reuse := none } }

end Sys2Proof.Machine
end

