-- ==== Sys2Proof/Machine/Replies.lean ====
section
/-! DEFINITION. Sessions, reply packets and completion entries (chapter 11). -/

namespace Sys2Proof.Machine
open Sys2Proof

def Block.session (b : Block) (s : Nat) : Session := Tab.getD s {} b.ses

def Block.modSession (b : Block) (s : Nat) (f : Session → Session) : Block :=
  { b with ses := Tab.set s (f (b.session s)) b.ses }

/-- Sessions 0 to 15 are secure. -/
def secureSession (s : Nat) : Bool := s < 16

/-- Completion entries a queue holds, 2^n with n from 4 to 12 (R280). -/
def Session.cplSize (x : Session) : Nat := 2 ^ x.cplLog
def Session.cmdSize (x : Session) : Nat := 2 ^ x.cmdLog

/-- Free completion entries that no earlier command has reserved (R283). -/
def Session.cplFree (x : Session) : Nat := x.cplSize - sub32 x.cplTail x.cplHead - x.reserved

/-- The reply header (Table 11-4). -/
def Block.replyHeader (b : Block) (opcode status s : Nat) (deferred : Bool) (seq effective payload : Nat) : List Byte :=
  let forming := b.cp.state == .forming
  le 2 opcode ++ le 2 status ++ le 1 s ++ le 1 (b2n deferred) ++ le 2 (if forming then 0x1FF else b.cp.leadRank) ++ le 8 seq ++
  le 8 effective ++ le 4 (if forming then 0 else b.cp.term) ++ le 4 payload

/-- Write a reply packet and its completion entry (R282, R285). With NO_REPLY, TRUNCATED is 0 (DESIGN CHOICE, log entry 125). -/
def Block.postReply (b : Block) (s opcode seq : Nat) (e : CmdEntry) (status : Nat) (payload : List Byte) (effective : Nat)
    (deferred : Bool) : Block :=
  let x := b.session s
  let effective := if status = 0 || status = 0x308 then effective else 0
  let full := b.replyHeader opcode status s deferred seq effective payload.length ++ payload
  let noReply := decide (e.replyMax < 32)
  let bytes := if noReply then [] else full.take (min e.replyMax full.length)
  let i := x.cplTail
  let phase := (i / x.cplSize) % 2 == 0
  let flags := ofBools [noReply, deferred, !noReply && decide (bytes.length < full.length)] + 32768 * b2n phase
  let b := if bytes.isEmpty then b else b.write e.replyAddr bytes 0
  let b := b.write (x.cplBase + i % x.cplSize * 16) (le 8 seq ++ le 2 status ++ le 2 flags ++ le 4 bytes.length) 0 (some (e.replyAddr, bytes.length))
  (b.noteSet (w1cSession s)).modSession s fun x => { x with cplTail := add32 i 1, reserved := x.reserved - 1, cplPending := true }

/-- Answer a session's current command at once; it is no longer current. -/
def Block.reply (b : Block) (s status : Nat) (payload : List Byte := []) (effective : Nat := 0) : Block :=
  match (b.session s).current with
  | none => b
  | some c =>
    (b.postReply s (opcodeOf c.pkt.params) c.pkt.seq c.entry status payload effective false).modSession s fun x =>
      { x with current := none }

/-- Keep a session's current command for a deferred reply (R294). -/
def Block.defer (b : Block) (s effective : Nat) (assigned : Nat := 0) : Block :=
  match (b.session s).current with
  | none => b
  | some c => b.modSession s fun x => { x with
      current := none
      deferred := x.deferred ++ [{ opcode := opcodeOf c.pkt.params, seq := c.pkt.seq, entry := c.entry, effective
                                   params := c.pkt.params, assigned }] }

/-- Where no deferred reply is left but SESSION_CLOSE's, that is posted, and a CLOSING session closes (R387); a session that R385
closed in between keeps the state it has then. -/
def Block.settleClosing (b : Block) (s : Nat) : Block :=
  let ds := (b.session s).deferred
  if ds.isEmpty || ds.any (fun d => d.opcode != 3) then b else
  (ds.foldl (fun (b : Block) d => b.postReply s d.opcode d.seq d.entry 0 [] 0 true) b).modSession s fun x =>
    if x.state == .closing then { x with deferred := [], state := .closed, ks := [] } else { x with deferred := [] }

/-- Post the deferred replies that `hit` picks, with a status and payload. -/
def Block.postDeferred (b : Block) (hit : Nat → Deferred → Bool) (status : Nat) (payload : List Byte) : Block :=
  (Tab.keys b.ses).foldl (fun (b : Block) s =>
    let ds := (b.session s).deferred.filter fun d => hit s d
    if ds.isEmpty then b else
    let b := b.modSession s fun x => { x with deferred := x.deferred.filter fun d => !hit s d }
    let b := ds.foldl (fun (b : Block) d => b.postReply s d.opcode d.seq d.entry status payload d.effective true) b
    b.settleClosing s) b

end Sys2Proof.Machine
end

