-- ==== Sys2Proof/Machine/Faults.lean ====
section
/-! DEFINITION. Stop causes, entry to Buffer Stop, loss reports (chapter 16). -/

namespace Sys2Proof.Machine
open Sys2Proof

/-- SOURCE codes (Table 15-7) of the units that the rules name. -/
def srcGranary : Nat := 1
def srcDispatcher : Nat := 5
def srcThresher : Nat := 6
def srcGlean : Nat := 7
def srcCoupling : Nat := 9
def srcGradient : Nat := 10
def srcSignalBox : Nat := 11
def srcAperture : Nat := 12
def srcCommand : Nat := 13
def srcMemory : Nat := 14
def srcFabric : Nat := 15
def srcSecurity : Nat := 16

/-- The stop causes of Table 16-4. -/
inductive Cause where
  | haltReceived | command | ctrlUe | handshake | memoryCtrl | digestMismatch | logCrcMismatch | verdictDigest
  | couplingProtocol | junctionWatchdog | takeoverTimeout | leadLost | routeLost | gleanMissing | shardSuspect | stageLost
  | timeBase | pclkLost | telemetry | hardStuck | sensorTrip | watchdog | warmReset | testMode | logitProtocol | itemFatal
  | reissueLimit | noPlatform
  deriving DecidableEq, Repr, Inhabited

/-- CODE of a cause. -/
def Cause.code : Cause → Nat
  | .haltReceived => 0x0001 | .command => 0x0002 | .ctrlUe => 0x0010 | .handshake => 0x0011 | .memoryCtrl => 0x0012
  | .digestMismatch => 0x0020 | .logCrcMismatch => 0x0021 | .verdictDigest => 0x0022 | .couplingProtocol => 0x0023
  | .junctionWatchdog => 0x0024 | .takeoverTimeout => 0x0025 | .leadLost => 0x0026 | .routeLost => 0x0027
  | .gleanMissing => 0x0028 | .shardSuspect => 0x0029 | .stageLost => 0x002A | .timeBase => 0x0030 | .pclkLost => 0x0031
  | .telemetry => 0x0032 | .hardStuck => 0x0033 | .sensorTrip => 0x0034 | .watchdog => 0x0035 | .warmReset => 0x0036
  | .testMode => 0x0037 | .logitProtocol => 0x0040 | .itemFatal => 0x0041 | .reissueLimit => 0x0042 | .noPlatform => 0x0043

/-- The resume kind of a cause code is cold (Table 16-4). -/
def coldCause (code : Nat) : Bool := [0x0010, 0x0011, 0x0012, 0x0020, 0x0021, 0x0022, 0x0023, 0x0026, 0x0036, 0x0037].contains code

/-- Causes that only enter the log while the instance has never run in a group (R475). -/
def logOnlyWhenFresh : Cause → Bool
  | .timeBase | .pclkLost | .telemetry | .ctrlUe | .handshake => true
  | _ => false

/-- The earlier of two first causes: lowest time, then lowest rank (R431). -/
def earlier (x y : Nat × Nat × Nat) : Nat × Nat × Nat :=
  if y.2.1 < x.2.1 || (y.2.1 == x.2.1 && y.2.2 < x.2.2) then y else x

/-- Remember a HALT, received or own, for FAULT_QUERY (R431). -/
def Faults.note (f : Faults) (cause time rank : Nat) : Faults :=
  { f with
    group := some (match f.group with
      | some g => earlier g (cause, time, rank)
      | none => (cause, time, rank))
    cold := f.cold || coldCause cause }

/-- The former causes come back (R441); what has been counted or found since stays. -/
def Faults.back (x former : Faults) : Faults :=
  { former with
    reports := x.reports, corrected := x.corrected, uncorrected := x.uncorrected, halts := x.halts, sticky := x.sticky
    stopEvent := x.stopEvent, passCorrected := x.passCorrected, passEntries := x.passEntries }

/-- VOID headers of the dumps in flight (R466). -/
def dumpHeader (step layerOperator handle status items positions time : Nat) : List Byte :=
  le 8 step ++ le 4 layerOperator ++ le 4 handle ++ le 1 status ++ zeros 1 ++ le 2 items ++ le 4 positions ++ le 8 time ++ zeros 32

/-- Void every GROUP command not yet applied, with what the sequencer holds for it (R240, R295). -/
def Block.voidCommands (b : Block) : Block :=
  { b with
    seq := { b.seq with
      cmds := [], tickets := [], consumer := [], ringWrites := [], holds := [], closing := false, closed := none
      consumerWait := [], losses := [], banks := [], takeover := none, reuse := none
      proposal := none, decision := none, selected := [], written := [], resendAsked := [], nextTicket := b.gr.nextTicket }
    cp := { b.cp with staged := none, stageLost := false, stagedNext := none } }

/-- The LEAD_FAULT record of a lead role lost, once the takeover's log or a stop tells whether its log was reused (R237). -/
def Block.leadFault (b : Block) (reused : Bool) : Block := match b.cp.roleLost with
  | none => b
  | some (lead, term) =>
    { b with cp := { b.cp with roleLost := none } }.logRec srcCoupling 0x0121 2 [b.cp.rank, lead, term, b2n reused]

/-- DIAG becomes FAIL; DIAG_UNIT keeps the first failing unit (R433, R474, R475). -/
def Block.diagFail (b : Block) (unit : Nat) : Block :=
  if b.flt.diag = 3 then b else { b with flt := { b.flt with diag := 3, diagUnit := unit } }

/-- Entry to Buffer Stop (R430 to R432): the cause, the unit that raised it, and the arguments of its FATAL record. -/
def Block.stop (b : Block) (c : Cause) (source : Nat) (args : List Nat := []) : Block :=
  let first := b.vlog.length
  let b := b.logRec source c.code 3 args
  if b.cp.fresh && b.cp.state == .forming && logOnlyWhenFresh c then
    match c with
    | .ctrlUe | .handshake => b.diagFail source
    | _ => b
  else if b.cp.state == .bufferStop then b
  else
    let b := (b.leadFault false).noteSet (w1cGroup 1)
    let former := b.form.isSome && !(b.cp.fresh)
    -- a FAIL of an instance that has never run in a group stands until a reset (R475)
    let unfit := b.unfit
    let base := match b.form with
      | some f => if former then b.flt.back f.former else b.flt
      | none => b.flt
    let b := { b with flt := { base.note c.code b.now b.cp.rank with
      own := some (base.own.getD c.code), diag := if unfit then 3 else 0, diagUnit := if unfit then b.flt.diagUnit else 0, queried := false, enteredAt := b.now, cutTime := none
      firstFatal := first, sweep := [], stopEvent := true
      perturbedAt := b.perturbed } }
    let b := { b with
      cp := { b.cp with state := .bufferStop }, form := none
      mp := { b.mp with writeWait := b.mp.writeWait.filter fun w => !w.ring } }
    let b := { b with fab := { b.fab with queue := b.fab.queue.filter fun p => p.cls == 5 || p.cls == 6, selfIn := [] } }
    let b := b.sendHalt c.code
    let b := b.obs.dumps.foldl (fun (b : Block) d =>
      b.write d.addr (dumpHeader d.step d.layerOperator d.handle (if d.dropped then 3 else 4) d.items d.positions b.now)) b
    let b := { b with obs := { b.obs with dumps := [] } }
    let b := b.voidCommands
    let b := b.postDeferred (fun _ d => d.opcode != 3) 0x0601 []
    b.postDeferred (fun _ _ => true) 0x0601 []

/-- HALT received (R430, R431). -/
def Block.haltReceived (b : Block) (reason rank time : Nat) : Block :=
  let b := { b with flt := { b.flt with halts := satInc 65535 b.flt.halts } }
  if b.cp.state == .bufferStop then { b with flt := b.flt.note reason time rank }
  else
    let b := b.stop .haltReceived srcFabric [reason, rank]
    { b with flt := b.flt.note reason time rank }

/-! ### Loss reports (R426, R427) -/

def Block.epochHead (b : Block) : EpochHead :=
  { source := b.cp.rank, proposal := 0, leadTerm := b.cp.term, epoch := 0, junction := b.cp.applied }

/-- The head of a cap message: EPOCH, JUNCTION and PROPOSAL are 0 (Table 12-14). -/
def Block.capHead (b : Block) : EpochHead :=
  { source := b.cp.rank, proposal := 0, leadTerm := b.cp.term, epoch := 0, junction := 0 }

/-- Send a report to the lead and keep it until a log carries it. -/
def Block.report (b : Block) (r : LossReport) : Block :=
  if b.flt.reports.any fun x => x.1 == r then b
  else if !b.running then { b with flt := { b.flt with reports := b.flt.reports ++ [(r, b.now)] } }
  else
    let b := { b with flt := { b.flt with reports := b.flt.reports ++ [(r, b.now)] } }
    b.send (some b.cp.leadRank) (.lossReport b.epochHead r)

/-- A loss found on this instance (R51): causes 1 entry, 2 KV, 3 tier copy, 5 transcript. -/
def Block.lose (b : Block) (handle cause : Nat) : Block :=
  let b := if cause != 5 && !(b.gr.losses.any fun x => x.1 == handle) then
      { b with gr := { b.gr with losses := b.gr.losses ++ [(handle, cause)] } } else b
  b.report { handle, cause, bankReport := false, bank := 0 }

/-- Reports that a log carries need no resend. -/
def Block.settleReports (b : Block) (l : JLog) : Block :=
  { b with flt := { b.flt with reports := b.flt.reports.filter fun x =>
      !(if x.1.bankReport then l.banks.contains x.1.bank
        else l.losses.any fun y => y.1 == x.1.handle && ((y.2 == 5) == (x.1.cause == 5))) } }

end Sys2Proof.Machine
end

