-- ==== Sys2Proof/Machine/Power.lean ====
section
/-! DEFINITION. The Gradient (chapter 10): predictions, rail levels, the envelope of a tick, caps, calibration, droop. -/

namespace Sys2Proof.Machine
open Sys2Proof

def Block.rail (b : Block) (r : Nat) : Rail := b.pwr.rails.getD r railReset

def Block.modRail (b : Block) (r : Nat) (f : Rail → Rail) : Block :=
  { b with pwr := { b.pwr with rails := b.pwr.rails.modify r f } }

def Block.group (b : Block) (g : Nat) : EngineGroup := b.pwr.groups.getD g ⟨0, 1⟩

/-- The rail of a platform (R249). -/
def Block.railOf (b : Block) (p : Nat) : Nat := match Tab.get? p b.dsp.platforms with
  | some x => (b.group x.entry.engineGroup).rail
  | none => 0

def enabledRails (b : Block) : List Nat := (List.range 16).filter fun r => (b.rail r).cfg.enable

/-- c(p) of R252, in 1/1,024 A; `extra` lists items taken as staged too: platform, prediction. -/
def Block.committed (b : Block) (extra : List (Nat × Nat)) (p : Nat) : Nat :=
  let held := (b.dsp.openItems.filter fun o => o.platform == p).foldl (fun m o => max m o.current) 0
  extra.foldl (fun m x => if x.1 = p then max m x.2 else m) held

/-- I(g) of R252, in 1/16 A. -/
def Block.groupCurrent (b : Block) (extra : List (Nat × Nat)) (g : Nat) : Nat :=
  ceilDiv ((b.dsp.platforms.filter fun p => p.2.entry.engineGroup == g).foldl (fun n p => n + b.committed extra p.1) 0) 64

/-- The groups of a rail. -/
def Block.groupsOf (b : Block) (r : Nat) : List Nat := (List.range b.pwr.groups.length).filter fun g => (b.group g).rail == r

/-- level(k) of a rail (R252). -/
def Block.level (b : Block) (extra : List (Nat × Nat)) (r k : Nat) : Nat :=
  (b.groupsOf r).foldl (fun n g => n + max (b.groupCurrent extra g) (k * (b.group g).fullCurrent / 128)) (b.rail r).cfg.base

/-- L (R252). -/
def Block.levelNow (b : Block) (r : Nat) : Nat := b.level [] r (b.rail r).phi

/-- The unguarded prediction, rounded up to 1/1,024 A. -/
def Rail.rawPred (x : Rail) (e : Nat) : Nat := let c := x.energy.getD e ⟨0, 4096, 0⟩; ceilDiv (c.current * c.corr) 4096

/-- pred(item) on platform p (R251), beside the items of `extra`. -/
def Block.predBeside (b : Block) (extra : List (Nat × Nat)) (p e : Nat) : Nat :=
  let r := b.railOf p
  let x := b.rail r
  let c := x.energy.getD e ⟨0, 4096, 0⟩
  let raw := x.rawPred e
  if x.guardAll || b.level (extra ++ [(p, raw)]) r x.phi > x.cfg.bandHi then ceilDiv (c.current * c.corr * x.guard) 4096000 else raw

/-- The prediction of an item of class e on platform p before any guard (R251, R265). -/
def Block.rawItem (b : Block) (p e : Nat) : Nat := (b.rail (b.railOf p)).rawPred e

/-- pred(item) on platform p (R251). -/
def Block.predItem (b : Block) (p e : Nat) : Nat := b.predBeside [] p e

/-- What the sustained limit leaves for this tick, below 0 where the samples exceed it (R256). -/
def Rail.sust (x : Rail) : Int := (40 * x.cfg.sustLimit : Nat) - ((x.samples.take 39).foldl (· + ·) 0 : Nat)

/-- SU and SD per tick (R256). -/
def Rail.su (x : Rail) : Nat := x.cfg.slopeUp * x.cfg.hardLimit / 4000
def Rail.sd (x : Rail) : Nat := x.cfg.slopeDown * x.cfg.hardLimit / 4000

/-- FFT of R256, in ticks. -/
def Power.fft (p : Power) : Nat := p.global.ffLead / 250

/-- U for a ceiling K (R256). -/
def Rail.uOf (x : Rail) (k : Nat) : Int := min (min (x.cfg.hardLimit : Int) x.sust) (min (k : Int) (x.fore.headD x.cfg.base : Nat))

/-- The U that binds a node's items on a rail: those of an exempt node keep the K of before a lowered cap (R271). -/
def Block.ceiling (b : Block) (r node : Nat) : Int :=
  let x := b.rail r
  match Tab.get? node b.pwr.exempt with
  | some ks => x.uOf ((ks.map (·.1)).getD r 0)
  | none => x.u

/-- Issue on a rail is withheld by none of R249, R259, R268, R275 and R278. -/
def Block.railOpen (b : Block) (r : Nat) (collective : Bool) : Bool :=
  let x := b.rail r
  b.pwr.configured && x.cfg.enable && !x.hard && b.pwr.droop.isNone && b.pwr.state != .hold && (b.pwr.state == .normal || collective)

/-- Whether staging items of energy class e of a node on the platforms `ps` at one moment is permitted now: with all of them
counted, L ≤ U on every rail they draw from (R257). -/
def Block.permitsAll (b : Block) (ps : List Nat) (e : Nat) (collective : Bool) (node : Nat) : Bool :=
  let extra := ps.foldl (fun x p => x ++ [(p, b.predBeside x p e)]) []
  ps.all fun p =>
    let r := b.railOf p
    b.railOpen r collective && decide ((b.level extra r (b.rail r).phi : Int) ≤ b.ceiling r node)

/-- Whether staging an item of energy class e on platform p is permitted now (R249, R257, R259, R268, R271, R274, R278). -/
def Block.permits (b : Block) (p e : Nat) (collective : Bool) (node : Nat) : Bool := b.permitsAll [p] e collective node

/-- Platform p's oldest item runs, and L may stand higher than before: the rail's window of R265 notes both (R266, R267). -/
def Block.noteRail (b : Block) (p : Nat) : Block :=
  let r := b.railOf p
  let l := b.levelNow r
  let run := ((b.dsp.openItems.filter fun o => o.platform == p && !o.held).head?.map (·.energy)).toList
  b.modRail r fun x => { x with window := { x.window with
    classes := (x.window.classes ++ run).eraseDups, peak := max x.window.peak l } }

/-! ### Records (R276, Table 10-7) -/

/-- T_ach of a rail in ticks (R274). -/
def Block.tach (b : Block) (r : Nat) : Nat :=
  let x := b.rail r
  let l := b.levelNow r
  if l ≤ x.capRail then 0 else ceilDiv (l - x.capRail) (max 1 x.sd)

/-- The rail with the largest T_ach. -/
def Block.worstRail (b : Block) : Nat := (enabledRails b).foldl (fun w r => if b.tach r > b.tach w then r else w) ((enabledRails b).headD 0)

/-- The time to the current cap deadline, in ns; 0 when there is none or it has passed. -/
def Block.capLeft (b : Block) : Nat := (b.pwr.deadline.map fun d => d - b.now).getD 0

/-- Projected L - cap_rail of a rail at the deadline; 0 when there is none. -/
def Block.excess (b : Block) (r : Nat) : Nat :=
  let x := b.rail r
  if b.pwr.deadline.isNone then 0 else (b.levelNow r - b.capLeft / 250 * x.sd) - x.capRail

/-- A power record of the volatile log: KIND, SOURCE, RAIL, FLAGS, OLD_CAP, NEW_CAP, and how the cap in force stands: DEADLINE, ACHIEVABLE,
EXCESS. -/
def Block.powerRecord (b : Block) (kind source rail old new_ : Nat) : Block :=
  b.logRec srcGradient 0x0170 1 [kind, source, rail, b2n (b.rail rail).recal + 2 * b2n b.pwr.droop.isSome, old, new_, b.capLeft,
    b.tach b.worstRail * 250, b.excess rail]

/-- A record of a cause that leaves C as it is. -/
def Block.powerNote (b : Block) (kind rail : Nat) : Block := b.powerRecord kind b.pwr.capBy rail b.pwr.cap b.pwr.cap

def stateCode : PowerState → Nat
  | .normal => 0 | .chase => 1 | .hold => 2

/-- Change the dispatch power state, with the HOLD_NS and CHASE_NS counters. -/
def Block.setPower (b : Block) (s : PowerState) : Block :=
  if b.pwr.state = s then b else
  let spent := b.now - b.pwr.stateSince
  let b := match b.pwr.state with
    | .hold => b.count 24 spent
    | .chase => b.count 25 spent
    | .normal => b
  { b with pwr := { b.pwr with state := s, stateSince := b.now } }

/-- What a POWER trace record carries: the power state, the rails in HARD, those with DROOP ramp, and C (Table 17-7). -/
def Block.powerTrace (b : Block) : List Byte :=
  let hards := maskOf ((List.range 16).filter fun r => (b.rail r).hard)
  le 1 (stateCode b.pwr.state) ++ le 2 hards ++ le 2 (if b.pwr.ramp then 65535 else 0) ++ zeros 2 ++ le 8 b.pwr.cap

/-- One POWER record for a change of it. -/
def Block.tracePower (b before : Block) : Block :=
  if b.powerTrace = before.powerTrace then b else b.trace 8 b.powerTrace

/-- PW_GRANT of an engine group: MAX and FLOOR (R254, R278). -/
def Block.grant (b : Block) (g : Nat) : Nat × Nat :=
  let x := b.rail (b.group g).rail
  if !b.pwr.configured || b.sb.safe then (0, 0) else (if x.hard then x.cfg.hardThrottle else 128, x.phi)

/-! ### Caps (R269 to R275) -/

/-- C_loc (R269). -/
def Power.local (p : Power) : Nat := min p.pinCap p.cmdCap

/-- cap_rail of an effective cap (R270). -/
def capRailOf (c : RailCfg) (cap : Nat) : Nat :=
  if cap = 0xFFFF then c.hardLimit else max c.base (4 * cap * c.capShare / max 1 c.nominalMv)

/-- The cap would lie below the rail's BASE (R270). -/
def infeasible (c : RailCfg) (cap : Nat) : Bool := cap != 0xFFFF && decide (4 * cap * c.capShare / max 1 c.nominalMv < c.base)

/-- A change of C at a tick: C before and after, SOURCE (Table 10-7), URGENT, the deadline of a lowered C, and whether C_loc is lower. -/
structure CapChange where
  old : Nat
  new_ : Nat
  source : Nat
  urgent : Bool
  deadline : Nat
  locLowered : Bool

/-- SOURCE and URGENT as a power record carries them. -/
def CapChange.by (ch : CapChange) : Nat := ch.source + 4 * b2n ch.urgent

/-- The new cap_rail of every enabled rail, its K, and the CAP_INFEASIBLE records (R270). The tick at which C changes goes on from this K, so
R256 lowers it by SD in that same tick (DESIGN CHOICE, log entry 126). -/
def Block.setCapRails (b : Block) (ch : CapChange) : Block :=
  (enabledRails b).foldl (fun (b : Block) r =>
    let x := b.rail r
    let cr := capRailOf x.cfg ch.new_
    let l := b.levelNow r
    let b := b.modRail r fun x => { x with capRail := cr, k := if l > cr then l else cr }
    if infeasible x.cfg ch.new_ then b.powerRecord 8 ch.by r ch.old ch.new_ else b) b

/-- C changes at this tick (R270, R271, R274). A raised C ends the deadline, once Table 10-6 has compared T_ach with it (R269). -/
def Block.applyCap (b : Block) (ch : CapChange) : Block :=
  let lowered := decide (ch.new_ < ch.old)
  -- the collective nodes whose runs are queued or staged keep the caps before the change (R271)
  let open_ := (((b.dsp.runs.filter fun r => r.gang).map (·.node)) ++ ((b.dsp.openItems.filter fun o => o.collective).map (·.node))).eraseDups
  let ks := b.pwr.rails.map fun x => (x.k, x.capRail)
  let b := { b with pwr := { b.pwr with
      cap := ch.new_, capBy := ch.by
      exempt := if lowered && ch.locLowered then open_.map fun n => (n, (Tab.get? n b.pwr.exempt).getD ks) else b.pwr.exempt } }
  let b := if lowered then { b with pwr := { b.pwr with deadline := some ch.deadline } } else b
  let b := b.setCapRails ch
  let fits := (enabledRails b).all fun r => b.tach r = 0 || (b.pwr.deadline.isSome && b.tach r * 250 ≤ b.capLeft)
  let below := (enabledRails b).all fun r => decide (b.levelNow r ≤ (b.rail r).capRail)
  let b := if lowered then b else { b with pwr := { b.pwr with deadline := none } }
  let w := b.worstRail
  let record := fun (b : Block) (kind : Nat) => b.powerRecord kind ch.by w ch.old ch.new_
  match b.pwr.state with
  | .hold => if below then (record b 4).setPower .normal else if lowered then record b 2 else b
  | .normal => if !lowered then b else if fits then record b 1 else (record b 2).setPower .chase
  | .chase => if fits then record (b.setPower .normal) 1 else if lowered then record b 2 else b

/-- A cap source (0 pin, 1 command, 2 group) has been set; C_loc and C are formed at the next tick (R365). -/
def Block.touchCap (b : Block) (source : Nat) : Block :=
  { b with pwr := { b.pwr with touched := b.pwr.touched.filter (fun t => t.1 != source) ++ [(source, b.now)] } }

/-- The report of C_loc to the lead, with the SEQ of the last report (R272). -/
def Block.sendCapReport (b : Block) : Block := b.send (some b.cp.leadRank) (.capReport b.capHead b.pwr.loc b.pwr.reportSeq)

/-- What the sources set since the last tick come to: the report of a new C_loc (R272), and the change of C (R270). Of a lowered C
the source is the one whose value it is, and the time its deadline counts from is that source's acceptance; of a raised C it is the
source set last. -/
def Block.formCaps (b : Block) : Block :=
  let p := b.pwr
  if p.touched.isEmpty then b else
  let loc := p.local
  let b := { b with pwr := { p with touched := [], loc } }
  let b : Block := if loc = p.loc then b else
    let b := { b with pwr := { b.pwr with reportSeq := b.pwr.reportSeq + 1 } }
    if b.running then b.sendCapReport else b
  let new_ := min loc p.groupCap
  if new_ = p.cap then b else
  let locLowered := decide (loc < p.loc)
  let source := if new_ < p.cap then (if locLowered && new_ = loc then (if p.pinCap = loc then 0 else 1) else 2)
    else (p.touched.getLast?.map (·.1)).getD 0
  let urgent := source == 0 && p.pinUrgent
  let at_ := ((p.touched.find? fun t => t.1 == source).map (·.2)).getD b.now
  let grace := if urgent then p.global.capGraceUrgent else p.global.capGrace
  b.applyCap { old := p.cap, new_, source, urgent, deadline := at_ + grace * 1000, locLowered }

/-- CAP_STROBE (R269, R365). -/
def Block.capStrobe (b : Block) (cap : Nat) (urgent : Bool) : Block :=
  { b with pwr := { b.pwr with pinCap := cap, pinUrgent := urgent } }.touchCap 0

/-- The group cap falls on every member (R273). -/
def Block.applyGroupCap (b : Block) (seq cap : Nat) : Block :=
  if seq ≤ b.pwr.appliedSeq then b else
  { b with pwr := { b.pwr with
      groupCap := cap, appliedSeq := seq, waiting := b.pwr.waiting.filter fun w => w.1 > seq } }.touchCap 2

/-- CAP_SET received (R273), with the rank whose cap is lowest. -/
def Block.capSet (b : Block) (cap rank seq effective : Nat) : Block :=
  if seq ≤ b.pwr.appliedSeq then b else
  let b := { b with pwr := { b.pwr with setSeq := max b.pwr.setSeq seq, setRank := if seq ≥ b.pwr.setSeq then rank else b.pwr.setRank } }
  if effective ≤ b.cp.applied then b.applyGroupCap seq cap
  else { b with pwr := { b.pwr with waiting := (b.pwr.waiting.filter fun w => w.1 != seq) ++ [(seq, cap, effective)] } }

/-- CAP_SETs that take effect at a junction. -/
def Block.capsAtJunction (b : Block) (j : Nat) : Block :=
  (b.pwr.waiting.filter fun w => w.2.2 ≤ j).foldl (fun (b : Block) w => b.applyGroupCap w.1 w.2.1)
    { b with pwr := { b.pwr with waiting := b.pwr.waiting.filter fun w => !(w.2.2 ≤ j) } }

/-- The lead sets the group cap where the lowest C_loc of the reports it holds is another one (R272). A new lead waits for its
collection, and takes the cap in force for the ranks it has not heard since its takeover (R273). -/
def Block.groupCapDue (b : Block) : Block :=
  if !b.isLead || b.cp.collect.isSome then b else
  let low := b.pwr.reports.foldl (fun (m : Nat × Nat) r => if r.2.2 < m.2 then (r.1, r.2.2) else m) (b.pwr.setRank, 0xFFFF)
  let heard := b.cp.term ≤ 1 || (List.range b.cp.n).all fun r => Tab.has r b.pwr.reports
  if low.2 = b.pwr.setCap || (!heard && decide (low.2 > b.pwr.setCap)) then b else
  let eff := b.cp.applied + (if b.seq.closed.isSome then 2 else 1)
  let b := { b with pwr := { b.pwr with setSeq := b.pwr.setSeq + 1, setCap := low.2, setRank := low.1, setEffective := eff } }
  b.send none (.capSet b.capHead low.2 b.pwr.setSeq eff low.1)

/-- The lead takes a report (R272). -/
def Block.capReport (b : Block) (rank cap seq : Nat) : Block :=
  let newer := match Tab.get? rank b.pwr.reports with
    | some (s, _) => decide (seq > s)
    | none => true
  if !newer || !b.isLead then b else
  { b with pwr := { b.pwr with reports := Tab.set rank (seq, cap) b.pwr.reports } }.groupCapDue

/-- The lead sends the current CAP_SET again at every junction (R272). -/
def Block.capRepeat (b : Block) : Block :=
  if b.isLead && b.pwr.setSeq > 0 then b.send none (.capSet b.capHead b.pwr.setCap b.pwr.setSeq b.pwr.setEffective b.pwr.setRank) else b

/-- The multiple of 250 ns that a frame belongs to (R363). -/
def tickOf (t : Nat) : Nat := (t + 125) / 250

/-- Every enabled rail stands at or below its cap. -/
def Block.belowCaps (b : Block) : Bool := (enabledRails b).all fun r => decide (b.levelNow r ≤ (b.rail r).capRail)

/-- HOLD at the first tick at or after the deadline with a rail above its cap (Table 10-6): `now` is that tick's time, `last` the
time of the tick before it. -/
def Block.deadlineTick (b : Block) (now last : Nat) : Block :=
  match b.pwr.deadline with
  | none => b
  | some d =>
    if now < d || d ≤ last || b.pwr.state == .hold || b.belowCaps then b
    else
      let w := b.worstRail
      (b.powerNote 3 w).setPower .hold

/-- CAP_DEADLINE: the first tick at or after the deadline, where no frame has come for it (R274). -/
def Block.capDeadline (b : Block) : Block := b.deadlineTick (b.now / 250 * 250) (250 * tickOf b.pwr.lastFrame)

/-- The power state at a tick, by L as it stands at the tick (Table 10-6). -/
def Block.powerTick (b : Block) (last : Nat) : Block :=
  if b.belowCaps && b.pwr.state == .chase then b.setPower .normal
  else if b.belowCaps && b.pwr.state == .hold then (b.powerNote 4 b.worstRail).setPower .normal
  else b.deadlineTick (250 * tickOf b.now) last

/-! ### The tick (R253, R256, R259) -/

/-- dexp of a rail from the running items (R256): `next` predicts what R137 would stage next into a platform, `start` the first item
of the next step there once its junction is being agreed. -/
def Block.dexp (b : Block) (r : Nat) (next start : Nat → Nat) : Nat :=
  let x := b.rail r
  if !b.running || b.pwr.state == .hold || b.pwr.ramp then x.cfg.base else
  let at_ := b.now + b.pwr.global.ffLead
  let cur := fun (p : Nat) =>
    match (b.dsp.openItems.filter fun o => o.platform == p && !o.held).head? with
    | some o =>
      let e := x.energy.getD o.energy ⟨0, 4096, 0⟩
      if (o.oldestAt.getD b.now) + e.dur > at_ then o.current else next p
    | none => next p
  (b.groupsOf r).foldl (fun n g =>
    n + ceilDiv ((b.dsp.platforms.filter fun p => p.2.entry.engineGroup == g && p.2.inService).foldl
      (fun n p => n + (cur p.1 + start p.1)) 0) 64) x.cfg.base

def sumN (l : List Nat) : Nat := l.foldl (· + ·) 0

/-- The average of the last 4 samples exceeds a level (times 4). -/
def lastFour (x : Rail) : Nat := sumN (x.samples.take 4)

/-- HARD_RELEASE × HARD_LIMIT / 1,000 (R259), as F is lowered to it. -/
def Rail.release (x : Rail) : Nat := x.cfg.hardRelease * x.cfg.hardLimit / 1000

/-- The average of the last 4 samples lies above HARD_RELEASE × HARD_LIMIT / 1,000: compared without rounding. -/
def Rail.aboveRelease (x : Rail) : Bool := decide (lastFour x * 1000 > 4 * x.cfg.hardRelease * x.cfg.hardLimit)

/-- A rail's valid sample of this tick (R253). -/
def Block.takeSample (b : Block) (samples : List (Option Nat)) (r : Nat) : Block :=
  match samples.getD r none with
  | some s => b.modRail r fun x => { x with samples := (s :: x.samples).take 40, lastValid := b.now, sampled := true }
  | none => b.modRail r fun x => { x with sampled := false }

/-- A tick in HARD: F moves on by a tick, and the manual computes no F[n + FFT] for it (a free value). -/
def Block.hardTick (b : Block) (r : Nat) : Block :=
  let f := b.freeNat 65536
  (f.2.modRail r fun x => { x with fore := x.fore.drop 1 ++ [f.1], window := { x.window with hard := true } }).count 26

/-- A rail enters HARD (R259). -/
def Block.enterHard (b : Block) (r : Nat) : Block :=
  let b := b.modRail r fun x => { x with hard := true, hardSince := b.now, fore := x.fore.map fun f => min f x.release, phi := 0 }
  (b.hardTick r).powerNote 5 r

/-- The envelope of R256; at the end of HARD, K and phi restart from L (R259). -/
def Block.envelope (b : Block) (r : Nat) (next start : Nat → Nat) : Block :=
  let x := b.rail r
  let l := b.levelNow r
  let leaving := x.hard
  let cr := if b.pwr.ramp then x.cfg.base else x.capRail
  let k := if leaving then l else if b.pwr.droopEnd then cr else max cr (x.k - x.sd)
  let kplan := max cr (k - b.pwr.fft * x.sd)
  let prev := x.fore.getLastD x.cfg.base
  let fnew := min (min x.cfg.hardLimit kplan) (min (prev + x.su) (max (b.dexp r next start) (prev - x.sd)))
  let fnew := if b.pwr.droop.isSome then min fnew prev else fnew
  let x := { x with fore := x.fore.drop 1 ++ [fnew], window := { x.window with hard := x.window.hard || leaving } }
  let target := if leaving then l else l - x.sd
  let phi := ((List.range 129).find? fun q => b.level [] r q ≥ target).getD 128
  b.modRail r fun _ => { x with hard := false, k, u := x.uOf k, phi }

/-- One rail at a tick. -/
def Block.tickRail (b : Block) (r : Nat) (next start : Nat → Nat) : Block :=
  let x := b.rail r
  if !x.hard && decide (lastFour x > 4 * x.cfg.hardLimit) && decide (x.samples.length ≥ 4) then b.enterHard r
  else if x.hard && x.aboveRelease then b.hardTick r
  else b.envelope r next start

/-- The K that the exempt nodes keep falls by SD per tick to the cap_rail of before the change (R256, R271). -/
def Block.tickExempt (b : Block) : Block :=
  { b with pwr := { b.pwr with exempt := b.pwr.exempt.map fun e =>
      (e.1, (e.2.zip b.pwr.rails).map fun (k, x) => (max k.2 (k.1 - x.sd), k.2)) } }

/-- The sums a tick adds to a rail's window (R265). A tick without a valid sample adds the last valid one again (DESIGN CHOICE, log entry
126). -/
def Block.accumulate (b : Block) (r : Nat) : Block :=
  let x := b.rail r
  let l := b.levelNow r
  let gs := b.groupsOf r
  let fill := sumN (gs.map fun g => x.phi * (b.group g).fullCurrent / 128 - b.groupCurrent [] g)
  let running := (b.dsp.platforms.filter fun p => gs.contains p.2.entry.engineGroup).filterMap fun p =>
    (b.dsp.openItems.filter fun o => o.platform == p.1 && !o.held).head?.map fun o => (p.2.entry.engineGroup, o)
  let raw := sumN (gs.map fun g => ceilDiv (sumN ((running.filter fun z => z.1 == g).map fun z => z.2.raw)) 64)
  b.modRail r fun x => { x with window := { x.window with
    sample := x.window.sample + x.samples.headD 0, level := x.window.level + l, fill := x.window.fill + fill
    raw := x.window.raw + raw, ticks := x.window.ticks + 1, hard := x.window.hard || x.hard
    classes := (x.window.classes ++ running.map (·.2.energy)).eraseDups, peak := max x.window.peak l } }

/-- A POWER_CONFIG takes effect (R247); F of a rail that it enables starts at BASE; a rail whose new cap lies below its BASE sends a CAP_INFEASIBLE record (R270). -/
def Block.applyPowerConfig (b : Block) (p : PowerConfigParams) : Block :=
  let first := !b.pwr.configured
  let b := match p.globalBlock with
    | some g => { b with pwr := { b.pwr with global := g } }
    | none => b
  let b := match p.groups with
    | some g => { b with pwr := { b.pwr with groups := g } }
    | none => b
  let b := p.rails.foldl (fun (b : Block) (r, c) =>
    let b := b.modRail r fun x => { x with
      cfg := c, capRail := capRailOf c b.pwr.cap, guard := if x.cfg.enable then x.guard else c.guardBase
      k := if x.cfg.enable then min x.k c.hardLimit else c.hardLimit, lastValid := if x.cfg.enable then x.lastValid else b.now
      fore := if x.cfg.enable then x.fore else [] }
    if c.enable && infeasible c b.pwr.cap then b.powerNote 8 r else b) b
  let n := b.pwr.fft
  { b with pwr := { b.pwr with configured := true, rails := b.pwr.rails.map fun x =>
      if first || x.fore.isEmpty then { x with fore := List.replicate (n + 1) x.cfg.base, k := x.cfg.hardLimit }
      else { x with fore := (x.fore ++ List.replicate (n + 1 - x.fore.length) (x.fore.getLastD x.cfg.base)).take (n + 1) } } }

/-- The registers of a rail take their values at a tick (R498). -/
def Block.showRail (b : Block) (r : Nat) : Block :=
  let l := b.levelNow r
  b.modRail r fun x => { x with shown :=
    { level := l, k := x.k, guard := if x.cfg.enable then x.guard else 0, guardAll := x.guardAll, recal := x.recal } }

/-- FF_CRC of Table 13-7: over DATA (16 rails, 0 for a disabled one), BREAK and AT, in that order. -/
def forecastCrc (rails : List (Nat × Nat × Bool)) (due : Nat) : Nat :=
  let of (r : Nat) := (rails.find? fun x => x.1 == r).getD (r, 0, false)
  let flags := (List.range 16).foldl (fun a r => a + if (of r).2.2 then 2 ^ r else 0) 0
  crc32c ((List.range 16).flatMap (fun r => le 2 (of r).2.1) ++ le 2 flags ++ le 4 due)

/-- A telemetry frame is a tick (R253). -/
def Block.tick (b : Block) (samples : List (Option Nat)) (next start : Nat → Nat) : Block :=
  let b := b.pwr.pendingCfg.foldl Block.applyPowerConfig { b with pwr := { b.pwr with pendingCfg := [] } }
  let last := if b.pwr.touched.isEmpty then 250 * tickOf b.pwr.lastFrame else 0
  let b := { b with pwr := { b.pwr with tick := b.pwr.tick + 1, lastFrame := b.now } }
  let b := (enabledRails b).foldl (fun b r => b.takeSample samples r) b
  let b := b.formCaps.powerTick last
  let b := (enabledRails b).foldl Block.accumulate b
  let b := (enabledRails b).foldl (fun b r => b.tickRail r next start) b.tickExempt
  let b := { b with pwr := { b.pwr with droopEnd := false } }
  let b := (List.range 16).foldl Block.showRail { b with pwr := { b.pwr with shownRamp := b.pwr.ramp, shownState := b.pwr.state } }
  let rails := (enabledRails b).map fun r => let x := b.rail r; (r, x.fore.getLastD x.cfg.base, x.hard)
  let due := 250 * (tickOf b.now + b.pwr.fft) % 2 ^ 32
  b.emit (.forecast rails due (forecastCrc rails due))

/-! ### Calibration (R265 to R267) -/

/-- The online correction of R266, with Mi - Praw over Praw << ONLINE_SHIFT. -/
def correctTable (cells : List EnergyCell) (classes : List Nat) (err scaled : Int) : List EnergyCell :=
  ((List.range cells.length).zip cells).map fun p =>
    if classes.contains p.1 then
      let d : Int := ((p.2.corr : Int) * err).fdiv scaled
      { p.2 with corr := (max 2048 (min 16383 ((p.2.corr : Int) + d))).toNat }
    else p.2

/-- The end of a 1 µs window for one rail. All averages are kept as sums over the window's ticks. -/
def Block.calibrateRail (b : Block) (r : Nat) : Block :=
  let x := b.rail r
  let w := x.window
  let running := (b.dsp.platforms.filter fun p => (b.groupsOf r).contains p.2.entry.engineGroup).filterMap fun p =>
    (b.dsp.openItems.filter fun o => o.platform == p.1 && !o.held).head?.map (·.energy)
  let l := b.levelNow r
  let b := b.modRail r fun x => { x with window := { hard := x.hard, classes := running.eraseDups, peak := l } }
  if w.hard || w.ticks = 0 then b else
  let t : Int := (w.ticks : Nat)
  let m : Int := (w.sample : Int) - t * (x.cfg.base : Nat)
  let pg : Int := (w.level : Int) - t * (x.cfg.base : Nat)
  let mi : Int := m - (w.fill : Nat)
  let praw : Int := (w.raw : Nat)
  let g := b.pwr.global
  let overs := if pg > 0 then (if (m - pg) * 1000 > (g.recalErr : Nat) * pg then x.overs + 1 else 0) else x.overs
  let b := if pg > 0 && overs = g.recalWindows then
      ((b.modRail r fun x => { x with
        guard := min x.cfg.guardMax (x.guard + x.cfg.guardStep), guardAll := true, recal := true, overs := 0 }).count 27).powerNote 6 r
    else b.modRail r fun x => { x with overs }
  let b := if praw > 0 then
      b.modRail r fun x => { x with energy := correctTable x.energy w.classes (mi - praw) (praw * 2 ^ g.onlineShift) }
    else b
  let x := b.rail r
  if !x.recal then b else
  let good := decide ((mi - praw).natAbs * 2000 ≤ g.recalErr * w.raw)
  if !good then b.modRail r fun x => { x with good := 0, goodPeak := 0 }
  else
    let n := x.good + 1
    let peak := max x.goodPeak w.peak
    if n ≥ g.recalClear then
      (b.modRail r fun x => { x with
        cfg := { x.cfg with bandHi := max x.cfg.bandHi peak }, guard := x.cfg.guardBase, guardAll := false, recal := false
        good := 0, goodPeak := 0 }).powerNote 6 r
    else b.modRail r fun x => { x with good := n, goodPeak := peak }

/-- The window of every rail; the registers show what it leaves at the next tick (R498). -/
def Block.calibrate (b : Block) : Block := (enabledRails b).foldl Block.calibrateRail b

/-- POWER_CALIBRATE (R267). -/
def Block.loadTable (b : Block) (r bandHi : Nat) (es : List EnergyEntry) : Block :=
  b.modRail r fun x => { x with
    energy := (List.range 64).map fun i => match es[i]? with
      | some e => ⟨e.itemCurrent, 4096, e.durNs⟩
      | none => ⟨0, 4096, 0⟩
    cfg := { x.cfg with bandHi }, guard := x.cfg.guardBase, guardAll := false, recal := false, overs := 0, good := 0, goodPeak := 0 }

/-! ### Droop (R268) -/

def Block.droopAssert (b : Block) : Block :=
  if b.pwr.droop.isSome then b else
  let b := { b with pwr := { b.pwr with droop := some b.now } }
  b.powerNote 7 b.worstRail

/-- The warning falls: K returns to cap_rail from the next tick. -/
def Block.droopDeassert (b : Block) : Block :=
  if b.pwr.droop.isNone then b else { b with pwr := { b.pwr with droop := none, ramp := false, droopEnd := true } }

def Block.droopRamp (b : Block) : Block :=
  match b.pwr.droop with
  | some t =>
    if b.pwr.ramp || b.now < t + b.pwr.global.droopRampAfter then b
    else
      let ks := (List.range 16).map fun r => min (b.rail r).k (b.levelNow r)
      { b with pwr := { b.pwr with ramp := true, rails := (b.pwr.rails.zip ks).map fun (x, k) => { x with k } } }
  | none => b

end Sys2Proof.Machine
end

