-- ==== Sys2Proof/Machine/Stook.lean ====
section
/-! DEFINITION. The Timetable Expander, the Stook, the ready queues and the Dispatcher (chapter 5), with the platform
counters that completions feed (chapter 17). -/

namespace Sys2Proof.Machine
open Sys2Proof

/-! ### Expansion (R127, R128) -/

/-- What a node covers of a row: row index, offset of its first covered position, positions covered. -/
def coverRow (n : TNode) (i : Nat) (r : RowRec) : Option (Nat × Nat × Nat) :=
  let inSet := n.rowSet = 0 || (n.rowSet = 1 && r.kind != 4) || (n.rowSet = 2 && r.kind == 4)
  if !inSet then none
  else if n.sampledOnly then (if r.sample then some (i, r.posCount - 1, 1) else none)
  else some (i, 0, r.posCount)

def covered (n : TNode) (c : Consist) : List (Nat × Nat × Nat) :=
  ((List.range c.rows.length).zip c.rows).filterMap fun (i, r) => coverRow n i r

/-- The item count of Table 05-4 for P covered positions. -/
def itemCount (n : TNode) (p : Nat) : Nat :=
  if n.kind = 1 then ceilDiv p n.groupPos * n.tiles
  else if p = 0 then 0
  else if n.kind = 2 then n.groups * n.tiles else n.tiles

def positionsOf (cov : List (Nat × Nat × Nat)) : Nat := cov.foldl (fun k x => k + x.2.2) 0

/-- The part of the covered rows that positions [lo, hi) take. -/
def sliceRows : List (Nat × Nat × Nat) → Nat → Nat → Nat → List (Nat × Nat × Nat)
  | [], _, _, _ => []
  | (i, off, n) :: r, at_, lo, hi =>
    let a := max at_ lo
    let z := min (at_ + n) hi
    (if a < z then [(i, off + (a - at_), z - a)] else []) ++ sliceRows r (at_ + n) lo hi

/-- Level and class of item i (R128). -/
def itemLevel (n : TNode) (c : Consist) (cov : List (Nat × Nat × Nat)) (i : Nat) : Nat × Nat :=
  if n.kind != 1 then (n.levelClass % 16, bits n.levelClass 6 4)
  else
    let g := i / max 1 n.tiles
    let rs := (sliceRows cov 0 (g * n.groupPos) ((g + 1) * n.groupPos)).filterMap fun x => c.rows[x.1]?
    (rs.foldl (fun m r => min m r.level) 15, (rs.headD default).cls)

/-- The runs of a node: one per level and class, in ascending class (R136). -/
def nodeRuns (n : TNode) (c : Consist) (count : Nat) : List (Nat × Nat × List Nat) :=
  let cov := covered n c
  let lc := (List.range count).map fun i => (i, itemLevel n c cov i)
  let keys := sortBy (fun (x y : Nat × Nat) => x.2 < y.2 || (x.2 == y.2 && x.1 < y.1)) ((lc.map (·.2)).eraseDups)
  keys.map fun k => (k.1, k.2, (lc.filter fun x => x.2 == k).map (·.1))

/-- The epoch's template for log l: a committed proposal's, which is staged, or the one in force (R129). -/
def Block.templateFor (b : Block) (l : JLog) : Option Template :=
  match l.mode, b.cp.staged.filter (·.prepared) with
  | some (_, 1, n), some st =>
    if st.number != n then b.mdl.template else
    match st.params with
    | .modelLoad p => if isDraftLoad p then b.mdl.template else st.template
    | .modeSet p => if bit p.flags 0 then st.template else b.mdl.template
    | .modelUnload _ d => match Tab.get? (d % 16) b.mdl.active with
      | some x => if isDraftLoad x.load then b.mdl.template else none
      | none => b.mdl.template
    | _ => b.mdl.template
  | _, _ => b.mdl.template

def emptyTemplate : Template := { id := 0, crc := 0, timeouts := [], nodes := [] }

/-- Instantiate the next step's graph from the log held into the buffer not in use (R129): while that buffer still holds an unstarted
step of an earlier junction, and while back-pressure pauses it (R141), it waits. -/
def Block.instantiate (b : Block) : Block :=
  match b.cp.log with
  | none => b
  | some l =>
    if (b.dsp.next.any fun x => b.cp.applied ≤ x.junction) || b.dsp.stook.length ≥ 16384 then b
    else
      let t := (b.templateFor l).getD emptyTemplate
      let nodes := ((List.range t.nodes.length).zip t.nodes).map fun (i, n) =>
        (i, ({ state := .pending, count := itemCount n (positionsOf (covered n l.consist)), staged := 0, completed := 0 } : NodeInst))
      { b with dsp := { b.dsp with next := some { junction := l.junction, epoch := l.epoch, template := t, consist := l.consist
                                                  made := t.nodes.length, nodes } } }

/-! ### Node states (Table 05-8) -/

def Block.nodeInst (b : Block) (i : Nat) : Option NodeInst := b.dsp.current.bind fun x => Tab.get? i x.nodes

def Block.tnode (b : Block) (i : Nat) : Option TNode := b.dsp.current.bind fun x => x.template.nodes[i]?

def Block.modNodeInst (b : Block) (i : Nat) (f : NodeInst → NodeInst) : Block :=
  { b with dsp := { b.dsp with current := b.dsp.current.map fun x => { x with nodes := Tab.modify i f x.nodes } } }

/-- Copy items of a kind not yet complete: 0 tier move, 1 copy-on-append, 2 compaction. -/
def Block.copiesLeft (b : Block) (kind : Nat) : Nat :=
  (b.dsp.runs.filter fun r => r.copy.any fun c => c.kind == kind).length +
  (b.dsp.openItems.filter fun o => o.copy.any fun c => c.kind == kind).length

/-- An input edge has its token (Table 05-3). -/
def Block.arrived (b : Block) (input : Nat) : Bool :=
  if input ≤ 0x7FFF then (b.nodeInst input).any fun n => n.state == .done
  else if input = 0xFFFD then b.copiesLeft 1 == 0
  else true

/-- The inputs a node still awaits. -/
def Block.awaited (b : Block) (n : TNode) : Nat := (n.inputs.filter fun i => i != 0xFFFF && !b.arrived i).length

/-- Compute runs in the pool (R136). A reissued item counts as a run of its own, also above 4,096 (DESIGN CHOICE, log entry 125). -/
def Block.poolUsed (b : Block) : Nat := (b.dsp.runs.filter fun r => r.copy.isNone).length

/-- A node's runs enter the ready queues; its Stook entry is free (Table 05-8). -/
def Block.enterRuns (b : Block) (i : Nat) (via : Bool) : Block :=
  match b.tnode i, b.nodeInst i, b.dsp.current with
  | some n, some x, some buf =>
    let rs := nodeRuns n buf.consist x.count
    let b := b.trace 5 (zeros 1 ++ le 2 i ++ le 4 x.count ++ le 2 rs.length ++ le 1 (b2n via))
    let runs := ((List.range rs.length).zip rs).map fun (k, r) =>
      ({ level := r.1, cls := r.2.1, arrival := add32 b.dsp.arrival k, node := i, items := r.2.2, copy := none, gang := n.collective
         reserved := [], reissue := false, left := [], issues := 0, since := b.now } : Run)
    { b with dsp := { b.dsp with
        runs := b.dsp.runs ++ runs, arrival := add32 b.dsp.arrival rs.length
        stook := b.dsp.stook.filter fun k => k != i, readyWait := b.dsp.readyWait.filter fun k => k != i } }.modNodeInst i
      fun x => { x with state := .queued }
  | _, _, _ => b

/-- Runs that a node forms. -/
def Block.runsOf (b : Block) (i : Nat) : Nat := match b.tnode i, b.nodeInst i, b.dsp.current with
  | some n, some x, some buf => (nodeRuns n buf.consist x.count).length
  | _, _, _ => 0

/-- One MATCHING node without awaited inputs moves on; ascending node order (R134). -/
def Block.rippleOne (b : Block) : Option Block :=
  let ready := (sortNat b.dsp.stook).find? fun i => (b.nodeInst i).any (fun x => x.state == .matching) &&
    (b.tnode i).any fun n => b.awaited n == 0
  match ready with
  | none => match b.dsp.readyWait with
    | i :: _ => if b.poolUsed + b.runsOf i ≤ 4096 then some (b.enterRuns i true) else none
    | [] => none
  | some i =>
    match b.nodeInst i with
    | none => none
    | some x =>
      if x.count = 0 then
        some ({ b with dsp := { b.dsp with stook := b.dsp.stook.filter fun k => k != i } }.modNodeInst i fun x => { x with state := .done })
      else if b.poolUsed + b.runsOf i ≤ 4096 then some (b.enterRuns i false)
      else some ({ b with dsp := { b.dsp with readyWait := b.dsp.readyWait ++ [i] } }.modNodeInst i fun x => { x with state := .readyWait })

def Block.ripple : Nat → Block → Block
  | 0, b => b
  | n + 1, b => match b.rippleOne with
    | some b' => Block.ripple n b'
    | none => b

def Block.platform? (b : Block) (p : Nat) : Option Platform := Tab.get? p b.dsp.platforms

def Block.modPlatform (b : Block) (p : Nat) (f : Platform → Platform) : Block :=
  { b with dsp := { b.dsp with platforms := Tab.modify p f b.dsp.platforms } }

/-- A run may go to a platform, its occupancy aside. -/
def Block.member (b : Block) (r : Run) (x : Platform) : Bool :=
  match r.copy with
  | some _ => x.entry.kind == 2
  | none => x.entry.kind == 1 && bit x.entry.setMask ((b.tnode r.node).map (·.platformSet) |>.getD 0)

/-- No member of an item's set, or no COPY platform, is in service (R149). -/
def Block.checkPlatforms (b : Block) : Block :=
  let stuck := b.dsp.runs.any fun r => !r.items.isEmpty && !(b.dsp.platforms.any fun (_, x) => x.inService && b.member r x)
  if stuck && b.running then b.stop .noPlatform srcDispatcher else b

/-- The Stook after a token or an insertion: every node that can move has moved, and no run is left without a platform (R149). -/
def Block.settleNodes (b : Block) : Block := (Block.ripple (2 * b.dsp.stook.length + 1) b).checkPlatforms

/-- NODE_INSERT (R133): the next node takes a free Stook entry. -/
def Block.insertNode (b : Block) : Block :=
  match b.dsp.current with
  | none => b
  | some buf =>
    let i := b.dsp.nextInsert
    if !b.running || i ≥ buf.made || b.dsp.stook.length ≥ 16384 then b
    else
      let b := { b with dsp := { b.dsp with nextInsert := i + 1, stook := b.dsp.stook ++ [i] } }
      (b.modNodeInst i fun x => { x with state := .matching }).settleNodes

/-- Every node of the current step is DONE. -/
def Block.nodesDone (b : Block) : Bool := match b.dsp.current with
  | none => true
  | some buf => buf.nodes.all fun p => p.2.state == .done

/-- Lead-independent completion of the step (R135, R235). -/
def Block.workDone (b : Block) : Bool := b.nodesDone && b.copiesLeft 1 == 0 && b.copiesLeft 2 == 0

/-! ### Eligibility and order (R136 to R138) -/

/-- Slots of a platform that hold an item. -/
def Block.slotsHeld (b : Block) (p : Nat) : List Nat := (b.dsp.openItems.filter fun o => o.platform == p && !o.held).map (·.slot)

/-- Slots that gangs have reserved on a platform. -/
def Block.slotsReserved (b : Block) (p : Nat) : Nat := b.dsp.runs.foldl (fun n r => n + (r.reserved.filter fun q => q == p).length) 0

def Block.eligible (b : Block) (r : Run) (p : Nat) (x : Platform) : Bool :=
  x.inService && !x.joining && b.member r x && !r.left.contains p && !r.reserved.contains p

def runLt (x y : Run) : Bool :=
  x.level < y.level || (x.level == y.level && (x.arrival < y.arrival || (x.arrival == y.arrival && x.reissue && !y.reissue)))

/-- Energy class of a run's items. -/
def Block.energyOf (b : Block) (r : Run) : Nat := match r.copy with
  | some _ => 0
  | none => ((b.tnode r.node).map (·.energyClass)).getD 0

def Block.critOf (b : Block) (r : Run) : Bool := r.copy.isNone && ((b.tnode r.node).map (·.crit)).getD false

/-- A gang with a slot reserved for every item waits only for permission (R138). -/
def Run.gathered (r : Run) : Bool := r.gang && !r.items.isEmpty && decide (r.reserved.length ≥ r.items.length)

/-- A run whose next item may go to a platform: a gathered gang to a slot it has reserved, another run to a slot that none has. -/
def Block.candidate (b : Block) (r : Run) (p : Nat) (x : Platform) : Bool :=
  if r.gathered then r.reserved.contains p
  else !r.items.isEmpty && b.eligible r p x && decide ((b.slotsHeld p).length + b.slotsReserved p < 4)

/-- The run that comes first for a platform, gathered gangs among them; within a wave, runs of CRIT nodes go first (R263). -/
def Block.firstRun (b : Block) (p : Nat) (x : Platform) (wave : Bool) : Option Run :=
  let rs := b.dsp.runs.filter fun r => b.candidate r p x
  minBy (fun (r s : Run) => if wave && b.critOf r != b.critOf s then b.critOf r else runLt r s) rs

/-! ### Descriptors (Tables 05-5 to 05-7) -/

def copyBody (c : CopyItem) : List Byte :=
  le 4 c.src ++ le 4 c.dst ++ le 1 c.kind ++ le 1 c.srcOffset ++ le 1 c.dstOffset ++ zeros 1 ++ le 2 c.posCount ++ zeros 2

def computeBody (n : TNode) (c : Consist) (i : Nat) : List Byte :=
  let tiles := max 1 n.tiles
  let slice := if n.kind = 1 then sliceRows (covered n c) 0 (i / tiles * n.groupPos) ((i / tiles + 1) * n.groupPos) else []
  let first := slice.headD (0, 0, 0)
  le 4 n.layerOperator ++ le 2 (if n.collective then n.collectiveGroup else 0xFFFF) ++ le 2 first.1 ++ le 2 first.2.1 ++
  le 2 (positionsOf slice) ++ le 2 (i % tiles) ++ le 2 (if n.kind = 2 then i / tiles else 0)

def Block.descriptor (b : Block) (r : Run) (item tag step epoch : Nat) : List Byte :=
  let n := (b.tnode r.node).getD default
  let c := match b.dsp.current with
    | some x => x.consist
    | none => { step := 0, epoch := 0, stepEst := 0, rows := [] }
  let head := fun (op flags energy node : Nat) =>
    le 4 tag ++ le 1 op ++ le 1 (r.level + 16 * r.cls) ++ le 1 flags ++ le 1 energy ++ le 4 step ++ le 2 epoch ++ le 2 node
  match r.copy with
  | some x => head 63 (b2n r.reissue) 0 0xFFFF ++ copyBody x
  | none => head n.opClass (b2n r.reissue + 2 * b2n n.crit + 4 * b2n n.collective) n.energyClass r.node ++ computeBody n c item

/-! ### Staging (R137, R325) -/

def replaceRun (l : List Run) (r r' : Run) : List Run :=
  if r'.items.isEmpty then l.erase r else l.map fun x => if x = r then r' else x

/-- A staged item's wait counts in its queue's mean of the census interval (R462). -/
def Block.noteWait (b : Block) (r : Run) : Block :=
  { b with obs := { b.obs with
      waits := Tab.upd (r.level * 8 + r.cls) (0, 0) (fun w => (w.1 + (b.now - r.since), w.2 + 1)) b.obs.waits } }

/-- The Dispatch Port's control word and DP_CRC (R324). -/
def dispatchCrc (platform slot kind : Nat) (desc : List Byte) : Nat := crc32c (desc ++ le 2 (platform + slot * 4096 + kind * 16384))

/-- Stage the next item of a run into a platform. -/
def Block.stageItem (b : Block) (r : Run) (p : Nat) (wave : Option Nat) : Block :=
  match r.items, (List.range 4).find? fun s => !(b.slotsHeld p).contains s with
  | item :: rest, some slot =>
    let tag := b.dsp.issueSeq % 262144 * 16384 + p * 4 + slot
    let at_ : Nat × Nat := match r.copy, b.dsp.current with
      | some c, _ => (c.step, c.epoch)
      | none, some buf => (buf.junction, buf.epoch)
      | none, none => (0, b.cp.epoch)
    let n := (b.tnode r.node).getD default
    let e := b.energyOf r
    let idle := !(b.dsp.openItems.any fun o => o.platform == p && !o.held)
    let o : OpenItem := { tag, node := r.node, item, copy := r.copy, level := r.level, cls := r.cls
                          opClass := if r.copy.isSome then 63 else n.opClass, energy := e, platform := p, slot, issues := r.issues + 1
                          left := r.left, oldestAt := if idle then some b.now else none, held := false, step := at_.1
                          current := b.predItem p e, raw := b.rawItem p e, collective := r.gang }
    let desc := b.descriptor r item tag at_.1 at_.2
    let b := b.emit (.stage p slot desc (dispatchCrc p slot 0 desc))
    let b := b.trace 1 (le 1 (r.level + 16 * r.cls) ++ le 2 (if r.copy.isSome then 0xFFFF else r.node) ++ le 4 tag ++ le 2 p ++ le 1 slot ++
      le 1 (ofBools [r.reissue, b.critOf r, wave.isSome]) ++ le 2 (wave.getD 0xFFFF))
    let b := b.count 2
    let b := (if r.copy.isSome then b.count 7 else b).noteWait r
    let b := { b with dsp := { b.dsp with
      issueSeq := b.dsp.issueSeq + 1, openItems := b.dsp.openItems ++ [o]
      runs := replaceRun b.dsp.runs r { r with items := rest, reserved := r.reserved.erase p } } }
    let b := (b.modPlatform p fun x => { x with items := x.items ++ [tag] }).noteRail p
    if r.copy.isSome then b else
    -- a run that goes frees its pool entry, a reissued one too (Table 05-8)
    (if r.reissue then b else b.modNodeInst r.node fun x =>
      let s := x.staged + 1
      { x with staged := s, state := if s ≥ x.count then .issued else x.state }).settleNodes
  | _, _ => b

/-- Stage a gang on its reserved platforms, back to back (R138, R326). -/
def Block.stageGang (b : Block) (arrival node : Nat) (wave : Option Nat) : List Nat → Block
  | [] => b
  | p :: ps =>
    match b.dsp.runs.find? fun r => r.gang && r.arrival == arrival && r.node == node && r.reserved.contains p with
    | some r => (b.stageItem r p wave).stageGang arrival node wave ps
    | none => b

/-- Platforms with a free slot, in the order of R137: ascending occupied slots, then platform number. DESIGN CHOICE (log entry 110): a
slot reserved for a gang counts as occupied. A slot that a gathered gang has reserved is free for that gang. -/
def Block.freePlatforms (b : Block) (idleOnly busyOnly : Bool) : List (Nat × Nat × Platform) :=
  let xs := b.dsp.platforms.filterMap fun (p, x) =>
    let held := (b.slotsHeld p).length
    let used := held + b.slotsReserved p
    let gang := b.dsp.runs.any fun r => r.gathered && r.reserved.contains p
    if x.inService && !x.joining && (used < 4 || gang) && !(idleOnly && held > 0) && !(busyOnly && held = 0) then some (used, p, x) else none
  sortBy (fun (x y : Nat × Nat × Platform) => x.1 < y.1 || (x.1 == y.1 && x.2.1 < y.2.1)) xs

/-- What a stage may still fill: idle platforms in all, and whether none of its wave is filled yet. -/
structure StageRoom where
  left : Nat
  whole : Bool

/-- A gathered gang is staged where its items are permitted together (R257) and the idle platforms it fills fit the room; a wave
releases a gang wider than WAVE_SIZE alone (DESIGN CHOICE, log entry 111). The number of idle platforms filled, where it is staged. -/
def Block.tryGang (b : Block) (r : Run) (wave : Option Nat) (room : StageRoom) : Block × Option Nat :=
  let idle := (r.reserved.filter fun p => (b.slotsHeld p).isEmpty).length
  if (idle ≤ room.left || (room.whole && wave.isSome)) && b.permitsAll r.reserved (b.energyOf r) r.gang r.node then
    (b.stageGang r.arrival r.node wave r.reserved, some idle)
  else (b, none)

/-- The run that R137 would stage next into a platform once its running item has ended (R256). -/
def Block.nextRun (b : Block) (p : Nat) (x : Platform) : Option Run :=
  minBy runLt (b.dsp.runs.filter fun r =>
    if r.gathered then r.reserved.contains p
    else !r.items.isEmpty && b.eligible r p x && decide ((b.slotsHeld p).length - 1 + b.slotsReserved p < 4))

/-- Offer the platforms in turn; the first that takes an item, or completes a gang, ends the stage. A platform whose first run does not fit
is passed over, and no other run is tried for it (R257). A gang reserves slots whether or not its items are permitted yet (DESIGN CHOICE,
log entry 110). -/
def Block.offer (wave : Option Nat) (room : StageRoom) : List (Nat × Nat × Platform) → Block → Block × Option Nat
  | [], b => (b, none)
  | (_, p, x) :: rest, b =>
    match b.firstRun p x wave.isSome with
    | none => Block.offer wave room rest b
    | some r =>
      if r.gathered then
        let t := b.tryGang r wave room
        if t.2.isSome then t else Block.offer wave room rest b
      else if r.gang then
        let r' := { r with reserved := r.reserved ++ [p] }
        let b := { b with dsp := { b.dsp with runs := replaceRun b.dsp.runs r r' } }
        let t := if r'.gathered then b.tryGang r' wave room else (b, none)
        if t.2.isSome then t else Block.offer wave room rest b
      else
        let idle := b2n (b.slotsHeld p).isEmpty
        if idle ≤ room.left && b.permits p (b.energyOf r) r.gang r.node then (b.stageItem r p wave, some idle)
        else Block.offer wave room rest b

/-- Whether the next item of a run is permitted on a platform now: of a gathered gang, all its items together. -/
def Block.runPermitted (b : Block) (r : Run) (p : Nat) : Bool :=
  b.permitsAll (if r.gathered then r.reserved else [p]) (b.energyOf r) r.gang r.node

/-- The Dispatcher may stage at all (R139). -/
def Block.mayStage (b : Block) : Bool := b.running && b.pwr.state != .hold

/-- Idle platforms that are eligible for an item (R262). -/
def Block.idleEligible (b : Block) : Nat :=
  ((b.freePlatforms true false).filter fun x => (b.firstRun x.2.1 x.2.2 true).isSome).length

/-- A barrier ends where no idle platform is eligible, and begins where more than WAVE_SIZE are (R262). At the start of a step with fewer
none begins (DESIGN CHOICE, log entry 126: R262 calls the start of every step such a moment). -/
def Block.barrierMoment (b : Block) : Block :=
  let n := b.idleEligible
  if n = 0 then { b with pwr := { b.pwr with barrier := none } }
  else if b.pwr.barrier.isSome || n ≤ b.pwr.global.waveSize then b
  else { b with pwr := { b.pwr with barrier := some { start := b.now, wave := 0, nextAt := b.now } } }

/-- DISPATCH_STAGE (R137): one item, or one gang; while a barrier runs, idle platforms wait for their wave. -/
def Block.dispatchStage (b : Block) : Block :=
  if !b.mayStage then b else
  let b := b.barrierMoment
  let room : StageRoom := ⟨if b.pwr.barrier.isSome then 0 else b.dsp.platforms.length, false⟩
  (Block.offer none room (b.freePlatforms false b.pwr.barrier.isSome) b).1

/-- The stages of one wave: at most WAVE_SIZE idle platforms filled. -/
def Block.waveItems (wave : Nat) : Nat → Block → Nat → Block × Nat
  | 0, b, n => (b, n)
  | fuel + 1, b, n =>
    let r := Block.offer (some wave) ⟨b.pwr.global.waveSize - n, n == 0⟩ (b.freePlatforms true false) b
    match r.2 with
    | some k => if n + k ≥ b.pwr.global.waveSize then (r.1, n + k) else Block.waveItems wave fuel r.1 (n + k)
    | none => (r.1, n)

/-- WAVE_RELEASE (R262). A wave of which the rails permit some items only counts as released, and its other places are not made up (DESIGN
CHOICE, log entry 126). -/
def Block.waveRelease (b : Block) : Block :=
  if !b.mayStage then b else
  let b := b.barrierMoment
  match b.pwr.barrier with
  | none => b
  | some w =>
    if b.now < w.nextAt then b
    else
      let r := Block.waveItems w.wave b.pwr.global.waveSize b 0
      if r.2 = 0 then r.1 else
      let b := r.1.trace 9 (zeros 1 ++ le 2 w.wave ++ le 2 r.2 ++ zeros 2 ++ le 8 w.start)
      { b with pwr := { b.pwr with barrier := some { w with wave := w.wave + 1, nextAt := b.now + b.pwr.global.waveInterval } } }.barrierMoment

/-! ### Completions (R142 to R149) -/

/-- An item leaves its platform: the next becomes the oldest (R144). -/
def Block.closeItem (b : Block) (o : OpenItem) : Block :=
  let items := b.dsp.openItems.filter fun x => x.tag != o.tag
  let rest := (items.filter fun x => x.platform == o.platform && !x.held).map (·.tag)
  let items := items.map fun x => if some x.tag = rest.head? && x.oldestAt.isNone then { x with oldestAt := some b.now } else x
  ({ b with dsp := { b.dsp with openItems := items } }.modPlatform o.platform fun x =>
    { x with items := x.items.filter fun t => t != o.tag }).noteRail o.platform

/-- Reissue an open item (R145, R156): its tag is void, it goes ahead of its queue, never back to the platform it left;
its node keeps the state it has (Table 05-8). -/
def Block.reissue (b : Block) (o : OpenItem) : Block :=
  if o.issues ≥ 3 then b.stop .reissueLimit srcDispatcher [o.platform, o.tag]
  else
    let queue := b.dsp.runs.filter fun r => r.level == o.level && r.cls == o.cls
    let arrival := match minBy (fun (x y : Nat) => x < y) (queue.map (·.arrival)) with
      | some a => a
      | none => b.dsp.arrival
    let r : Run := { level := o.level, cls := o.cls, arrival, node := o.node, items := [o.item], copy := o.copy, gang := o.collective
                     reserved := [], reissue := true, left := o.left ++ [o.platform], issues := o.issues, since := b.now }
    let b := b.closeItem o
    let b := b.count 4
    { b with
      dsp := { b.dsp with runs := r :: b.dsp.runs, oldTags := b.dsp.oldTags ++ [o.tag]
                          arrival := if queue.isEmpty then add32 b.dsp.arrival 1 else b.dsp.arrival }
      thr := { b.thr with contexts := b.thr.contexts.filter fun c => c.tag != o.tag } }

/-- The stall reason that a STATUS byte counts as: a reserved code as OTHER (R448). -/
def reasonOf (status : Nat) : Nat := let r := status % 16; if r = 13 || r = 14 then 15 else r

/-- An item's reason, and whether it failed, in its bin. -/
def Bin.reasoned (x : Bin) (status : Nat) : Bin :=
  { x with
    reissued := if status / 16 = 0 then x.reissued else min 4294967295 (x.reissued + 1)
    byReason := Tab.upd (reasonOf status) 0 (fun n => min 4294967295 (n + 1)) x.byReason }

/-- Remove a platform from service (R147, R328). -/
def Block.removePlatform (b : Block) (p cause : Nat) : Block :=
  match b.platform? p with
  | none => b
  | some x =>
    if !x.inService then b else
    let opens := b.dsp.openItems.filter fun o => o.platform == p && !o.held
    let c := x.counters
    let start := match c.waiting, c.last with
      | some _, some s => s
      | _, _ => (0, 0, 0)
    let lastEnd := c.lastEnd.getD (0, 0, 0)
    -- an item that waits for its end snapshot has none, and adds nothing to its bin; no later record is compared with an older one
    let b := b.modPlatform p fun x =>
      { x with inService := false, entry := { x.entry with inService := false }
               counters := { x.counters with waiting := none, lastEnd := if x.counters.waiting.isSome then none else x.counters.lastEnd } }
    let b := b.emit (.revoke p (dispatchCrc p 0 1 (zeros 32)))
    let b := b.logRec srcDispatcher 0x0110 2 ([p, cause, opens.length, (opens.head?.map (·.tag)).getD 0xFFFFFFFF,
      start.1, start.2.1, start.2.2, lastEnd.1, lastEnd.2.1, lastEnd.2.2, c.lastTime])
    let b := { b with dsp := { b.dsp with runs := b.dsp.runs.map fun r => { r with reserved := r.reserved.filter fun q => q != p } } }
    let b := opens.reverse.foldl Block.reissue b
    b.checkPlatforms

/-! #### Snapshots and deltas (R443 to R451) -/

def d32 (x y : Nat) : Nat := sub32 x y

/-- The SAT condition of R446. -/
def Block.sat (b : Block) (t0 t1 : Nat) : Bool := decide ((t1 - t0) * 1000 ≥ 15 * 268435456 * max 1 b.obs.tickPs)

def snapDelta (s e : Nat × Nat × Nat) : Nat × Nat × Nat := (d32 e.1 s.1, d32 e.2.1 s.2.1, d32 e.2.2 s.2.2)

/-- Deltas enter the bin of a compute node, or the copy counters; an item with SAT counts only in ITEMS and SAT_ITEMS (R449). -/
def Block.addDeltas (b : Block) (node status : Nat) (d : Nat × Nat × Nat) (sat : Bool) : Block :=
  if node = 0xFFFF then (if sat then b else b.count 8 d.1)
  else { b with obs := { b.obs with stepBins := Tab.upd node {} (fun x =>
      let x := { x with items := x.items + 1 }
      if sat then { x with sat := min 4294967295 (x.sat + 1) }
      else Bin.reasoned { x with busy := x.busy + d.1, stall := x.stall + d.2.1, idle := x.idle + d.2.2 } status) b.obs.stepBins } }

/-- d_busy of a counted record enters the census interval (R462). -/
def Block.noteBusy (b : Block) (p n : Nat) (sat : Bool) : Block :=
  if sat then b else { b with obs := { b.obs with busy := Tab.upd p 0 (· + n) b.obs.busy } }

/-- A COMPLETE trace record, with the stamp of the completion (R331). -/
def Block.traceComplete (b : Block) (stamp status p tag : Nat) (d : Nat × Nat × Nat) (sat deferred : Bool) : Block :=
  let x := fun (n : Nat) => le 4 (if sat then 0xFFFFFFFF else n)
  b.traceAt stamp 2 (le 1 status ++ le 2 p ++ le 4 tag ++ x d.1 ++ x d.2.1 ++ x d.2.2 ++ le 1 (b2n sat + 2 * b2n deferred))

/-- Deltas of an item: in Buffer Stop they reach no bin and no trace (R319), and those of a node of an earlier template no bin (R449). -/
def Block.tally (b : Block) (stamp p node tag status : Nat) (d : Nat × Nat × Nat) (sat deferred old : Bool) : Block :=
  let b := if (b.running && !old) || node = 0xFFFF then b.addDeltas node status d sat else b
  let b := b.noteBusy p d.1 sat
  if b.running then b.traceComplete stamp status p tag d sat deferred else b

/-- What a counted record does to its platform's totals and its item's bin. -/
def Block.observe (b : Block) (c : CompletionRec) (node tag started : Nat) : Block :=
  match b.platform? c.platform with
  | none => b
  | some x =>
    let k := x.counters
    let start := (c.busyStart, c.stallStart, c.idleStart)
    let fin := (c.endA, c.endB, c.endC)
    let ok := c.status = 0
    let b := if reasonOf c.stallReason != c.stallReason then b.logRec srcDispatcher 0 1 [c.platform, c.stallReason] else b
    -- the end snapshot of an earlier item that was not OK
    let b := match k.waiting, k.last with
      | some (n, tg, st), some s =>
        let d := snapDelta s start
        let sat := b.sat k.lastStart b.now
        b.tally k.lastTime c.platform n tg st d sat true k.oldNode
      | _, _ => b
    let anomaly := fun (b : Block) (kind : Nat) (e r : Nat × Nat × Nat) =>
      (b.count 30).logRec srcDispatcher 0x0190 1 [c.platform, kind, tag, e.1, e.2.1, e.2.2, r.1, r.2.1, r.2.2]
    let b := if ok && d32 c.endC c.idleStart != 0 then anomaly b 1 start fin else b
    let b := match if k.waiting.isNone then k.lastEnd else none with
      | some e => if e.1 != start.1 || e.2.1 != start.2.1 then anomaly b 2 e start else b
      | none => b
    let d := snapDelta start fin
    let sat := b.sat started b.now
    let b := if ok then b.tally b.now c.platform node tag (c.status * 16 + c.stallReason) d sat false false else b
    b.modPlatform c.platform fun x =>
      let k := x.counters
      let gone := k.last.isSome && b.sat k.lastStart b.now
      let s := snapDelta (k.last.getD start) start
      { x with counters := { k with
          busy := if gone then k.busy else k.busy + s.1, stall := if gone then k.stall else k.stall + s.2.1
          idle := if gone then k.idle else k.idle + s.2.2, items := k.items + 1, satSeen := k.satSeen || gone
          last := some start, lastEnd := if ok then some fin else if k.waiting.isSome then some start else k.lastEnd, lastTime := b.now, lastStart := started
          waiting := if ok then none else some (node, tag, c.status * 16 + c.stallReason), oldNode := false } }

/-! #### Statuses -/

/-- The move of a copy item ends on this instance (R118). -/
def Block.moveDone (b : Block) (seq : Nat) : Block :=
  { b with pg := { b.pg with moves := b.pg.moves.map fun m => if m.seq = seq then { m with completed := true } else m } }

/-- The consist rows that an item of a node covers, with the positions it covers of each (R127, R128). -/
def itemRows (n : TNode) (c : Consist) (item : Nat) : List (Nat × Nat × Nat) :=
  let g := item / max 1 n.tiles
  if n.kind = 1 then sliceRows (covered n c) 0 (g * n.groupPos) ((g + 1) * n.groupPos) else covered n c

/-- A directive's rows among rows a node covers: the main range for nodes of the main descriptor, the draft range otherwise (R465). -/
def Block.dumpRowsOf (b : Block) (d : Dump) (n : TNode) (c : Consist) (rows : List (Nat × Nat × Nat)) : List (Nat × Nat × Nat) :=
  let main := b.mainModel.any fun m => m.1 == n.model
  rows.filter fun x => c.rows[x.1]?.any fun r => r.handle == d.handle && (r.kind == 4) == !main

/-- A completed item counts for the directive that names its node and whose rows it covers (R465, R466). -/
def Block.dumpHit (b : Block) (o : OpenItem) (d : Dump) : Dump :=
  match b.tnode o.node, b.dsp.current with
  | some n, some x =>
    if d.step = o.step && !d.dropped && n.layerOperator == d.layerOperator
        && !(b.dumpRowsOf d n x.consist (itemRows n x.consist o.item)).isEmpty then { d with items := d.items + 1 }
    else d
  | _, _ => d

/-- An item has completed: its node counts it (Table 05-8). -/
def Block.itemDone (b : Block) (o : OpenItem) : Block :=
  let b := b.closeItem o
  match o.copy with
  | some c => (match c.seq with
      | some s => b.moveDone s
      | none => b).settleNodes
  | none =>
    let b := b.modNodeInst o.node fun x =>
      let n := x.completed + 1
      { x with completed := n, state := if n ≥ x.count then .done else x.state }
    { b with obs := { b.obs with dumps := b.obs.dumps.map (b.dumpHit o) } }.settleNodes

def Block.staleCompletion (b : Block) (c : CompletionRec) : Block :=
  ({ b with dsp := { b.dsp with staleCompletions := b.dsp.staleCompletions + 1 } }.count 5).logRec srcDispatcher 0x0111 1 [c.platform, c.itemTag]

/-- The request whose KV an item failed to read (R142, R143, R330). -/
def Block.kvLost (b : Block) (o : OpenItem) (c : CompletionRec) : Block :=
  match o.copy with
  | some x =>
    if x.kind = 0 then (b.logRec srcDispatcher 0x0141 2 [x.handle, x.seq.getD 0]).lose x.handle 3
    else (b.logRec srcDispatcher 0x0140 2 [x.handle, 0xFFFF, c.endB, c.endC]).lose x.handle 2
  | none =>
    let row := c.endA % 65536
    match b.dsp.current.bind fun x => x.consist.rows[row]? with
    | some r => (b.logRec srcDispatcher 0x0140 2 [r.handle, row, c.endB, c.endC]).lose r.handle 2
    | none => b

/-- Whether an item's completion waits for draft draws (R204); `drawn h d`: the children of the DRAFT row of request h at
depth d are written and acknowledged. -/
def Block.drawsReady (b : Block) (o : OpenItem) (drawn : Nat → Nat → Bool) : Bool :=
  match b.tnode o.node, b.dsp.current with
  | some n, some buf =>
    if n.opClass != b.mdl.spec.drawWaitClass then true else
    let d := n.layerOperator % 32
    let cov := if n.kind = 1 then
        sliceRows (covered n buf.consist) 0 (o.item / max 1 n.tiles * n.groupPos) ((o.item / max 1 n.tiles + 1) * n.groupPos)
      else (List.range buf.consist.rows.length).map fun i => (i, 0, 1)
    cov.all fun x => match buf.consist.rows[x.1]? with
      | some r => !(r.kind == 4 && bits r.treeNode 13 9 == d) || drawn r.handle d
      | none => true
  | _, _ => true

/-- The integrator's code of a record that is not OK, where no record of Table 16-9 carries it (R330, log entry 39): of
KV_UNREADABLE the record 0x0140 of a running group carries it, of FATAL the record of the Buffer Stop that it causes. -/
def Block.logDetail (b : Block) (c : CompletionRec) (o : OpenItem) : Block :=
  let row := b.dsp.current.bind fun x => x.consist.rows[c.endA % 65536]?
  let carried := b.running && (c.status ≥ 4 || (c.status == 3 && (match o.copy with
    | some x => x.kind != 0
    | none => row.isSome)))
  if c.status = 0 || carried then b else b.logRec srcDispatcher 0 1 [c.platform, o.tag, c.status, c.endC]

/-- The 32 bytes of a completion record (Table 12-6). -/
def completionBytes (c : CompletionRec) : List Byte :=
  le 4 c.itemTag ++ le 2 (c.platform + 4096 * c.slot + 16384 * (c.rsvd % 4)) ++ le 1 (c.stallReason + 16 * c.status) ++
  le 1 (b2n c.crcBad + 2 * (c.rsvd / 4)) ++ le 4 c.busyStart ++ le 4 c.stallStart ++ le 4 c.idleStart ++ le 4 c.endA ++ le 4 c.endB ++ le 4 c.endC

/-- COMPLETION_RECORD (R144, R327, R330, R332), with the CP_CRC driven beside the record. A CRC_BAD record counts, as RETRY, for the item open
in its platform and slot. -/
def Block.completion (b : Block) (c : CompletionRec) (crc : Nat) (drawn : Nat → Nat → Bool) : Block :=
  if crc != crc32c (completionBytes c) then (b.count 6).logRec srcDispatcher 0x0112 1 [c.platform, c.slot]
  else
    let item := if c.crcBad then b.dsp.openItems.find? fun o => o.platform == c.platform && o.slot == c.slot && !o.held
      else b.dsp.openItems.find? fun o => o.tag == c.itemTag && o.platform == c.platform && !o.held
    match item with
    | none => b.staleCompletion c
    | some o =>
      if !((b.platform? o.platform).any fun x => x.inService) then b.staleCompletion c
      else
        let c := if c.crcBad then { c with status := 1 } else c
        let b := (b.observe c (if o.copy.isSome then 0xFFFF else o.node) o.tag (o.oldestAt.getD b.now)).logDetail c o
        if !b.running then (if c.status = 0 then b.count 3 else b).logRec srcDispatcher 0x0111 1 [c.platform, c.itemTag]
        else match c.status with
        | 0 =>
          let b := b.count 3
          if o.copy.isNone && !b.drawsReady o drawn then
            let held := { o with held := true, current := 0 }
            let b := b.closeItem o
            { b with dsp := { b.dsp with openItems := b.dsp.openItems ++ [held] } }
          else b.itemDone o
        | 1 => (b.reissue o).checkPlatforms
        | 2 => b.removePlatform o.platform 2
        | 3 => (b.kvLost o c).itemDone o
        | _ => b.stop .itemFatal srcDispatcher [o.platform, o.tag, c.status, c.endC]

/-- DRAW_WAIT_COMPLETION (R204): a delayed completion counts once its draws are acknowledged. -/
def Block.drawWait (b : Block) (tag : Nat) (drawn : Nat → Nat → Bool) : Block :=
  match b.dsp.openItems.find? fun o => o.tag == tag && o.held with
  | some o => if b.running && b.drawsReady o drawn then b.itemDone o else b
  | none => b

/-- ITEM_TIMEOUT (R144): the oldest open item of a platform has outrun its op class's timeout. -/
def Block.itemTimeout (b : Block) (tag : Nat) : Block :=
  match b.dsp.openItems.find? fun o => o.tag == tag && !o.held with
  | some o =>
    let t := match b.dsp.current with
      | some x => some x.template
      | none => b.mdl.template
    let limit := (t.map fun t => t.timeouts.getD o.opClass 0).getD 0
    match o.oldestAt with
    | some s => if b.running && b.now > s + limit * 1000 then b.removePlatform o.platform 0xFF else b
    | none => b
  | none => b

end Sys2Proof.Machine
end

