-- ==== Sys2Proof/Machine/Yard.lean ====
section
/-! DEFINITION. The Consist Composer (chapter 3): eligibility, order, the three passes of selection, finalisation and
backfill. The Yard composes against the state as it will stand after the log that carries the consist, which the model
computes by applying that log's sections to a copy (R38, R67). -/

namespace Sys2Proof.Machine
open Sys2Proof

/-- A unit: one request's rows in a consist (R67). -/
structure YardUnit where
  handle : Nat
  gen : Bool
  main : List RowRec
  draft : List RowRec
  deriving DecidableEq, Repr, Inhabited

def YardUnit.rows (u : YardUnit) : Nat := u.main.length + u.draft.length
def YardUnit.positions (u : YardUnit) : Nat := sumPos u.main + sumPos u.draft

/-- What a consist has left: positions, rows, requests (R63). -/
structure Room where
  pos : Nat
  rows : Nat
  reqs : Nat
  deriving DecidableEq, Repr, Inhabited

/-- The Yard at work: the state pages are counted on, the room left, the units taken in order. -/
structure YardAcc where
  pages : Block
  room : Room
  taken : List YardUnit

/-- The pages of a version's data. -/
def Block.strainBaseOf (b : Block) (e : Entry) : Nat :=
  if !e.flags.strainEn then 0 else
  match b.pol.strains.find? fun v => v.descriptor == e.models % 16 && v.strain == e.strain && v.version == e.strainVersion with
  | some v => b.strainPtr v.granule
  | none => 0

/-- A row of a request (Table 03-3). -/
def Block.mkRow (b : Block) (e : Entry) (kind model first count node : Nat) (sample rebuild : Bool) : RowRec :=
  { handle := e.handle, kind, rebuild, sample, model, posCount := count, firstPos := first, treeNode := node
    strain := if e.flags.strainEn then e.strain else 0, strainBase := b.strainBaseOf e
    cls := classOf e.classPrio, level := e.effectivePrio % 16 }

/-- A chunk of pending positions within a limit (R78): rounded down to a page boundary when positions stay pending. -/
def chunkCount (first pending chunk limit g : Nat) : Nat :=
  let n := min pending (min chunk limit)
  if n < pending then n - (first + n) % g else n

/-- Cut level widths to n nodes (R78). -/
def cutWidths : List Nat → Nat → List Nat
  | [], _ => []
  | w :: ws, n => if n = 0 then [] else if n ≤ w then [n] else w :: cutWidths ws (n - w)

/-- TREE_NODE (Table 08-2). -/
def treeNodeRef (inplace spine : Bool) (depth node : Nat) : Nat :=
  node + 512 * depth + 16384 * b2n spine + 32768 * b2n inplace

/-- The rows of a tree of the given widths (R201, R202). -/
def Block.treeUnit (b : Block) (e : Entry) (widths : List Nat) : YardUnit :=
  let l := e.committedLen
  let main := e.models % 16
  let levels := widths.length
  let draftModel := e.models / 16
  let root := b.mkRow e 3 main l 1 (treeNodeRef true (levels > 0) 0 0) true false
  let start := fun d => 1 + (widths.take d).foldl (· + ·) 0
  let nodes := (List.range levels).flatMap fun d => (List.range (widths.getD d 0)).map fun i =>
    b.mkRow e 3 main (l + d + 1) 1 (treeNodeRef (i == 0) (i == 0 && d + 1 < levels) (d + 1) (start d + i)) true false
  let drafts := (List.range levels).map fun d =>
    b.mkRow e 4 draftModel (l + d) 1 (treeNodeRef true true d (if d = 0 then 0 else start (d - 1))) true false
  { handle := e.handle, gen := true, main := root :: nodes, draft := drafts }

/-- The forms of a request's unit within a limit of positions and rows, the fullest first (R67, R78, R199). -/
def Block.unitForms (b : Block) (e : Entry) (limit rows : Nat) : List YardUnit :=
  let g := b.pageTokens
  let pend := e.transcriptLen - e.committedLen
  let chunk := (b.cls (classOf e.classPrio)).cfg.chunkPos
  let main := e.models % 16
  let chunked := fun (kind : Nat) (gen rebuild : Bool) =>
    let mk := fun n => ({ handle := e.handle, gen, main := [b.mkRow e kind main e.committedLen n 0
      (e.committedLen + n == e.transcriptLen) rebuild], draft := [] } : YardUnit)
    let full := chunkCount e.committedLen pend chunk limit g
    let least := min pend (g - e.committedLen % g)
    if full = 0 || rows = 0 then [] else if least < full then [mk full, mk least] else [mk full]
  if pend = 0 then []
  else match e.state with
  | .queued | .prefill => chunked 1 false false
  | .rebuild => chunked 1 true true
  | .decode =>
    let inputPending := (((b.transcript e).drop e.committedLen).any fun t => t.1) || pend > 1
    if inputPending then chunked 2 true false
    else
      let widths := if e.flags.specEn && !e.flags.specPlain && (verifyMode e.sampling == 1 || verifyMode e.sampling == 2)
        then treeShape b.mdl.spec e else []
      if widths.isEmpty then
        (if limit ≥ 1 && rows ≥ 1 then [{ handle := e.handle, gen := true, main := [b.mkRow e 0 main e.committedLen 1 0 true false], draft := [] }] else [])
      else
        let total := widths.foldl (· + ·) 0
        let forms := (List.range (total + 1)).reverse.map fun n => b.treeUnit e (cutWidths widths n)
        match forms.filter fun u => u.rows ≤ rows && u.positions ≤ limit with
        | [] => []
        | u :: r => if r.isEmpty then [u] else [u, r.getLastD u]
  | _ => []

/-! ### Pages of a unit (R106) -/

/-- The pages a row needs are there after its allocation. -/
def Block.rowHasPages (b : Block) (rows : List RowRec) (r : RowRec) : Bool :=
  match b.byHandle r.handle with
  | none => false
  | some (_, e) =>
    let g := b.pageTokens
    if r.kind = 4 then true
    else if r.kind = 3 && !bit r.treeNode 15 then decide (siblingsBefore rows r / g < e.scratch.length)
    else
      let hi := (r.firstPos + r.posCount - 1) / g
      decide (hi < e.pages.length) &&
      ((e.pages.take (hi + 1)).drop (r.firstPos / g)).all fun p => (b.desc p).node.isNone

/-- The state with a unit's pages allocated; none when they cannot be supplied. -/
def Block.supply (b : Block) (u : YardUnit) : Option Block :=
  let b' := u.main.foldl (fun b r => b.allocRow u.main 0 r) b
  if u.main.all fun r => b'.rowHasPages u.main r then some b' else none

/-- take(u, limit) of R77: the fullest form that fits and whose pages can be supplied. -/
def YardAcc.take (y : YardAcc) (e : Entry) (limit : Nat) : YardAcc × Nat :=
  if y.room.reqs = 0 then (y, 0) else
  match (y.pages.unitForms e (min limit y.room.pos) y.room.rows).findSome? fun u => (y.pages.supply u).map fun p => (u, p) with
  | none => (y, 0)
  | some (u, p) =>
    ({ pages := p
       room := { pos := y.room.pos - u.positions, rows := y.room.rows - u.rows, reqs := y.room.reqs - 1 }
       taken := y.taken ++ [u] }, u.positions)

/-! ### Eligibility (Table 03-4) -/

/-- Why a request gets no unit: none, or held by a row of Table 03-4, counted from 1; or eligible. -/
inductive Grant where
  | no
  | held (row : Nat)
  | eligible
  deriving DecidableEq, Repr, Inhabited

/-- CANCEL_PENDING for a request: a cancel accepted and not yet applied (R292). -/
def Block.cancelPending (b : Block) (h : Nat) : Bool :=
  b.seq.cmds.any fun c => match c.cmd.params with
    | .reqCancel x => x.handle == h
    | _ => false

/-- The rows of Table 03-4, top to bottom, of the last only that a walk leaves no pages to give (R113); `b` is the state at the last junction, `after` the state as the
log leaves it before the page phases. Tenants and classes are those of the last junction (R291). -/
def Block.eligibility (b after : Block) (e : Entry) : Grant :=
  let t := b.tenant e.tenant
  let c := b.cls (classOf e.classPrio)
  let prefill := e.state == .queued || e.state == .prefill
  if !activeState e.state then .no
  else if b.cancelPending e.handle then .no
  else if c.cfg.mode = 2 then .held 3
  else if !tenantEnabled t.cfg then .held 4
  else if freeTokens e < e.treeDepth + 1 then .held 5
  else if prefill && t.prefill ≤ 0 && !prefillUnlimited t.cfg then .held 6
  else if !prefill && e.state != .rebuild && t.gen ≤ 0 && !genUnlimited t.cfg &&
      !(e.flags.voiceReserve && e.state == .decode && c.reserve > 0) then .held 7
  else if (after.side (slotOf e.handle)).walkPending then .held 8
  else .eligible

/-- Eligible requests in the order of R70. -/
def Block.eligibleList (b after pages : Block) : List Entry :=
  sortBy prioLt ((Tab.vals pages.gr.entries).filter fun e => b.eligibility after e == .eligible)

def isGen (e : Entry) : Bool := e.state == .decode || e.state == .rebuild

def Block.modeOf (b : Block) (e : Entry) : Nat := (b.cls (classOf e.classPrio)).cfg.mode

/-! ### The three passes (R77) -/

def takeAll (limit : YardAcc → Nat) : List Entry → YardAcc → YardAcc
  | [], y => y
  | e :: es, y => takeAll limit es (y.take e (limit y)).1

/-- Units within a budget: the positions used. -/
def takeBudget (budget : Nat) : List Entry → YardAcc × Nat → YardAcc × Nat
  | [], y => y
  | e :: es, (y, used) => let (y', n) := y.take e (budget - used); takeBudget budget es (y', used + n)

def untaken (y : YardAcc) (es : List Entry) : List Entry := es.filter fun e => !(y.taken.any fun u => u.handle == e.handle)

/-- Pass B for one RATIO class. -/
def Block.passB (b : Block) (es : List Entry) (left wsum : Nat) (y : YardAcc) (c : Nat) : YardAcc :=
  let cs := b.cls c
  let slice := left * cs.cfg.weight / wsum
  let p := slice * cs.share / 256
  let g := slice - p
  let mine := (untaken y es).filter fun e => classOf e.classPrio == c
  let (y, used) := takeBudget g (mine.filter isGen) (y, 0)
  (takeBudget (p + (g - used)) (mine.filter fun e => !isGen e) (y, 0)).1

/-- Pass A: the generation units of GEN_FIRST classes. -/
def Block.passA (b : Block) (es : List Entry) (y : YardAcc) : YardAcc :=
  takeAll (fun y => y.room.pos) (es.filter fun e => isGen e && b.modeOf e == 0) y

/-- Pass B: the RATIO classes divide what is left. -/
def Block.passRatio (b : Block) (es : List Entry) (y : YardAcc) : YardAcc :=
  let left := y.room.pos
  let ratio := (List.range 8).filter fun c => (b.cls c).cfg.mode == 1 &&
    (untaken y es).any fun e => classOf e.classPrio == c && !(y.pages.unitForms e 65536 4096).isEmpty
  let wsum := max 1 (ratio.foldl (fun n c => n + (b.cls c).cfg.weight) 0)
  ratio.foldl (fun y c => b.passB es left wsum y c) y

/-- Pass C: everything still untaken. -/
def passC (es : List Entry) (y : YardAcc) : YardAcc := takeAll (fun y => y.room.pos) (untaken y es) y

/-! ### UNIT trace records (R455) -/

/-- A UNIT record: the outcome for a request, and the row of Table 03-4 that holds it. -/
def Block.traceUnit (b : Block) (step : Nat) (e : Entry) (outcome rows positions row : Nat) : Block :=
  b.trace 3 (le 1 outcome ++ le 2 rows ++ le 4 e.handle ++ le 4 positions ++ le 1 e.effectivePrio ++ le 1 row ++ zeros 2 ++ le 8 step)

/-- The records of selection: each unit with the pass that took it, then the requests held, then those skipped; one whose minimum finds
no pages is held by the last row of Table 03-4 (DESIGN CHOICE, log entry 119: Table 17-7 does not say at which moment). -/
def Block.traceSelection (b s p : Block) (step nA nB : Nat) (es : List Entry) (y : YardAcc) : Block :=
  let entry := fun (h : Nat) => ((p.byHandle h).map (·.2)).getD { handle := h }
  let b := ((List.range y.taken.length).zip y.taken).foldl (fun (b : Block) (i, u) =>
    b.traceUnit step (entry u.handle) (if i < nA then 1 else if i < nB then 2 else 3) u.rows u.positions 0) b
  let b := (Tab.vals p.gr.entries).foldl (fun (b : Block) e => match b.eligibility s e with
    | .held row => b.traceUnit step e 5 0 0 row
    | _ => b) b
  (untaken y es).foldl (fun (b : Block) e => match (y.pages.unitForms e 65536 4096).getLast? with
    | some u => if (y.pages.supply u).isNone then b.traceUnit step e 5 0 0 8 else b.traceUnit step e 6 0 0 0
    | none => b) b

/-! ### The log being composed -/

/-- The commands whose effective junction is j, in acceptance order. -/
def Block.cmdsFor (b : Block) (j : Nat) : List CmdRecord := (b.seq.cmds.filter fun c => c.junction == j).map (·.cmd)

/-- The log for junction j as far as the sequencer has it (R289 to R291), its consist empty. -/
def Block.draftLog (b : Block) (j : Nat) : JLog :=
  { junction := j, leadTerm := b.cp.term, leadRank := b.cp.rank
    epoch := match b.seq.decision with
      | some (e, d, _) => if d = 1 then e else b.cp.epoch
      | none => b.cp.epoch
    closeTime := 0, takeover := none, commands := b.cmdsFor j
    tickets := (b.seq.tickets.filter fun t => t.1 == j).map (·.2)
    consumer := b.seq.consumer.map fun (h, x) => (h, x.1, x.2)
    ringWrites := b.seq.ringWrites, losses := b.seq.losses, banks := b.seq.banks, mode := b.seq.decision
    consist := { step := j, epoch := b.cp.epoch, stepEst := b.cp.stepEst, rows := [] }, holds := [] }

/-- The walks with the results they will have: every instance walks the Rhizome as the last junction left it (R113). -/
def Block.foretellWalks (b : Block) : Block :=
  let done := fun (w : Walk) => match b.byHandle w.handle with
    | some (_, e) => if w.finished then w else { w with finished := true, nodes := b.walk e }
    | none => w
  { b with gr := { b.gr with walks := b.gr.walks.map done } }

/-- The state after the log's sections, and after phases 2 to 5: what the Yard counts pages on (R106). Consist J is composed
under the classes of the junction before J (R291). The agreement time is not known yet; it is no earlier than this instance's own end of
step, so an expiry counts where that has passed it (R50). -/
def Block.predict (b : Block) (l : JLog) : Block × Block :=
  let a := b.cp.stepDone.getD b.now
  let b := b.foretellWalks
  let s := (b.openJunction l a).applySections l a
  let p := (((((s.phase2 a).phase3 a).phase4).reapSlots).phase5 a).saveMoved
  (s, { p with pol := { p.pol with classes := b.pol.classes } })

/-- What a consist may hold: STEP_POSITIONS is that of the epoch it is composed for (R63, R233). -/
def Block.fullRoom (b : Block) : Room := { pos := b.mdl.stepPositions, rows := 4096, reqs := 2048 }

/-- The state after the last junction: of the step then begun no chunk has committed its positions yet (R80). -/
def Block.stepPending (b : Block) : Block :=
  let trees := fun (l : JLog) => { l with consist := { l.consist with rows := l.consist.rows.filter fun r => r.kind ≥ 3 } }
  { b with cp := { b.cp with prevLog := b.cp.prevLog.map trees }, gr := { b.gr with results := [] } }

/-- Rows and positions of a request's fullest form, no limit but CHUNK_POS. -/
def Block.fullForm (p : Block) (handle : Nat) : Nat × Nat := match p.byHandle handle with
  | none => (0, 0)
  | some (_, e) => ((p.unitForms e 65536 4096).head?.map fun u => (u.rows, u.positions)).getD (0, 0)

/-- Selection for the next consist (R80): the reservations. A tree unit reserves the largest tree of its fields. -/
def Block.selectUnits (b : Block) : Block :=
  let step := b.cp.applied + 1
  let (s, p) := b.stepPending.predict (b.draftLog step)
  let es := b.eligibleList s p
  let yA := b.passA es { pages := p, room := s.fullRoom, taken := [] }
  let yB := b.passRatio es yA
  let y := passC es yB
  let reserve := fun (u : YardUnit) =>
    let full := p.fullForm u.handle
    ({ handle := u.handle, rows := u.rows, positions := u.positions, fullRows := full.1, fullPositions := full.2 } : Reservation)
  { b with seq := { b.seq with selected := y.taken.map reserve } }.traceSelection s p step yA.taken.length yB.taken.length es y

/-- Room less reservations. -/
def lessReserved (r : Room) (sel : List Reservation) : Room :=
  sel.foldl (fun r x => { pos := r.pos - x.positions, rows := r.rows - x.rows, reqs := r.reqs - 1 }) r

/-- Fix one selected unit within its reservation and what `more` allows from the pool (R80). -/
def YardAcc.fix (y : YardAcc) (b s : Block) (x : Reservation) (more : Bool) : YardAcc :=
  let give := fun (y : YardAcc) => { y with room := { pos := y.room.pos + x.positions, rows := y.room.rows + x.rows, reqs := y.room.reqs + 1 } }
  match y.pages.byHandle x.handle with
  | none => give y
  | some (_, e) =>
    if b.eligibility s e != .eligible then give y
    else
      let limit := if more then y.room.pos + x.positions else x.positions
      ((give y).take e limit).1

/-- Whether a selected unit's present form fits its reservation. A unit that selection cut to a limit of R77 needs no more for that, but one
whose full form has grown since, by an APPEND or by what its step sampled, does (DESIGN CHOICE, log entry 110: R80 does not say when a unit
needs more). -/
def fitsReserve (p : Block) (x : Reservation) : Bool :=
  let full := p.fullForm x.handle
  (full.1 ≤ x.rows && full.2 ≤ x.positions) || (full.1 ≤ x.fullRows && full.2 ≤ x.fullPositions)

/-- Finalisation, then backfill with prefill units (R80, R81); units stand in the order selection took them. With RHIZOME_SCOPE 0 an
admission effective at this junction may be backfilled, as R81 says, though R113 and R486 put its first row one consist later (DESIGN CHOICE,
log entry 110). -/
def Block.finalUnits (b s p : Block) : List YardUnit :=
  let sel := b.seq.selected
  let y0 : YardAcc := { pages := p, room := lessReserved s.fullRoom sel, taken := [] }
  let y := (sel.filter fitsReserve' ).foldl (fun y x => y.fix b s x false) y0
  let rest := (sel.filter fun x => !fitsReserve p x)
  let key := fun (x : Reservation) => ((p.byHandle x.handle).map (·.2)).getD {}
  let y := (sortBy (fun x z => prioLt (key x) (key z)) rest).foldl (fun y x => y.fix b s x true) y
  let back := (b.eligibleList s p).filter fun e => !isGen e && !(sel.any fun x => x.handle == e.handle)
  let nsel := y.taken
  let y := takeAll (fun y => y.room.pos) back y
  let order := sel.filterMap fun x => nsel.find? fun u => u.handle == x.handle
  order ++ y.taken.drop nsel.length
where
  fitsReserve' (x : Reservation) : Bool := fitsReserve p x

/-- The rows of a consist in the order of R66. -/
def rowsOfUnits (us : List YardUnit) : List RowRec := (us.flatMap fun u => u.main) ++ us.flatMap fun u => u.draft

/-- Holds that begin with the consist (R69): handle and KIND; a request that this log readmits brings its hold with it. -/
def Block.newHolds (b s p : Block) : List (Nat × Nat) :=
  (Tab.vals p.gr.entries).filterMap fun e => match b.eligibility s e with
    | .held row =>
      let x := p.side (slotOf e.handle)
      if row = 5 then (if x.ringHold then none else some (e.handle, 1))
      else if row = 6 || row = 7 then (if x.rationHold then none else some (e.handle, row - 4))
      else none
    | _ => none

/-! ### Admissions from the firmware queue (R61, R94) -/

/-- Whether the lead may take a slot: slots taken by pending admissions and MAX_LIVE counted (R60, R94). -/
def Block.pendingSlots (b : Block) : List Nat := b.seq.cmds.filterMap fun c => match c.cmd.params with
  | .reqAdmit _ => if defersIn (b.seq.tickets.map (·.2)) c.cmd then none else some (slotOf c.cmd.assigned)
  | _ => none

/-- Choose admissions for junction j from the queue as it stands at the last junction: (ticket, old handle, handle). The free list is that
of the last junction without the slots that log j takes out; what junction j frees serves from the next choice on (R61). -/
def Block.chooseAdmissions (b : Block) (after : Block) : List TicketRec :=
  go 256 (b.fwOrder.filter fun f => after.gr.fwQueue.contains f) (b.pendingSlots) (after.liveCount)
where
  go : Nat → List FwEntry → List Nat → Nat → List TicketRec
    | 0, _, _, _ | _, [], _, _ => []
    | n + 1, f :: fs, taken, live =>
      match Runs.firstNotIn taken (b.seq.banks.foldl (fun r k => Runs.removeRange (k * 2048) (k * 2048 + 2048) r) b.gr.freeList) with
      | none => []
      | some s =>
        if live ≥ b.mdl.maxLive then [] else
        let h := mkHandle (Tab.getD s 0 b.gr.tags + 1) s
        .admission f.ticket (match f.moved with
          | some e => e.handle
          | none => 0) h :: go n fs (s :: taken) (live + 1)

end Sys2Proof.Machine
end

