-- ==== Sys2Proof/Machine/Spec.lean ====
section
/-! DEFINITION. The decision on a row's final list, the draws of draft children, the tree walk (chapters 6 and 8), and
the lead's token ring writer (R54, R55). -/

namespace Sys2Proof.Machine
open Sys2Proof

/-- The consist of the step in flight. -/
def Block.consistNow (b : Block) : Consist := match b.cp.prevLog with
  | some l => l.consist
  | none => { step := 0, epoch := 0, stepEst := 0, rows := [] }

def Block.rowAt (b : Block) (i : Nat) : Option RowRec := b.consistNow.rows[i]?

/-- The final list of a row that is in effect. -/
def Block.finalOf (b : Block) (row : Nat) : Option PartialResult := (Tab.get? row b.gln.rows).bind (·.final)

/-- The indices of the consist rows that `f` picks. -/
def Block.rowsWhere (b : Block) (f : RowRec → Bool) : List Nat :=
  let rs := b.consistNow.rows
  ((List.range rs.length).zip rs).filterMap fun (i, r) => if f r then some i else none

/-! ### Draft draws (R205, R206) -/

/-- Draws of STOCHASTIC children i, i + 1, … from the entries left: (token, w) to (token, Q). On an INF row the entries are those of
value +inf, and the child is drawn among them by R205's inverse CDF, not as R178's entry 0 (DESIGN CHOICE, log entry 123). -/
def drawChildren (seed pos : Nat) : Nat → Nat → List (Nat × F32) → List (Nat × F32)
  | 0, _, _ => []
  | fuel + 1, i, left =>
    match left with
    | [] => []
    | _ =>
      let k := inverseCdf (left.map (·.2)) (drawU seed pos i 1)
      let c := left.getD k (0, F.zero)
      (c.1, F.div c.2 (keptSum left)) :: drawChildren seed pos fuel (i + 1) (left.eraseIdx k)

/-- The children of a spine node: token and Q, in sibling order. -/
def childTokens (p : Sampling) (seed pos w : Nat) (f : PartialResult) : List (Nat × F32) :=
  let kept := keptSet p f
  if bit p.sampleMode 0 || verifyMode p == 1 then (keptProb kept).take w
  else drawChildren seed pos w 0 kept

/-- Write what a draw has changed of tree record i: the level's node entries and the draft set (Tables 08-4, 08-5). -/
def Block.writeDraw (b : Block) (i d : Nat) (t : Tree) : Block :=
  let base := b.treeAddr b.consistNow.step i
  let nodes := (List.range t.nodes.length).zip t.nodes
  let b := (nodes.filter fun (n : Nat × TreeNode) => n.2.depth == d + 1).foldl (fun (b : Block) n =>
    b.write (base + 0x40 + 32 * n.1) (treeNodeBytes t n.1 n.2)) b
  let s := Tab.getD d [] t.sets
  b.write (base + 0x880 + 520 * d) (le 2 s.length ++ zeros 6 ++ s.flatMap fun e => le 4 e.1 ++ le 4 e.2.toNat)

/-- The children of a DRAFT row's spine node, from its final list. -/
def Block.drawDraft (b : Block) (r : RowRec) (f : PartialResult) : Block :=
  match b.trees.findIdx? fun t => t.handle == r.handle with
  | none => b
  | some i =>
    match b.trees[i]? with
    | none => b
    | some t =>
      let d := bits r.treeNode 13 9
      let e := b.ent (slotOf r.handle)
      let spineVoid := match t.nodes[r.treeNode % 128]? with
        | some n => n.void
        | none => false
      let cs := if spineVoid || (noTokenCause f.flags).isSome then []
        else childTokens e.sampling e.seed (t.rootPos + d + 1) (t.widths.getD d 0) f
      let nodes := t.nodes.map fun (n : TreeNode) =>
        if n.depth != d + 1 then n
        else match cs[n.sibling]? with
          | some c => { n with token := some c.1, void := false, q := c.2 }
          | none => { n with token := some 0, void := true, q := F.zero }
      let t := { t with nodes, drawn := d :: t.drawn, sets := Tab.set d (if cs.isEmpty then [] else keptProb (keptSet e.sampling f)) t.sets }
      ({ b with trees := b.trees.set i t }).writeDraw i d t

/-- The children at a depth are drawn, written and acknowledged (R204). -/
def Block.drawn (b : Block) (h d : Nat) : Bool :=
  match b.trees.findIdx? fun t => t.handle == h with
  | none => true
  | some i =>
    let lo := b.treeAddr b.consistNow.step i
    (b.trees[i]?.any fun t => t.drawn.contains d) &&
    !((b.unanswered ++ b.mp.writeWait).any fun w => overlaps w.addr w.data.length lo 12288)

/-! ### Verification (R210 to R213) -/

/-- Subtract q from p over the kept set and renormalise (R210). -/
def residual (p q : List (Nat × F32)) : List (Nat × F32) :=
  let q' := fun (t : Nat) => ((q.find? fun e => e.1 == t).map (·.2)).getD F.zero
  let r := p.map fun e => (e.1, max0 (F.sub e.2 (q' e.1)))
  let s := keptSum r
  if F.eq s F.zero then p else r.map fun e => (e.1, F.div e.2 s)

def removeDraft (q : List (Nat × F32)) (t : Nat) : List (Nat × F32) :=
  let q := q.map fun e => if e.1 = t then (e.1, F.zero) else e
  let s := keptSum q
  if F.lt F.zero s then q.map fun e => (e.1, F.div e.2 s) else q

/-- The STOCHASTIC test at a node: the accepted child's number, or the residual weights after a rejection. -/
def stochastic (seed pos : Nat) : List (Nat × TreeNode) → List (Nat × F32) → List (Nat × F32) → Nat ⊕ List (Nat × F32)
  | [], p, _ => .inr p
  | (m, c) :: cs, p, q =>
    let t := c.token.getD 0
    let at_ := fun (l : List (Nat × F32)) => ((l.find? fun e => e.1 == t).map (·.2)).getD F.zero
    if F.lt (F.mul (drawU seed (pos + 1) (64 + c.sibling) 0) (at_ q)) (at_ p) then .inl m
    else stochastic seed pos cs (residual p q) (removeDraft q t)

/-- The walk from a node: accepted nodes, the tokens, and where it ends without a token, (position, cause). -/
def Block.walkTree (b : Block) (t : Tree) (e : Entry) : Nat → Nat → List Nat → List GenToken →
    List Nat × List GenToken × Option (Nat × Nat)
  | 0, _, acc, toks => (acc, toks, none)
  | fuel + 1, x, acc, toks =>
    let row := (b.rowsWhere fun r => r.handle == t.handle && r.kind == 3 && r.treeNode % 128 == x).headD 0
    match b.finalOf row with
    | none => (acc, toks, none)
    | some f =>
      let pos := t.rootPos + (t.nodes[x]?.map (·.depth)).getD 0
      match noTokenCause f.flags with
      | some c => (acc, toks, some (pos + 1, c))
      | none =>
        let kids := ((List.range t.nodes.length).zip t.nodes).filter fun (n : Nat × TreeNode) => n.2.parent == x && !n.2.void && n.1 != 0
        let tok := fun (v : Nat) (bonus : Bool) => ({ token := v, inf := f.flags.inf, approx := f.flags.approx, bonus } : GenToken)
        let plain := drawToken e.sampling e.seed (pos + 1) 0 f
        let greedy := bit e.sampling.sampleMode 0 || verifyMode e.sampling == 1
        if kids.isEmpty then (acc, toks ++ [tok plain (!acc.isEmpty)], none)
        else if greedy then
          match kids.find? fun k => k.2.token == some plain with
          | some k => b.walkTree t e fuel k.1 (acc ++ [k.1]) (toks ++ [tok plain false])
          | none => (acc, toks ++ [tok plain false], none)
        else
          let p := keptProb (keptSet e.sampling f)
          let q := Tab.getD ((t.nodes[x]?.map (·.depth)).getD 0) [] t.sets
          match stochastic e.seed pos kids p q with
          | .inl m => b.walkTree t e fuel m (acc ++ [m]) (toks ++ [tok ((t.nodes[m]?.bind (·.token)).getD 0) false])
          | .inr w =>
            let v := (w.getD (inverseCdf (w.map (·.2)) (drawU e.seed (pos + 1) 128 0)) (0, F.zero)).1
            (acc, toks ++ [tok v false], none)

/-- Walk a tree once every TILLER row has its final list; stage the result and issue the COMPACT item (R210 to R214). -/
def Block.verifyTree (b : Block) (h : Nat) : Block :=
  match b.trees.findIdx? fun t => t.handle == h, b.byHandle h with
  | some i, some (slot, e) =>
    match b.trees[i]? with
    | none => b
    | some t =>
      let rows := b.rowsWhere fun r => r.handle == h && r.kind == 3
      if t.walked || rows.any (fun r => (b.finalOf r).isNone) then b
      else
        let w := b.walkTree t e 17 0 [] []
        let acc := w.1
        let a := acc.length
        let last := acc.getLast?.bind fun m => t.nodes[m]?
        let committedAt := match w.2.2 with
          | some _ => if a > 0 then some (t.rootPos + a) else none
          | none => none
        let res : StepResult := { handle := h, tokens := w.2.1, noToken := if a = 0 then w.2.2 else none
                                  verify := if t.nodes.length > 1 then some a else none, committedAt }
        let b := { b with gr := { b.gr with results := b.gr.results ++ [res] }, trees := b.trees.set i { t with walked := true } }
        let b := b.ask 61 (b.treeAddr b.consistNow.step i) (64 + 32 * t.nodes.length) .other
        match last with
        | some n => match n.scratch with
          | some s =>
            let g := b.pageTokens
            let pos := t.rootPos + n.depth
            -- the new COMMITTED_LEN, the tokens that R49 cuts off aside (R214)
            if w.2.2.isSome || t.rootPos + (cutTokens e (w.2.1.map (·.token))).length ≤ pos then b else
            let c : CopyItem :=
              { kind := 2, src := (b.ent slot).scratch.getD (s / g) 0, dst := (b.ent slot).pages.getD (pos / g) 0
                srcOffset := s % g, dstOffset := pos % g, posCount := 1, handle := h, seq := none, step := b.consistNow.step
                epoch := b.consistNow.epoch }
            (b.queueCopy c 0 (classOf e.classPrio)).checkPlatforms
          | none => b
        | none => b
  | _, _ => b

/-! ### The decision on a row (R176 to R180) -/

/-- A row's final list takes effect. A list with SLAB_ERROR has its request's slab rebuilt at the next junction, whatever the row's
kind (R164). DESIGN CHOICE (log entry 110): ROWS_SAMPLED, APPROX_ROWS, INF_ROWS, EMPTY_ROWS and NAN_ENTRIES count final lists, which
every instance decides, and not the instance's own partial results. -/
def Block.settleRow (b : Block) (row : Nat) (r : RowRec) (f : PartialResult) : Block :=
  let b := b.count 9
  let b := if f.flags.approx then b.count 10 else b
  let b := if f.flags.inf then b.count 11 else b
  let b := if f.flags.empty then b.count 12 else b
  let b := if f.nanCount > 0 then b.count 14 f.nanCount else b
  match b.byHandle r.handle with
  | none => b
  | some (_, e) =>
    let pos := r.firstPos + r.posCount
    let cause := noTokenCause f.flags
    let token := drawToken e.sampling e.seed pos (if r.kind = 4 then 1 else 0) f
    let b := if f.flags.slabError then b.slabBroken r.handle else b
    let b := b.trace 6 (le 1 (keptSet e.sampling f).length ++ le 2 row ++ le 4 token ++ le 2 (resultFlagsCode f.flags) ++ le 2 b.consistNow.step)
    if r.kind = 4 then b.drawDraft r f
    else if r.kind = 3 then b.verifyTree r.handle
    else
      let res : StepResult := { handle := r.handle
                                tokens := if cause.isSome then [] else [{ token, inf := f.flags.inf, approx := f.flags.approx }]
                                noToken := cause.map fun c => (pos, c) }
      { b with gr := { b.gr with results := b.gr.results ++ [res] } }

/-! ### Token ring entries (R54, R55, Table 02-7) -/

/-- The flags of the k-th token and the deadline after it (R73). -/
def tokenWord (e : Entry) (i w d : Nat) (first last : Bool) (g : GenToken) : Nat :=
  let late := e.deadlineMode != 0 && decide (w > d)
  g.token % 16777216 + 16777216 * b2n last + 33554432 * b2n first + 67108864 * b2n g.bonus + 134217728 * b2n g.approx +
  268435456 * b2n g.inf + 536870912 * b2n late + 2147483648 * b2n (ringPhase e.tokenRing i)

def Block.putTokens (b : Block) (e : Entry) (w : Nat) (lastEnds : Bool) : Nat → Nat → Nat → List GenToken → Block
  | _, _, _, [] => b
  | i, pos, d, g :: gs =>
    let first := (e.state == .prefill || e.state == .rebuild) && pos == e.transcriptLen
    let word := tokenWord e i w d first (lastEnds && gs.isEmpty) g
    let b := b.write (ringBase e.tokenRing + i % ringSize e.tokenRing * 16) (le 4 pos ++ le 4 word ++ le 8 w) 0 none true
    b.putTokens e w lastEnds (add32 i 1) (pos + 1) (if e.deadlineMode = 2 then (if w ≤ d then d else w) + e.cadencePeriod else d) gs

/-- The tokens of a result that reach the ring end the request. -/
def endsRequest (e : Entry) (ts : List Nat) : Bool :=
  match ts.getLast? with
  | none => false
  | some t => (bit e.stopToken 31 && t == e.stopToken % 16777216) || (e.maxGen > 0 && e.genCount + ts.length ≥ e.maxGen) ||
      e.transcriptLen + ts.length ≥ e.transcriptCap

/-- The lead may write tokens of the step: it holds an equal DIGEST from every rank (R228). -/
def Block.mayWrite (b : Block) : Bool :=
  b.isLead && b.running && b.cp.complete && b.peers.all fun r => Tab.get? r b.cp.digests == some b.cp.digest

/-- The step's rows of a request are to be discarded, as this lead knows: a loss, a TRANSCRIPT loss of a request that recomputes its KV,
or a bank that leaves with a full save area (R51, R53, R62, R418). -/
def Block.discarded (b : Block) (e : Entry) (h : Nat) : Bool :=
  let recomputes := e.state == .lost || e.state == .rebuild
  let l := { b.draftLog (b.cp.applied + 1) with losses := b.gr.losses ++ b.seq.losses }
  (b.lossesOf l b.now).any fun x => x.1 == h && (x.2 != 5 || recomputes)

/-- Write the tokens of one staged result (R48, R51). -/
def Block.writeResult (b : Block) (r : StepResult) : Block :=
  match b.byHandle r.handle with
  | none => b
  | some (_, e) =>
    let toks := cutTokens e (r.tokens.map (·.token))
    -- a reused log's RING_WRITES say which tokens the old lead wrote, and when (R239)
    let at_ := match b.seq.reuse with
      | some l => (l.ringWrites.find? fun x => x.1 == r.handle).map (·.2)
      | none =>
        if b.cancelPending r.handle || b.discarded e r.handle then none else some b.now
    match at_ with
    | none => b
    | some w =>
      if toks.isEmpty || b.seq.written.contains r.handle then b
      else
        let b := b.putTokens e w (endsRequest e toks) e.tokenProd e.transcriptLen e.nextDeadline (r.tokens.take toks.length)
        let b := b.count 31 toks.length
        { b with seq := { b.seq with written := b.seq.written ++ [r.handle], ringWrites := b.seq.ringWrites ++ [(r.handle, w)] } }

/-- The lead writes the tokens it has. Once the log of the next junction is closed, which carries what was written in RING_WRITES, it
writes no more of the step (R224, R239). -/
def Block.writeTokens (b : Block) : Block :=
  if b.mayWrite && b.seq.closed.isNone then b.gr.results.foldl Block.writeResult b else b

end Sys2Proof.Machine
end

