-- ==== Sys2Proof/Machine/Glean.lean ====
section
/-! DEFINITION. The Thresher's intake (chapter 6) and the Glean (chapter 7). -/

namespace Sys2Proof.Machine
open Sys2Proof

/-- The shard map of a row's model. -/
def Block.mapOf (b : Block) (r : RowRec) : List Shard := match Tab.get? (r.model % 16) b.mdl.active with
  | some d => d.map
  | none => []

def Block.vocab (b : Block) (r : RowRec) : Nat := match Tab.get? (r.model % 16) b.mdl.active with
  | some d => d.load.vocabSize
  | none => 0

/-- The shard rank that a group rank holds of a map (R184). -/
def shardOf (m : List Shard) (rank : Nat) : Option Nat := m.findIdx? fun s => s.rank == rank

/-- The replica sets of a map, with their shard ranks. -/
def replicaSets (m : List Shard) : List (Nat × List Nat) :=
  ((m.map (·.replicaSet)).eraseDups).map fun s => (s, ((List.range m.length).zip m).filterMap fun p => if p.2.replicaSet = s then some p.1 else none)

def Block.gleanRow (b : Block) (row : Nat) : GleanRow := Tab.getD row {} b.gln.rows

def Block.modGlean (b : Block) (row : Nat) (f : GleanRow → GleanRow) : Block :=
  { b with gln := { b.gln with rows := Tab.upd row {} f b.gln.rows } }

/-! ### Closing a row (R157, R186) -/

/-- Selection closes a row: its partial result goes to the resend area and to every instance. The resend area of every row lies at
the GLEAN_BASE of the main model's MODEL_STAGE (DESIGN CHOICE, log entry 123: each MODEL_STAGE carries one, and R186 does not say
which a draft row uses). -/
def Block.closeRow (b : Block) (row fmt : Nat) (p : PartialResult) : Block :=
  let step := b.consistNow.step
  let base := match b.mainModel with
    | some (_, d) => d.stage.gleanBase
    | none => 0
  let b := b.write (base + row * 576) (padTo 576 (partialBytes p))
  let b := { b with
    thr := { b.thr with closed := b.thr.closed ++ [row], contexts := b.thr.contexts.filter fun c => c.row != row }
    gln := { b.gln with resend := Tab.set row (step, fmt, p) b.gln.resend } }
  let b := b.send none (.gleanData row step fmt p)
  let mine := b.gln.asked.filter fun a => a.1 == row && a.2.2 == step % 4294967296
  let b := mine.foldl (fun (b : Block) a => b.send (some a.2.1) (.gleanData row step fmt p)) b
  { b with gln := { b.gln with asked := b.gln.asked.filter fun a => !mine.contains a } }

/-- The rows whose logits this instance should receive and that have not closed. -/
def Block.openRows (b : Block) : List Nat :=
  b.rowsWhere (fun r => r.sample && (shardOf (b.mapOf r) b.cp.rank).isSome) |>.filter fun i => !b.thr.closed.contains i

/-- Every node is DONE: rows that have not closed are closed with PORT_ERROR (R157). -/
def Block.closeMissing (b : Block) : Block :=
  if !b.running || b.dsp.current.isNone || !b.cp.complete || !b.nodesDone then b else
  b.openRows.foldl (fun (b : Block) i =>
    match b.rowAt i with
    | none => b
    | some r =>
      let e := b.ent (slotOf r.handle)
      let shard := (shardOf (b.mapOf r) b.cp.rank).getD 0
      match b.thr.contexts.find? fun c => c.row == i with
      | some c => b.closeRow i c.format (c.acc.close e.sampling i (b.consistNow.step % 65536) shard true c.slabError)
      | none =>
        b.closeRow i 0 (({} : RowAcc).close e.sampling i (b.consistNow.step % 65536) shard true (b.thr.slabBad.contains r.handle))) b

/-! ### LOGIT_SEGMENT (R154 to R157, R321, R322) -/

def headerBytes (h : RowHeader) : List Byte :=
  le 4 h.itemTag ++ le 2 h.step16 ++ le 2 (h.format * 16384 + 8192 * b2n h.segFirst + 4096 * b2n h.segLast + h.row) ++
  le 4 h.baseIndex ++ le 4 h.count

/-- BASE_INDEX and COUNT without their reserved bits (Table 06-1). -/
def headerBase (h : RowHeader) : Nat := h.baseIndex % 16777216
def headerElems (h : RowHeader) : Nat := h.count % 16777216

def segmentCrc (h : RowHeader) (beats : List (List Lane)) : Nat :=
  crc32c (headerBytes h ++ beats.flatMap fun bt => (List.range 64).flatMap fun i => le 2 (bt.getD i 0).toNat)

/-- The segment passes its CRC check: EOS comes with beat B - 1, the last of its beats, and the CRC is theirs (R157, R322). -/
def segmentIntact (h : RowHeader) (s : Segment) : Bool :=
  s.eos && s.beats.length == ceilDiv (headerElems h) (beatElems h.format) && s.crc == segmentCrc h s.beats

/-- Why a segment breaks the protocol (R154), against what its row has had under the same tag. -/
def Block.segmentFault (b : Block) (port : Nat) (h : RowHeader) (ctx : Option RowContext) : Bool :=
  let next := match ctx with
    | some c => c.nextIndex
    | none => 0
  let vocab := match b.rowAt h.row with
    | some r => b.vocab r
    | none => 0
  (match ctx with
    | some c => h.segFirst || c.ended || c.port != port || c.format != h.format || c.tag != h.itemTag
    | none => !h.segFirst) ||
  headerElems h = 0 || headerBase h < next || headerBase h + headerElems h > vocab

def Block.discardSegment (b : Block) (port : Nat) (h : RowHeader) (stale : Bool) : Block :=
  let b := { b with thr := { b.thr with reissueSegments := b.thr.reissueSegments + 1 } }.count 15
  if stale then b.logRec srcThresher 0x0113 1 [port, h.itemTag, h.row, h.baseIndex] else b

/-- What a row has had after a segment, for the checks of those that follow under its tag. -/
def shadowOf (port : Nat) (h : RowHeader) : RowContext :=
  { port, row := h.row, tag := h.itemTag, format := h.format, nextIndex := headerBase h + headerElems h, acc := {}, portError := false
    slabError := false, ended := h.segLast }

def Block.setShadow (b : Block) (c : RowContext) : Block :=
  { b with thr := { b.thr with shadows := (b.thr.shadows.filter fun x => !(x.row == c.row && x.tag == c.tag)) ++ [c] } }

/-- Run a segment through selection. -/
def Block.takeSegment (b : Block) (h : RowHeader) (s : Segment) (r : RowRec) (c : RowContext) : Block :=
  let slot := slotOf r.handle
  let e := b.ent slot
  let slab := b.slab slot
  let cnt := fun (t : Nat) => ((slab.find? fun x => x.2.token == t).map (·.2.count)).getD 0
  let ok := segmentIntact h s
  let acc := if ok then RowAcc.beats e.sampling cnt h.format c.acc (headerBase h) (headerElems h) s.beats else c.acc
  let b := if acc.descents = c.acc.descents then b else b.count 13 (acc.descents - c.acc.descents)
  let c := { c with nextIndex := headerBase h + headerElems h, beats := c.beats + s.beats.length, acc, portError := c.portError || !ok }
  let others := b.thr.contexts.filter fun x => x.row != h.row
  if h.segLast then
    let shard := (shardOf (b.mapOf r) b.cp.rank).getD 0
    ({ b with thr := { b.thr with contexts := others } }.closeRow h.row h.format
      (acc.close e.sampling h.row (b.consistNow.step % 65536) shard c.portError c.slabError)).setShadow (shadowOf c.port h)
  else { b with thr := { b.thr with contexts := others ++ [c] } }

/-- The slab of a row is staged: it has been read, and the transcript of a rebuild before it (R164, R166). -/
def Block.slabStaged (b : Block) (h : Nat) : Bool := b.readDone (.slab h) && b.readDone (.transcript h)

/-- What becomes of the segment at the head of a port's queue: the block after it, none where it waits (R154 to R157, R323). DESIGN
CHOICE (log entry 110): a tag whose item has completed names no item, so its segments break the protocol. -/
def Block.headSegment (b : Block) (port : Nat) (s : Segment) (known : Bool) : Option Block :=
  match s.header with
  | none => some (b.stop .logitProtocol srcThresher [port])
  | some h =>
    let fail := some (b.stop .logitProtocol srcThresher [port, h.itemTag, h.row])
    if h.step16 != b.consistNow.step % 65536 then fail
    else match b.rowAt h.row with
    | none => fail
    | some r =>
      if !r.sample || (shardOf (b.mapOf r) b.cp.rank).isNone then fail
      else if b.dsp.oldTags.contains h.itemTag then some (b.discardSegment port h true)
      else if !known then fail
      else if b.thr.closed.contains h.row then
        -- a rerun's segments of a row that has its result (R156)
        let had := b.thr.shadows.find? fun c => c.row == h.row && c.tag == h.itemTag
        if b.segmentFault port h had then fail else some ((b.discardSegment port h false).setShadow (shadowOf port h))
      else
        let ctx := b.thr.contexts.find? fun c => c.row == h.row
        if b.segmentFault port h ctx then fail
        else if !b.slabStaged r.handle then none
        else match ctx with
        | some c => some (b.takeSegment h s r c)
        | none =>
          if (b.thr.contexts.filter fun c => c.port == port).length ≥ 16 then none
          else some (b.takeSegment h s r { port := port, row := h.row, tag := h.itemTag, format := h.format, nextIndex := 0, acc := {},
                                           portError := false, slabError := b.thr.slabBad.contains r.handle })

/-- Take the segments of a port that need not wait. -/
def Block.drainPort (port : Nat) : Nat → Block → Block
  | 0, b => b
  | n + 1, b =>
    if !b.running then b else
    match b.thr.skid.find? fun x => x.1 == port with
    | none => b
    | some x => match b.headSegment port x.2.1 x.2.2 with
      | none => b
      | some c => Block.drainPort port n { c with thr := { c.thr with skid := c.thr.skid.erase x } }

/-- Both ports go on as far as they can; in Buffer Stop what waits is discarded and counted (R319, R323). -/
def Block.drainPorts (b : Block) : Block :=
  if b.thr.skid.isEmpty then b
  else if b.cp.state == .bufferStop then
    { b with thr := { b.thr with skid := [], stopBeats := b.thr.stopBeats + sumN (b.thr.skid.map fun x => x.2.1.beats.length) } }
  else Block.drainPort 1 b.thr.skid.length (Block.drainPort 0 b.thr.skid.length b)

/-- A segment's ITEM_TAG names an open compute item of the current step (R154). -/
def Block.knownTag (b : Block) (s : Segment) : Bool :=
  s.header.any fun h => b.dsp.openItems.any fun o => o.tag == h.itemTag && o.copy.isNone && o.step == b.consistNow.step

/-- A segment arrives at port n: it enters the port's queue. An instance that has had an epoch and is FORMING again takes none: its READY is 0
as before the first epoch (DESIGN CHOICE, log entry 125: Table 12-2 says nothing of that state). -/
def Block.segment (b : Block) (port : Nat) (s : Segment) : Block :=
  if b.cp.state == .bufferStop then { b with thr := { b.thr with stopBeats := b.thr.stopBeats + s.beats.length } }
  else if !b.running || b.cp.epoch = 0 then b
  else Block.drainPort port (b.thr.skid.length + 1) { b with thr := { b.thr with skid := b.thr.skid ++ [(port, s, b.knownTag s)] } }

/-! ### What the Stream Prefetchers read for a step (R102, R166, R338) -/

/-- The slabs and page-list lines of the consist: the slab of each sampled row whose logits come here, the list of each request with
pages beyond the inline ones. DESIGN CHOICE (log entry 113): row i reads on streams 32 + i mod 16 and i mod 16. -/
def Block.prefetch (b : Block) : Block :=
  let rs := b.consistNow.rows
  let once := fun (l : List (Nat × RowRec)) => l.filter fun x => l.find? (fun y => y.2.handle == x.2.handle) == some x
  let rows := (List.range rs.length).zip rs
  let b := (once (rows.filter fun x => x.2.sample && (shardOf (b.mapOf x.2) b.cp.rank).isSome)).foldl (fun (b : Block) x =>
    b.ask (32 + x.1 % 16) (b.slabPtr (slotOf x.2.handle)) 8192 (.slab x.2.handle)) b
  (once rows).foldl (fun (b : Block) x =>
    let slot := slotOf x.2.handle
    b.ask (x.1 % 16) (b.listBase slot) (4 * ((b.ent slot).pages.length - 12)) .other) b

/-! ### Merge and effect (R189 to R195, R429) -/

/-- Counts of mismatch reports restart in a new aligned second (R429). -/
def Block.mismatchWindow (b : Block) : Block :=
  if b.now / 1000000000 = b.gln.second then b
  else { b with gln := { b.gln with mismatches := [], second := b.now / 1000000000 } }

/-- A rank's mismatch count rises (R429). -/
def Block.suspect (b : Block) (rank : Nat) : Block :=
  let b := b.mismatchWindow
  let n := Tab.getD rank 0 b.gln.mismatches + 1
  let b := { b with gln := { b.gln with mismatches := Tab.set rank n b.gln.mismatches } }
  let b := if n = 64 then b.logRec srcGlean 0x0131 2 [rank, n] else b
  if n ≥ 1024 && b.running then b.stop .shardSuspect srcGlean [rank, n] else b

def Block.mismatchReport (b : Block) (row : Nat) (m : List Shard) (x : Report) : Block :=
  let rank := fun (i : Nat) => (m[i]?.map (·.rank)).getD 0
  let b := (b.count 18).logRec srcGlean 0x0130 1 [row, x.1, x.2.1, x.2.2, rank x.2.1, rank x.2.2]
  (b.suspect (rank x.2.1)).suspect (rank x.2.2)

/-- The contributions a mask names, in ascending rank; none when one is missing. -/
def usedOf (g : GleanRow) (used : Nat) : Option (List (Nat × Nat × PartialResult)) :=
  ((List.range 64).filter fun i => bit used i).mapM fun i => (Tab.get? i g.contribs).map fun c => (i, c.1, c.2)

/-- Merge under USED: the final list and the mismatch reports (R192, R194). -/
def Block.mergeUsed (b : Block) (row : Nat) (r : RowRec) (used : Nat) : Option (PartialResult × List Report) :=
  (usedOf (b.gleanRow row) used).map fun us =>
    let sources := (replicaSets (b.mapOf r)).filterMap fun s => s.2.find? fun i => bit used i
    mergeRow (b.ent (slotOf r.handle)).sampling row (b.consistNow.step % 65536) us sources

/-- The row's result takes effect (R190). -/
def Block.rowEffect (b : Block) (row : Nat) (r : RowRec) (f : PartialResult) (reports : List Report) : Block :=
  let b := b.modGlean row fun g => { g with final := some f, resendAt := none }
  let b := reports.foldl (fun (b : Block) x => b.mismatchReport row (b.mapOf r) x) b
  if b.running then b.settleRow row r f else b

def verdictTrace (b : Block) (row : Nat) (v : Verdict) : Block :=
  b.trace 7 (le 1 v.outcome ++ le 2 row ++ le 4 b.consistNow.step ++ le 8 v.used ++ le 2 b.cp.leadRank)

/-- The lead settles a row (R189). -/
def Block.leadVerdict (b : Block) (row : Nat) (r : RowRec) (used : Option Nat) : Block :=
  let step := b.consistNow.step
  let out := match used with
    | some u => (b.mergeUsed row r u).map fun m => (({ outcome := 0, used := u, missing := 0, digest := crc64 (partialBytes m.1) } : Verdict), m)
    | none =>
      let g := b.gleanRow row
      let miss := maskOf ((replicaSets (b.mapOf r)).filterMap fun s => if s.2.any fun i => Tab.has i g.contribs then none else some s.1)
      some ({ outcome := 1, used := 0, missing := miss, digest := 0 }, lostList row (step % 65536) (topKOf (b.ent (slotOf r.handle)).sampling), [])
  match out with
  | none => b
  | some (v, f, reports) =>
    let b := b.modGlean row fun g => { g with verdict := some v, verdictAt := some b.now }
    let b := if v.outcome = 1 then b.count 20 else b
    let b := (verdictTrace b row v).send none (.gleanVerdict row step v)
    b.rowEffect row r f reports

/-- The clean contributions held, and the lowest rank of each set that delivered in full without one: USED of R189. -/
def usedNow (sets : List (Nat × List Nat)) (g : GleanRow) : Option Nat :=
  let held := fun (i : Nat) => Tab.has i g.contribs
  let clean := fun (i : Nat) => (Tab.get? i g.contribs).any fun c => partialClean c.2
  let done := sets.all fun s => s.2.any clean || s.2.all held
  if !done then none
  else some (maskOf (sets.flatMap fun s => if s.2.any clean then s.2.filter clean else s.2.take 1))

/-- A row moves on after a contribution or a verdict. -/
def Block.gleanAdvance (b : Block) (row : Nat) : Block :=
  match b.rowAt row with
  | none => b
  | some r =>
    let g := b.gleanRow row
    if g.final.isSome then b
    else match g.verdict with
    | some v =>
      if v.outcome = 1 then b.rowEffect row r (lostList row (b.consistNow.step % 65536) (topKOf (b.ent (slotOf r.handle)).sampling)) []
      else match b.mergeUsed row r v.used with
        | none => b
        | some (f, reports) =>
          if crc64 (partialBytes f) != v.digest then b.stop .verdictDigest srcGlean [row] else b.rowEffect row r f reports
    | none =>
      if !b.isLead || b.cp.collect.isSome then b
      else match usedNow (replicaSets (b.mapOf r)) g with
        | some u => b.leadVerdict row r (some u)
        | none => b

/-- GLEAN_DATA (R189 to R191). -/
def Block.gleanData (b : Block) (src row step fmt : Nat) (p : PartialResult) : Block :=
  if !b.running then b else
  let b := b.viewed src 3
  let discard := { b with gln := { b.gln with discarded := b.gln.discarded + 1 } }
  if step % 4294967296 != b.consistNow.step % 4294967296 then discard
  else match b.rowAt row with
  | none => discard
  | some r =>
    let g := b.gleanRow row
    match shardOf (b.mapOf r) src with
    | none => discard
    | some s =>
      let decided := g.final.isSome || g.verdict.any fun v => v.outcome == 1 || !bit v.used s
      if !r.sample || Tab.has s g.contribs || decided then discard
      else
        let b := b.modGlean row fun g => { g with
          contribs := Tab.set s (fmt, p) g.contribs, first := g.first.orElse fun _ => some b.now
          resendAt := g.resendAt.orElse fun _ => some (b.now + b.mdl.glean.resendAfter * 1000) }
        (if p.flags.slabError then b.slabBroken r.handle else b).gleanAdvance row

/-- GLEAN_VERDICT (R190, R191, R221): one for a row that the current consist does not sample stops the group; one of another step is
discarded and counted (log entry 41). Copies for a takeover are counted (R238). -/
def Block.gleanVerdict (b : Block) (src row step : Nat) (v : Verdict) : Block :=
  if !b.running then b else
  let b := b.viewed src 3
  match b.rowAt row with
  | none => b.stop .couplingProtocol srcGlean [row]
  | some r =>
    if !r.sample then b.stop .couplingProtocol srcGlean [row]
    else if step % 4294967296 != b.consistNow.step % 4294967296 then
      { b with gln := { b.gln with discarded := b.gln.discarded + 1 } }
    else match b.cp.collect with
    | some c =>
      if !b.isLead || src = b.cp.rank then b else
      let b := { b with cp := { b.cp with collect := some { c with copies := Tab.upd src 0 (· + 1) c.copies } } }
      if (b.gleanRow row).verdict.isSome then b else
      (b.modGlean row fun g => { g with verdict := some v, verdictAt := some b.now }).gleanAdvance row
    | none =>
      if src != b.cp.leadRank || (b.gleanRow row).verdict.isSome then b
      else
        let b := b.modGlean row fun g => { g with verdict := some v, verdictAt := some b.now }
        let b := if v.outcome = 1 then b.count 20 else b
        (verdictTrace b row v).gleanAdvance row

/-- GLEAN_RESEND_REQ (R187): the copy kept is read and sent; a row that has not closed here, of this step or of one whose junction
is still to be applied, is answered when it closes. -/
def Block.gleanResend (b : Block) (src row step : Nat) : Block :=
  if !b.running then b else
  let step := step % 4294967296
  let now := b.consistNow.step % 4294967296
  match (Tab.get? row b.gln.resend).filter fun x => x.1 % 4294967296 == step with
  | some (s, fmt, p) =>
    let base := match b.mainModel with
      | some (_, d) => d.stage.gleanBase
      | none => 0
    (b.ask 63 (base + row * 576) 576 .other).send (some src) (.gleanData row s fmt p)
  | none =>
    if (if step = now then b.openRows.contains row else toInt32 (sub32 step now) > 0) then
      { b with gln := { b.gln with asked := (b.gln.asked.filter fun a => a != (row, src, step)) ++ [(row, src, step)] } }
    else b

/-- The contributions a row still needs (R187). -/
def Block.needed (b : Block) (row : Nat) (r : RowRec) : List Nat :=
  let g := b.gleanRow row
  if g.final.isSome then [] else
  match g.verdict with
  | some v => (List.range 64).filter fun i => bit v.used i && !Tab.has i g.contribs
  | none => (replicaSets (b.mapOf r)).flatMap fun s =>
      if s.2.any fun i => (Tab.get? i g.contribs).any fun c => partialClean c.2 then [] else s.2.filter fun i => !Tab.has i g.contribs

/-- GLEAN_RESEND_TIMER (R187). -/
def Block.gleanResendTimer (b : Block) (row : Nat) : Block :=
  match b.rowAt row, (b.gleanRow row).resendAt with
  | some r, some at_ =>
    if !b.running || b.now < at_ then b else
    let miss := b.needed row r
    let m := b.mapOf r
    let b := miss.foldl (fun (b : Block) i =>
      match m[i]? with
      | some s => (b.send (some s.rank) (.gleanResendReq row b.consistNow.step i)).count 19
      | none => b) b
    b.modGlean row fun g => { g with resendAt := some (b.now + b.mdl.glean.resendAfter * 1000) }
  | _, _ => b

/-- GLEAN_TIMEOUT (R189, R191). -/
def Block.gleanTimeout (b : Block) (row : Nat) : Block :=
  match b.rowAt row with
  | none => b
  | some r =>
    let g := b.gleanRow row
    let from_ := if b.gln.since > 0 then some b.gln.since else g.first
    match from_ with
    | none => b
    | some f =>
      if b.running && b.isLead && b.cp.collect.isNone && r.sample && g.verdict.isNone && b.now ≥ f + b.mdl.glean.gleanTimeout * 1000
      then b.leadVerdict row r none else b

/-- GLEAN_VERDICT_WAIT_TIMEOUT (R190). -/
def Block.gleanWait (b : Block) (row : Nat) : Block :=
  let g := b.gleanRow row
  match g.verdictAt with
  | some v => if b.running && !b.isLead && g.final.isNone && b.now ≥ v + 2 * b.mdl.glean.gleanTimeout * 1000
      then b.stop .gleanMissing srcGlean [row] else b
  | none => b

/-- Every sampled row of the step has its result in effect (R191). -/
def Block.verified (b : Block) : Bool := (b.rowsWhere fun r => r.sample).all fun i => (b.finalOf i).isSome

end Sys2Proof.Machine
end

