-- ==== Sys2Proof/Machine/Coupling.lean ====
section
/-! DEFINITION. The Coupling Unit (chapter 9): closing and receiving logs, READY and agreement, what follows the
application of a log, DIGEST and completion, the start of a step. -/

namespace Sys2Proof.Machine
open Sys2Proof

/-- The interval of the resends of R187, R224, R225, R228, R426 and R480, in ns. -/
def resendNs : Nat := 20000

/-! ### Packets received (R221, R340, R342) -/

/-- The fragments held of the message that a packet belongs to; a message that names no step is of the step that runs. -/
def Block.partsOf (b : Block) (x : Rx) (cls : Nat) (step : Option Nat) : RxParts :=
  (b.fab.parts.find? fun p => p.src == x.src && p.cls == cls && p.msgId == x.msgId).getD
    { src := x.src, cls, msgId := x.msgId, step := step.getD b.cp.applied, got := [] }

/-- An intact packet has been taken: its credit goes back, and its fragment is held. LOG fragments are held with their log. -/
def Block.taken (b : Block) (x : Rx) (cls : Nat) (step : Option Nat) : Block :=
  let b := (b.emit (.credit cls 1)).viewed x.src cls
  if cls = 2 then b else
  let p := b.partsOf x cls step
  { b with fab := { b.fab with parts := { p with got := p.got ++ [x.frag] } :: b.fab.parts.erase p } }

/-- A packet received of a class: without a credit, of a reserved class, or with a bad PKT_CRC, it is discarded and counted, and a
fragment already held is discarded. With the last fragment missing the message is whole, and `k` takes it. -/
def Block.rx (b : Block) (x : Rx) (cls : Nat) (k : Block → Block) (step : Option Nat := none) : Block :=
  if x.reserved then b.count 22
  else if !x.credit || b.fab.given.getD cls 0 = 0 then (b.count 23).logRec srcFabric 0 1 [x.src, cls]
  else if !packetIntact x.bytes then (b.emit (.credit cls 1)).count 21
  else if cls != 2 && (b.partsOf x cls step).got.contains x.frag then (b.emit (.credit cls 1)).count 22
  else
    let c := b.taken x cls step
    if cls = 2 || (List.range x.count).all fun i => (c.partsOf x cls step).got.contains i then k c else c

/-- The LEAD_TERM check of R221. -/
def Block.inTerm (b : Block) (term : Nat) (k : Block → Block) : Block :=
  if !b.running then b
  else if term < b.cp.term then b.count 22
  else if term > b.cp.term then b.stop .couplingProtocol srcCoupling [term]
  else k b

/-! ### Room in a log (R224, R289, R482) -/

/-- The open junction (R289). The log that a new lead reuses is closed already (R239, R240). -/
def Block.openJ (b : Block) : Nat := b.cp.applied + (if b.seq.closed.isSome || b.seq.reuse.isSome then 2 else 1)

def Block.logLimit (b : Block) : Nat := if b.cp.epoch = 0 then 16384 else 1048576

def Block.closingReserve (b : Block) : Nat := if b.cp.epoch = 0 then 72 else 155728

/-- Bytes entered for junction j beside `cmds` and `tickets` given, with the closing reserve. -/
def Block.logNeed (b : Block) (j : Nat) (cmds : List CmdRecord) (tickets : List TicketRec) (consumer : List (Nat × Nat × Nat)) : Nat :=
  32 + (sectionBytes 2 (cmds.flatMap cmdRecordBytes)).length + (sectionBytes 3 (tickets.flatMap ticketBytes)).length +
  (if j = b.openJ then (sectionBytes 4 (consumer.flatMap fun c => le 4 c.1 ++ le 4 c.2.1 ++ le 4 c.2.2)).length else 0) +
  b.closingReserve

def Block.ticketsFor (b : Block) (j : Nat) : List TicketRec := (b.seq.tickets.filter fun t => t.1 == j).map (·.2)

def Block.consumerList (b : Block) : List (Nat × Nat × Nat) := b.seq.consumer.map fun x => (x.1, x.2.1, x.2.2)

/-- A command record, with the deferral it makes, fits in log j. -/
def Block.fitsLog (b : Block) (j : Nat) (c : CmdRecord) (d : List TicketRec) : Bool :=
  b.logNeed j (b.cmdsFor j ++ [c]) (b.ticketsFor j ++ d) b.consumerList ≤ b.logLimit

/-- The first junction from j on whose log has room. -/
def Block.roomFrom (b : Block) (c : CmdRecord) (d : List TicketRec) : Nat → Nat → Nat
  | 0, j => j
  | n + 1, j => if b.fitsLog j c d then j else b.roomFrom c d n (j + 1)

/-- The effective junction of a command (R289). -/
def Block.effectiveFor (b : Block) (c : CmdRecord) (d : List TicketRec := []) : Nat :=
  b.roomFrom c d (b.seq.cmds.length + b.seq.tickets.length + 1) b.openJ

/-- The command fits in an empty log (R289, R482). -/
def Block.fitsEmpty (b : Block) (c : CmdRecord) : Bool :=
  32 + 8 + (cmdRecordBytes c).length + b.closingReserve ≤ b.logLimit

/-- A consumer report (R54, R224, R354): newer indices replace older ones; without room it waits for a later log. -/
def Block.consumerReport (b : Block) (h tok ev : Nat) : Block :=
  if Tab.has h b.seq.consumerWait then { b with seq := { b.seq with consumerWait := Tab.set h (tok, ev) b.seq.consumerWait } }
  else
    let next := Tab.set h (tok, ev) b.seq.consumer
    let list := next.map fun x => (x.1, x.2.1, x.2.2)
    if b.logNeed b.openJ (b.cmdsFor b.openJ) (b.ticketsFor b.openJ) list ≤ b.logLimit then { b with seq := { b.seq with consumer := next } }
    else { b with seq := { b.seq with consumerWait := Tab.set h (tok, ev) b.seq.consumerWait } }

/-- Reports that waited enter the log now open, as far as it has room. -/
def Block.takeWaiting (b : Block) : Block :=
  b.seq.consumerWait.foldl (fun (b : Block) x => b.consumerReport x.1 x.2.1 x.2.2) { b with seq := { b.seq with consumerWait := [] } }

/-! ### The log area (R224) -/

/-- A log is written at LOG_BASE + (J mod 2) × 1 MiB; until a main model has been loaded it stays in the Signal Box (R224, R482). -/
def Block.storeLog (b : Block) (l : JLog) : Block := match b.mdl.logBase with
  | some base => b.write (base + l.junction % 2 * 1048576) (logBytes l)
  | none => b

def logFrags (l : JLog) : Nat := max 1 (ceilDiv (logBytes l).length 48)

/-- The named fragments of a log are read from the log area (R224, R338). -/
def Block.readLog (b : Block) (l : JLog) (first count : Nat) : Block := match b.mdl.logBase with
  | some base =>
    let size := (logBytes l).length
    b.ask 62 (base + l.junction % 2 * 1048576 + 48 * first) (min (size - 48 * first) (if count = 0 then size else 48 * count)) .other
  | none => b

/-- Named fragments of a log to one rank (R343). -/
def Block.sendFrags (b : Block) (dest : Nat) (l : JLog) (first count : Nat) : Block :=
  let n := logFrags l
  let last := if count = 0 then n else min n (first + count)
  let ps := (List.range (last - first)).map fun i => ({ cls := 2, dest := some dest, route := none, frag := first + i, count := n
                                                        msgId := l.junction % 4294967296, msg := .log l } : TxPacket)
  { b with fab := { b.fab with queue := b.fab.queue ++ ps } }

/-! ### Closing a log (R80 to R82, R224, R427) -/

/-- The longest prefix that `ok` allows. -/
def longestFit {α : Type} (ok : List α → Bool) : List α → List α → List α
  | acc, [] => acc
  | acc, x :: xs => if ok (acc ++ [x]) then longestFit ok (acc ++ [x]) xs else acc

/-- Losses as a log carries them: of causes 1 to 3 the lowest for each handle, and one of cause 5 (R427). -/
def mergeLosses (l : List (Nat × Nat)) : List (Nat × Nat) :=
  ((l.map fun x => (x.1, x.2 == 5)).eraseDups).map fun k =>
    let cs := (l.filter fun x => x.1 == k.1 && (x.2 == 5) == k.2).map (·.2)
    (k.1, cs.foldl min (cs.headD 0))

/-- The log without the sections the closing reserve stands for fits beside that reserve. -/
def Block.hasRoom (b : Block) (l : JLog) : Bool :=
  let bare := { l with takeover := none, mode := none, ringWrites := [], consist := { l.consist with rows := [] } }
  (logBytes bare).length - 40 + b.closingReserve ≤ b.logLimit

/-- A log that commits content this instance has lost stops the group (R233). -/
def Block.checkStage (b : Block) (l : JLog) : Block :=
  if b.cp.stageLost && l.mode.any fun m => m.2.1 == 1 then b.stop .stageLost srcCoupling [l.junction] else b

/-- Put a closed log in place, broadcast it and answer the resends asked for. -/
def Block.broadcastLog (b : Block) (l : JLog) : Block :=
  let asked := b.seq.resendAsked
  let b := { b with
    seq := { b.seq with closed := some l, closing := false, takeover := none, reuse := none, resendAsked := [] }
    cp := { b.cp with log := some l } }
  let b := (b.storeLog l).send none (.log l)
  (asked.foldl (fun (b : Block) a => b.sendFrags a.1 l a.2.1 a.2.2) b).checkStage l

/-- Finalise and backfill the consist, close the log and broadcast it (R80 to R82). -/
def Block.closeLog (b : Block) : Block :=
  let j := b.cp.applied + 1
  let live := fun (x : Nat × Nat) => (b.byHandle x.1).isSome
  let lossQ := (mergeLosses b.seq.losses).filter live
  let bankQ := b.seq.banks.eraseDups
  let l0 := { b.draftLog j with closeTime := b.now, losses := [], banks := [], takeover := b.seq.takeover.map fun o => (o, false) }
  let adm := longestFit (fun a => b.hasRoom { l0 with tickets := l0.tickets ++ a }) [] (b.chooseAdmissions (b.predict { l0 with losses := lossQ, banks := bankQ }).1)
  let l1 := { l0 with tickets := l0.tickets ++ adm }
  let losses := longestFit (fun x => b.hasRoom { l1 with losses := x }) [] lossQ
  let l2 := { l1 with losses }
  let banks := longestFit (fun x => b.hasRoom { l2 with banks := x }) [] bankQ
  let l3 := { l2 with banks }
  let sp := b.predict l3
  let units := b.finalUnits sp.1 sp.2
  let c : Consist := { step := j, epoch := l3.epoch, stepEst := b.cp.stepEst, rows := rowsOfUnits units }
  let l4 := { l3 with consist := c }
  let waiting := b.seq.holds.filter live
  let holdQ := waiting ++ (b.newHolds sp.1 sp.2).filter fun h => !waiting.contains h
  let holds := longestFit (fun h => decide ((logBytes { l4 with holds := h }).length ≤ b.logLimit)) [] holdQ
  let l5 := { l4 with holds }
  let b := (units.filter fun u => !(b.seq.selected.any fun x => x.handle == u.handle)).foldl (fun (b : Block) u =>
    b.traceUnit j (((sp.2.byHandle u.handle).map (·.2)).getD {}) 4 u.rows u.positions 0) b
  let b := { b with seq := { b.seq with
    losses := lossQ.drop losses.length, banks := bankQ.drop banks.length, holds := holdQ.drop holds.length
    consumer := [], decision := none, selected := [], closing := true } }
  (b.broadcastLog l5).takeWaiting

/-- The reused log of the old term, under the new term and rank (R239). -/
def Block.reuseLog (b : Block) (l : JLog) : Block :=
  b.broadcastLog { l with leadTerm := b.cp.term, leadRank := b.cp.rank, takeover := some (b.seq.takeover.getD 0, true) }

/-- Every walk begun at the last junction has finished here (R114). -/
def Block.walksDone (b : Block) : Bool := b.gr.walks.all fun w => w.finished

/-- Whether the lead may close the log of the next junction: the step is verified, its tokens are written and the walks whose results the
consist's pages depend on have finished (R80, R106, R228). -/
def Block.mayClose (b : Block) : Bool :=
  b.isLead && b.running && b.cp.complete && b.seq.closed.isNone && b.cp.collect.isNone && b.verified && b.mayWrite && b.walksDone

def Block.finalise (b : Block) : Block :=
  let b := b.writeTokens
  match b.seq.reuse with
  | some l => b.reuseLog l
  | none => b.closeLog

/-- A command waits for the junction that is open, or has been accepted since the last agreement (R83). -/
def Block.commandDue (b : Block) : Bool :=
  b.seq.cmds.any (fun c => c.junction ≤ b.cp.applied + 1 || c.cmd.acceptTime ≥ b.cp.agreedAt) ||
  b.seq.tickets.any fun t => t.1 ≤ b.cp.applied + 1

/-- YARD_FINALISATION: on an idle group only once a command has been accepted (R83). -/
def Block.yardFinalisation (b : Block) : Block :=
  let idle := b.consistNow.rows.isEmpty && !b.commandDue && b.seq.takeover.isNone && !b.cp.firstJunction
  if b.mayClose && !idle then b.finalise else b

/-- IDLE_INTERVAL (R83). -/
def Block.idleInterval (b : Block) : Block :=
  if b.mayClose && b.consistNow.rows.isEmpty && b.now ≥ b.cp.agreedAt + b.mdl.idleInterval then b.finalise else b

/-! ### READY (R225) -/

def moveSeqOf (b : Block) : Nat :=
  (minBy before32 ((b.pg.moves.filter fun m => !m.completed).map (·.seq))).getD b.pg.nextMoveSeq

/-- The conditions of R225; an instance that has lost its staged content sends no READY for a log that commits it (R233). -/
def Block.readyDue (b : Block) : Bool :=
  let j := b.cp.applied + 1
  b.running && b.cp.stepDone.isSome && b.cp.sent.isNone &&
  (b.cp.log.any fun l => l.junction == j && l.leadTerm == b.cp.term) && (b.dsp.next.any fun x => x.junction == j) &&
  b.walksDone && !(b.cp.stageLost && b.cp.log.any fun l => l.mode.any fun m => m.2.1 == 1)

def Block.sendSent (b : Block) (dest : Option Nat) (j : Nat) (r : Ready) : Block :=
  b.send dest (.ready j b.cp.term r.doneTime r.logCrc r.moveSeq)

/-- READY_SEND (R225). -/
def Block.readySend (b : Block) : Block :=
  match b.cp.log, b.cp.stepDone with
  | some l, some t =>
    if !b.readyDue then b else
    let r : Ready := { doneTime := t, logCrc := logCrc l, moveSeq := moveSeqOf b }
    let b := { b with cp := { b.cp with sent := some r, readySent := some b.now, readyAt := b.now } }
    b.sendSent none (b.cp.applied + 1) r
  | _, _ => b

/-- READY_RESEND_TIMER (R225). -/
def Block.readyResend (b : Block) : Block :=
  match b.cp.sent with
  | some r => if b.running && b.now ≥ b.cp.readyAt + resendNs then
      { b with cp := { b.cp with readyAt := b.now } }.sendSent none (b.cp.applied + 1) r
    else b
  | none => b

/-- JUNCTION_WATCHDOG (R229). -/
def Block.junctionWatchdog (b : Block) : Block :=
  match b.cp.readySent with
  | some t => if b.running && b.now ≥ t + b.mdl.watchdog * 1000 then b.stop .junctionWatchdog srcCoupling [b.cp.applied + 1] else b
  | none => b

/-! ### After a log has been applied -/

/-- Effects of the commands that are not request, tenant, class or strain commands: MAINT_WINDOW and TENSOR_DUMP (R245,
R463). -/
def Block.applyOther (b : Block) (c : CmdRecord) : Block :=
  match c.params with
  | .maintWindow n links => { b with fab := { b.fab with linksOut := if n = 0 then [] else b.fab.linksOut.filter fun l => !(links.take n).contains l } }
  | .tensorDump layer op h step addr bytes =>
    let full := (b.obs.dumps.filter fun d => d.step == step && !d.dropped).length ≥ 16
    { b with obs := { b.obs with dumps := b.obs.dumps ++ [{ step, layerOperator := layer * 65536 + op, handle := h, addr, bytes
                                                            dropped := full, items := 0, positions := 0 }] } }
  | _ => b

/-- The request's main and draft row ranges in a consist: first and count of each (R464). -/
def dumpRows (c : Consist) (h : Nat) : (Nat × Nat) × (Nat × Nat) :=
  let idx := fun (draft : Bool) => ((List.range c.rows.length).zip c.rows).filter fun x => x.2.handle == h && (x.2.kind == 4) == draft
  let range := fun (l : List (Nat × RowRec)) => ((l.head?.map (·.1)).getD 0, l.length)
  (range (idx false), range (idx true))

/-- The positions of a directive's rows that the nodes it names cover, once each (R465, R466); none where no node of the template
carries its LAYER_OPERATOR, and none of a directive dropped. -/
def Block.dumpPositions (b : Block) (c : Consist) (d : Dump) : Nat :=
  match ((b.mdl.template.map (·.nodes)).getD []).find? fun n => n.layerOperator == d.layerOperator with
  | some n => if d.dropped then 0 else ((b.dumpRowsOf d n c (covered n c)).map fun x => x.2.2).sum
  | none => 0

/-- The dump table of the step that begins (R463, R464). -/
def Block.dumpTable (b : Block) (c : Consist) : Block :=
  let b := { b with obs := { b.obs with dumps := b.obs.dumps.map fun (d : Dump) =>
    if d.step = c.step then { d with positions := b.dumpPositions c d } else d } }
  let ds := b.obs.dumps.filter fun d => d.step == c.step && !d.dropped
  if ds.isEmpty then b else
  let entry := fun (d : Dump) =>
    let r := dumpRows c d.handle
    le 4 d.layerOperator ++ le 4 d.handle ++ le 2 r.1.1 ++ le 2 r.1.2 ++ le 2 r.2.1 ++ le 2 r.2.2 ++ le 8 d.addr ++ le 4 d.bytes ++ zeros 36
  b.write (b.obs.base + 4194304 + c.step % 2 * 2048) (le 8 c.step ++ le 4 ds.length ++ zeros 52 ++ ds.flatMap entry)

/-- The headers of R466, when the step is recorded complete. -/
def Block.dumpHeaders (b : Block) : Block :=
  let step := b.consistNow.step
  let named := fun (d : Dump) => (b.dsp.current.map (·.template.nodes)).getD [] |>.any fun n => n.layerOperator == d.layerOperator
  let rows := fun (d : Dump) => b.consistNow.rows.any fun r => r.handle == d.handle
  let status := fun (d : Dump) => if d.dropped then 3 else if !named d then 5 else if !rows d then 2 else 1
  let b := (b.obs.dumps.filter fun d => d.step == step).foldl (fun (b : Block) d =>
    b.write d.addr (dumpHeader step d.layerOperator d.handle (status d) d.items d.positions b.now)) b
  { b with obs := { b.obs with dumps := b.obs.dumps.filter fun d => d.step != step } }

/-- A 64-bit count and how often it has wrapped, saturating at m (R450). -/
def wrapsOf (m x : Nat) : Nat := min m (x / 18446744073709551616)

/-- A bin as stored (Table 17-3). -/
def binBytes (node : Nat) (x : Bin) : List Byte :=
  le 4 x.layerOperator ++ le 2 node ++ zeros 2 ++ le 4 x.epoch ++ le 4 x.sat ++ le 8 x.items ++ le 8 x.busy ++ le 8 x.stall ++
  le 8 x.idle ++ ([x.items, x.busy, x.stall, x.idle].flatMap fun v => le 2 (wrapsOf 65535 v)) ++ le 4 x.reissued ++ zeros 4 ++
  (List.range 16).flatMap fun r => le 4 (Tab.getD r 0 x.byReason)

def addBins (x y : Bin) : Bin :=
  { x with
    sat := min 4294967295 (x.sat + y.sat), items := x.items + y.items, busy := x.busy + y.busy, stall := x.stall + y.stall
    idle := x.idle + y.idle, reissued := min 4294967295 (x.reissued + y.reissued)
    byReason := y.byReason.foldl (fun t p => Tab.upd p.1 0 (fun n => min 4294967295 (n + p.2)) t) x.byReason }

/-- The step's accumulations enter the bins (R449). -/
def Block.flushBins (b : Block) : Block :=
  let nodes := Tab.keys b.obs.stepBins
  let bins := b.obs.stepBins.foldl (fun t p => Tab.upd p.1 {} (fun x => addBins x p.2) t) b.obs.bins
  let b := { b with obs := { b.obs with bins, stepBins := [] } }
  nodes.foldl (fun (b : Block) n => b.write (b.obs.base + n * 128) (binBytes n (Tab.getD n {} b.obs.bins))) b

/-- A new template: the bins restart, and those of the old template that the new one has no node for read zero (R449). -/
def Block.resetBins (b : Block) (oldEpoch : Nat) : Block :=
  match b.mdl.template with
  | none => b
  | some t =>
    let b := b.logRec 4 0x0191 0 [oldEpoch, b.cp.epoch, b.cp.applied]
    let bins := ((List.range t.nodes.length).zip t.nodes).map fun (i, n) => (i, ({ layerOperator := n.layerOperator, epoch := b.cp.epoch } : Bin))
    let gone := (Tab.keys b.obs.bins).filter fun i => i ≥ t.nodes.length
    let b := { b with
      obs := { b.obs with bins }
      dsp := { b.dsp with platforms := b.dsp.platforms.map fun p =>
        (p.1, { p.2 with counters := { p.2.counters with oldNode := p.2.counters.waiting.isSome } }) } }
    let b := gone.foldl (fun (b : Block) i => b.write (b.obs.base + i * 128) (zeros 128)) b
    bins.foldl (fun (b : Block) p => b.write (b.obs.base + p.1 * 128) (binBytes p.1 p.2)) b

/-- Log l commits a proposal that brings a template, be it the one in force (R126, R449). -/
def Block.newTemplate (b : Block) (l : JLog) : Bool := match l.mode, b.cp.staged.filter (·.prepared) with
  | some (_, d, n), some st => d == 1 && st.number == n && st.template.isSome
  | _, _ => false

/-- Deferred STRAIN_LOAD replies at the junction after the load's (R308); `before` still holds the version. -/
def Block.strainReplies (b before : Block) (j : Nat) : Block :=
  (Tab.keys b.ses).foldl (fun (b : Block) s =>
    ((b.session s).deferred.filter fun d => d.opcode == 0x0105 && d.effective + 1 == j).foldl (fun (b : Block) d =>
      match d.params with
      | .strainLoad desc strain _ _ _ =>
        let same := fun (v : StrainVersion) => v.descriptor == desc && v.strain == strain && v.version == d.assigned
        let ok := b.pol.strains.any fun v => same v && v.state != .loading
        let addr := match before.pol.strains.find? same with
          | some v => before.strainPtr v.granule
          | none => 0
        b.postDeferred (fun s' d' => s' == s && d' == d) (if ok then 0 else 0x0106) (le 2 d.assigned ++ zeros 6 ++ le 8 addr)
      | _ => b) b) b

/-- The census in a running group counts junctions (R461). -/
def Block.censusJunction (b : Block) : Block :=
  if !b.obs.censusOn || b.cp.state == .bufferStop then b else
  let left := (b.obs.censusLeft.getD 4096) - 1
  if left = 0 then
    ({ b with obs := { b.obs with censusOn := false, censusLeft := none } }).logRec srcSignalBox 0x0192 0 [b.obs.censusWrite, b.cp.applied]
  else { b with obs := { b.obs with censusLeft := some left } }

/-- What a takeover's first log leaves (R237, R240, R492): of every instance that has lost the lead role since the last junction, its
LEAD_FAULT record and its proposal replies (R304), at this log's junction, the takeover's (DESIGN CHOICE, log entry 125: R304 names J, and
the proposal has a junction J of its own). -/
def Block.takeoverApplied (b : Block) (l : JLog) : Block :=
  match l.takeover with
  | none => b
  | some (old, re) =>
    let b := { b with cp := { b.cp with
      leadChange := { term := l.leadTerm, oldLead := old, newLead := l.leadRank, reused := re, junction := l.junction }, leadEvent := true } }
    let b := (b.noteSet (w1cGroup 0)).noteSticky 4
    if b.cp.roleLost.isNone then b else
    (b.leadFault re).postDeferred (fun _ d => [0x0101, 0x0104, 0x0401].contains d.opcode) 0x0407 (le 2 b.cp.rank ++ le 1 3 ++ zeros 1 ++ le 4 0)

/-- Commands applied leave the sequencer (R292). -/
def Block.sequencerApplied (b : Block) (j : Nat) : Block :=
  { b with seq := { b.seq with
      cmds := b.seq.cmds.filter fun c => c.junction > j, tickets := b.seq.tickets.filter fun t => t.1 > j, closed := none
      written := [], ringWrites := [], nextTicket := if b.isLead then b.seq.nextTicket else b.gr.nextTicket } }

/-! ### The decision on a proposal (R231, R303, R304, R91 to R93, R97) -/

def decisionReply (p : Params) : Nat := opcodeOf p

/-- The footprint less MEM_AVAILABLE's side of R91: what c and l add to the fixed part. -/
def footprint (q : LoadParams) (page fixed c l : Nat) : Nat :=
  let region := ceilDiv (256 + 4 * c) 4096 * 4096
  fixed + q.transcriptExtra + 32768 * 8192 + l * (region + q.kvMinPages * page) + ceilDiv c (max 1 q.pageTokens) * page

def fitsAll (q : LoadParams) (ps : Table (Nat × Nat × Nat)) (c l : Nat) : Bool :=
  ps.all fun p => footprint q p.2.2.1 p.2.2.2 c l ≤ p.2.1

/-- The largest n ≤ the start that fits; 0 if none. -/
def largestFit (ok : Nat → Bool) : Nat → Nat
  | 0 => 0
  | n + 1 => if ok (n + 1) then n + 1 else largestFit ok n

/-- N0 (R97). -/
def poolPages (q : LoadParams) (ps : Table (Nat × Nat × Nat)) (c l : Nat) : Nat :=
  let region := ceilDiv (256 + 4 * c) 4096 * 4096
  ps.foldl (fun m p => min m ((p.2.1 - p.2.2.2 - q.transcriptExtra - 32768 * 8192 - l * region) / max 1 p.2.2.1)) 16777216

/-- R91 to R93: the limits of a load that fits with N0, or the payload of R92. -/
def footprintResult (q : LoadParams) (ps : Table (Nat × Nat × Nat)) : (Nat × Nat × Nat) ⊕ List Byte :=
  let c := q.maxContext
  let l := q.maxLive
  let g := max 1 q.pageTokens
  if fitsAll q ps c l then .inl (l, c, poolPages q ps c l)
  else
    let fitLive := largestFit (fun n => fitsAll q ps c n) l
    let fitContext := largestFit (fun n => fitsAll q ps (n * g) l) (c / g) * g
    let short := ps.map fun p => (p.1, footprint q p.2.2.1 p.2.2.2 c l - p.2.1)
    let worst := short.foldl (fun m p => if p.2 > m.2 then p else m) (short.headD (0, 0))
    let payload := le 8 worst.2 ++ le 4 fitLive ++ le 4 fitContext ++ le 2 worst.1 ++ zeros 14
    if bit q.loadFlags 0 then
      if bit q.loadFlags 1 then (if fitContext = 0 then .inr payload else .inl (l, fitContext, poolPages q ps fitContext l))
      else if fitLive = 0 then .inr payload else .inl (fitLive, c, poolPages q ps c fitLive)
    else .inr payload

/-- The parameters that R91 counts with: of a draft load, which reads none of them (R302), the main model's, with the limits in force
and TIGHT 0 (DEDUCED, log entry 57). -/
def Block.loadFor (b : Block) (q : LoadParams) : LoadParams :=
  if !isDraftLoad q then q else match b.mainModel with
  | some (_, d) => { d.load with maxLive := b.mdl.maxLive, maxContext := b.mdl.maxContext, loadFlags := d.load.loadFlags / 4 * 4 }
  | none => q

/-- The lead decides its proposal when junction J - 1 has been applied (R231). -/
def Block.decideProposal (b : Block) : Block :=
  match b.seq.proposal with
  | none => b
  | some p =>
    if p.junction != b.cp.applied + 1 then b else
    let mine := fun (_ : Nat) (d : Deferred) => d.opcode == opcodeOf p.cmd.params && d.effective == p.junction
    let failing := (List.range b.cp.n).find? fun r => !Tab.has r p.prepared
    let cancel := fun (b : Block) =>
      { b with seq := { b.seq with
          proposal := none, decision := some (b.cp.epoch, 2, p.number), cmds := b.seq.cmds.filter fun (c : SeqCmd) => c.cmd != p.cmd } }
    let commit := fun (b : Block) (res : RecResult) =>
      { b with seq := { b.seq with
          proposal := none, decision := some (p.epoch, 1, p.number)
          cmds := b.seq.cmds.map fun (c : SeqCmd) => if c.cmd = p.cmd then { c with cmd := { c.cmd with result := res } } else c } }
    match failing with
    | some r =>
      match Tab.get? r p.refused with
      | some (st, detail) =>
        let status := match p.cmd.params with
          | .modeSet _ => 0x0407
          | _ => st
        (cancel b).postDeferred mine status (le 2 r ++ le 1 1 ++ zeros 1 ++ le 4 detail)
      | none => (cancel b).postDeferred mine 0x0407 (le 2 r ++ le 1 2 ++ zeros 1 ++ le 4 0)
    | none =>
      match p.cmd.params with
      | .modelLoad q =>
        match footprintResult (b.loadFor q) p.prepared with
        | .inl (l, c, n) =>
          let n0 := if isDraftLoad q then b.mdl.n0 else n
          (commit b (.model l c n0)).postDeferred mine 0 (le 4 l ++ le 4 c ++ le 4 n0 ++ zeros 4)
        | .inr payload => (cancel b).postDeferred mine 0x0307 payload
      | _ => (commit b .none).postDeferred mine 0 []

/-! ### Application, DIGEST, completion (R226 to R228) -/

/-- A buffer whose consist has no rows: its step is complete from the start (R83). -/
def Buffer.begun (x : Buffer) : Buffer :=
  if x.consist.rows.isEmpty then { x with nodes := x.nodes.map fun n => (n.1, { n.2 with state := .done }) } else x

/-- The first node to insert: none of a step without rows. -/
def Buffer.firstNode (x : Buffer) : Nat := if x.consist.rows.isEmpty then x.made else 0

/-- Platforms taken into service join (R148), the buffers change over, and the step begins; a tier move's issues count
anew in each step (R145). -/
def Block.beginStep (b : Block) : Block :=
  Block.checkPlatforms { b with pwr := { b.pwr with exempt := [] }, dsp := { b.dsp with
      current := b.dsp.next.map Buffer.begun, next := none, nextInsert := (b.dsp.next.map Buffer.firstNode).getD 0, stook := [], readyWait := [], oldTags := []
      runs := (b.dsp.runs.filter fun r => r.copy.isSome).map fun r => if r.copy.any fun c => c.kind == 0 then { r with issues := 0 } else r
      openItems := b.dsp.openItems.map fun o => if o.copy.any fun c => c.kind == 0 then { o with issues := 0 } else o
      platforms := b.dsp.platforms.map fun p => if p.2.joining then (p.1, { p.2 with joining := false, inService := true }) else p } }

/-- The first junction of the group has been applied: the reply to RECOVER (R441, Table 16-8). -/
def Block.formationReply (b : Block) : Block :=
  match b.form with
  | none => b
  | some f =>
    match f.result with
    | none => b
    | some r =>
      let payload := le 1 r.resumeKind ++ zeros 1 ++ le 2 r.n ++ le 2 r.leadRank ++ zeros 2 ++ le 8 r.firstJunction ++ le 4 r.leadTerm ++
        le 4 f.lost ++ le 4 f.unrecoverable ++ zeros 4
      b.postDeferred (fun _ (d : Deferred) => d.opcode == 0x0602) 0 payload

/-- The junction is complete here; the group runs from its first junction on (R481). -/
def Block.completeJunction (b : Block) : Block :=
  let b := { b with cp := { b.cp with complete := true, state := if b.cp.state == GroupState.forming then GroupState.running else b.cp.state, fresh := false }, form := none }
  let b := b.beginStep
  if b.isLead && b.seq.reuse.isNone then b.selectUnits else b

/-- The lead publishes its digest (R228). -/
def Block.sendDigest (b : Block) (dest : Option Nat) : Block :=
  { b with cp := { b.cp with digestSentAt := b.now } }.send dest (.digest b.cp.applied b.cp.term b.cp.digest)

/-- A coupled instance compares digests (R228). -/
def Block.tryDigest (b : Block) : Block :=
  match b.cp.leadDigest with
  | some (j, d) =>
    if b.isLead || b.cp.complete || j != b.cp.applied then b
    else if d != b.cp.digest then b.stop .digestMismatch srcCoupling [j]
    else b.completeJunction.send (some b.cp.leadRank) (.digest j b.cp.term b.cp.digest)
  | none => b

/-- A log held complete becomes the log of the next junction. -/
def Block.takeLog (b : Block) : Block :=
  match b.cp.parts.find? fun p => p.log.junction == b.cp.applied + 1 && p.got.length == p.count with
  | some p =>
    let b := { b with cp := { b.cp with log := some p.log, parts := b.cp.parts.erase p } }
    (b.storeLog p.log).checkStage p.log
  | none => b

/-- What follows the application of log l on every instance, with the state before it. -/
def Block.logEffects (b before : Block) (l : JLog) (a : Nat) : Block :=
  let b := b.settleReports l
  let b := b.count 0
  let b := if l.consist.rows.isEmpty then b.count 1 else b
  let b := b.trace 4 (le 1 (b2n b.isLead) ++ le 2 l.consist.rows.length ++ le 4 (b.cp.digest % 4294967296) ++ le 8 l.junction ++ le 8 a)
  let b := l.commands.foldl Block.applyOther b
  let b := b.flushBins
  let b := if before.newTemplate l then b.resetBins before.cp.epoch else b
  let b := b.dumpTable l.consist
  let b := b.strainReplies before l.junction
  (b.takeoverApplied l).capsAtJunction l.junction

/-- What follows the application of log l in a running group. -/
def Block.afterApply (b before : Block) (l : JLog) (a : Nat) : Block :=
  let b := (b.logEffects before l a).sequencerApplied l.junction
  let b := if b.isLead then b.decideProposal.capRepeat else b
  b.censusJunction

/-- LOST and UNRECOVERABLE of Table 16-8, at the first junction after a formation. -/
def Block.countLost (b before : Block) (l : JLog) : Block :=
  match b.form with
  | none => b
  | some f =>
    let cold := f.result.any fun r => r.resumeKind == 2
    let lost := (b.gr.entries.filter fun e => e.2.state == .lost && (cold || (before.ent e.1).state != .lost)).length
    { b with form := some { f with lost, unrecoverable := (l.losses.filter fun x => x.2 == 5).length } }

/-- Agreement on the next junction: its log is applied (R226, R227). Requests for the step that ends, packets of messages not whole
(R342), segments and prefetch reads that still wait for it go with it (log entries 110, 113). -/
def Block.applyJunction (b : Block) (l : JLog) (a mark : Nat) : Block :=
  let own := b.cp.sent
  let ended := b.consistNow.step
  let b1 := (b.applyLog l a mark).countLost b l
  let b1 := { b1 with
    cp := { b1.cp with
      ready := [], readySent := none, sent := none, lastReady := own, stepDone := none, complete := false, digests := []
      leadTimer := none, leadLimit := 0, logAskedAt := none, parts := b1.cp.parts.filter fun p => p.log.junction ≥ l.junction }
    gln := { b1.gln with rows := [], asked := b1.gln.asked.filter fun x => toInt32 (sub32 x.2.2 ended) > 0, since := 0 }
    thr := { b1.thr with
      contexts := [], closed := [], shadows := [], slabBad := []
      skid := b1.thr.skid.filter fun x => !(x.2.1.header.any fun (h : RowHeader) => h.step16 == ended % 65536) }
    mp := { b1.mp with asks := b1.mp.asks.filter fun x => x.stream ≥ 48 }
    fab := { b1.fab with query := none, parts := b1.fab.parts.filter fun p => toInt32 (sub32 p.step ended) > 0 } }
  let b1 := (b1.prefetch.readWalks.afterApply b l a).formationReply
  let b1 := if !(b1.cp.parts.any fun p => p.log.junction > l.junction) then b1 else { b1 with cp := { b1.cp with logAskedAt := some b1.now } }
  let b1 := b1.takeLog
  if b1.isLead then (b1.completeJunction).sendDigest none else b1.tryDigest

/-- Agreement once READY is held from every rank (R226). -/
def Block.agree (b : Block) : Block :=
  let rs := Tab.vals b.cp.ready
  if rs.any fun r => rs.any fun q => q.logCrc != r.logCrc then b.stop .logCrcMismatch srcCoupling [b.cp.applied + 1]
  else if !((List.range b.cp.n).all fun r => Tab.has r b.cp.ready) then b
  else match b.cp.log with
    | none => b
    | some l =>
      let a := rs.foldl (fun m r => max m r.doneTime) 0
      b.applyJunction l a ((minBy before32 (rs.map (·.moveSeq))).getD b.pg.nextMoveSeq)

/-- The log of the next junction is wanted from now on, if it was not before (R224). -/
def Block.wantLog (b : Block) : Block :=
  { b with cp := { b.cp with logAskedAt := some ((b.cp.logAskedAt.map fun t => min t b.now).getD b.now) } }

/-- JUNCTION_READY (R225, R226). -/
def Block.readyIn (b : Block) (src junction term : Nat) (r : Ready) : Block :=
  b.inTerm term fun b =>
    if junction = b.cp.applied then
      match b.cp.lastReady with
      | some own => if src = b.cp.rank then b else b.sendSent (some src) junction own
      | none => b
    else if junction != b.cp.applied + 1 || Tab.has src b.cp.ready || src ≥ b.cp.n then b
    else
      let b := { b with cp := { b.cp with ready := Tab.set src r b.cp.ready } }
      let b := if src = b.cp.leadRank && b.cp.log.isNone then b.wantLog else b
      b.agree

/-- JUNCTION_DIGEST (R228); a coupled instance that has answered answers a repeated DIGEST again. -/
def Block.digestIn (b : Block) (src junction term digest : Nat) : Block :=
  b.inTerm term fun b =>
    if b.isLead then
      if src = b.cp.rank || junction != b.cp.applied then b
      else if digest != b.cp.digest then b.stop .digestMismatch srcCoupling [junction, src]
      else { b with cp := { b.cp with digests := Tab.set src digest b.cp.digests } }
    else if src != b.cp.leadRank then b
    else if junction = b.cp.applied && b.cp.complete then
      if digest != b.cp.digest then b.stop .digestMismatch srcCoupling [junction]
      else b.send (some src) (.digest junction term b.cp.digest)
    else if junction = b.cp.applied || junction = b.cp.applied + 1 then
      { b with cp := { b.cp with leadDigest := some (junction, digest) } }.tryDigest
    else b

/-- DIGEST_RESEND_TIMER (R228). -/
def Block.digestResend (b : Block) : Block :=
  if b.isLead && b.running && b.cp.complete && b.cp.applied > 0 && b.now ≥ b.cp.digestSentAt + resendNs then
    (b.peers.filter fun r => !Tab.has r b.cp.digests).foldl (fun (b : Block) r => b.sendDigest (some r)) b
  else b

/-! ### Receiving a log (R224, R342, R343) -/

/-- LOG_RECEIVED from rank `src`: fragment `frag` of `count`; `reserved`: the log carries a section of a reserved TYPE. -/
def Block.logIn (b : Block) (src frag count : Nat) (l : JLog) (reserved : Bool) : Block :=
  b.inTerm l.leadTerm fun b =>
    let j := b.cp.applied + 1
    if l.junction < j || l.junction > j + 1 || (l.junction = j && b.cp.log.isSome) || frag ≥ count then b
    else
      let p := (b.cp.parts.find? fun p => p.src == src && p.log.junction == l.junction).getD { src, log := l, count, got := [] }
      if p.got.contains frag then b else
      let rest := b.cp.parts.erase p
      let p := { p with got := p.got ++ [frag] }
      let b := { b with cp := { b.cp with parts := rest ++ [p] } }
      let b := if l.junction = j then b.wantLog else b
      if p.got.length = count && reserved then b.stop .couplingProtocol srcCoupling [l.junction] else b.takeLog

/-- LOG_RESEND_TIMER (R224). -/
def Block.logResendTimer (b : Block) : Block :=
  match b.cp.logAskedAt with
  | some t =>
    if !b.running || b.isLead || b.cp.log.isSome || b.now < t + resendNs then b else
    let j := b.cp.applied + 1
    let req := match b.cp.parts.find? fun p => p.log.junction == j with
      | none => (0, 0)
      | some p =>
        let miss := (List.range p.count).filter fun i => !p.got.contains i
        (miss.headD 0, (miss.getLast?.getD 0) + 1 - miss.headD 0)
    ({ b with cp := { b.cp with logAskedAt := some b.now } }).send (some b.cp.leadRank) (.logResend j req.1 req.2)
  | none => b

/-- LOG_RESEND_REQUEST (R224, R343); `id` is the low half of the junction number. -/
def Block.logResend (b : Block) (src id first count : Nat) : Block :=
  if !b.running || !b.isLead then b else
  let held := [b.cp.log, b.cp.prevLog].filterMap fun x => x
  match held.find? fun l => l.junction % 4294967296 == id with
  | some l => (b.readLog l first count).sendFrags src l first count
  | none =>
    if id = (b.cp.applied + 1) % 4294967296 then { b with seq := { b.seq with resendAsked := b.seq.resendAsked ++ [(src, first, count)] } }
    else b

end Sys2Proof.Machine
end

