-- ==== Sys2Proof/Machine/Stage.lean ====
section
/-! DEFINITION. Staged images: the template, the shard map and the platform map as they lie in the staging area, and the
checks of R125, R146 and R183; the staging of a proposal's content (R232, R301 to R305, R311, R359). -/

namespace Sys2Proof.Machine
open Sys2Proof

/-! ### Reading the images (Tables 05-1, 05-2, 05-10, 07-1) -/

/-- A field of a byte list. -/
def field (l : List Byte) (off n : Nat) : Nat := ofLe ((l.drop off).take n)

def parseNode (l : List Byte) : TNode :=
  let f := field l 2 1
  let x := field l 3 1
  { opClass := field l 0 1 % 64, energyClass := field l 1 1 % 64
    sampledOnly := bit f 2, collective := bit f 1, crit := bit f 0, rowSet := bits x 3 2, kind := bits x 1 0
    layerOperator := field l 4 4 % 268435456, groupPos := field l 8 2, tiles := field l 10 2, groups := field l 12 2
    platformSet := field l 14 1 % 16, levelClass := field l 15 1 % 128
    inputs := (List.range 4).map fun i => field l (16 + 2 * i) 2
    fanout := field l 24 2, collectiveGroup := field l 26 2, model := field l 28 1 % 16 }

/-- NODE_COUNT of the template staged at an address. -/
def stagedNodes (m : Memory) (base : Nat) : Nat := memReadLe m base 4

/-- The template staged at an address. -/
def stagedTemplate (m : Memory) (base : Nat) : Template :=
  let n := min 32768 (stagedNodes m base)
  { id := memReadLe m (base + 4) 4, crc := memReadLe m (base + 8) 4
    timeouts := (List.range 64).map fun i => memReadLe m (base + 64 + 2 * i) 2
    nodes := (List.range n).map fun i => parseNode (memReadN m (base + 256 + 32 * i) 32) }

def templateCrcOk (m : Memory) (base : Nat) : Bool :=
  crc32c (memReadN m (base + 256) (32 * min 32768 (stagedNodes m base))) == memReadLe m (base + 8) 4

def parseShard (l : List Byte) : Shard :=
  { rank := field l 0 2 % 512, replicaSet := field l 2 1, lo := field l 4 4 % 16777216, hi := field l 8 4 % 33554432 }

/-- Where descriptor d's shard map is staged. -/
def mapStage (base d : Nat) : Nat := base + 0x101000 + d * 0x400

def stagedMap (m : Memory) (base d count : Nat) : List Shard :=
  (List.range count).map fun i => parseShard (memReadN m (mapStage base d + 16 * i) 16)

def stagedMapCrc (m : Memory) (base d count : Nat) : Nat := crc32c (memReadN m (mapStage base d) (16 * count))

def parsePlatform (l : List Byte) : PlatformEntry :=
  { setMask := field l 0 2, kind := field l 2 1 % 4, engineGroup := field l 3 1, inService := bit (field l 4 1) 0 }

def stagedPlatforms (m : Memory) (base : Nat) : List PlatformEntry :=
  (List.range 4096).map fun i => parsePlatform (memReadN m (base + 0x102000 + 8 * i) 8)

/-! ### The checks -/

/-- DETAIL of a failure that no node or entry causes. -/
def noDetail : Nat := 0xFFFFFFFF

/-- The largest item count of a node over the positions a step may have (R126). -/
def maxItems (n : TNode) (positions : Nat) : Nat :=
  if n.kind = 1 then ceilDiv positions (max 1 n.groupPos) * n.tiles
  else if n.kind = 2 then n.groups * n.tiles else n.tiles

/-- Node i of a template breaks a node row of R125. -/
def nodeBad (t : Template) (positions : Nat) (plats : List PlatformEntry) (models : List Nat) (i : Nat) (n : TNode) : Bool :=
  let users := (t.nodes.filter fun x => x.inputs.contains i).length
  let avail := (plats.filter fun p => p.kind == 1 && p.inService && bit p.setMask n.platformSet).length
  n.inputs.any (fun x => x ≤ 0x7FFF && x ≥ i) || n.inputs.any (fun x => 0x7FFF < x && x < 0xFFFD) ||
  n.fanout != users || n.opClass == 63 || n.rowSet == 3 || n.kind == 3 || n.tiles == 0 || n.tiles > 4096 ||
  (if n.kind = 1 then n.groupPos < 16 || n.groupPos > 8192 else n.groupPos != 0) ||
  (if n.kind = 2 then n.groups == 0 || n.groups > 4096 else n.groups != 0) ||
  (if n.collective then n.collectiveGroup == 0xFFFF else n.collectiveGroup != 0xFFFF) ||
  !models.contains n.model || maxItems n positions > 65535 || (n.collective && n.kind == 1) ||
  (n.collective && maxItems n positions > avail)

/-- R125: the status and DETAIL of a template that is refused. -/
def templateFault (count : Nat) (crcOk : Bool) (t : Template) (positions : Nat) (plats : List PlatformEntry) (models : List Nat) :
    Option (Nat × Nat) :=
  if count > 32768 then some (0x0306, noDetail)
  else if count = 0 || !crcOk || t.timeouts.contains 0 then some (0x0108, noDetail)
  else (((List.range t.nodes.length).zip t.nodes).find? fun x => nodeBad t positions plats models x.1 x.2).map fun x => (0x0108, x.1)

/-- How far two ranges overlap. -/
def overlapOf (x y : Shard) : Nat := min x.hi y.hi - max x.lo y.lo

/-- Another set stands between two entries in ascending LO order. Two sets stay neighbours with a third one's LO equal to neither; with
a third set's LO equal to one of theirs they are none (DESIGN CHOICE, log entry 123: R183 does not order equal LOs). -/
def between (m : List Shard) (x y : Shard) : Bool :=
  let lo := min x.lo y.lo
  let hi := max x.lo y.lo
  m.any fun z => z.replicaSet != x.replicaSet && z.replicaSet != y.replicaSet && lo ≤ z.lo && z.lo ≤ hi

/-- Entry i of a map, with the entries before it, breaks R183. Of a failing pair the later entry is named, and a REPLICA_SET above 63
or a HI above VOCAB_SIZE, outside the ranges of Table 07-1, is refused with the rest (DESIGN CHOICE, log entry 123). -/
def shardBad (m : List Shard) (n vocab i : Nat) (x : Shard) : Bool :=
  let before := m.take i
  before.any (fun y => y.rank == x.rank) || x.rank ≥ n || x.replicaSet > 63 || x.lo ≥ x.hi || x.hi > vocab ||
  before.any (fun y => y.replicaSet == x.replicaSet && (y.lo != x.lo || y.hi != x.hi)) ||
  before.any fun y => y.replicaSet != x.replicaSet && overlapOf x y > 0 && (between m x y || overlapOf x y > 4096)

/-- The ranges cover [0, vocab). -/
def covers (m : List Shard) (vocab : Nat) : Bool :=
  let reach := (sortBy (fun (x y : Shard) => x.lo < y.lo) m).foldl (fun r x => if x.lo ≤ r then max r x.hi else r) 0
  reach ≥ vocab

/-- R183. -/
def mapFault (m : List Shard) (n vocab : Nat) : Option (Nat × Nat) :=
  if m.isEmpty || m.length > 64 then some (0x010A, noDetail)
  else match ((List.range m.length).zip m).find? fun x => shardBad m n vocab x.1 x.2 with
    | some x => some (0x010A, x.1)
    | none => if covers m vocab then none else some (0x010A, noDetail)

/-- Table 05-10, R146: an entry breaks the table. -/
def platformBad (p : PlatformEntry) : Bool := p.kind == 3 || (p.kind == 1 && !bit p.setMask 0)

def platformFault (ps : List PlatformEntry) : Option (Nat × Nat) := (ps.findIdx? platformBad).map fun i => (0x0103, i)

/-- The ranks of the group. -/
def Block.groupSize (b : Block) : Nat := if b.cp.n = 0 then 512 else b.cp.n

/-- The descriptors a template may name: those ACTIVE, and the one it is staged for. -/
def Block.modelsWith (b : Block) (d : Nat) : List Nat := d :: Tab.keys b.mdl.active

/-! ### MODEL_STAGE (R301) -/

/-- The first failing check of MODEL_STAGE. A template of no node is one that the load does not carry, which only a load
beside an ACTIVE main model may leave out (R303); the checks that need STEP_POSITIONS and VOCAB_SIZE use the least
STEP_POSITIONS and the map's own end, and wait for the proposal. -/
def Block.stageFault (b : Block) (m : Memory) (p : StageParams) : Option (Nat × Nat) :=
  let base := b.mdl.stageBase
  let d := p.descriptor % 16
  let ps := stagedPlatforms m base
  let none_ := stagedNodes m base = 0 && b.mainModel.isSome
  let t := if none_ then none
    else templateFault (stagedNodes m base) (templateCrcOk m base) (stagedTemplate m base) 256 ps (b.modelsWith d)
  let map := stagedMap m base d (min 64 p.shardCount)
  let end_ := map.foldl (fun r x => max r x.hi) 0
  t.orElse fun _ => (mapFault map b.groupSize end_).orElse fun _ =>
    platformFault ps

/-! ### Staging a proposal (R232, R303, R311, R359, R483) -/

/-- X of R91: page-list, Rhizome and firmware queue areas (R117, R418). -/
def areas (q : LoadParams) (s : StageParams) : Nat :=
  let g := max 1 q.pageTokens
  32768 * plStride q.maxContext g + 8 * min 16777216 (s.memAvailable / max 1 s.pageBytes) + 2 * 4096 * 64 +
  (if bits q.loadFlags 5 4 = 0 then 0 else q.rhizomeNodes * (64 + 4 + 4 * g)) + roundUp (64 * q.fwQueueDepth + 524288) 4096

/-- W + STRAIN_POOL + X (R91, R303). -/
def Block.fixedPart (b : Block) (q : LoadParams) (s : StageParams) : Nat :=
  s.w + b.mdl.active.foldl (fun n d => n + d.2.stage.w) 0 + q.strainPool + areas q s

/-- An in-service platform of a map lies on a rail that is disabled or not calibrated (R483). -/
def Block.powerMissing (b : Block) (ps : List PlatformEntry) : Bool :=
  ps.any fun p => p.kind != 0 && p.inService &&
    match b.pwr.groups[p.engineGroup]? with
    | some g => match b.pwr.rails[g.rail]? with
      | some r => !r.cfg.enable || r.energy.isEmpty
      | none => true
    | none => true

/-- The content that a proposal stages, or the status and DETAIL of its refusal. -/
def Block.stageContent (b : Block) (m : Memory) (number junction epoch : Nat) (p : Params) : StagedProposal ⊕ (Nat × Nat) :=
  let base := b.mdl.stageBase
  let t := stagedTemplate m base
  let tcheck := fun (d crc positions : Nat) (ps : List PlatformEntry) =>
    if t.crc != crc then some (0x0108, noDetail)
    else templateFault (stagedNodes m base) (templateCrcOk m base) t positions ps (b.modelsWith d)
  let mcheck := fun (d count crc vocab : Nat) =>
    if count = 0 || count > 64 || stagedMapCrc m base d count != crc then some (0x010A, noDetail)
    else mapFault (stagedMap m base d count) b.groupSize vocab
  let blank : StagedProposal := { number, junction, epoch, params := p, stage := none, template := none, map := [], platforms := []
                                  prepared := true }
  match p with
  | .modelLoad q =>
    let d := q.descriptor % 16
    match Tab.get? d b.mdl.staged with
    | none => .inr (0x040A, noDetail)
    | some s =>
      let draft := isDraftLoad q
      let ps := stagedPlatforms m base
      let shards := if s.shardCount != q.shardCount then some (0x010A, noDetail) else mcheck d q.shardCount q.mapCrc q.vocabSize
      let fault := (if draft then none else tcheck d q.templateCrc q.stepPositions ps).orElse fun _ => shards.orElse fun _ =>
        (if draft then none else platformFault ps).orElse fun _ =>
        if draft then (if (b.mainModel.any fun x => x.2.load.vocabSize == q.vocabSize) then none else some (0x010B, noDetail))
        else if b.cp.epoch = 0 && b.powerMissing ps then some (0x040A, noDetail) else none
      match fault with
      | some f => .inr f
      | none => .inl { blank with stage := some s, template := if draft then none else some t, map := stagedMap m base d q.shardCount
                                  platforms := if draft then [] else ps }
  | .modeSet q =>
    let d := q.descriptor % 16
    let positions := if bit q.flags 4 then q.stepPositions else b.mdl.stepPositions
    let ps := b.dsp.platforms.map fun x => x.2.entry
    let tf := if bit q.flags 0 then tcheck d q.templateCrc positions ps
      else if bit q.flags 4 then
        match b.mdl.template with
        | some t => templateFault t.nodes.length true t positions ps (b.modelsWith d)
        | none => none
      else none
    let vocab := ((Tab.get? d b.mdl.active).map fun x => x.load.vocabSize).getD 0
    let mf := if bit q.flags 1 then mcheck d q.shardCount q.mapCrc vocab else none
    match tf.orElse fun _ => mf with
    | some f => .inr f
    | none => .inl { blank with template := if bit q.flags 0 then some t else none
                                map := if bit q.flags 1 then stagedMap m base d q.shardCount else [] }
  | _ => .inl blank

/-- The images in the staging area are read (R338, R359): the template with n nodes, the map of a descriptor with k entries, the
platform map. -/
def Block.readStaged (b : Block) (template : Option Nat) (map : Option (Nat × Nat)) (platforms : Bool) (use : MemRead) : Block :=
  let base := b.mdl.stageBase
  let b := match template with
    | some n => b.ask 61 base (256 + 32 * n) use
    | none => b
  let b := match map with
    | some (d, k) => b.ask 61 (mapStage base d) (16 * k) use
    | none => b
  if platforms then b.ask 61 (base + 0x102000) 32768 use else b

/-- The copy that an instance makes of the images a proposal takes (R232, R359). -/
def Block.readProposal (b : Block) (p : Params) (st : StagedProposal) : Block :=
  let d := match p with
    | .modelLoad q => q.descriptor % 16
    | .modeSet q => q.descriptor % 16
    | _ => 0
  b.readStaged (st.template.map fun t => t.nodes.length) (if st.map.isEmpty then none else some (d, st.map.length))
    (!st.platforms.isEmpty) .staged

end Sys2Proof.Machine
end

