-- ==== Sys2Proof/Machine/Takeover.lean ====
section
/-! DEFINITION. The lead timer and the takeover of the lead role (R235 to R240), proposals on every instance (R231 to
R233), loss reports, links and endpoints (R243 to R246, R346, R426, R427). -/

namespace Sys2Proof.Machine
open Sys2Proof

/-! ### The lead timer (R235, R236) -/

/-- Succession distance of this instance: ranks upward from the lead, barred ranks skipped. -/
def Block.succession (b : Block) : Option Nat :=
  let order := ((List.range (b.cp.n - 1)).map fun k => (b.cp.leadRank + k + 1) % b.cp.n).filter fun r => !b.cp.barred.contains r
  (order.findIdx? fun r => r == b.cp.rank).map (· + 1)

/-- The lead timer starts at the lead-independent completion of the step, on an idle group IDLE_INTERVAL after the last
agreement, be that junction's digest still to come; a log wanted is asked for from there (R224). Before the first junction of a group that
stands idle no agreement has been, and the timer does not start (DESIGN CHOICE, log entry 124). -/
def Block.startLeadTimer (b : Block) : Block :=
  if b.isLead || !b.running || b.cp.leadTimer.isSome then b else
  let at_ := if b.consistNow.rows.isEmpty then (if b.cp.firstJunction then none else some (b.cp.agreedAt + b.mdl.idleInterval))
    else if b.cp.complete && b.workDone then some b.now else none
  match at_ with
  | none => b
  | some s => { b with cp := { b.cp with leadTimer := some s, logAskedAt := b.cp.logAskedAt.orElse fun _ => some s } }

/-- The time between two ranks of the succession (R235), in ns. -/
def leadMissNs : Nat := 200000

/-- The time of R238, in ns. -/
def takeoverNs : Nat := 250000

/-- The lead has missed the next junction, at this instance's distance (R235). -/
def Block.leadMissed (b : Block) : Bool :=
  match b.cp.leadTimer, b.succession with
  | some s, some d =>
    !b.isLead && b.running && decide (b.now ≥ s + b.cp.leadLimit + d * leadMissNs) && b.cp.log.isNone &&
    !Tab.has b.cp.leadRank b.cp.ready && b.cp.collect.isNone && b.fab.query.isNone
  | _, _ => false

/-- LEAD_TIMER_EXPIRY: the lead's endpoint is queried (R236, R346). -/
def Block.leadTimerExpiry (b : Block) : Block :=
  if !b.leadMissed then b
  else { b with fab := { b.fab with query := some (b.cp.leadRank, b.now) } }.emit (.endpointQuery b.cp.leadRank)

/-- ENDPOINT_RESPONSE (R236, R346); an answer with no query open is ignored. -/
def Block.endpointAnswer (b : Block) (alive : Bool) : Block :=
  match b.fab.query with
  | none => b
  | some (r, _) =>
    let b := { b with fab := { b.fab with query := none } }
    if !b.running then b
    else if alive then b.send none (.takeover (b.cp.applied + 1) (b.cp.term + 1) r b.cp.applied)
    else b.stop .leadLost srcCoupling [r]

/-! ### TAKEOVER (R237) -/

/-- Copies of the verdicts held for the step in flight: row and verdict. -/
def Block.verdictsHeld (b : Block) : List (Nat × Verdict) := b.gln.rows.filterMap fun g => g.2.verdict.map fun v => (g.1, v)

/-- The old lead's sequencing ends, and its ring writes not yet issued with it (R237, R240); a content staged for the open proposal goes at
junction J. -/
def Block.endLeadRole (b : Block) (lead term : Nat) : Block :=
  let c := b.cp
  let b := b.voidCommands
  { b with
    cp := { b.cp with
      staged := c.staged, stageLost := c.stageLost, stagedNext := c.stagedNext, collect := none, roleLost := some (lead, term) }
    mp := { b.mp with writeWait := b.mp.writeWait.filter fun w => !w.ring } }

/-- The new term is adopted; old-term logs and READYs of the junction not agreed go, with what was instantiated from them. -/
def Block.adoptTerm (b : Block) (src term old : Nat) : Block :=
  { b with
    cp := { b.cp with
      term, leadRank := src, barred := if b.cp.barred.contains old then b.cp.barred else b.cp.barred ++ [old]
      log := none, parts := [], ready := [], sent := none, readySent := none, leadDigest := none, digests := []
      leadTimer := some b.now, leadLimit := takeoverNs, logAskedAt := some b.now }
    dsp := { b.dsp with next := b.dsp.next.filter fun x => x.junction ≤ b.cp.applied }
    fab := { b.fab with query := none } }

/-- The group cap a new lead goes on from: the CAP_SET of the highest SEQ seen (R273). -/
def Power.takeCaps (p : Power) : Power :=
  let last := p.waiting.foldl (fun (m : Nat × Nat × Nat) w => if w.1 > m.1 then w else m) (p.appliedSeq, p.groupCap, p.setEffective)
  { p with reports := [], setSeq := max p.setSeq last.1, setCap := last.2.1, setEffective := last.2.2 }

/-- The sequencer's view of a reused log (R240, R292). -/
def Block.adoptLog (b : Block) (l : JLog) : Block :=
  let ts := l.tickets.filter fun t => match t with
    | .deferral .. => true
    | .admission .. => false
  let next := ts.foldl (fun n t => match t with
    | .deferral k .. => if k = 4294967295 then 1 else k + 1
    | .admission .. => n) b.seq.nextTicket
  { b with seq := { b.seq with
      cmds := l.commands.map fun c => { junction := l.junction, cmd := c, size := (cmdRecordBytes c).length }
      tickets := ts.map fun t => (l.junction, t), nextTicket := next } }

/-- The instance becomes the lead: it keeps a complete log of the old term, and collects (R238, R239). -/
def Block.beginLeadRole (b : Block) (old : Nat) (log : Option JLog) : Block :=
  let b := { b with
    cp := { b.cp with logAskedAt := none, leadTimer := none
                      collect := some { sentAt := b.now, oldLead := old, junction := b.cp.applied + 1, acks := [], copies := [] } }
    seq := { b.seq with takeover := some old, reuse := log, nextTicket := b.gr.nextTicket }
    gln := { b.gln with since := b.now }
    pwr := b.pwr.takeCaps }
  let b := match log with
    | some l => b.adoptLog l
    | none => b
  if b.cp.complete then b else b.completeJunction

/-- Loss reports go to the lead again. -/
def Block.sendReports (b : Block) (due : Nat → Bool) : Block :=
  let rs := b.flt.reports.filter fun r => due r.2
  let b := { b with flt := { b.flt with reports := b.flt.reports.map fun r => if due r.2 then (r.1, b.now) else r } }
  rs.foldl (fun (b : Block) r => b.send (some b.cp.leadRank) (.lossReport b.epochHead r.1)) b

/-- TAKEOVER received (R221, R237): the report of C_loc goes to the new lead again (R272), and until its first CAP_SET the group cap stays
(R273). -/
def Block.takeoverIn (b : Block) (src junction term old : Nat) : Block :=
  if !b.running then b
  else if term < b.cp.term then b.count 22
  else if term = b.cp.term then b
  else
    let me := src == b.cp.rank
    let kept := if me then b.cp.log.filter fun l => l.leadTerm == b.cp.term && l.junction == b.cp.applied + 1 else none
    let b := if b.isLead || b.cp.collect.isSome then b.endLeadRole src term else b
    let b := b.adoptTerm src term old
    let b := if me then b.beginLeadRole old kept else b
    let b := { b with pwr := { b.pwr with waiting := [] } }
    let vs := if me then [] else b.verdictsHeld
    let b := vs.foldl (fun (b : Block) v => b.send (some src) (.gleanVerdict v.1 b.consistNow.step v.2)) b
    let b := b.send (some src) (.takeoverAck junction term b.cp.applied vs.length)
    b.sendCapReport.sendReports fun _ => true

/-- TAKEOVER_ACK (R238). -/
def Block.takeoverAckIn (b : Block) (src term copies : Nat) : Block :=
  b.inTerm term fun b =>
    match b.cp.collect with
    | some c => if Tab.has src c.acks || src ≥ b.cp.n then b
      else { b with cp := { b.cp with collect := some { c with acks := Tab.set src copies c.acks } } }
    | none => b

/-- Every ACK and every copy counted is held (R238). -/
def Block.collected (b : Block) : Bool :=
  match b.cp.collect with
  | some c => (List.range b.cp.n).all fun r => (Tab.get? r c.acks).any fun k => k ≤ Tab.getD r 0 c.copies
  | none => false

/-- Event ring entries of the last junction are written again (R239). -/
def Block.rewriteEvents (b : Block) : Block :=
  b.gr.lastEvents.foldl (fun (b : Block) e => b.write e.1 (eventBytes e.2.1 e.2.2.1 e.2.2.2) 0 none true) b

/-- The collection is complete: verdicts are sent again, open rows decided, the events rewritten (R238, R239). -/
def Block.endCollect (b : Block) : Block :=
  if !b.collected then b else
  let b := { b with cp := { b.cp with collect := none }, seq := { b.seq with written := [], ringWrites := [] } }
  let b := b.verdictsHeld.foldl (fun (b : Block) v => b.send none (.gleanVerdict v.1 b.consistNow.step v.2)) b
  let b := b.rewriteEvents
  let b := if b.seq.reuse.isSome then b else b.selectUnits
  let b := (b.sendDigest none).groupCapDue
  (Tab.keys b.gln.rows).foldl (fun (b : Block) r => b.gleanAdvance r) b

/-- TAKEOVER_TIMEOUT (R238). -/
def Block.takeoverTimeout (b : Block) : Block :=
  match b.cp.collect with
  | some c => if b.running && b.now ≥ c.sentAt + takeoverNs then b.stop .takeoverTimeout srcCoupling [c.junction] else b
  | none => b

/-! ### Proposals (R231 to R233) -/

/-- Whether a message's head is this term's. -/
def Block.epochIn (b : Block) (h : EpochHead) (k : Block → Block) : Block := b.inTerm h.leadTerm k

def Block.answerHead (b : Block) (h : EpochHead) : EpochHead := { h with source := b.cp.rank, leadTerm := b.cp.term }

/-- What PREPARED states of a load: MEM_AVAILABLE, PAGE_BYTES, W + STRAIN_POOL + X (R91, Table 12-14). -/
def Block.preparedSizes (b : Block) (st : StagedProposal) : Nat × Nat × Nat :=
  match st.params, st.stage with
  | .modelLoad q, some s => (s.memAvailable, s.pageBytes, b.fixedPart (b.loadFor q) s)
  | _, _ => (0, 0, 0)

/-- What a proposal stages is kept: in place of what was staged for its number, or behind one whose junction has not been applied. -/
def Block.holdStage (b : Block) (st : StagedProposal) : Block :=
  if b.cp.staged.all fun x => x.number == st.number || x.junction ≤ b.cp.applied then
    { b with cp := { b.cp with staged := some st, stageLost := false } }
  else { b with cp := { b.cp with stagedNext := some st } }

/-- PROPOSE (R232). -/
def Block.proposeIn (b : Block) (m : Memory) (src : Nat) (h : EpochHead) (c : CmdRecord) : Block :=
  b.epochIn h fun b =>
    if src != b.cp.leadRank then b else
    match b.stageContent m h.proposal h.junction h.epoch c.params with
    | .inl st =>
      let b := (b.holdStage { st with term := h.leadTerm }).readProposal c.params st
      let x := b.preparedSizes st
      b.send (some src) (.prepared (b.answerHead h) x.1 x.2.1 x.2.2)
    | .inr (status, detail) =>
      let st : StagedProposal := { number := h.proposal, junction := h.junction, epoch := h.epoch, params := c.params, stage := none
                                   template := none, map := [], platforms := [], prepared := false, term := h.leadTerm }
      (b.holdStage st).send (some src) (.refused (b.answerHead h) status detail)

/-- PREPARED (R231). -/
def Block.preparedIn (b : Block) (src : Nat) (h : EpochHead) (x : Nat × Nat × Nat) : Block :=
  b.epochIn h fun b =>
    match b.seq.proposal with
    | some p => if p.number != h.proposal || Tab.has src p.refused then b
      else { b with seq := { b.seq with proposal := some { p with prepared := Tab.set src x p.prepared } } }
    | none => b

/-- REFUSED (R231, R233). -/
def Block.refusedIn (b : Block) (src : Nat) (h : EpochHead) (status detail : Nat) : Block :=
  b.epochIn h fun b =>
    match b.seq.proposal with
    | some p => if p.number != h.proposal then b
      else { b with seq := { b.seq with
        proposal := some { p with refused := Tab.set src (status, detail) p.refused, prepared := Tab.erase src p.prepared } } }
    | none => b

/-- Staged content is lost after PREPARED: REFUSED while the decision is open; Buffer Stop once the log in hand commits it
(R233). -/
def Block.loseStage (b : Block) : Block :=
  match b.cp.staged with
  | some st =>
    let b := { b with cp := { b.cp with stageLost := true } }
    let decided := b.cp.applied + 1 ≥ st.junction && b.cp.log.any fun l => l.junction == st.junction
    if !b.running then b
    else if decided then (b.cp.log.map b.checkStage).getD b
    else b.send (some b.cp.leadRank) (.refused { b.epochHead with proposal := st.number, epoch := st.epoch, junction := st.junction } 0x040A noDetail)
  | none => b

/-- An instance's power setup is staged content of the first main-model MODEL_LOAD (R483): the content is lost where a rail that it
needs is no longer set up (log entry 122). -/
def Block.watchStage (b : Block) : Block :=
  match b.cp.staged with
  | some st => match st.params with
    | .modelLoad q =>
      if st.prepared && !b.cp.stageLost && !isDraftLoad q && b.cp.epoch == 0 && b.powerMissing st.platforms then b.loseStage else b
    | _ => b
  | none => b

/-! ### Loss reports (R426, R427) -/

/-- LOSS_REPORT at the lead. -/
def Block.lossReportIn (b : Block) (h : EpochHead) (r : LossReport) : Block :=
  b.epochIn h fun b =>
    if !b.isLead then b
    else if r.bankReport then { b with seq := { b.seq with banks := b.seq.banks ++ [r.bank] } }
    else if (b.byHandle r.handle).isNone then b
    else { b with seq := { b.seq with losses := b.seq.losses ++ [(r.handle, r.cause)] } }

/-- LOSS_REPORT_RESEND (R426). -/
def Block.lossReportResend (b : Block) : Block :=
  if b.running then b.sendReports fun t => b.now ≥ t + resendNs else b

/-! ### Links (R243 to R245) -/

/-- The routes of this instance that cross a link and were in service. -/
def Block.routesOver (b : Block) (link : Nat) : List (Nat × Nat) :=
  b.peers.flatMap fun d => ((List.range 4).filter fun r => b.routeUp d r && ((b.routeLinks d r).getD []).contains link).map fun r => (d, r)

/-- A link fails, by a report at `time` or a LINKMAP that gives it (R243, R244, R345, R476). -/
def Block.linkFails (b : Block) (link time : Nat) : Block :=
  if b.fab.linksOut.contains link then b else
  let gone := b.routesOver link
  let b := { b with fab := { b.fab with linksOut := b.fab.linksOut ++ [link], linkAt := Tab.set link b.now b.fab.linkAt } }
  let b := b.logRec srcFabric 0x0120 2 [link, gone.length]
  let b := if b.cp.state == GroupState.forming then b else b.send none (.linkmap link b.cp.rank time)
  if b.running && gone.any fun x => (b.lowRoute x.1).isNone then b.stop .routeLost srcCoupling [link] else b

end Sys2Proof.Machine
end

