-- ==== Sys2Proof/Machine/Formation.lean ====
section
/-! DEFINITION. Formation of the group: fresh, warm and cold (R435 to R441, R479 to R481). -/

namespace Sys2Proof.Machine
open Sys2Proof

/-! ### Reports (R435, R479, R480) -/

/-- FORM_REPORT of this instance. -/
def Block.ownReport (b : Block) (f : Formation) : FormReport :=
  if f.fresh then
    { source := b.cp.rank, highestTerm := b.cp.term, epoch := b.cp.epoch, junction := 0, recoverId := f.recoverId, n := b.cp.n
      resumeHint := 0, oldState := false, lastDigest := 0, barred := b.cp.barred }
  else
    { source := b.cp.rank, highestTerm := b.cp.term, epoch := b.cp.epoch, junction := b.cp.applied, recoverId := f.recoverId
      n := b.cp.n, resumeHint := if f.former.cold then 2 else 1, oldState := true, lastDigest := b.cp.digest, barred := b.cp.barred }

def Block.setForm (b : Block) (g : Formation → Formation) : Block := { b with form := b.form.map g }

def Block.sendReport (b : Block) : Block :=
  match b.form with
  | none => b
  | some f => (b.setForm fun f => { f with sentAt := b.now }).send none (.formReport (b.ownReport f))

/-- The first junction of the group has been applied here. -/
def Block.firstApplied (b : Block) (f : Formation) : Bool := f.committed && f.result.any fun r => b.cp.applied ≥ r.firstJunction

/-- FORM_REPORT_REPEAT: until the first junction of the group has been applied. -/
def Block.formReportRepeat (b : Block) : Block :=
  match b.form with
  | none => b
  | some f => if b.now ≥ f.sentAt + resendNs && !b.firstApplied f && !b.unfit then b.sendReport else b

/-- The kind, lead and term of the group (R480). While a rank with OLD_STATE reports one junction less than another, there is no result:
that rank applies the junction's log, which it holds, and reports again (R435). -/
def formResult (n recoverId : Nat) (reports : Table FormReport) : Option (FormCommit × List Nat) :=
  if n = 0 || !((List.range n).all fun r => Tab.has r reports) then none else
  let rs := (List.range n).filterMap fun r => (Tab.get? r reports).map fun x => (r, x)
  let union := (rs.flatMap fun x => x.2.barred).eraseDups
  let commit := fun (kind first term lead : Nat) (barred : List Nat) =>
    some (({ source := lead, recoverId, n, resumeKind := kind, firstJunction := first, leadTerm := term, leadRank := lead } : FormCommit), barred)
  let olds := rs.filter fun x => x.2.oldState
  let last := olds.foldl (fun m x => max m x.2.junction) 0
  if olds.any fun x => x.2.junction + 1 == last then none else
  let term := rs.foldl (fun m x => max m x.2.highestTerm) 0 + 1
  let choose := fun (cands : List Nat) => match cands.find? fun r => !union.contains r with
    | some r => (r, union)
    | none => (cands.headD 0, union.filter fun r => r != cands.headD 0)
  match olds, rs with
  | [], _ => commit 0 1 1 0 []
  | _, [] => none
  | _ :: _, (_, first) :: _ =>
    if olds.length == n && rs.all fun x => x.2.junction == first.junction && x.2.lastDigest == first.lastDigest && x.2.resumeHint == 1 then
      let c := choose (List.range n)
      commit 1 (first.junction + 1) term c.1 c.2
    else
      let c := choose ((olds.filter fun x => x.2.junction == last).map (·.1))
      commit 2 (last + 1) term c.1 c.2

/-! ### The roster (R438, R439) -/

def transcriptCrc (ts : List (Bool × Nat)) : Nat := crc64 (ts.flatMap storedToken)

/-- The roster of the chosen lead (Table 16-7). -/
def Block.rosterOut (b : Block) : List RosterEntry :=
  (b.gr.entries.filter fun x => x.2.state != .free).map fun x =>
    let e := x.2
    { handle := e.handle, state := e.state.code, endReason := e.endReason, flags := flagsCode e.flags {}, granule := e.granule
      transcriptLen := e.transcriptLen, genCount := e.genCount, emitCount := e.emitCount, tokenProd := e.tokenProd
      tokenCons := e.tokenCons, eventProd := e.eventProd, eventCons := e.eventCons, admitTime := e.admitTime
      nextDeadline := e.nextDeadline, deadlinesMissed := e.deadlinesMissed, lostCount := e.lostCount
      eventsDropped := e.eventsDropped, strainVersion := e.strainVersion
      transcriptCrc := transcriptCrc ((b.transcript e).take e.transcriptLen) }

def reqStates : List ReqState :=
  [.free, .admitting, .queued, .prefill, .decode, .siding, .waking, .draining, .done, .lost, .rebuild, .fwtracked]

def stateOf (code : Nat) : ReqState := reqStates.getD code .free

def flagsOf (x : Nat) : EntryFlags :=
  { rebuilt := bit x 4, fromFwtrack := bit x 5, penaltyOvf := bit x 6, specPlain := bit x 7, specEn := bit x 8, strainEn := bit x 9
    voiceReserve := bit x 10, inputOpen := bit x 11, autoFree := bit x 12 }

/-- An entry from the roster; what it does not carry comes from the admission record, as R52 takes it. -/
def Block.fromRoster (b : Block) (x : RosterEntry) : Entry :=
  let e : Entry :=
    { handle := x.handle, granule := x.granule, transcriptLen := x.transcriptLen, genCount := x.genCount, emitCount := x.emitCount
      tokenProd := x.tokenProd, tokenCons := x.tokenCons, eventProd := x.eventProd, eventCons := x.eventCons, admitTime := x.admitTime
      nextDeadline := x.nextDeadline, deadlinesMissed := x.deadlinesMissed, eventsDropped := x.eventsDropped
      strainVersion := x.strainVersion, transcriptCap := ((b.region x.granule).map (·.cap)).getD 0 }
  let e := match b.region x.granule with
    | some r => rebuiltEntry b.mdl.spec e r
    | none => e
  { e with state := stateOf x.state, endReason := x.endReason, flags := flagsOf x.flags, lostCount := x.lostCount
           effectivePrio := baseLevel e.classPrio }

/-- This instance's transcript of a roster entry fails its check (R439). -/
def Block.rosterBad (b : Block) (x : RosterEntry) : Bool := match b.region x.granule with
  | none => true
  | some r => r.tokens.length < x.transcriptLen || transcriptCrc (r.tokens.take x.transcriptLen) != x.transcriptCrc

/-! A spare instance of a cold resume: what the integrator has copied into its device memory (R440) -/

def samplingAt (m : Memory) (a : Nat) : Sampling :=
  let f := fun i => BitVec.ofNat 32 (memReadLe m (a + 4 * i) 4)
  { temperature := f 0, topP := f 1, minP := f 2, repetition := f 3, presence := f 4, frequency := f 5
    topK := memReadLe m (a + 24) 2, sampleMode := memReadLe m (a + 26) 1 }

/-- A transcript region with its admission record and the first `len` entries, or as many as the admission brought (R41, R42, R59, R300). -/
def regionAt (m : Memory) (a : Nat) (len : Option Nat) : Region :=
  let n := fun o k => memReadLe m (a + o) k
  let fixed := samplingAt m (a + 32)
  let record : AdmitParams :=
    { tenant := n 0 2, classPrio := n 2 1, models := n 3 1, deadlineMode := n 4 1, admitFlags := n 6 2, strain := n 8 2
      cadencePeriod := n 12 4, deadline := n 16 8, seed := n 24 8, sampling := { fixed with topK := n 10 2, sampleMode := n 5 1 }
      stopToken := n 56 4, maxGen := n 60 4, maxContext := n 64 4, inputCount := n 68 4, tokenRing := n 72 8, eventRing := n 80 8
      input := [] }
  let cap := transcriptCapOf record.maxContext
  { granules := regionGranules cap, cap, record, ownerSession := n 88 1, setCount := n 96 4, setSampling := samplingAt m (a + 104)
    inputClosed := bit (n 100 4) 0, fromFwtrack := bit (n 100 4) 1
    tokens := (List.range (len.getD record.inputCount)).map fun i =>
      let x := n (256 + 4 * i) 4
      (bit x 24, x % 16777216) }

/-- A Granary entry of the bank save area (Table 02-1), which holds no pages. -/
def entryAt (m : Memory) (pool a : Nat) : Entry :=
  let n := fun o k => memReadLe m (a + o) k
  { handle := n 0 4, state := stateOf (n 4 1), endReason := n 5 1, flags := flagsOf (n 6 2), tenant := n 8 2, classPrio := n 10 1
    effectivePrio := n 11 1, models := n 12 1, deadlineMode := n 13 1, strain := n 14 2, admitTime := n 16 8, nextDeadline := n 24 8
    cadencePeriod := n 32 4, deadlinesMissed := n 36 2, committedLen := n 40 4, transcriptLen := n 44 4, genCount := n 48 4
    maxGen := n 52 4, emitCount := n 56 4, specTailLen := n 60 2, treeWidth := n 62 1, treeDepth := n 63 1, tier := n 126 1
    sidingExpiry := n 128 8, granule := (n 136 8 - pool) / 4096, transcriptCap := n 144 4, strainVersion := n 148 2, seed := n 152 8
    sampling := samplingAt m (a + 160), stopToken := n 188 4, acceptEma := n 200 2, zeroAcceptRun := n 202 1, probeCountdown := n 203 1
    stepsVerified := n 204 4, tokensAccepted := n 208 4, lostCount := n 212 2, tokenRing := n 216 8, tokenProd := n 224 4
    tokenCons := n 228 4, eventRing := n 232 8, eventProd := n 240 4, eventCons := n 244 4, ownerSession := n 248 1
    eventsDropped := n 250 2, lastJunction := n 252 4 }

/-- The firmware queue from a place on, up to one with TICKET and KIND 0, with the region of each entry (Table 15-12). -/
def fwQueueAt (m : Memory) (pool queue save : Nat) : Nat → Nat → List (FwEntry × Region)
  | 0, _ => []
  | k + 1, i =>
    let n := fun o k => memReadLe m (queue + 64 * i + o) k
    if n 0 4 = 0 && n 27 1 = 0 then [] else
    let moved := if n 27 1 = 1 then some (entryAt m pool (save + 256 * (n 28 4 % 2048))) else none
    let f : FwEntry := { ticket := n 0 4, session := 0, acceptTime := n 8 8, granule := (n 16 8 - pool) / 4096, strainVersion := 0, moved }
    let r := regionAt m (n 16 8) (moved.map (·.transcriptLen))
    ({ f with session := r.ownerSession }, r) :: fwQueueAt m pool queue save k (i + 1)

/-- An instance without old state that joins a cold resume takes the transcripts of the roster and the firmware queue from the areas at
the CTL_BASE that it has staged (R440; DESIGN CHOICE, log entry 100: of several descriptors the lowest). -/
def Block.adopt (b : Block) (m : Memory) (roster : List RosterEntry) : Block :=
  match b.mdl.staged with
  | [] => b
  | (_, p) :: _ =>
    let pool := Config.structBase 3 p.ctlBase
    let queue := fwQueueAt m pool (Config.structBase 8 p.ctlBase) (Config.structBase 9 p.ctlBase) 65536 0
    let own := roster.map fun x => (x.granule, regionAt m (pool + 4096 * x.granule) (some x.transcriptLen))
    { b with gr := { b.gr with
        regions := Tab.ofList (own ++ queue.map fun x => (x.1.granule, x.2)), fwQueue := queue.map (·.1) } }

/-- The Granary as the roster gives it (R438). -/
def Block.takeRoster (b : Block) (roster : List RosterEntry) : Block :=
  let held := (roster.map (·.granule)) ++ b.gr.fwQueue.map (·.granule)
  let gr := b.gr
  { b with gr := { gr with
      entries := Tab.ofList (roster.map fun x => (slotOf x.handle, b.fromRoster x))
      tags := roster.foldl (fun t x => Tab.set (slotOf x.handle) (tagOf x.handle) t) gr.tags
      side := Tab.ofList (roster.map fun x => (slotOf x.handle, ({ ended := stateOf x.state == .done } : ReqSide)))
      regions := (gr.regions.filter fun p => held.contains p.1).map fun p =>
        match roster.find? fun x => x.granule == p.1 with
        | some x => (p.1, { p.2 with tokens := p.2.tokens.take x.transcriptLen })
        | none => p
      slabs := [], results := [], losses := [], walks := [] } }

/-! ### The lag of one junction (R435) -/

/-- A rank reports the junction after the last one applied here, and its log is held: it is applied with the READYs held, with all that
follows the application of a log on every instance. -/
def Block.closeLag (b : Block) (junction : Nat) : Block :=
  match b.cp.log, b.cp.sent with
  | some l, some own =>
    if junction != b.cp.applied + 1 || l.junction != junction then b else
    let rs := own :: Tab.vals b.cp.ready
    let a := rs.foldl (fun m r => max m r.doneTime) 0
    let before := b
    let b := b.applyLog l a ((minBy before32 (rs.map (·.moveSeq))).getD b.pg.nextMoveSeq)
    let b := { b with cp := { b.cp with ready := [], sent := none, readySent := none, lastReady := some own, stepDone := none, complete := false } }
    (b.logEffects before l a).sendReport
  | _, _ => b

/-! ### FORM_COMMIT (R480, R481) -/

/-- Copy items that have not completed stand in the queues again, open moves in MOVE_SEQ order (R437). The compactions of the aborted run go:
the step that runs again queues its own. Copies on append, which the junction queued and the step does not, stay. -/
def Block.requeueCopies (b : Block) : Block :=
  let queued := b.dsp.runs.filter fun r => r.copy.isSome
  let open_ := b.dsp.openItems.filterMap fun o => o.copy.map fun c =>
    ({ level := o.level, cls := o.cls, arrival := 0, node := o.node, items := [o.item], copy := some c, gang := false, reserved := []
       reissue := false, left := [], issues := 0, since := b.now } : Run)
  let all := (queued ++ open_).filter fun r => !(r.copy.any fun c => c.kind == 2)
  let seqOf := fun (r : Run) => (r.copy.bind fun c => c.seq).getD 0
  let moves := sortBy (fun (x y : Run) => before32 (seqOf x) (seqOf y)) (all.filter fun r => (r.copy.bind fun c => c.seq).isSome)
  let runs := (all.filter fun r => (r.copy.bind fun c => c.seq).isNone) ++ moves
  let runs := ((List.range runs.length).zip runs).map fun x => { x.2 with arrival := x.1, reissue := false, reserved := [] }
  { b with dsp := { b.dsp with runs, arrival := runs.length } }

/-- The units' step state restarts. -/
def Block.clearStep (b : Block) : Block :=
  { b with
    dsp := { b.dsp with current := none, next := none, nextInsert := 0, stook := [], readyWait := [], openItems := [], oldTags := []
                        platforms := b.dsp.platforms.map fun p => (p.1, { p.2 with items := [] }) }
    thr := { b.thr with contexts := [], closed := [], shadows := [], slabBad := [], skid := [] }
    mp := { b.mp with asks := b.mp.asks.filter fun x => x.stream ≥ 48 }
    gln := { b.gln with rows := [], asked := [], since := 0 }
    gr := { b.gr with results := [] }
    obs := { b.obs with stepBins := [] }
    trees := [], pwr := { b.pwr with barrier := none } }

/-- The buffer of a step from its log (R437), in place as the current one. -/
def Block.bufferFor (b : Block) (l : JLog) : Block :=
  let x := { b with cp := { b.cp with log := some l } }.instantiate.dsp.next
  { b with dsp := { b.dsp with current := x.map Buffer.begun, nextInsert := (x.map Buffer.firstNode).getD 0 } }.prefetch

/-- The Coupling Unit as formation leaves it. -/
def Block.formCoupling (b : Block) (c : FormCommit) (barred : List Nat) : Block :=
  let b := b.voidCommands
  { b with
    cp := { b.cp with
      term := c.leadTerm, leadRank := c.leadRank, barred, complete := true, leadDigest := none
      digests := (List.range b.cp.n).map fun r => (r, b.cp.digest), firstJunction := true, stepDone := none, leadTimer := none, leadLimit := 0
      ready := [], readySent := none, sent := none, lastReady := none, log := none, parts := [], logAskedAt := none
      collect := none, staged := none, stageLost := false, stagedNext := none }
    flt := { b.flt with own := none, group := none, cold := false, sweep := [] }
    fab := { b.fab with query := none } }

/-- The result takes effect on this instance: fresh, warm or cold (R437, R438, R480, R481). -/
def Block.commitForm (b : Block) (m : Memory) (f : Formation) (c : FormCommit) (barred : List Nat) : Block :=
  let sweep := b.flt.sweep
  let b := (b.setForm fun f => { f with committed := true }).formCoupling c barred
  let b :=
    if c.resumeKind = 1 then
      let b := b.requeueCopies.clearStep
      match b.cp.prevLog with
      | some l => (b.bufferFor l).writeConsist l.consist
      | none => { b with cp := { b.cp with stepDone := some b.now } }
    else if c.resumeKind = 2 then
      let b := { b with dsp := { b.dsp with runs := [] } }.clearStep
      let b := (if f.fresh then b.adopt m f.roster else b).takeRoster f.roster
      { b with cp := { b.cp with
          applied := c.firstJunction - 1, prevLog := none, stepDone := some b.now
          epoch := ((Tab.get? c.leadRank f.reports).map (·.epoch)).getD b.cp.epoch } }
    else
      { b with cp := { b.cp with applied := 0, epoch := 0, prevLog := none, stepDone := some b.now, agreedAt := b.now }
               gr := { b.gr with nextTicket := 1 }, seq := { b.seq with nextTicket := 1 } }
  let b := if c.resumeKind = 2 then (f.roster.filter fun x => b.rosterBad x).foldl (fun (b : Block) x => b.lose x.handle 5) b else b
  let b := if c.resumeKind = 1 then sweep.foldl (fun (b : Block) s =>
      match Tab.get? s b.gr.entries with
      | some e => b.lose e.handle 1
      | none => b) b else b
  if b.isLead && c.resumeKind != 0 then b.selectUnits else b

/-- A commit held is taken when it equals the result; a differing one is discarded. -/
def Block.tryCommit (b : Block) (m : Memory) : Block :=
  match b.form with
  | none => b
  | some f =>
    match formResult b.cp.n f.recoverId f.reports, f.held with
    | some (r, barred), some c =>
      if f.committed then b
      else if c = r then b.commitForm m f c barred
      else b.setForm fun f => { f with held := none }
    | _, _ => b

/-- The chosen lead broadcasts the roster for a cold resume, 64 entries a message, then FORM_COMMIT (R479, R480). Their LEAD_TERM is
the term it holds as it sends them (Table 12-14; log entry 59). -/
def Block.announce (b : Block) (c : FormCommit) : Block :=
  let es := if c.resumeKind = 2 then b.rosterOut else []
  let b := (chunk64 es.length es).foldl (fun (b : Block) g => b.send none (.roster b.cp.term c.recoverId es.length g)) b
  b.send none (.formCommit b.cp.term c)
where
  chunk64 : Nat → List RosterEntry → List (List RosterEntry)
    | 0, _ => []
    | n + 1, l => if l.isEmpty then [] else l.take 64 :: chunk64 n (l.drop 64)

/-- The result is worked out anew when a report comes; the chosen lead announces a new one. -/
def Block.workOut (b : Block) (m : Memory) : Block :=
  match b.form with
  | none => b
  | some f =>
    if f.committed then b else
    let r := (formResult b.cp.n f.recoverId f.reports).map (·.1)
    if r = f.result then b.tryCommit m
    else
      let b := b.setForm fun f => { f with result := r }
      match r with
      | some c => (if c.leadRank = b.cp.rank then b.announce c else b).tryCommit m
      | none => b

/-- A formation message is this formation's (R480); another is discarded and counted. An instance whose DIAG is FAIL takes none (R474). -/
def Block.formIn (b : Block) (recoverId n : Nat) (k : Block → Block) : Block :=
  match b.form with
  | none => b
  | some f => if b.unfit then b else if f.recoverId = recoverId && n = b.cp.n then k b else b.count 22

/-- FORM_REPORT. -/
def Block.formReportIn (b : Block) (m : Memory) (src : Nat) (r : FormReport) : Block :=
  b.formIn r.recoverId r.n fun b =>
    if src ≥ b.cp.n then b else
    let b := if r.oldState && (b.form.any fun f => !f.fresh && !f.committed) then b.closeLag r.junction else b
    (b.setForm fun f => { f with reports := Tab.set src r f.reports }).workOut m

/-- FORM_COMMIT. -/
def Block.formCommitIn (b : Block) (m : Memory) (src : Nat) (c : FormCommit) : Block :=
  b.formIn c.recoverId c.n fun b =>
    if b.form.any fun f => f.committed then b
    else (b.setForm fun f => { f with held := some { c with source := src } }).tryCommit m

/-- ROSTER (R438). -/
def Block.rosterIn (b : Block) (recoverId : Nat) (es : List RosterEntry) : Block :=
  b.formIn recoverId b.cp.n fun b =>
    b.setForm fun f =>
      if f.committed then f
      else { f with roster := (f.roster.filter fun x => !(es.any fun e => e.handle == x.handle)) ++ es }

/-! ### RECOVER (R434, R435) and FORMATION_TIMEOUT (R441, R481) -/

/-- Banks that the sweep passed return; their slots join the tail of the free list (R29, R62, R435). -/
def Block.returnBanks (b : Block) : Block :=
  let ok := b.gr.banksOut.filter fun k => !(b.flt.sweep.any fun s => s / 2048 == k)
  let slots := (sortNat ok).flatMap fun k => ((List.range 2048).map fun i => k * 2048 + i).filter fun s => !Tab.has s b.gr.entries
  { b with gr := { b.gr with
      banksOut := b.gr.banksOut.filter fun k => !ok.contains k
      freeList := slots.foldl (fun (r : Runs) s => Runs.pushTail s r) b.gr.freeList } }

/-- An accepted RECOVER of session s. -/
def Block.beginFormation (b : Block) (s recoverId : Nat) (returnBanks clearBarred : Bool) : Block :=
  let b := { b with
    fab := { b.fab with parts := [] }
    form := some { recoverId, since := b.now, sentAt := b.now, fresh := b.cp.fresh, former := b.flt, reports := [], roster := []
                   result := none, held := none, committed := false, session := s, lost := 0, unrecoverable := 0 }
    cp := { b.cp with state := .forming, barred := if clearBarred then [] else b.cp.barred } }
  (if returnBanks then b.returnBanks else b).sendReport

/-- FORMATION_TIMEOUT, 1 s after acceptance. -/
def Block.formationTimeout (b : Block) : Block :=
  match b.form with
  | none => b
  | some f =>
    if b.now < f.since + 1000000000 then b else
    let b := { b with form := none }
    let recover := fun (_ : Nat) (d : Deferred) => d.opcode == 0x0602
    if f.fresh then
      let b := { b.voidCommands with cp := { b.cp with
        term := 0, leadRank := 0, barred := [], applied := 0, digest := 0, complete := false, digests := [], firstJunction := true
        stepDone := none, ready := [], readySent := none, sent := none, lastReady := none, log := none, prevLog := none, parts := []
        leadDigest := none, leadTimer := none, logAskedAt := none, collect := none, staged := none, stagedNext := none, agreedAt := 0, stepEst := 0 } }
      b.postDeferred recover 0x0604 []
    else
      let b := { b.voidCommands with flt := b.flt.back f.former }
      { b with cp := { b.cp with state := .bufferStop } }.postDeferred recover 0x0601 []

end Sys2Proof.Machine
end

