-- ==== Sys2Proof/Machine/Sessions.lean ====
section
/-! DEFINITION. Sessions (chapters 11, 14 and 21): fetching a command and the checks 1 to 12 of Table 11-5, the handshake
of R386 and R387, key provision (R384, R385). -/

namespace Sys2Proof.Machine
open Sys2Proof

/-! ### The opcode table (Table 11-7) -/

def opOpen : Nat := 0x0001
def opConfirm : Nat := 0x0002

/-- Opcodes that only a secure session may use. -/
def secureOnly (op : Nat) : Bool :=
  [0x0006, 0x0101, 0x0103, 0x0104, 0x0105, 0x0106, 0x0107, 0x0108, 0x0301, 0x0302, 0x0303, 0x0401, 0x0402, 0x0403, 0x0404,
   0x0502, 0x0503, 0x0504, 0x0505, 0x0506, 0x0601, 0x0602, 0x0603].contains op

/-- Opcodes of scope GROUP. -/
def groupScope (op : Nat) : Bool :=
  [0x0101, 0x0104, 0x0105, 0x0106, 0x0107, 0x0108, 0x0201, 0x0202, 0x0203, 0x0204, 0x0205, 0x0206, 0x0207, 0x0208, 0x0401,
   0x0403, 0x0504].contains op

/-- Opcodes accepted in Buffer Stop (R295). -/
def stopAccepts (op : Nat) : Bool :=
  [0x0001, 0x0002, 0x0003, 0x0004, 0x0005, 0x0102, 0x0209, 0x0603, 0x0501, 0x0506, 0x0505, 0x0502, 0x0503, 0x0402, 0x0404,
   0x0602].contains op

def knownOpcode : Params → Bool
  | .other .. => false
  | _ => true

/-! ### Keys, MACs and proofs (R384, R386) -/

/-- The ASCII bytes of a text string. -/
def ascii (s : String) : List Byte := s.toList.map fun c => byteOf c.toNat

/-- K of a session: channel key s, or the key of the tenant it names. -/
def Block.keyFor (b : Block) (s tenant : Nat) : Option (List Byte) :=
  if secureSession s then Tab.get? s b.keys.channel else Tab.get? tenant b.keys.tenant

/-- MAC(packet) under a key. -/
def macOf (key : List Byte) (p : Packet) : List Byte := (hmac256 key (packetMacBytes p)).take 16

/-- CTX of R386. -/
def ctxOf (rank s major minor tenant : Nat) : List Byte :=
  le 2 rank ++ le 1 s ++ le 1 major ++ le 1 minor ++ zeros 1 ++ le 2 (if secureSession s then 0 else tenant)

def Block.ctx (b : Block) (s : Nat) : List Byte :=
  let x := b.session s
  ctxOf b.cp.rank s x.major x.minor x.tenant

def sessionKey (k hostNonce cheldoNonce ctx : List Byte) : List Byte :=
  hkdf256 (hostNonce ++ cheldoNonce) k (ascii "CHELDO SESSION" ++ ctx)

def cheldoProof (ks ctx : List Byte) : List Byte := hmac256 ks (ascii "CHELDO PROOF" ++ ctx)
def hostProof (ks ctx : List Byte) : List Byte := hmac256 ks (ascii "HOST PROOF" ++ ctx)

/-- WK of R384. -/
def wrapKey (ks : List Byte) (seq : Nat) : List Byte := hmac256 ks (ascii "CHELDO WRAP" ++ le 8 seq ++ [1])

/-! ### Session states (Table 14-4) -/

/-- The lockout of R387 in ns of time base. -/
def lockoutNs : Nat := 1000000000

/-- The time an OPENING session has for SESSION_CONFIRM. -/
def openingNs : Nat := 100000000

def Block.lockedOut (b : Block) (s : Nat) : Bool := (b.session s).lockedAt.any fun t => b.now < t + lockoutNs

/-- One more failure on a session; at 16 the lockout starts and is logged. -/
def Block.countFail (b : Block) (s : Nat) : Block :=
  let n := (b.session s).fails + 1
  if n ≥ 16 then
    (b.modSession s fun x => { x with fails := 0, lockedAt := some b.now }).logRec srcSecurity 0x0161 1 [s]
  else b.modSession s fun x => { x with fails := n }

/-- A session closes at once: KS is erased, and a command fetched and not yet accepted is refused (R385). -/
def Block.closeSession (b : Block) (s : Nat) : Block :=
  let b := b.reply s 0x0203
  b.modSession s fun x => { x with state := .closed, ks := [] }

/-- R385: every other session opened or opening under the key. -/
def Block.closeUnder (b : Block) (channel : Bool) (index but : Nat) : Block :=
  let hit := (Tab.keys b.ses).filter fun s => s != but && (b.session s).state != .closed &&
    (if channel then s == index else !secureSession s && (b.session s).tenant == index)
  hit.foldl Block.closeSession b

/-- SESSION_OPENING_TIMEOUT (R387). -/
def Block.openingTimeout (b : Block) (s : Nat) : Block :=
  let x := b.session s
  if x.state == .opening && b.now ≥ x.openedAt + openingNs then b.modSession s fun x => { x with state := .closed, ks := [] } else b

/-- SESSION_LOCKOUT_END (R387). -/
def Block.lockoutEnd (b : Block) (s : Nat) : Block :=
  match (b.session s).lockedAt with
  | some t => if b.now ≥ t + lockoutNs then b.modSession s fun x => { x with lockedAt := none } else b
  | none => b

/-! ### Checks 4 to 7 (Table 11-5, R387 to R389, R517, R518) -/

/-- SESSION_OPEN: the status of its refusal, and whether the refusal counts as a failure. -/
def Block.openRefusal (b : Block) (s : Nat) (p : Packet) (tenant major : Nat) : Option (Nat × Bool) :=
  let x := b.session s
  if x.state == .opened || x.state == .closing then some (0x0402, false)
  else if (x.state == .closed && b.lockedOut s) || !b.keys.drbgOk then some (0x0206, false)
  else match b.keyFor s tenant with
    | none => some (0x0207, false)
    | some k =>
      if macOf k p != p.mac then some (0x0201, true)
      else if p.seq != 0 then some (0x0202, false)
      else if p.version / 16 != major || major != 1 then some (0x0701, false)
      else none

/-- Checks 4 to 6 of every other command. -/
def Block.sessionRefusal (b : Block) (s : Nat) (p : Packet) (confirm : Bool) : Option Nat :=
  let x := b.session s
  if !(x.state == .opened || (confirm && x.state != .closed)) then some 0x0203
  else if macOf x.ks p != p.mac then some 0x0201
  else if p.seq != x.expected || x.expected ≥ 2 ^ 48 then some 0x0202
  else none

/-- Check 7 for a command of an open session (R518). -/
def Block.versionRefusal (b : Block) (s : Nat) (p : Packet) : Option Nat :=
  let x := b.session s
  if p.version / 16 != x.major then some 0x0701 else if p.version % 16 > x.minor then some 0x0702 else none

/-- The entries that a packet carries are as many as its counts and masks give (check 10). -/
def countsOk : Params → Bool
  | .reqAdmit p => p.input.length == p.inputCount
  | .reqAppend _ _ n ts => ts.length == n
  | .linkMap n rs => rs.length == n
  | .maintWindow n ls => ls.length == n
  | .platformMap _ n read es => es.length == (if read then 0 else n)
  | .powerCalibrate _ _ es => es.length == 64
  | .powerConfig p => p.groups.all fun g => g.length == 256
  | _ => true

/-- Checks 8 to 12. -/
def Block.scopeRefusal (b : Block) (s : Nat) (e : CmdEntry) (p : Packet) : Option Nat :=
  let op := opcodeOf p.params
  if !knownOpcode p.params then some 0x0101
  else if secureOnly op && !secureSession s then some 0x0204
  else if !countsOk p.params || p.paramLen != (paramBytes p.params).length || e.pktLen != 48 + p.paramLen then some 0x0102
  else if b.cp.state == .bufferStop && !stopAccepts op then some 0x0601
  else if groupScope op && (b.cp.state == .forming || !b.isLead) then some 0x0409
  else none

/-! ### COMMAND_FETCH (R281, R283, R286) -/

/-- Post the refusal of a command that was never accepted. -/
def Block.refuse (b : Block) (s : Nat) (e : CmdEntry) (op seq status : Nat) : Block := b.postReply s op seq e status [] 0 false

/-- The checks from 3 on, of a packet that was read. -/
def Block.checkPacket (b : Block) (s : Nat) (e : CmdEntry) (p : Packet) : Block :=
  let op := opcodeOf p.params
  let no := fun (b : Block) (st : Nat) => b.refuse s e op p.seq st
  let go := fun (b : Block) => match b.scopeRefusal s e p with
    | some st => no b st
    | none => b.modSession s fun x => { x with current := some { entry := e, pkt := p } }
  if p.session != s then no b 0x010F
  else match p.params with
    | .sessionOpen tenant major _ _ => match b.openRefusal s p tenant major with
      | some (st, counts) => no (if counts then b.countFail s else b) st
      | none => go b
    | q => match b.sessionRefusal s p (opcodeOf q == opConfirm) with
      | some st => no b st
      | none =>
        -- the SEQ is consumed whatever the later checks decide (R388)
        let b := b.modSession s fun x => { x with expected := x.expected + 1 }
        match b.versionRefusal s p with
        | some st => no b st
        | none => go b

/-- A log2 value that QUEUE_CFG takes (Table 13-4). -/
def logOk (n : Nat) : Bool := 4 ≤ n && n ≤ 12

/-- The entry of a session at its fetch index may be fetched (R281, R283, R353). -/
def Block.fetchDue (b : Block) (s : Nat) : Bool :=
  let x := b.session s
  decide (s < 256) && logOk x.cmdLog && logOk x.cplLog && x.cmdBase != 0 && x.cplBase != 0 && x.fetch != x.tail && x.cplFree != 0 &&
  x.current.isNone

/-- The address of the entry that a session fetches next (R281). -/
def Block.entryAddr (b : Block) (s : Nat) : Nat :=
  let x := b.session s
  x.cmdBase + x.fetch % x.cmdSize * 32

/-- A command queue entry as it stands in memory (Table 11-1); its reserved bytes are left as they are. -/
def cmdEntryBytes (e : CmdEntry) : List Byte := le 8 e.pktAddr ++ le 4 e.pktLen ++ le 4 e.replyMax ++ le 8 e.replyAddr

/-- The entry that stands at an address. -/
def cmdEntryAt (m : Memory) (a : Nat) : CmdEntry :=
  { pktAddr := memReadLe m a 8, pktLen := memReadLe m (a + 8) 4, replyMax := memReadLe m (a + 12) 4, replyAddr := memReadLe m (a + 16) 8 }

/-- What host software has written before a fetch: the entry at its place in the queue, and the packet (R281, R284). -/
def Block.fetchImage (b : Block) (s : Nat) (e : CmdEntry) (pkt : Option Packet) : List (Nat × List Byte) :=
  if !b.fetchDue s then [] else
  (match pkt with
    | some p => [(e.pktAddr, packetMacBytes p ++ p.mac)]
    | none => []) ++ [(b.entryAddr s, cmdEntryBytes e)]

/-- The next entry of a session's queue is fetched from memory and its packet checked; `pkt` is none where the packet could not be
read. A command that passes check 12 waits to be carried out; until then nothing more of the session is accepted. -/
def Block.fetch (b : Block) (m : Memory) (s : Nat) (pkt : Option Packet) : Block :=
  if !b.fetchDue s then b
  else
    let a := b.entryAddr s
    let e := cmdEntryAt m a
    let b := (b.modSession s fun x => { x with fetch := add32 x.fetch 1, reserved := x.reserved + 1 }).ask 60 a 32 .commandPacket
    if e.pktLen < 48 || e.pktLen > 262288 || e.pktAddr % 8 != 0 || e.replyAddr % 8 != 0 then b.refuse s e 0 0 0x0102
    else
      let b := b.ask 60 e.pktAddr e.pktLen .commandPacket
      match pkt with
      | none => b.refuse s e 0 0 0x0603
      | some p => b.checkPacket s e p

/-- COMMAND_FETCH: host software's entry and packet stand in memory by then, and the fetch reads them there (log entry 117). -/
def Block.fetchWritten (b : Block) (m : Memory) (s : Nat) (e : CmdEntry) (pkt : Option Packet) : Block :=
  let ws := b.fetchImage s e pkt
  { b with posted := ws.reverse ++ b.posted }.fetch (memWriteAll m ws) s pkt

/-! ### The handshake (R386, R387) -/

/-- SESSION_OPEN passes its checks, on the key as it now stands: OPENING, with a new nonce and KS. -/
def Block.sessionOpen (b : Block) (s tenant minor : Nat) (hostNonce : List Byte) : Block :=
  if !b.keys.drbgOk || ((b.session s).state == .closed && b.lockedOut s) then b.reply s 0x0206 else
  match b.keyFor s tenant with
  | none => b.reply s 0x0207
  | some k =>
    if (b.session s).current.any fun c => macOf k c.pkt != c.pkt.mac then (b.countFail s).reply s 0x0201 else
    let (nonce, b) := b.freeBytes 32
    let granted := min minor 0
    let t := if secureSession s then 0 else tenant
    let ctx := ctxOf b.cp.rank s 1 granted t
    let ks := sessionKey k (padTo 32 hostNonce) nonce ctx
    let b := b.modSession s fun x => { x with state := .opening, tenant := t, major := 1, minor := granted, ks, openedAt := b.now, expected := 1 }
    b.reply s 0 (nonce ++ cheldoProof ks ctx ++ le 1 1 ++ le 1 granted ++ zeros 6)

/-- SESSION_CONFIRM. -/
def Block.sessionConfirm (b : Block) (s : Nat) (proof : List Byte) : Block :=
  let x := b.session s
  if x.state == .closed then b.reply s 0x0203
  else if x.state != .opening then b.reply s 0x0402
  else if proof = hostProof x.ks (b.ctx s) then
    (b.modSession s fun x => { x with state := .opened, fails := 0 }).reply s 0
  else ((b.modSession s fun x => { x with state := .closed, ks := [] }).countFail s).reply s 0x0206

/-- SESSION_CLOSE (R294, R387). -/
def Block.sessionClose (b : Block) (s : Nat) : Block :=
  ((b.modSession s fun x => { x with state := .closing }).defer s 0).settleClosing s

/-! ### KEY_PROVISION (R384, R385) -/

def Block.keyProvision (b : Block) (s kind index : Nat) (wrapped : List Byte) (flags seq : Nat) : Block :=
  let channel := decide (kind = 1)
  let delete := bit flags 0
  if kind ≠ 1 ∧ kind ≠ 2 then b.reply s 0x0103
  else if index ≥ (if channel then 16 else 4096) then b.reply s 0x0103
  else if delete && channel && index = 0 then b.reply s 0x0103
  else match Aes.unwrap (wrapKey (b.session s).ks seq) wrapped with
    | none => b.reply s 0x0201
    | some key =>
      let put := fun (t : Table (List Byte)) => if delete then Tab.erase index t else Tab.set index key t
      let keys := if channel then { b.keys with channel := put b.keys.channel } else { b.keys with tenant := put b.keys.tenant }
      let had := if channel then Tab.has index b.keys.channel else Tab.has index b.keys.tenant
      let b := { b with keys }
      let b := b.logRec srcSecurity 0x0162 0 [kind, index]
      let b := if had then b.closeUnder channel index s else b
      b.reply s 0

end Sys2Proof.Machine
end

