-- ==== Sys2Proof/Machine/Requests.lean ====
section
/-! DEFINITION. Acceptance at the lead's sequencer: the request commands (Tables 02-6, 11-9 to 11-11), the model, strain,
tenant and class commands (R301 to R309), the mode and maintenance commands (R311, R312). -/

namespace Sys2Proof.Machine
open Sys2Proof

/-! ### The sequencer (R289, R290, R292) -/

/-- The record of session s's current command (Table 11-6), its parameters as received. -/
def Block.recordOf (b : Block) (s : Nat) (p : Params) (assigned : Nat := 0) (res : RecResult := .none) : CmdRecord :=
  { session := s, acceptTime := b.now, assigned, params := p, result := res
    rsvd := ((b.session s).current.map fun c => c.pkt.rsvd.drop 32).getD [] }

/-- A GROUP command is accepted: its record, at the junction named or the one R289 gives. -/
def Block.accept (b : Block) (s : Nat) (p : Params) (named : Option Nat := none) (assigned : Nat := 0) (res : RecResult := .none) :
    Block × Nat :=
  let c := b.recordOf s p assigned res
  let j := named.getD (b.effectiveFor c)
  let q : SeqCmd := { junction := j, cmd := c, size := (cmdRecordBytes c).length }
  ({ b with seq := { b.seq with cmds := b.seq.cmds ++ [q] } }, j)

/-- A record of the parameters cannot fit even an otherwise empty log (R289). -/
def Block.tooLong (b : Block) (s : Nat) (p : Params) : Bool :=
  !b.fitsEmpty (b.recordOf s p)

/-- Accept and answer at once. -/
def Block.acceptReply (b : Block) (s : Nat) (p : Params) : Block :=
  if b.tooLong s p then b.reply s 0x0102 else
  let (b, j) := b.accept s p
  b.reply s 0 [] j

/-- PAUSE_PENDING: a pause accepted and neither applied nor withdrawn (R39, R292). A resume withdraws a pause of its own log; one of an earlier
log, which is closed, stays pending until it is applied (DEDUCED, log entry 20). -/
def Block.pausePending (b : Block) (h : Nat) : Bool :=
  (b.seq.cmds.foldl (fun (p : Option Nat) (c : SeqCmd) => match c.cmd.params with
    | .reqPause x _ _ => if x.handle = h then some c.junction else p
    | .reqResume x => if x.handle = h && p == some c.junction then none else p
    | _ => p) none).isSome

/-- The pending bits of R292, on the lead. -/
def Block.pendingOf (b : Block) (h : Nat) : PendingBits :=
  if !b.isLead then {} else
  { pause := b.pausePending h, cancel := b.cancelPending h
    trunc := b.seq.cmds.any fun (c : SeqCmd) => match c.cmd.params with
      | .reqTruncate x _ => x.handle == h
      | _ => false
    append := b.seq.cmds.any fun (c : SeqCmd) => match c.cmd.params with
      | .reqAppend x _ _ _ => x.handle == h
      | _ => false }

/-! ### What a handle or a ticket names (R30, R39, R62, R300) -/

/-- The firmware queue as the lead's sequencer sees it, deferrals accepted included. -/
structure QueueView where
  moved : Bool
  oldHandle : Nat
  ticket : Nat
  tenant : Nat
  classPrio : Nat
  time : Nat
  deriving DecidableEq, Repr, Inhabited

def Block.viewOf (b : Block) (f : FwEntry) : QueueView := match f.moved with
  | some e => { moved := true, oldHandle := e.handle, ticket := 0, tenant := e.tenant, classPrio := e.classPrio, time := e.admitTime }
  | none => match b.region f.granule with
    | some r => { moved := false, oldHandle := 0, ticket := f.ticket, tenant := r.record.tenant, classPrio := r.record.classPrio
                  time := f.acceptTime }
    | none => { moved := false, oldHandle := 0, ticket := f.ticket, tenant := 0, classPrio := 0, time := f.acceptTime }

/-- Deferrals accepted and not yet applied (R19). -/
def Block.openDeferrals (b : Block) : List (Nat × Nat × AdmitParams) := b.seq.tickets.filterMap fun t => match t.2 with
  | .deferral n _ a p => some (n, a, p)
  | .admission .. => none

/-- Firmware order (R61, R62). -/
def viewLt (x y : QueueView) : Bool :=
  (x.moved && !y.moved) ||
  (!x.moved && !y.moved && (x.classPrio % 16 < y.classPrio % 16 || (x.classPrio % 16 == y.classPrio % 16 && x.ticket < y.ticket)))

def Block.queueViews (b : Block) : List QueueView :=
  sortBy viewLt (b.gr.fwQueue.map b.viewOf ++ b.openDeferrals.map fun d =>
    { moved := false, oldHandle := 0, ticket := d.1, tenant := d.2.2.tenant, classPrio := d.2.2.classPrio, time := d.2.1 })

/-- Admissions accepted into a slot and not yet applied: handle, acceptance time, session, parameters. -/
def Block.openAdmits (b : Block) : List (Nat × Nat × Nat × AdmitParams) := b.seq.cmds.filterMap fun (c : SeqCmd) => match c.cmd.params with
  | .reqAdmit p => if defersIn (b.seq.tickets.map (·.2)) c.cmd then none else some (c.cmd.assigned, c.cmd.acceptTime, c.cmd.session, p)
  | _ => none

/-- Admissions from the firmware queue in the log that is closed and not yet applied. -/
def Block.chosenAdmits (b : Block) : List (Nat × Nat × Nat) := match b.seq.closed with
  | some l => l.tickets.filterMap fun t => match t with
    | .admission n o h => some (n, o, h)
    | .deferral .. => none
  | none => []

/-- What a request command's head names. -/
inductive Target where
  | entry (e : Entry)
  /-- an admission that awaits its junction -/
  | pending (e : Entry)
  | queued (v : QueueView) (place : Nat)
  | stale
  deriving DecidableEq, Repr, Inhabited

/-- A session may act for a tenant (R30, R391, check 14). -/
def Block.actsFor (b : Block) (s tenant : Nat) : Bool := secureSession s || (b.session s).tenant == tenant

def Block.queuedTarget (b : Block) (s : Nat) (hit : QueueView → Bool) : Target :=
  let vs := b.queueViews
  match vs.findIdx? hit with
  | some i => match vs[i]? with
    | some v => if b.actsFor s v.tenant then .queued v i else .stale
    | none => .stale
  | none => .stale

/-- R30 for a handle. -/
def Block.handleTarget (b : Block) (s h : Nat) : Target :=
  if b.gr.fwQueue.any fun f => f.moved.any fun e => e.handle == h then b.queuedTarget s fun v => v.moved && v.oldHandle == h
  else if b.gr.banksOut.contains (slotOf h / 2048) then .stale
  else match b.byHandle h with
    | some (_, e) => if b.actsFor s e.tenant then .entry e else .stale
    | none =>
      match if b.isLead then b.openAdmits.find? fun a => a.1 == h else none with
      | some (_, t, sid, p) =>
        if b.actsFor s p.tenant then .pending (b.admitEntry h sid t 0 (b.pinVersion p) p false) else .stale
      | none => .stale

def Block.target (b : Block) (s : Nat) (h : ReqHead) : Target :=
  if h.handle = 0xFFFFFFFF then
    (if h.ticket = 0 then .stale else b.queuedTarget s fun v => !v.moved && v.ticket == h.ticket)
  else b.handleTarget s h.handle

/-- The slot a head names is beyond generation 1 (R14, Table 00-3). -/
def badHead (h : ReqHead) : Bool := h.handle != 0xFFFFFFFF && slotOf h.handle ≥ 32768

/-- A request command other than REQ_QUERY and REQ_CANCEL: the checks on its head, then `ok` on its entry and the status of a
refusal (Table 02-6). An entry that awaits its junction was FREE at the last one, so nothing is accepted for it yet (R292; DEDUCED, log
entry 114). -/
def Block.requestCmd (b : Block) (s : Nat) (h : ReqHead) (p : Params) (ok : Entry → Option Nat) : Block :=
  if h.handle = 0xFFFFFFFF then b.reply s 0x0404 else
  match b.target s h with
  | .stale => b.reply s 0x0401
  | .queued .. => b.reply s 0x0404
  | .pending _ => b.reply s 0x0402
  | .entry e => match ok e with
    | some st => b.reply s st
    | none => b.acceptReply s p

/-- VOCAB_SIZE of the ACTIVE main model; no bound without one (R299). -/
def Block.inputVocab (b : Block) : Nat := match b.mainModel with
  | some (_, d) => d.load.vocabSize
  | none => 16777216

def Block.reqAppend (b : Block) (s : Nat) (h : ReqHead) (flags count : Nat) (tokens : List Nat) : Block :=
  if b.tooLong s (.reqAppend h flags count tokens) then b.reply s 0x0102 else
  if badHead h || flags > 1 || count > 65536 || (count = 0 && !bit flags 0) || tokens.any (fun t => t % 16777216 ≥ b.inputVocab) then b.reply s 0x0103
  else b.requestCmd s h (.reqAppend h flags count tokens) fun e =>
    if e.flags.inputOpen && appendState e.state then none else some 0x0402

def Block.reqTruncate (b : Block) (s : Nat) (h : ReqHead) (position : Nat) : Block :=
  if badHead h then b.reply s 0x0103
  else b.requestCmd s h (.reqTruncate h position) fun e => if e.state == .decode then none else some 0x0402

def Block.reqCancel (b : Block) (s : Nat) (h : ReqHead) : Block :=
  if badHead h then b.reply s 0x0103 else
  match b.target s h with
  | .stale => b.reply s 0x0401
  | .queued .. => b.acceptReply s (.reqCancel h)
  | .pending _ => b.reply s 0x0402
  | .entry e =>
    if b.cancelPending h.handle then b.reply s 0x0403
    else if e.state == .free || e.state == .draining then b.reply s 0x0402
    else b.acceptReply s (.reqCancel h)

def Block.reqPause (b : Block) (s : Nat) (h : ReqHead) (tier ttl : Nat) : Block :=
  if badHead h || tier > 2 || ttl > 86400000000000 then b.reply s 0x0103
  else b.requestCmd s h (.reqPause h tier ttl) fun e =>
    if b.pausePending h.handle then some 0x0403
    else if e.state == .prefill || e.state == .decode then none else some 0x0402

def Block.reqResume (b : Block) (s : Nat) (h : ReqHead) : Block :=
  if badHead h then b.reply s 0x0103
  else b.requestCmd s h (.reqResume h) fun e => if e.state == .siding || b.pausePending h.handle then none else some 0x0402

def Block.reqFree (b : Block) (s : Nat) (h : ReqHead) : Block :=
  if badHead h then b.reply s 0x0103
  else b.requestCmd s h (.reqFree h) fun e => if e.state == .done then none else some 0x0402

/-! ### Sampling parameters (Table 06-3) -/

def inRange (x lo hi : F32) : Bool := F.isFinite x && F.le lo x && F.le x hi

/-- The six binary32 fields stand within Table 06-3. -/
def samplingOk (p : Sampling) : Bool :=
  let abs := fun (x : F32) => x &&& 0x7FFFFFFF#32
  (bit p.sampleMode 0 || inRange p.temperature (F.ofDecimal 390625 8) (F.ofNat 256)) &&
  inRange p.topP F.zero F.one && F.lt F.zero p.topP && inRange p.minP F.zero F.one && F.lt p.minP F.one &&
  inRange p.repetition (F.ofDecimal 625 4) (F.ofNat 16) && inRange (abs p.presence) F.zero (F.ofNat 65536) &&
  inRange (abs p.frequency) F.zero (F.ofNat 65536)

def topKOk (k : Nat) : Bool := 1 ≤ k % 512 && k % 512 ≤ 64

def Block.reqSetSampling (b : Block) (s : Nat) (h : ReqHead) (p : Sampling) : Block :=
  if badHead h then b.reply s 0x0103
  else if !samplingOk p || !topKOk p.topK then b.reply s 0x0109
  else if verifyMode p = 3 then b.reply s 0x0103
  else b.requestCmd s h (.reqSetSampling h p) fun e =>
    if e.state == .done || e.state == .draining || e.state == .free then some 0x0402 else none

/-- REQ_QUERY (R37, R300). -/
def Block.reqQuery (b : Block) (s : Nat) (h : ReqHead) : Block :=
  let stub := fun (handle state tenant cp time : Nat) =>
    le 4 handle ++ le 1 state ++ zeros 3 ++ le 2 tenant ++ le 1 (cp % 128) ++ zeros 5 ++ le 8 time ++ zeros 232
  if badHead h then b.reply s 0x0103 else
  match b.target s h with
  | .stale => b.reply s 0x0401
  | .queued v place => b.reply s 0 (stub 0 0xB v.tenant v.classPrio v.time ++ le 4 v.ticket ++ le 4 place ++ zeros 8)
  | .pending e => b.reply s 0 (stub h.handle 2 e.tenant e.classPrio e.admitTime ++ zeros 16)
  | .entry e => b.reply s 0 (b.entryBytes (slotOf h.handle) e (b.pendingOf h.handle) ++ zeros 16)

/-! ### REQ_ADMIT (Tables 11-9 and 11-10) -/

/-- A descriptor is ACTIVE and no MODEL_UNLOAD of it has been accepted (R305). -/
def Block.servesModel (b : Block) (d : Nat) : Bool :=
  Tab.has d b.mdl.active && !(b.seq.cmds.any fun (c : SeqCmd) => match c.cmd.params with
    | .modelUnload _ x => x % 16 == d
    | _ => false)

/-- A node of the current template names the descriptor. -/
def Block.named (b : Block) (d : Nat) : Bool := match b.mdl.template with
  | some t => t.nodes.any fun n => n.model == d
  | none => false

/-- Rows 1 to 4, in layout order. -/
def Block.admitRange (b : Block) (p : AdmitParams) : Option Nat :=
  let main := p.models % 16
  let draft := p.models / 16
  let active := Tab.get? main b.mdl.active
  let vocab := match active with
    | some d => d.load.vocabSize
    | none => 16777216
  let maxContext := if active.isSome then b.mdl.maxContext else 4294967295
  let spec := bit p.admitFlags 0
  let draftOk := (Tab.get? draft b.mdl.active).any fun d => isDraftLoad d.load
  ([(decide (p.tenant ≥ 4096), 0x0103), (decide (main > 3 ∨ draft > 3), 0x0103), (decide (p.deadlineMode % 4 = 3), 0x0103),
    (verifyMode p.sampling == 3, 0x0103), (spec && !draftOk, 0x0109), (decide (p.strain ≥ 8192), 0x0103),
    (!topKOk p.sampling.topK, 0x0109), ((p.cadencePeriod == 0) == (p.deadlineMode % 4 == 2), 0x0103),
    (p.deadlineMode % 4 != 1 && p.deadline != 0, 0x0103), (!samplingOk p.sampling, 0x0109),
    (bit p.stopToken 31 && decide (p.stopToken % 16777216 ≥ vocab), 0x0103),
    (decide (p.maxContext = 0 ∨ p.maxContext > maxContext), 0x0106),
    (decide (p.inputCount = 0 ∨ p.inputCount > 65536 ∨ p.inputCount > p.maxContext), 0x0106),
    (decide (p.tokenRing % 64 < 5 ∨ p.tokenRing % 64 > 16), 0x0105), (decide (p.eventRing % 64 < 4 ∨ p.eventRing % 64 > 12), 0x0105),
    (p.input.any fun t => decide (t % 16777216 ≥ vocab), 0x0103)].find? fun c => c.1).map (·.2)

/-- Live requests of a tenant, its queued and pending ones counted (row 9). -/
def Block.tenantLoad (b : Block) (t : Nat) : Nat :=
  (b.gr.entries.filter fun e => e.2.tenant == t).length + (b.queueViews.filter fun v => v.tenant == t).length +
  (b.openAdmits.filter fun a => a.2.2.2.tenant == t).length

/-- The strain has a READY version without a STRAIN_DROP pending (row 10). -/
def Block.strainServes (b : Block) (d strain : Nat) : Bool := match b.readyStrain d strain with
  | none => false
  | some v => !(b.seq.cmds.any fun (c : SeqCmd) => match c.cmd.params with
    | .strainDrop x y z => x % 16 == d && y == strain && z == v.version
    | _ => false)

/-- A run of the transcript pool fits beside the regions of the admissions and deferrals accepted (R41). -/
def Block.runFits (b : Block) (cap : Nat) : Bool :=
  let wants := b.openAdmits.map (fun a => a.2.2.2.maxContext) ++ b.openDeferrals.map (fun d => d.2.2.maxContext)
  let used := wants.foldl (fun (u : List (Nat × Nat)) c =>
    let n := regionGranules (transcriptCapOf c)
    match lowestFit b.poolGranules n u with
    | some g => sortBy (fun (x y : Nat × Nat) => x.1 < y.1) ((g, n) :: u)
    | none => u) b.usedGranules
  (lowestFit b.poolGranules (regionGranules cap) used).isSome

/-- Rows 6 to 11. -/
def Block.admitPolicy (b : Block) (p : AdmitParams) : Option Nat :=
  let main := p.models % 16
  let t := (b.tenant p.tenant).cfg
  let ok := fun (d : Nat) => b.servesModel d && b.named d
  if !ok main || (bit p.admitFlags 0 && !ok (p.models / 16)) then some 0x040B
  else if !tenantEnabled t then some 0x0501
  else if (b.cls (classOf p.classPrio)).cfg.mode = 2 then some 0x0503
  else if t.maxLive ≠ 0 ∧ b.tenantLoad p.tenant ≥ t.maxLive then some 0x0504
  else if bit p.admitFlags 1 && !b.strainServes main p.strain then some 0x0502
  else if !b.runFits (transcriptCapOf p.maxContext) then some 0x0303
  else none

/-- Entries of the firmware queue as they will stand: those chosen leave it, deferrals accepted join it (R60). From the closing of a log
that admits its last entry the queue counts as empty, although the log is not applied yet (DESIGN CHOICE, log entry 123: R60 does not
say at which moment it is judged). -/
def Block.queueLength (b : Block) : Nat := b.gr.fwQueue.length + b.openDeferrals.length - b.chosenAdmits.length

/-- FW_QUEUE_DEPTH. -/
def Block.fwDepth (b : Block) : Nat := match b.mainModel with
  | some (_, d) => d.load.fwQueueDepth
  | none => 0

/-- The slot an admission takes now (R29, R60, R94). -/
def Block.slotFor (b : Block) : Option Nat :=
  if b.queueLength > 0 then none
  else if b.liveCount + b.openAdmits.length + b.chosenAdmits.length ≥ b.mdl.maxLive then none
  else Runs.firstNotIn (b.pendingSlots ++ b.chosenAdmits.map fun a => slotOf a.2.2) b.gr.freeList

/-- REQ_ADMIT of session s passes rows 1 to 11: a slot, or a ticket, or TABLE_FULL. A deferral is accepted (R313), so it has a record
too, with no handle assigned (R290). -/
def Block.placeAdmit (b : Block) (s : Nat) (p : AdmitParams) : Block :=
  match b.slotFor with
  | some slot =>
    let h := mkHandle (Tab.getD slot 0 b.gr.tags + 1) slot
    let (b, j) := b.accept s (.reqAdmit p) none h
    b.reply s 0 (le 4 h ++ zeros 4) j
  | none =>
    if b.queueLength ≥ b.fwDepth then b.reply s 0x0301 else
    let n := b.seq.nextTicket
    let d := TicketRec.deferral n s b.now p
    let c := b.recordOf s (.reqAdmit p)
    let j := b.effectiveFor c [d]
    let next := if n ≥ 4294967295 then 1 else n + 1
    let b := { b with seq := { b.seq with
      cmds := b.seq.cmds ++ [({ junction := j, cmd := c, size := (cmdRecordBytes c).length } : SeqCmd)]
      tickets := b.seq.tickets ++ [(j, d)], nextTicket := next } }
    b.reply s 0x0308 (zeros 4 ++ le 4 n) j

def Block.reqAdmit (b : Block) (s : Nat) (p : AdmitParams) : Block :=
  if b.tooLong s (.reqAdmit p) then b.reply s 0x0102 else
  match b.admitRange p with
  | some st => b.reply s st
  | none =>
    if !b.actsFor s p.tenant then b.reply s 0x0205 else
    match b.admitPolicy p with
    | some st => b.reply s st
    | none => b.placeAdmit s p

/-! ### Models (R301 to R306) -/

/-- The epoch that a new proposal follows: that of the last decision, be its log not applied yet (R231, R484). -/
def Block.epochDecided (b : Block) : Nat := match b.seq.decision, b.seq.closed with
  | some (e, 1, _), _ => e
  | _, some l => l.epoch
  | _, none => b.cp.epoch

/-- A proposal is opened and broadcast (R231). -/
def Block.propose (b : Block) (s : Nat) (p : Params) (junction : Nat) : Block :=
  let number := (b.seq.proposalNo + 1) % 16777216
  let (b, j) := b.accept s p (some junction)
  match b.seq.cmds.getLast? with
  | none => b
  | some c =>
    let pr : Proposal := { number, junction := j, epoch := b.epochDecided + 1, cmd := c.cmd, prepared := [], refused := [] }
    let b := { b with seq := { b.seq with proposalNo := number, proposal := some pr } }
    let h : EpochHead := { source := b.cp.rank, proposal := number, leadTerm := b.cp.term, epoch := b.epochDecided + 1, junction := j }
    (b.defer s j).send none (.propose h c.cmd)

def tooEarly (b : Block) (junction : Nat) : Bool := junction < b.cp.applied + 3

/-- The SPEC block against Table 08-1, defaults taken. -/
def specBad (x : SpecBlock) : Bool :=
  let x := normSpec x
  x.depthMax > 16 || x.widthMax > 64 || x.nodesMax > 64 || x.depthLead > 15 || x.widthGain > 255 || x.drawWaitClass > 62 || x.emaInit > 0x1000

/-- The GLEAN block against Table 07-4, defaults taken. -/
def gleanBad (x : GleanBlock) : Bool :=
  let x := normGlean x
  x.resendAfter < 2 || x.resendAfter > 500 || x.gleanTimeout < 10 || x.gleanTimeout > 1000

def idleBad (x : Nat) : Bool := let x := orDefault x 100000; x < 10000 || x > 10000000

def positionsBad (x : Nat) : Bool := x < 256 || x > 65536

/-- MODEL_LOAD's fields against Tables 03-8, 07-4, 08-1 and 11-13 (R302). DESIGN CHOICE (log entry 110): a MAX_CONTEXT of 0 is out of
range, though the tables ask only a multiple of PAGE_TOKENS. -/
def loadBad (p : LoadParams) : Bool :=
  let q := normLoad p
  let common := p.shardCount = 0 || p.shardCount > 64 || p.vocabSize = 0 || p.vocabSize > 16777216
  if isDraftLoad p then common
  else common || bits p.loadFlags 5 4 = 3 || p.kvMinPages = 0 || p.kvMinPages > 64 || positionsBad p.stepPositions ||
    !isPow2 p.pageTokens || p.pageTokens < 16 || p.pageTokens > 256 || p.maxContext = 0 || p.maxContext % p.pageTokens != 0 ||
    p.maxLive = 0 || p.maxLive > 32768 || p.tier1Pages > 16777216 || p.tier2Pages > 16777216 || !isPow2 p.rhizomeNodes ||
    p.rhizomeNodes < 65536 || p.rhizomeNodes > 16777216 || p.fwQueueDepth > 65536 || idleBad p.idleInterval ||
    q.junctionWatchdog < 1000 || q.junctionWatchdog > 100000 || specBad p.spec || gleanBad p.glean || p.transcriptExtra % 4096 != 0

/-- The status of MODEL_LOAD's first field out of range: SHARD_COUNT has its own, after LOAD_FLAGS (R183, R302). -/
def loadStatus (p : LoadParams) : Nat :=
  if (p.shardCount = 0 || p.shardCount > 64) && (isDraftLoad p || bits p.loadFlags 5 4 != 3) then 0x010A else 0x010E

/-- MODEL_STAGE reads the staged images to check them. -/
def Block.readStage (b : Block) (m : Memory) (p : StageParams) : Block :=
  b.readStaged (some (min 32768 (stagedNodes m b.mdl.stageBase))) (some (p.descriptor % 16, p.shardCount)) true .other

/-- MODEL_STAGE (R301). -/
def Block.modelStage (b : Block) (m : Memory) (s : Nat) (p : StageParams) : Block :=
  if p.descriptor % 16 > 3 then b.reply s 0x0103
  else if p.shardCount = 0 || p.shardCount > 64 then b.reply s 0x010A (le 4 noDetail)
  else if p.treeBase % 64 != 0 then b.reply s 0x010E
  else match b.stageFault m p with
    | some (st, detail) => (b.readStage m p).reply s st (le 4 detail)
    | none => ({ b.readStage m p with mdl := { b.mdl with staged := Tab.set (p.descriptor % 16) p b.mdl.staged } }).reply s 0

/-- MODEL_LOAD (R183, R302, R303). -/
def Block.modelLoad (b : Block) (s : Nat) (p : LoadParams) : Block :=
  let draft := isDraftLoad p
  let d := p.descriptor % 16
  if tooEarly b p.junction then b.reply s 0x010C
  else if d > 3 || bit p.loadFlags 2 == draft then b.reply s 0x0103
  else if loadBad p then b.reply s (loadStatus p)
  else if Tab.has d b.mdl.active || (!draft && b.mainModel.isSome) || (draft && b.draftModel.isSome) then b.reply s 0x040C
  else if draft && b.mainModel.isNone then b.reply s 0x040B
  else if b.seq.proposal.isSome then b.reply s 0x0406
  else b.propose s (.modelLoad p) p.junction

/-- A live, queued or pending request names a descriptor (R305). -/
def Block.modelUsed (b : Block) (d : Nat) : Bool :=
  let names := fun (models : Nat) (spec : Bool) => models % 16 == d || (spec && models / 16 == d)
  (Tab.vals b.gr.entries).any (fun e => names e.models e.flags.specEn) ||
  b.gr.fwQueue.any (fun f => match f.moved with
    | some e => names e.models e.flags.specEn
    | none => (b.region f.granule).any fun r => names r.record.models (bit r.record.admitFlags 0)) ||
  b.openAdmits.any (fun a => names a.2.2.2.models (bit a.2.2.2.admitFlags 0)) ||
  b.openDeferrals.any fun a => names a.2.2.models (bit a.2.2.admitFlags 0)

/-- MODEL_UNLOAD (R305). -/
def Block.modelUnload (b : Block) (s junction descriptor : Nat) : Block :=
  let d := descriptor
  let main := (Tab.get? d b.mdl.active).any fun x => !isDraftLoad x.load
  if tooEarly b junction then b.reply s 0x010C
  else if d > 3 then b.reply s 0x0103
  else if !Tab.has d b.mdl.active then b.reply s 0x040B
  else if b.modelUsed d || (main && b.draftModel.isSome) then b.reply s 0x040C
  else if b.seq.proposal.isSome then b.reply s 0x0406
  else b.propose s (.modelUnload junction descriptor) junction

/-- MODEL_QUERY (R306). -/
def Block.modelQuery (b : Block) (s descriptor : Nat) : Block :=
  let d := descriptor
  if d > 3 then b.reply s 0x0103 else
  match Tab.get? d b.mdl.active with
  | none => b.reply s 0 (zeros 64)
  | some x =>
    let c := b.ctlBase
    b.reply s 0 (le 1 1 ++ le 1 (x.load.loadFlags % 64) ++ zeros 2 ++ le 4 ((b.mdl.template.map (·.id)).getD 0) ++ le 4 b.mdl.maxLive ++
      le 4 b.mdl.maxContext ++ le 4 b.mdl.n0 ++ le 4 x.epoch ++ le 8 (Config.structBase 0 c) ++ le 8 (Config.structBase 1 c) ++
      le 8 (Config.structBase 2 c) ++ le 8 (Config.structBase 3 c) ++ le 8 (Config.structBase 4 c))

/-- MODE_SET (R231, R311). -/
def Block.modeSet (b : Block) (s : Nat) (p : ModeParams) : Block :=
  let d := p.descriptor % 16
  if tooEarly b p.junction then b.reply s 0x010C
  else if p.descriptor > 3 then b.reply s 0x0103
  else if (if bit p.flags 1 then p.shardCount = 0 || p.shardCount > 64 else p.shardCount != 0) then b.reply s 0x0103
  else if (bit p.flags 2 && specBad p.spec) || (bit p.flags 3 && gleanBad p.glean) ||
      (bit p.flags 4 && (positionsBad p.stepPositions || idleBad p.idleInterval)) then b.reply s 0x010E
  else if b.mainModel.isNone || !Tab.has d b.mdl.active then b.reply s 0x040B
  else if b.seq.proposal.isSome then b.reply s 0x0406
  else b.propose s (.modeSet p) p.junction

/-! ### Strains (R88, R89, R307 to R309) -/

/-- Strain loads accepted and not yet applied: descriptor, strain, size, version. -/
def Block.openLoads (b : Block) : List (Nat × Nat × Nat × Nat) := b.seq.cmds.filterMap fun (c : SeqCmd) => match c.cmd.params with
  | .strainLoad d st size _ _ => some (d % 16, st, size, c.cmd.assigned)
  | _ => none

/-- The next version number of a strain (R88). -/
def Block.nextVersion (b : Block) (d strain : Nat) : Nat :=
  let held := (b.pol.strainNumbers.find? fun x => x.1 == d && x.2.1 == strain).map (·.2.2)
  let last := ((b.openLoads.filter fun x => x.1 == d && x.2.1 == strain).getLast?.map (·.2.2.2)).orElse fun _ => held
  let n := (last.getD 0 + 1) % 65536
  if n = 0 then 1 else n

/-- Offset of STRAIN_STAGE in the staging area, and its size (Table 13-6). -/
def strainStage : Nat := 0x110000
def strainStageSize : Nat := 1048576

def Block.strainLoad (b : Block) (m : Memory) (s descriptor strain size crc offset : Nat) : Block :=
  let d := descriptor % 16
  let slots := (b.pol.strains.filter fun v => v.descriptor == d && v.strain == strain).length +
    (b.openLoads.filter fun x => x.1 == d && x.2.1 == strain).length
  let used := b.openLoads.foldl (fun (u : List (Nat × Nat)) x =>
    let n := ceilDiv x.2.2.1 4096
    match lowestFit b.strainGranules n u with
    | some g => sortBy (fun (x y : Nat × Nat) => x.1 < y.1) ((g, n) :: u)
    | none => u) b.usedStrain
  let data := memReadN m (b.mdl.stageBase + strainStage + offset) size
  if descriptor > 3 || strain ≥ 8192 then b.reply s 0x0103
  else if size = 0 || size > 65536 then b.reply s 0x0104
  else if offset + size > strainStageSize then b.reply s 0x0103
  else if !b.fitsEmpty (b.recordOf s (.strainLoad d strain size crc offset) 0 (.strainData data)) then b.reply s 0x0102
  else if !Tab.has d b.mdl.active then b.reply s 0x040B
  else if slots ≥ 2 then b.reply s 0x0304
  else if (lowestFit b.strainGranules (ceilDiv size 4096) used).isNone then b.reply s 0x0305
  else
    let v := b.nextVersion d strain
    let b := b.ask 61 (b.mdl.stageBase + strainStage + offset) size .other
    let (b, j) := b.accept s (.strainLoad d strain size crc offset) none v (.strainData data)
    b.defer s j v

/-- References as STRAIN_DROP counts them (R309). -/
def Block.refsWithOpen (b : Block) (d strain version : Nat) : Nat :=
  let pins := fun (p : AdmitParams) => bit p.admitFlags 1 && p.models % 16 == d && p.strain == strain && b.pinVersion p == version
  b.strainRefs d strain version + (b.openAdmits.filter fun a => pins a.2.2.2).length + (b.openDeferrals.filter fun a => pins a.2.2).length

def Block.strainDrop (b : Block) (s descriptor strain version : Nat) : Block :=
  let d := descriptor % 16
  let ready := b.pol.strains.any fun v => v.descriptor == d && v.strain == strain && v.version == version && v.state == .ready
  let dropping := b.seq.cmds.any fun (c : SeqCmd) => match c.cmd.params with
    | .strainDrop x y z => x % 16 == d && y == strain && z == version
    | _ => false
  if descriptor > 3 || strain ≥ 8192 then b.reply s 0x0103
  else if !ready || dropping then b.reply s 0x0402
  else if b.refsWithOpen d strain version > 0 then b.reply s 0x0405
  else b.acceptReply s (.strainDrop d strain version)

/-! ### Tenants, classes, maintenance, dumps (R76, R84, R245, R312, R463) -/

def Block.tenantConfig (b : Block) (s tenant : Nat) (c : TenantCfg) : Block :=
  if tenant ≥ 4096 || c.maxLive > 32768 then b.reply s 0x0103 else b.acceptReply s (.tenantConfig tenant c)

/-- Table 03-5. -/
def classBad (i : Nat) (c : ClassCfg) : Bool :=
  let t := fun (k : Nat) => c.thresh.getD k 0
  i > 7 || c.mode > 2 || c.ceiling > 15 || c.numThresh > 3 || (c.numThresh ≥ 2 && t 0 ≤ t 1) || (c.numThresh ≥ 3 && t 1 ≤ t 2) ||
  c.chunkPos < 16 || c.chunkPos > 8192 || c.chunkPos % 16 != 0 || c.weight = 0 || c.shareMin > c.shareMax || c.shareMax > 256 || c.shareQref = 0

def Block.classConfig (b : Block) (s i : Nat) (c : ClassCfg) : Block :=
  if classBad i c then b.reply s 0x0107 else b.acceptReply s (.classConfig i c)

def Block.maintWindow (b : Block) (s count : Nat) (links : List Nat) : Block := b.acceptReply s (.maintWindow count links)

def Block.tensorDump (b : Block) (s layer operator handle step addr bytes : Nat) : Block :=
  if slotOf handle ≥ 32768 then b.reply s 0x0103
  else if step ≤ b.openJ then b.reply s 0x010C else b.acceptReply s (.tensorDump layer operator handle step addr bytes)

end Sys2Proof.Machine
end

