-- ==== Sys2Proof/Machine/Locals.lean ====
section
/-! DEFINITION. The LOCAL commands of the session, power, link, platform and recovery groups (Tables 11-8, 11-15 to 11-17,
16-6). -/

namespace Sys2Proof.Machine
open Sys2Proof

/-! ### Capability and group queries (Table 11-8) -/

/-- LEAD_RANK as a reply, GROUP_QUERY and GROUP_STATUS show it (R478). -/
def Block.shownLead (b : Block) : Nat := if b.cp.state == .forming then 0x1FF else b.cp.leadRank

/-- LEAD_TERM as a reply and GROUP_QUERY show it. -/
def Block.shownTerm (b : Block) : Nat := if b.cp.state == .forming then 0 else b.cp.term

def GroupState.code : GroupState → Nat
  | .forming => 0 | .running => 1 | .bufferStop => 2

/-- The open junction on the lead, 0 elsewhere (R491). -/
def Block.shownOpen (b : Block) : Nat := if b.isLead && b.running then b.openJ else 0

def capBytes : List Byte :=
  le 2 0x0100 ++ le 2 0x0100 ++ le 4 32768 ++ le 2 256 ++ le 2 4096 ++ le 2 8192 ++ le 2 64 ++ le 2 4096 ++ le 2 512 ++
  le 4 16777216 ++ zeros 8

def Block.capQuery (b : Block) (s : Nat) : Block := b.reply s 0 capBytes

def Block.groupQuery (b : Block) (s : Nat) : Block :=
  b.reply s 0 (le 2 b.cp.rank ++ le 2 b.cp.n ++ le 2 b.shownLead ++ le 1 b.cp.state.code ++ zeros 1 ++ le 4 b.shownTerm ++
    le 4 b.cp.epoch ++ le 8 b.cp.applied ++ le 8 b.shownOpen)

/-! ### Power (R247 to R249, R267, R269) -/

def within (x lo hi : Nat) : Bool := lo ≤ x && x ≤ hi

/-- A rail block inside Table 10-1. -/
def railCfgOk (c : RailCfg) : Bool :=
  within c.hardThrottle 0 128 && within c.hardLimit 1 65535 && within c.sustLimit 1 c.hardLimit && decide (c.base < c.sustLimit) &&
  within c.nominalMv 500 1500 && within c.capShare 0 1000 && within c.slopeUp 1 1000 && within c.slopeDown 1 1000 &&
  within c.guardBase 1000 4000 && within c.guardStep 0 1000 && within c.guardMax c.guardBase 4000 && within c.hardRelease 500 1000

/-- A global block inside Table 10-2. -/
def globalOk (g : GlobalPower) : Bool :=
  within g.waveSize 1 4096 && within g.waveInterval 5 1000 && within g.ffLead 500 8000 && g.ffLead % 250 == 0 &&
  within g.capGrace 0 10000 && within g.capGraceUrgent 0 10000 && within g.grantSettle 20 500 && within g.recalErr 1 500 &&
  within g.recalWindows 1 10000 && within g.recalClear 1 100000 && within g.onlineShift 6 16 &&
  within g.droopRampAfter 0 100000 && within g.hardStuck 1 1000

/-- The configuration of rail r once what waits for its tick, and p, are in force. -/
def Block.railAhead (b : Block) (p : PowerConfigParams) (r : Nat) : RailCfg :=
  (b.pwr.pendingCfg ++ [p]).foldl (fun c q => Tab.getD r c q.rails) (b.rail r).cfg

def Block.shareSum (b : Block) (p : PowerConfigParams) : Nat :=
  ((List.range 16).map (b.railAhead p)).foldl (fun n c => if c.enable then n + c.capShare else n) 0

/-- A platform of the rail holds an item. -/
def Block.railBusy (b : Block) (r : Nat) : Bool := b.dsp.platforms.any fun x => !x.2.items.isEmpty && b.railOf x.1 == r

/-- POWER_CONFIG (R247): in force from the next tick. -/
def Block.powerConfig (b : Block) (s : Nat) (p : PowerConfigParams) : Block :=
  if !((p.globalBlock.all globalOk) && (Tab.vals p.rails).all railCfgOk && b.shareSum p ≤ 1000) then b.reply s 0x010D
  else if p.groups.any fun gs => gs.any fun g => g.fullCurrent == 0 then b.reply s 0x0103
  else if p.rails.any fun x => decide (x.2.hardLimit < b.levelNow x.1) || (!x.2.enable && b.railBusy x.1) then b.reply s 0x0408
  else
    let groups := p.groups.map fun gs => gs.map fun g => { g with rail := g.rail % 16 }
    { b with pwr := { b.pwr with pendingCfg := b.pwr.pendingCfg ++ [{ p with groups }] } }.reply s 0

/-- POWER_CALIBRATE (R250, R267). -/
def Block.powerCalibrate (b : Block) (s rail bandHi : Nat) (entries : List EnergyEntry) : Block :=
  if rail > 15 then b.reply s 0x0103 else (b.loadTable rail bandHi entries).reply s 0

/-- POWER_CAP (R269). -/
def Block.powerCap (b : Block) (s cap : Nat) : Block :=
  ({ b with pwr := { b.pwr with cmdCap := cap } }.touchCap 1).reply s 0

/-! ### Links and platforms (R242, R311, R146 to R148) -/

/-- LINK_MAP. -/
def Block.linkMap (b : Block) (s n : Nat) (routes : List (List (List Nat))) : Block :=
  if n = 0 || n > 512 then b.reply s 0x0103
  else if b.cp.state == .running then b.reply s 0x0402
  else { b with fab := { b.fab with routes }, ap := { b.ap with routesLoaded := some n } }.reply s 0

/-- The map entry of a platform as PLATFORM_MAP reads it back; an absent one is all 0. -/
def Block.mapEntry (b : Block) (p : Nat) : PlatformEntry := match b.platform? p with
  | some x => { x.entry with inService := x.inService || x.joining }
  | none => { setMask := 0, kind := 0, engineGroup := 0, inService := false }

/-- One entry of a PLATFORM_MAP write: out of service under R147, in under R148. -/
def Block.writePlatform (b : Block) (p : Nat) (e : PlatformEntry) : Block :=
  let old := b.mapEntry p
  let b := if !e.inService || e.kind != old.kind then b.removePlatform p 0xFE else b
  let x : Platform := (b.platform? p).getD { entry := e, inService := false, joining := false, items := [], counters := {} }
  { b with dsp := { b.dsp with
      platforms := Tab.set p { x with entry := e, joining := e.inService && !x.inService } b.dsp.platforms } }

/-- PLATFORM_MAP: without READ it changes the map as a whole or not at all (R146). -/
def Block.platformMap (b : Block) (s first count : Nat) (read : Bool) (entries : List PlatformEntry) : Block :=
  if count = 0 || count > 4096 || first + count > 4096 then b.reply s 0x0103
  else if read then b.reply s 0 ((List.range count).flatMap fun i => platformBytes (b.mapEntry (first + i)))
  else
    let entries := entries.map fun e => { e with kind := e.kind % 4 }
    if entries.any platformBad then b.reply s 0x0103 else
    let b := ((List.range entries.length).zip entries).foldl (fun (b : Block) (x : Nat × PlatformEntry) => b.writePlatform (first + x.1) x.2) b
    b.checkPlatforms.reply s 0

/-! ### BUFFER_STOP, FAULT_QUERY, RECOVER (R430, R434, R435, R477) -/

/-- BUFFER_STOP. -/
def Block.bufferStopCmd (b : Block) (s reason : Nat) : Block := (b.reply s 0).stop .command srcCommand [reason]

/-- RESUME_HINT: the largest kind known here; 0 outside Buffer Stop. -/
def Block.resumeHint (b : Block) : Nat :=
  if b.cp.state != .bufferStop then 0 else if b.flt.cold || b.flt.diag == 3 then 2 else 1

/-- OWN_CAUSE, and the group's first cause: CODE, time, rank; 0 outside Buffer Stop (R434). -/
def Block.shownCauses (b : Block) : Nat × Nat × Nat × Nat :=
  if b.cp.state != .bufferStop then (0, 0, 0, 0)
  else let g := b.flt.group.getD (0, 0, 0); (b.flt.own.getD 0, g.1, g.2.1, g.2.2)

/-- Platforms out of service: entries of the map that name a platform and do not serve. -/
def Block.platformsOut (b : Block) : Nat := (b.dsp.platforms.filter fun x => x.2.entry.kind != 0 && !x.2.inService && !x.2.joining).length

/-- The payload of FAULT_QUERY (Table 16-6). -/
def Block.faultBytes (b : Block) : List Byte :=
  let c := b.shownCauses
  le 1 b.cp.state.code ++ le 1 b.flt.diag ++ le 1 b.flt.diagUnit ++ le 1 b.resumeHint ++ le 2 c.1 ++ le 2 c.2.1 ++ le 8 c.2.2.1 ++
  le 2 c.2.2.2 ++ le 2 (maskOf b.gr.banksOut) ++ le 4 b.flt.sweep.length ++ le 8 b.cp.applied ++ le 8 b.cp.digest ++
  le 4 b.flt.corrected ++ le 4 b.flt.uncorrected ++ le 2 b.platformsOut ++ le 2 b.fab.linksOut.length ++ le 2 b.flt.halts ++
  zeros 2 ++ le 8 b.flt.firstFatal

/-- FAULT_QUERY. -/
def Block.faultQuery (b : Block) (s : Nat) : Block :=
  let bytes := b.faultBytes
  (if b.cp.state == .bufferStop then { b with flt := { b.flt with queried := true } } else b).reply s 0 bytes

/-- RECOVER is answered with WRONG_STATE: not in Buffer Stop, nor fresh in FORMING. -/
def Block.recoverWrongState (b : Block) : Bool :=
  !(b.cp.state == .bufferStop || (b.cp.state == .forming && b.cp.fresh && !b.running))

/-- The time base is not present: TB_VALID low, or no TB_SYNC accepted since a loss (R434, R475; log entry 121). -/
def Block.timeBaseAbsent (b : Block) : Bool := !b.ap.tb.valid || b.ap.tb.absent

/-- The conditions of 0x0602 (R434). -/
def Block.diagIncomplete (b : Block) : Bool :=
  b.flt.diag != 2 || (b.cp.state == .bufferStop && !b.flt.queried) || b.timeBaseAbsent || !b.ap.lostClocks.isEmpty ||
  decide (b.now > b.pwr.lastFrame + 1000) || (b.pwr.rails.any fun r => r.cfg.enable && decide (b.now ≥ r.lastValid + 1000)) || b.sb.sensors.any fun x => x.2.alarm == 3

/-- The conditions of 0x040A on a fresh instance (R477). -/
def Block.notSetUp (b : Block) : Bool :=
  b.cp.state == .forming && (b.cp.n == 0 || b.cp.rank ≥ b.cp.n || b.ap.routesLoaded != some b.cp.n)

/-- RECOVER: its reply is deferred (R441). -/
def Block.recover (b : Block) (s recoverId : Nat) (returnBanks clearBarred : Bool) : Block :=
  if b.recoverWrongState then b.reply s 0x0402
  else if b.diagIncomplete then b.reply s 0x0602
  else if b.notSetUp then b.reply s 0x040A
  else
    let b := { b with ap := { b.ap with tb := { b.ap.tb with lost := false } }, obs := { b.obs with censusLeft := none } }
    (b.defer s 0).beginFormation s recoverId returnBanks clearBarred

end Sys2Proof.Machine
end

