-- ==== Sys2Proof/Machine/Observe.lean ====
section
/-! DEFINITION. Observability (chapter 17): counter reads, trace and census configuration, census snapshots, hang dumps with
their wait-for graph. -/

namespace Sys2Proof.Machine
open Sys2Proof

/-! ### Counters (R450 to R453) -/

/-- A 64-bit count as it reads. -/
def le64 (x : Nat) : List Byte := le 8 (x % 18446744073709551616)

/-- Unit counter of an ID (Table 17-5). HOLD_NS and CHASE_NS include the state that stands; the READY-low cycles of the
Logit Stream Ports depend on a pclk that the manual leaves to the integrator, so they are values left open. -/
def Block.unitCounter (b : Block) (id : Nat) : Nat :=
  let n := Tab.getD id 0 b.obs.counters
  if id > 34 then 0
  else if id = 16 || id = 17 then Config.readyLow id b.now
  else if (id = 24 && b.pwr.state == .hold) || (id = 25 && b.pwr.state == .chase) then n + (b.now - b.pwr.stateSince)
  else n

/-- Entries of a counter space and the bytes of one. -/
def spaceSize : Nat → Nat × Nat
  | 0 => (256, 16)
  | 1 => (32768, 128)
  | 2 => (4096, 48)
  | _ => (4096, 64)

def Block.platformCounterBytes (b : Block) (p : Nat) : List Byte :=
  let x := b.platform? p
  let k := (x.map (·.counters)).getD {}
  le64 k.busy ++ le64 k.stall ++ le64 k.idle ++ le64 k.items ++ le 8 k.lastTime ++
  le 4 (b2n (x.any fun y => y.inService) + 2 * b2n k.satSeen) ++ ([k.busy, k.stall, k.idle, k.items].flatMap fun v => le 1 (wrapsOf 255 v))

def Block.tenantCounterBytes (b : Block) (t : Nat) : List Byte :=
  let k := (b.tenant t).counters
  let cs := [k.admissions, k.prefillPositions, k.generatedTokens, k.reserveUsed, k.deadlineMisses, k.holds]
  let live := (Tab.vals b.gr.entries).filter fun e => e.tenant == t
  let queued := b.gr.fwQueue.filter fun f => (b.viewOf f).tenant == t
  (cs.flatMap le64) ++ le 4 live.length ++ le 4 queued.length ++ (cs.flatMap fun v => le 1 (wrapsOf 255 v)) ++ zeros 2

def Block.counterEntry (b : Block) (space i : Nat) : List Byte :=
  if space = 0 then let n := b.unitCounter i; le64 n ++ le 4 (wrapsOf 4294967295 n) ++ le 2 i ++ zeros 2
  else if space = 1 then (match Tab.get? i b.obs.bins with
    | some x => binBytes i x
    | none => zeros 128)
  else if space = 2 then b.platformCounterBytes i
  else b.tenantCounterBytes i

/-- COUNTER_READ (R451, R453). -/
def Block.counterRead (b : Block) (s space first count : Nat) : Block :=
  let sz := spaceSize space
  if space > 3 || count = 0 || count > 4096 || first + count > sz.1 then b.reply s 0x0103
  else if !secureSession s && !(space == 3 && first == (b.session s).tenant && count == 1) then b.reply s 0x0205
  else b.reply s 0 (le 8 b.now ++ le 2 space ++ le 2 sz.2 ++ le 4 count ++ (List.range count).flatMap fun i => b.counterEntry space (first + i))

/-! ### Trace and census (R454, R459, R461, R462) -/

/-- OBS_STATUS (Table 17-9). -/
def Block.obsStatus (b : Block) : Nat :=
  ofBools [b.scheduleTraced, b.obs.censusOn, bit b.obs.traceMask 10 && bits b.obs.traceMask 27 24 != 0, b.perturbed]

/-- TRACE_CONFIG (R454): every staged record is discarded, and the cores start new ones. -/
def Block.traceConfig (b : Block) (s mask addr bytes : Nat) : Block :=
  if bytes % 4096 != 0 || bytes < 65536 || bytes > 1073741824 || addr % 4096 != 0 then b.reply s 0x0103
  else { b with
    mp := { b.mp with writeWait := b.mp.writeWait.filter fun w => w.order != 1 }
    obs := { b.obs with
      traceMask := mask, traceAddr := addr, traceCap := bytes / 32, traceWrite := 0, traceLost := 0, traced := []
      cores := List.replicate 4 {} } }.reply s 0

/-- Bytes of a census snapshot. -/
def censusBytes : Nat := 34880

/-- CENSUS_CONFIG. -/
def Block.censusConfig (b : Block) (s enable interval addr bytes : Nat) : Block :=
  if enable > 1 then b.reply s 0x0103
  else if enable = 0 then { b with obs := { b.obs with censusOn := false, censusLeft := none } }.reply s 0
  else if interval < 10000 || interval > 1000000000 || bytes < censusBytes then b.reply s 0x0103
  else if b.cp.state == .running then b.reply s 0x0402
  else { b with obs := { b.obs with
    censusOn := true, censusInterval := interval, censusAddr := addr, censusCap := bytes / censusBytes, censusWrite := 0
    censusLeft := none, censusAt := b.now, waits := [], busy := [] } }.reply s 0

/-- Whether power permits issue to a platform now: of the item that R137 would stage next, else of none. Buffer Stop withholds no
permission of R257; it stages nothing. -/
def Block.permittedNow (b : Block) (p : Nat) (x : Platform) : Bool :=
  b.pwr.state != .hold && match b.firstRun p x false with
  | some r => b.runPermitted r p
  | none => b.pwr.configured && (b.rail (b.railOf p)).cfg.enable

def sat32 (x : Nat) : Nat := min 4294967295 x

def Block.censusQueue (b : Block) (i : Nat) : List Byte :=
  let rs := b.dsp.runs.filter fun r => r.level * 8 + r.cls == i && !r.items.isEmpty
  let items := rs.foldl (fun n r => n + r.items.length) 0
  let oldest := rs.foldl (fun m r => max m (b.now - r.since)) 0
  let w := Tab.getD i (0, 0) b.obs.waits
  le 2 rs.length ++ zeros 2 ++ le 4 items ++ le 4 (sat32 oldest) ++ le 4 (sat32 (w.1 / max 1 w.2))

/-- The oldest open item of a platform since when. -/
def Block.execSince (b : Block) (p : Nat) : Option Nat :=
  (b.dsp.openItems.find? fun o => o.platform == p && !o.held && o.oldestAt.isSome).bind (·.oldestAt)

def Block.censusPlatform (b : Block) (p : Nat) : List Byte := match b.platform? p with
  | none => zeros 8
  | some x =>
    let held := (b.slotsHeld p).length
    let load := Tab.getD p 0 b.obs.busy * max 1 b.obs.tickPs * 65536 / (1000 * max 1 b.obs.censusInterval)
    le 1 held ++ le 1 (ofBools [x.inService, b.permittedNow p x, b.pwr.barrier.isSome && held = 0]) ++ le 2 (min 65535 load) ++
    le 4 (sat32 (match b.execSince p with
      | some t => b.now - t
      | none => 0))

/-- A census snapshot, 34,880 bytes. -/
def Block.censusSnapshotBytes (b : Block) : List Byte :=
  le 8 b.now ++ le 4 b.obs.censusWrite ++ le 2 b.cp.rank ++ le 1 b.cp.state.code ++ le 1 (stateCode b.pwr.state) ++
  le 2 b.dsp.stook.length ++ le 2 b.poolUsed ++ le 2 b.dsp.readyWait.length ++
  le 2 (b.dsp.platforms.filter fun x => x.2.inService).length ++ le 8 b.cp.applied ++ zeros 32 ++
  ((List.range 128).flatMap b.censusQueue) ++ (List.range 4096).flatMap b.censusPlatform

/-- CENSUS_SNAPSHOT: at each INTERVAL, in rotation. -/
def Block.censusSnapshot (b : Block) : Block :=
  if !b.obs.censusOn || b.now < b.obs.censusAt + b.obs.censusInterval then b else
  let b := b.write (b.obs.censusAddr + b.obs.censusWrite % max 1 b.obs.censusCap * censusBytes) b.censusSnapshotBytes
  { b with obs := { b.obs with censusWrite := add32 b.obs.censusWrite 1, censusAt := b.now, waits := [], busy := [] } }

/-! ### The wait-for graph (R470) -/

/-- An edge: FROM_KIND, TO_KIND, REASON, FROM_ID, TO_ID, and since when. -/
structure WaitEdge where
  fromKind : Nat
  toKind : Nat
  reason : Nat
  fromId : Nat
  toId : Nat
  since : Nat
  deriving DecidableEq, Repr, Inhabited

def nodeStateCode : NodeState → Nat
  | .pending => 0 | .matching => 1 | .readyWait => 2 | .queued => 3 | .issued => 4 | .done => 5

/-- Node instances of the current step that are not DONE. -/
def Block.openNodes (b : Block) : List (Nat × NodeInst) := match b.dsp.current with
  | some x => x.nodes.filter fun n => n.2.state != .done
  | none => []

/-- The platforms that could take another item now. -/
def Block.freeNow (b : Block) : List (Nat × Platform) :=
  b.dsp.platforms.filter fun x => x.2.inService && !x.2.joining && (b.slotsHeld x.1).length + b.slotsReserved x.1 < 4

def Block.nodeEdges (b : Block) : List WaitEdge :=
  let t := b.cp.agreedAt
  let operand := b.openNodes.flatMap fun n => match b.tnode n.1 with
    | some x => (x.inputs.filter fun i => i ≤ 0x7FFF && !b.arrived i).map fun i => (⟨1, 1, 1, n.1, i, t⟩ : WaitEdge)
    | none => []
  let items := (b.dsp.openItems.filter fun o => o.copy.isNone && !o.held).map fun o =>
    (⟨1, 2, 2, o.node, o.platform, o.oldestAt.getD t⟩ : WaitEdge)
  let withheld := b.freeNow.filterMap fun x => match b.firstRun x.1 x.2 false with
    | some r => if r.copy.isNone && !b.permittedNow x.1 x.2 then some (⟨1, 6, 3, r.node, b.railOf x.1, r.since⟩ : WaitEdge) else none
    | none => none
  let full := b.dsp.runs.filterMap fun r =>
    if r.copy.isSome || r.items.isEmpty || (b.freeNow.any fun x => b.eligible r x.1 x.2) then none
    else match (b.dsp.platforms.filter fun x => b.member r x.2).head? with
      | some x => some (⟨1, 2, 3, r.node, x.1, r.since⟩ : WaitEdge)
      | none => none
  operand ++ items ++ withheld ++ full

/-- The node that streams a sampled row: the last that covers sampled positions of the row's model. -/
def Block.streamNode (b : Block) (r : RowRec) : Option Nat := match b.dsp.current with
  | some x => (((List.range x.template.nodes.length).zip x.template.nodes).filter fun n =>
      n.2.sampledOnly && n.2.model == r.model % 16).getLast?.map (·.1)
  | none => none

def Block.rowEdges (b : Block) : List WaitEdge :=
  (b.rowsWhere fun r => r.sample).flatMap fun i => match b.rowAt i with
    | none => []
    | some r =>
      let g := b.gleanRow i
      if g.final.isSome then [] else
      let t := g.first.getD b.cp.agreedAt
      let m := b.mapOf r
      let parts := (b.needed i r).filterMap fun k => (m[k]?).map fun s => (⟨4, 3, 7, i, s.rank, t⟩ : WaitEdge)
      let verdict := if g.verdict.isNone && !b.isLead then [(⟨4, 3, 8, i, b.cp.leadRank, t⟩ : WaitEdge)] else []
      let logits := if (shardOf m b.cp.rank).isSome && !b.thr.closed.contains i then match b.streamNode r with
          | some n => [(⟨4, 1, 9, i, n, b.cp.agreedAt⟩ : WaitEdge)]
          | none => []
        else []
      parts ++ verdict ++ logits

def Block.junctionEdges (b : Block) : List WaitEdge :=
  let j := b.cp.applied + 1
  let t := b.cp.readySent.getD b.cp.agreedAt
  let ready := ((List.range b.cp.n).filter fun r => !Tab.has r b.cp.ready).map fun r => (⟨5, 3, 4, j, r, t⟩ : WaitEdge)
  let digest :=
    ((if b.isLead then (List.range b.cp.n).filter fun r => if r = b.cp.rank then !b.cp.complete else !Tab.has r b.cp.digests
      else if b.cp.complete || b.cp.leadDigest.any fun d => d.1 == b.cp.applied then [] else [b.cp.leadRank]).map fun r =>
        (⟨5, 3, 5, b.cp.applied, r, b.cp.agreedAt⟩ : WaitEdge))
  let log := if b.cp.log.isNone && !b.isLead then [(⟨5, 3, 6, j, b.cp.leadRank, b.cp.logAskedAt.getD b.cp.agreedAt⟩ : WaitEdge)] else []
  let step := b.openNodes.map fun n => (⟨5, 1, 10, j, n.1, b.cp.agreedAt⟩ : WaitEdge)
  ready ++ digest ++ log ++ step

def Block.waitEdges (b : Block) : List WaitEdge := (b.nodeEdges ++ b.rowEdges ++ b.junctionEdges).eraseDups

/-- Vertices with waiters and no edge of their own. -/
def waitRoots (es : List WaitEdge) : List (Nat × Nat) :=
  ((es.map fun e => (e.toKind, e.toId)).filter fun v => !(es.any fun e => (e.fromKind, e.fromId) == v)).eraseDups

def waitBytes (cut : Nat) (es : List WaitEdge) : List Byte :=
  let roots := waitRoots es
  le 4 es.length ++ le 4 roots.length ++
  (es.flatMap fun e => le 1 e.fromKind ++ le 1 e.toKind ++ le 1 e.reason ++ zeros 1 ++ le 4 (e.fromId % 4294967296) ++
    le 4 (e.toId % 4294967296) ++ le 4 (sat32 ((cut - e.since) / 1000))) ++
  roots.flatMap fun v => le 1 v.1 ++ zeros 3 ++ le 4 (v.2 % 4294967296)

/-! ### HANG_DUMP (R467 to R469) -/

def maskBytes (rs : List Nat) : List Byte := (List.range 64).flatMap fun i => le 1 (maskOf ((rs.filter fun r => r / 8 == i).map (· % 8)))

/-- The open junction as a cut shows it: the one after the last applied, or the next where that one's log is held (R289). -/
def Block.openAtCut (b : Block) : Nat := b.cp.applied + (if b.cp.log.isSome then 2 else 1)

/-- The sections of a dump but WAIT_FOR (Table 17-10), in ascending TYPE. -/
def Block.dumpSections (b : Block) : List (List Byte) :=
  let prop := match b.seq.proposal, b.cp.staged with
    | some p, _ => le 4 1 ++ le 4 p.number
    | none, some p => le 4 2 ++ le 4 p.number
    | none, none => zeros 8
  let railState := fun (x : Rail) => ofBools [x.hard, x.recal, b.pwr.droop.isSome]
  [ sectionBytes 1 (le 4 b.cp.term ++ le 2 b.cp.leadRank ++ zeros 2 ++ le 8 b.openAtCut ++ le 8 b.cp.applied ++
      maskBytes (Tab.keys b.cp.ready) ++ maskBytes (Tab.keys b.cp.digests) ++ prop ++ le 8 (b.cp.leadTimer.getD 0)),
    sectionBytes 2 (b.openNodes.flatMap fun n =>
      le 2 n.1 ++ le 1 (nodeStateCode n.2.state) ++ le 1 ((b.tnode n.1).map b.awaited |>.getD 0) ++ le 2 (n.2.staged - n.2.completed) ++
      le 2 (n.2.count - n.2.staged)),
    sectionBytes 3 (b.dsp.runs.flatMap fun r =>
      le 2 r.node ++ le 1 (r.level + 16 * r.cls) ++ le 1 (b2n (r.gang && !r.items.isEmpty)) ++ le 4 r.arrival ++ le 4 r.items.length),
    sectionBytes 4 ((b.dsp.platforms.filter fun x => !x.2.items.isEmpty).flatMap fun x =>
      let tag := fun (k : Nat) => ((b.dsp.openItems.find? fun o => o.platform == x.1 && o.slot == k && !o.held).map (·.tag)).getD 0xFFFFFFFF
      le 2 x.1 ++ le 2 (ofBools [x.2.inService, b.permittedNow x.1 x.2]) ++ ((List.range 4).flatMap fun k => le 4 (tag k)) ++
      le 8 ((b.execSince x.1).getD 0) ++ le 8 x.2.counters.lastTime ++ zeros 4),
    sectionBytes 5 (b.thr.contexts.flatMap fun c =>
      le 2 c.port ++ le 2 c.row ++ le 4 c.tag ++ le 4 c.beats ++ le 4 c.nextIndex ++
      le 8 (b2n ((b.rowAt c.row).any fun r => b.slabStaged r.handle))),
    sectionBytes 6 ((b.rowsWhere fun r => r.sample).flatMap fun i =>
      let g := b.gleanRow i
      if g.final.isSome then [] else
      le 2 i ++ zeros 6 ++ le 8 (maskOf (Tab.keys g.contribs)) ++ le 8 (b2n g.verdict.isSome) ++ le 8 (g.first.getD 0)),
    sectionBytes 7 (((List.range 16).flatMap fun r =>
      let x := b.rail r
      le 2 (b.levelNow r) ++ le 2 x.k ++ le 2 (x.fore.headD 0) ++ le 2 x.phi ++ le 2 x.guard ++ le 2 (railState x)) ++
      le 4 (stateCode b.pwr.state) ++ le 4 b.pwr.cap),
    sectionBytes 9 (b.gr.entries.flatMap fun x => b.entryBytes x.1 x.2 (b.pendingOf x.2.handle)) ]

/-- Sections that fit whole, in order, and whether one did not. -/
def fitSections : List (List Byte) → Nat → List (List Byte) × Bool
  | [], _ => ([], false)
  | s :: r, room => if s.length > room then ([], true) else let x := fitSections r (room - s.length); (s :: x.1, x.2)

/-- Stamps of what lies outside the cut (R468): counted records, packets of each class, out marks, the last telemetry frame. -/
def Block.outsideStamps (b : Block) : List Nat :=
  (b.dsp.platforms.filterMap fun x => if x.2.counters.last.isSome then some x.2.counters.lastTime else none) ++
  Tab.vals b.fab.views ++ (b.fab.linksOut.filterMap fun l => Tab.get? l b.fab.linkAt) ++ (if b.pwr.tick = 0 then [] else [b.pwr.lastFrame])

/-- CUT_TIME: the state of Cheldo's own units is kept for the dumps (R468). -/
def Block.takeCut (b : Block) : Block :=
  { b with flt := { b.flt with
      cutTime := some b.now
      cut := { sections := b.dumpSections, waitFor := sectionBytes 8 (waitBytes b.now b.waitEdges), stamps := b.outsideStamps } } }

/-- The sections that a dump asks for, those with an element alone; WAIT_FOR stands eighth, before GRANARY. -/
def Cut.asked (c : Cut) (waitFor : Bool) : List (List Byte) :=
  (c.sections.take 7 ++ (if waitFor then [c.waitFor] else []) ++ c.sections.drop 7).filter fun x => !x.isEmpty

/-- WAIT_FOR is among the first `n` sections of the dump. -/
def Cut.holdsWaitFor (c : Cut) (waitFor : Bool) (n : Nat) : Bool :=
  waitFor && !c.waitFor.isEmpty && decide (((c.sections.take 7).filter fun x => !x.isEmpty).length < n)

/-- A dump of the cut, and the reply. -/
def Block.writeDump (b : Block) (s time addr bytes : Nat) (waitFor : Bool) : Block :=
  let fit := fitSections (b.flt.cut.asked waitFor) (bytes - 64)
  let total := 64 + fit.1.flatten.length
  let st := b.flt.cut.stamps
  let head := le 8 time ++ le 8 b.flt.enteredAt ++ le 8 b.cp.applied ++ le 4 b.cp.term ++ le 2 b.cp.rank ++ le 2 (b.flt.own.getD 0) ++
    le 4 total ++ le 2 fit.1.length ++ le 2 (ofBools [fit.2, b.flt.perturbedAt, b.flt.cut.holdsWaitFor waitFor fit.1.length]) ++
    le 8 ((minBy (fun (x y : Nat) => x < y) st).getD 0) ++ le 8 (st.foldl max 0) ++ zeros 8
  (b.write addr ((head ++ fit.1.flatten).take bytes)).reply s 0 (le 4 (min bytes total) ++ le 4 fit.1.length)

/-- HANG_DUMP; before CUT_TIME it waits as the session's current command. -/
def Block.hangDump (b : Block) (s addr bytes : Nat) (waitFor : Bool) : Block :=
  if b.cp.state != .bufferStop then b.reply s 0x0402
  else match b.flt.cutTime with
    | none => b
    | some time => b.writeDump s time addr bytes waitFor

/-- QUIESCENCE: the cut is taken, the sweep starts (R432; the ROM alone runs none), and the dumps that waited are written. -/
def Block.quiescence (b : Block) : Block :=
  if b.cp.state != .bufferStop || b.flt.cutTime.isSome then b else
  let b := { b with flt := { b.flt with diag := if b.flt.diag = 0 && b.sb.phase != BootPhase.recovery then 1 else b.flt.diag } }.takeCut
  (Tab.keys b.ses).foldl (fun (b : Block) s => match (b.session s).current with
    | some c => match c.pkt.params with
      | .hangDump addr bytes w => b.hangDump s addr bytes w
      | _ => b
    | none => b) b

/-- The PERTURBATION record at every change of what R459 reports. -/
def Block.notePerturbed (b : Block) (before : Bool) : Block :=
  if b.perturbed == before then b else b.logRec srcSignalBox 0x0193 0 [b.obsStatus, b.obs.traceMask]

end Sys2Proof.Machine
end

