-- ==== Sys2Proof/Machine/Mail.lean ====
section
/-! DEFINITION. Log records as bytes (Tables 15-7, 17-1, 17-11, 10-7, 16-9), mailbox messages and their queues (R412 to
R415), the sensors (R407, R408), the persistent log (R411). -/

namespace Sys2Proof.Machine
open Sys2Proof

/-! ### Log records (R409, R442) -/

/-- The widths of ARGS of a code: the manual's where a table gives them, 8 bytes each elsewhere, but a row and an index of 0x0130 are 8
bytes, its shard ranks 4 and its instances 8 (DESIGN CHOICE, log entry 78: no table sizes them). -/
def argWidths (code : Nat) : List Nat :=
  if code = 0x0130 then [8, 8, 4, 4, 8, 8]
  else if code = 0x0110 then [2, 1, 1, 4, 4, 4, 4, 4, 4, 4, 8]
  else if code = 0x0190 then [2, 2, 4, 4, 4, 4, 4, 4, 4]
  else if code = 0x0191 then [4, 4, 8]
  else if code = 0x0192 then [8, 8]
  else if code = 0x0193 then [8, 4]
  else if code = 0x0170 then [1, 1, 1, 1, 2, 2, 4, 4, 4]
  else if code = 0x0180 then List.replicate 40 1
  else List.replicate 5 8

/-- ARGS, 40 bytes; those of a power record open with its TIME (Table 10-7). -/
def argBytes (r : LogEntry) : List Byte :=
  padTo 40 ((if r.code = 0x0170 then le 8 r.time else []) ++ (List.zip (argWidths r.code) r.args).flatMap fun x => le x.1 x.2)

/-- A log record, 64 bytes (Table 15-7). -/
def recordBytes (seq : Nat) (r : LogEntry) : List Byte :=
  le 8 seq ++ le 8 r.time ++ le 2 r.source ++ le 2 r.code ++ le 1 r.sev ++ le 1 r.agent ++ le 2 r.rank ++ argBytes r

/-! ### Mailboxes (Tables 15-8 to 15-10) -/

def Block.mailbox (b : Block) (c : Nat) : Mailbox := Tab.getD c {} b.ap.mail

def Block.modMail (b : Block) (c : Nat) (f : Mailbox → Mailbox) : Block :=
  { b with ap := { b.ap with mail := Tab.set c (f (b.mailbox c)) b.ap.mail } }

/-- Outbound messages are posted on a channel (R415). -/
def Mailbox.posts (x : Mailbox) : Bool := x.outEnable && x.outBase != 0

/-- A message as written (Table 15-9). -/
def mailBytes (now : Nat) (x : MailMsg) : List Byte :=
  padTo 256 (le 2 x.type ++ le 2 x.flags ++ le 2 x.body.length ++ le 2 x.status ++ le 4 x.seq ++ zeros 4 ++ le 8 now ++ zeros 8 ++ x.body)

/-- A channel with no message pending or being written writes its next one. -/
def Block.mailPump (b : Block) (c : Nat) : Block :=
  let x := b.mailbox c
  if x.outPending || x.writing.isSome || !x.posts then b else
  match x.waiting with
  | [] => b
  | msg :: rest =>
    let addr := x.outBase + x.next * 256
    (b.write addr (mailBytes b.now msg)).modMail c fun x => { x with waiting := rest, writing := some addr }

/-- The Memory Port has answered the write of a message: OUT_SLOT and OUT_PENDING are set. -/
def Block.mailWritten (b : Block) (addr : Nat) : Block :=
  b.ap.mail.foldl (fun (b : Block) (c : Nat × Mailbox) =>
    if c.2.writing = some addr then
      (b.modMail c.1 fun x => { x with writing := none, outPending := true, outSlot := x.next, next := (x.next + 1) % 16 }).noteSet (w1cMailOut c.1)
    else b) b

/-- A dropped message is counted and logged. -/
def Block.mailDrop (b : Block) (c : Nat) : Block :=
  let b := b.modMail c fun x => { x with dropped := satInc 65535 x.dropped }
  b.logRec srcSignalBox 0x0172 1 [c, (b.mailbox c).dropped]

/-- Take the first element that `hit` picks out of a list. -/
def dropFirst {α : Type} (hit : α → Bool) : List α → List α
  | [] => []
  | x :: xs => if hit x then xs else x :: dropFirst hit xs

/-- Queue a message: at most 64 wait; a FATAL notice displaces the oldest that is none. -/
def Block.mailQueue (b : Block) (c : Nat) (msg : MailMsg) : Block :=
  let x := b.mailbox c
  if x.waiting.length < 64 then (b.modMail c fun x => { x with waiting := x.waiting ++ [msg] }).mailPump c
  else if msg.fatal then
    let b1 := b.modMail c fun x => { x with waiting := dropFirst (fun (y : MailMsg) => !y.fatal) x.waiting ++ [msg] }
    if x.waiting.all fun y => y.fatal then b1 else b1.mailDrop c
  else b.mailDrop c

/-- A reply; dropped where the channel posts nothing. -/
def Block.mailReply (b : Block) (c type seq status : Nat) (body : List Byte) : Block :=
  if (b.mailbox c).posts then b.mailQueue c { type, flags := 1, status, seq, body } else b.mailDrop c

/-- A notice to every channel that subscribes to its type; two types go to secure channels alone. -/
def Block.notice (b : Block) (type : Nat) (body : List Byte) (fatal : Bool) : Block :=
  (Tab.keys b.ap.mail).foldl (fun (b : Block) c =>
    let x := b.mailbox c
    if bit x.subscribe (type - 0x8001) && x.posts && (c < 16 || type == 0x8002) then
      (b.modMail c fun x => { x with seq := add32 x.seq 1 }).mailQueue c { type, seq := x.seq, body, fatal }
    else b) b

/-! ### Inbound messages (R413, R414) -/

/-- An inbound message is taken from a channel: IN_PENDING is cleared, and `k` answers it. -/
def Block.mailIn (b : Block) (c type : Nat) (x : InMail) (lo hi : Nat) (k : Block → Block) : Block :=
  if !(b.mailbox c).inPending then b else
  let b := { b.modMail c fun x => { x with inPending := false } with agent := (b.mailbox c).inAgent }
  let b := b.ask (60 + c % 4) ((b.mailbox c).inPtr + 32) (if x.readOk && x.bodyLen ≤ 4064 then x.bodyLen else 0) .mail
  if !x.readOk then b.mailReply c 0 0 0x0603 []
  else if type = 0 || type > 3 then b.mailReply c type x.seq 0x0101 []
  else if x.bodyLen < lo || x.bodyLen > hi then b.mailReply c type x.seq 0x0102 []
  else k b

/-- PING, or a message of a type that Table 15-10 does not list. -/
def Block.mailPing (b : Block) (c type : Nat) (x : InMail) : Block :=
  b.mailIn c (if type = 2 || type = 3 then 0 else type) x 0 0 fun b => b.mailReply c type x.seq 0 []

def Block.sensor (b : Block) (i : Nat) : Sensor := Tab.getD i {} b.sb.sensors

/-- SENSOR_SNAPSHOT. -/
def Block.mailSensors (b : Block) (c : Nat) (x : InMail) : Block :=
  b.mailIn c 2 x 0 0 fun b => b.mailReply c 2 x.seq 0 ((List.range 36).flatMap fun i => le 4 ((b.sensor i).value + 65536 * (b.sensor i).alarm))

/-- LOG_MARK. -/
def Block.mailMark (b : Block) (c : Nat) (x : InMail) : Block :=
  b.mailIn c 3 x 1 40 fun b =>
    (b.logRec srcSignalBox 0x0180 0 ((x.body.take x.bodyLen).map (·.toNat))).mailReply c 3 x.seq 0 []

/-! ### Sensors (R407, R408) -/

/-- A signed 16-bit VALUE. -/
def toInt16 (x : Nat) : Int := if x % 65536 < 32768 then (x % 65536 : Nat) else (x % 65536 : Nat) - 65536

/-- ALARM of a sample (Table 15-6): THERM 0 to 11, VMON 12 to 19, CANARY 20 to 35. -/
def alarmOf (i value : Nat) : Nat :=
  if i < 12 then (if toInt16 value > 1840 then 3 else if toInt16 value > 1680 then 1 else 0)
  else if i < 20 then (if value < 6400 then 3 else if value < 7000 then 2 else if value > 9000 then 1 else 0)
  else if value > 225 then 1 else 0

/-- SENSOR_SAMPLE. -/
def Block.sensorSample (b : Block) (i value : Nat) : Block :=
  if i ≥ 36 then b else
  let old := (b.sensor i).alarm
  let a := alarmOf i value
  let b := { b with sb := { b.sb with sensors := Tab.set i { valid := true, alarm := a, value := value % 65536 } b.sb.sensors } }
  let b := if a = old then b else
    (b.logRec srcSignalBox 0x0171 1 [i, a, value % 65536]).notice 0x8002 (le 2 i ++ le 2 a ++ le 2 value ++ zeros 2) false
  if a = 3 && old != 3 then b.stop .sensorTrip srcSignalBox [i, a, value % 65536] else b

/-! ### What core 2 does with new records (R411, R415) -/

/-- Records copied to the persistent log. -/
def persists (r : LogEntry) : Bool := r.sev ≥ 2 || [0x0161, 0x0162, 0x0163].contains r.code

/-- Stage a record: 256 places; a FATAL one displaces the oldest ERROR record, any other is dropped and counted. -/
def Block.stageRecord (b : Block) (r : LogEntry) : Block :=
  let at_ := if b.sb.stage.isEmpty then b.now else b.sb.stagedAt
  if b.sb.stage.length < 256 then { b with sb := { b.sb with stage := b.sb.stage ++ [r], stagedAt := at_ } }
  else if r.sev = 3 && b.sb.stage.any (fun (x : LogEntry) => x.sev == 2) then
    { b with sb := { b.sb with stage := dropFirst (fun (x : LogEntry) => x.sev == 2) b.sb.stage ++ [r], stageDropped := b.sb.stageDropped + 1 } }
  else { b with sb := { b.sb with stageDropped := b.sb.stageDropped + 1 } }

/-- One new record: copied, and noticed. -/
def Block.seeRecord (b : Block) (seq : Nat) (r : LogEntry) : Block :=
  let b := if persists r then b.stageRecord r else b
  let b := if r.code = 0x0170 && r.sev != 3 then b.notice 0x8001 ((argBytes r).take 32) false else b
  if r.sev ≥ 2 then b.notice 0x8003 (recordBytes seq r) (r.sev == 3) else b

/-- Every record not yet seen; the drops that a notice causes are seen in the next round. -/
def Block.seeRecords : Nat → Block → Block
  | 0, b => b
  | n + 1, b =>
    let new := b.vlog.drop b.sb.seen
    if new.isEmpty then b else
    let from_ := b.sb.seen
    let b := { b with sb := { b.sb with seen := b.vlog.length } }
    Block.seeRecords n (((List.range new.length).zip new).foldl (fun (b : Block) x => b.seeRecord (from_ + x.1) x.2) b)

end Sys2Proof.Machine
end

