-- ==== Sys2Proof/Machine/P384.lean ====
section
/-! DEFINITION. HKDF-SHA-384 (RFC 5869) and the curve P-384 (FIPS 186-5): the device identity of R381 and the signature check of
R393. Points are Jacobian (X, Y, Z) modulo p; Z = 0 is the point at infinity. -/

namespace Sys2Proof.Machine
open Sys2Proof

/-- HMAC-SHA-384. -/
def hmac384 (key m : List Byte) : List Byte :=
  let k := padTo 128 (if key.length > 128 then sha384 key else key)
  sha384 ((k.map (· ^^^ 0x5C#8)) ++ sha384 ((k.map (· ^^^ 0x36#8)) ++ m))

/-- 64 bytes of HKDF-SHA-384 with an empty salt. -/
def hkdf384 (ikm info : List Byte) : List Byte :=
  let prk := hmac384 (zeros 48) ikm
  let t1 := hmac384 prk (info ++ [1#8])
  (t1 ++ hmac384 prk (t1 ++ info ++ [2#8])).take 64

namespace P384

def p : Nat := 2 ^ 384 - 2 ^ 128 - 2 ^ 96 + 2 ^ 32 - 1
def n : Nat := 0xffffffffffffffffffffffffffffffffffffffffffffffffc7634d81f4372ddf581a0db248b0a77aecec196accc52973
def coefB : Nat := 0xb3312fa7e23ee7e4988e056be3f82d19181d9c6efe8141120314088f5013875ac656398d8a2ed19d2a85c8edd3ec2aef
def gx : Nat := 0xaa87ca22be8b05378eb1c71ef320ad746e1d3b628ba79b9859f741e082542a385502f25dbf55296c3a545e3872760ab7
def gy : Nat := 0x3617de4a96262c6f5d9e98bf9292dc29f8f41dbd289a147ce9da3113b5f0b8c00a60b1ce1d7e819d7a431d7c90ea0e5f

abbrev Point := Nat × Nat × Nat

def infinity : Point := (1, 1, 0)
def base : Point := (gx, gy, 1)

def mulM (a b : Nat) : Nat := a * b % p
def subM (a b : Nat) : Nat := (a + (p - b % p)) % p

/-- x to the power e modulo m; `k` bounds the bits of e. -/
def powM (m : Nat) : Nat → Nat → Nat → Nat
  | 0, _, _ => 1 % m
  | k + 1, x, e =>
    let h := powM m k (x * x % m) (e / 2)
    if e % 2 = 1 then h * x % m else h

/-- The inverse modulo a prime. -/
def invM (m x : Nat) : Nat := powM m 384 (x % m) (m - 2)

def double (a : Point) : Point :=
  if a.2.2 = 0 then infinity else
  let z2 := mulM a.2.2 a.2.2
  let y2 := mulM a.2.1 a.2.1
  let s := mulM (4 * a.1) y2
  let m := mulM (3 * subM a.1 z2) (a.1 + z2)
  let x := subM (mulM m m) (2 * s)
  (x, subM (mulM m (subM s x)) (8 * mulM y2 y2), mulM (2 * a.2.1) a.2.2)

def add (a b : Point) : Point :=
  if a.2.2 = 0 then b else if b.2.2 = 0 then a else
  let z1 := mulM a.2.2 a.2.2
  let z2 := mulM b.2.2 b.2.2
  let u1 := mulM a.1 z2
  let u2 := mulM b.1 z1
  let s1 := mulM a.2.1 (mulM z2 b.2.2)
  let s2 := mulM b.2.1 (mulM z1 a.2.2)
  if u1 = u2 then (if s1 = s2 then double a else infinity) else
  let h := subM u2 u1
  let r := subM s2 s1
  let h2 := mulM h h
  let h3 := mulM h2 h
  let v := mulM u1 h2
  let x := subM (subM (mulM r r) h3) (2 * v)
  (x, subM (mulM r (subM v x)) (mulM s1 h3), mulM h (mulM a.2.2 b.2.2))

/-- d times a point, d below 2^k. -/
def mul : Nat → Nat → Point → Point
  | 0, _, _ => infinity
  | k + 1, d, q =>
    let h := mul k (d / 2) (double q)
    if d % 2 = 1 then add h q else h

/-- Affine coordinates. -/
def affine (a : Point) : Nat × Nat :=
  let i := invM p a.2.2
  let i2 := mulM i i
  (mulM a.1 i2, mulM a.2.1 (mulM i2 i))

/-- The key pair that 64 bytes of random input give (FIPS 186-5, extra random bits): private d, public (x, y). -/
def keyPair (c : List Byte) : Nat × Nat × Nat :=
  let d := ofBe c % (n - 1) + 1
  let q := affine (mul 384 d base)
  (d, q.1, q.2)

/-- A public key lies on the curve. -/
def onCurve (x y : Nat) : Bool := x < p && y < p && mulM y y == (mulM (mulM x x) x + 3 * (p - x) + coefB) % p

/-- ECDSA verification of r, s over the SHA-384 digest of a message. -/
def verify (x y r s : Nat) (message : List Byte) : Bool :=
  0 < r && r < n && 0 < s && s < n && onCurve x y &&
  let e := ofBe (sha384 message)
  let w := invM n s
  let q := add (mul 384 (e * w % n) base) (mul 384 (r * w % n) (x, y, 1))
  q.2.2 != 0 && (affine q).1 % n == r

/-- An ECDSA signature (r, s) of a digest under a private key, with a random number k. -/
def sign (d e k : Nat) : Nat × Nat :=
  let r := (affine (mul 384 k base)).1 % n
  (r, invM n k * ((e + r * d) % n) % n)

end P384

end Sys2Proof.Machine
end

