-- ==== Sys2Proof/Machine/Aperture.lean ====
section
/-! DEFINITION. The host aperture (chapters 13 and 19): access checks, doorbell pages, the data window, locks, mailbox and key
bootstrap registers, and every other register's write. -/

namespace Sys2Proof.Machine
open Sys2Proof

/-! ### Accesses (R348 to R351) -/

/-- The regions that only secure accesses reach (Table 13-1). -/
def secureOffset (off : Nat) : Bool :=
  (0x40000 ≤ off && off < 0xC0000) || (0x100000 ≤ off && off < 0x110000)

def windowOffset (off : Nat) : Bool := 0x80000 ≤ off && off < 0x100000

/-- Agents 0 and 3 to 7 never arrive; 1 and 2 carry their own security (R350). -/
def agentDenied (a : HAccess) : Bool :=
  if a.core then !(3 ≤ a.agent && a.agent ≤ 6) else
  a.agent == 0 || (3 ≤ a.agent && a.agent ≤ 7) || (a.agent == 1 && a.secure) || (a.agent == 2 && !a.secure)

/-- Size, alignment, length or burst boundary broken. -/
def shapeBroken (a : HAccess) (off : Nat) : Bool :=
  !a.aligned || (if windowOffset off then !a.size8 || a.beats == 0 || a.beats > 512 || off % 4096 + 8 * a.beats > 4096 else a.beats != 1)

/-- The status of Table 13-3. -/
def accessStatus (a : HAccess) (off : Nat) (write : Bool) : Nat :=
  if (!a.secure && !a.core && secureOffset off) || agentDenied a then 1
  else if shapeBroken a off || (write && !a.crcOk) then 2 else 0

/-- ACCESS_LOGGED: offset, agent, the rule, and what else it names. -/
def Block.logAccess (b : Block) (off agent rule : Nat) (more : List Nat := []) : Block :=
  (b.count 34).logRec srcAperture 0x0160 1 ([off, agent, rule] ++ more)

/-- Answers leave in acceptance order, a window write's once the Memory Port has answered its writes (R349, R360). -/
def Block.answerPump : Nat → Block → Block
  | 0, b => b
  | n + 1, b => match b.ap.answers with
    | ([], os) :: rest => Block.answerPump n (os.foldl Block.emit { b with ap := { b.ap with answers := rest } })
    | _ => b

/-- The answer of one request: the memory writes it waits for, and its beats. -/
def Block.answer (b : Block) (awaits : List Nat) (os : List Out) : Block :=
  { b with ap := { b.ap with answers := b.ap.answers ++ [(awaits, os)] } }

def Block.flushAnswers (b : Block) : Block := Block.answerPump b.ap.answers.length b

/-- The Memory Port has answered a write at an address. -/
def Block.windowWritten (b : Block) (addr : Nat) : Block :=
  let rec go : List (List Nat × List Out) → List (List Nat × List Out)
    | [] => []
    | x :: xs => if x.1.contains addr then (x.1.erase addr, x.2) :: xs else x :: go xs
  { b with ap := { b.ap with answers := go b.ap.answers } }.flushAnswers

/-- The block serves its ports: no reset is asserted (R375). -/
def Block.inReset (b : Block) : Bool := b.sb.phase == .held

/-- A response beat of a read (Table 13-2). -/
def readBeat (st v : Nat) (last : Bool) : Out := .read st v last (crc32c (le 8 v))

/-- The response to a write: its data are 0. -/
def writeBeat (st : Nat) : Out := .written st (crc32c (le 8 0))

/-- A write access of one register: refused, answered and logged under Table 13-3, or `k` takes effect. -/
def Block.writeAccess (b : Block) (a : HAccess) (off : Nat) (k : Block → Block) : Block :=
  if !a.core && decide (b.ap.answers.length ≥ 16) then b else
  let st := accessStatus a off true
  let b := if st = 0 then k b else b.logAccess off a.agent 350
  if a.core then b else (b.answer [] [writeBeat st]).flushAnswers

/-- A read access of one register: `k` gives the value and what the read changes. -/
def Block.readAccess (b : Block) (a : HAccess) (off : Nat) (k : Block → Nat × Block) : Block :=
  if !a.core && decide (b.ap.answers.length ≥ 16) then b else
  let st := accessStatus a off false
  let (v, b) := if st = 0 then k b else (0, b.logAccess off a.agent 350)
  let v := if a.size8 then v else if a.high then v / 4294967296 else v % 4294967296
  if a.core then b else
  let beats := if st = 0 then 1 else max 1 a.beats
  (b.answer [] ((List.range beats).map fun i => readBeat st v (i + 1 == beats))).flushAnswers

/-- A register after a write of RW fields: a 4-byte write leaves the other half (R487). -/
def mergeWrite (a : HAccess) (old value : Nat) : Nat :=
  if a.size8 then value % 18446744073709551616
  else if a.high then old % 4294967296 + value % 4294967296 * 4294967296
  else old / 4294967296 * 4294967296 + value % 4294967296

/-- The bits a write carries to W1C and W1S fields. -/
def carried (a : HAccess) (value : Nat) : Nat := mergeWrite a 0 value

/-- Whether an access reaches the low half of a register. -/
def lowHalf (a : HAccess) : Bool := a.size8 || !a.high

/-! ### Doorbell pages (Table 13-4, R353, R354) -/

def page (s : Nat) : Nat := 0x100000 + s * 0x1000

/-- The offset of a queue register in its page. -/
def queueReg : QueueReg → Nat
  | .cmdBase => 0x20 | .cplBase => 0x28 | .cfg => 0x30

def Block.writeTail (b : Block) (a : HAccess) (s value : Nat) : Block :=
  if !lowHalf a then b else
  let v := value % 4294967296
  let x := b.session s
  if sub32 v x.fetch > x.cmdSize then b.logAccess (page s) a.agent 281
  else b.modSession s fun x => { x with tail := v }

def Block.writeHead (b : Block) (a : HAccess) (s value : Nat) : Block :=
  if !lowHalf a then b else
  let v := value % 4294967296
  let x := b.session s
  if sub32 x.cplTail v > x.cplSize then b.logAccess (page s + 0x10) a.agent 353
  else b.modSession s fun x => { x with cplHead := v }

/-- A write to CMD_QUEUE_BASE (0x20), CPL_QUEUE_BASE (0x28) or QUEUE_CFG (0x30). -/
def Block.writeQueue (b : Block) (a : HAccess) (s reg value : Nat) : Block :=
  let x := b.session s
  let old := if reg = 0x20 then x.cmdBase else if reg = 0x28 then x.cplBase else x.cmdLog + 256 * x.cplLog
  let v := mergeWrite a old value
  if x.state == .opened || x.state == .closing then b.logAccess (page s + reg) a.agent 353
  else if reg = 0x30 && lowHalf a && !(logOk (bits v 3 0) && logOk (bits v 11 8)) then b.logAccess (page s + reg) a.agent 353
  else b.modSession s fun x =>
    let x := if reg = 0x20 then { x with cmdBase := v / 64 * 64 } else if reg = 0x28 then { x with cplBase := v / 64 * 64 }
      else { x with cmdLog := bits v 3 0, cplLog := bits v 11 8 }
    { x with tail := 0, fetch := 0, cplHead := 0, cplTail := 0 }

/-- Token entries of the running step that this lead has written for a request. -/
def Block.writtenTokens (b : Block) (e : Entry) : Nat :=
  if !b.seq.written.contains e.handle then 0 else
  match b.gr.results.find? fun r => r.handle == e.handle with
  | some r => (cutTokens e (r.tokens.map (·.token))).length
  | none => 0

/-- The indices last accepted for a request's rings: TOKEN_CONS, EVENT_CONS. -/
def Block.lastReport (b : Block) (e : Entry) : Nat × Nat :=
  match Tab.get? e.handle b.seq.consumerWait, Tab.get? e.handle b.seq.consumer with
  | some x, _ => x
  | none, some x => x
  | none, none => match b.seq.closed.bind fun l => l.consumer.find? fun c => c.1 == e.handle with
    | some c => c.2
    | none => (e.tokenCons, e.eventCons)

/-- A consumer report of a page: `token` picks the ring. -/
def Block.writeReport (b : Block) (a : HAccess) (s value : Nat) (token : Bool) : Block :=
  let h := value % 4294967296
  let i := value / 4294967296 % 4294967296
  let no := b.logAccess (page s + (if token then 0x40 else 0x48)) a.agent 354
  let open_ := secureSession s || (b.session s).state == .opened || (b.session s).state == .closing
  if !a.size8 || !b.isLead || b.cp.state != .running || !open_ then no
  else match b.handleTarget s h with
    | .entry e =>
      let last := b.lastReport e
      let prod := if token then add32 e.tokenProd (b.writtenTokens e) else e.eventProd
      let size := ringSize (if token then e.tokenRing else e.eventRing)
      let prev := if token then last.1 else last.2
      if sub32 prod i > size || toInt32 (sub32 i prev) < 0 then no
      else if token then b.consumerReport h i last.2 else b.consumerReport h last.1 i
    | _ => no

/-- IRQ_CTL. -/
def Block.writeIrqCtl (b : Block) (a : HAccess) (s value : Nat) : Block :=
  if !lowHalf a then b else
  b.modSession s fun x => { x with irqEn := bit value 0, cplPending := b.cleared (w1cSession s) x.cplPending (bit value 1) }

/-- A write to a doorbell page. -/
def Block.writePage (b : Block) (a : HAccess) (s reg value : Nat) : Block :=
  if reg = 0 then b.writeTail a s value
  else if reg = 0x10 then b.writeHead a s value
  else if reg = 0x20 || reg = 0x28 || reg = 0x30 then b.writeQueue a s reg value
  else if reg = 0x40 then b.writeReport a s value true
  else if reg = 0x48 then b.writeReport a s value false
  else if reg = 0x50 then b.writeIrqCtl a s value
  else b

/-! ### Data channels (Table 13-5, R356 to R361) -/

def Block.channel (b : Block) (sec : Bool) : Channel := if sec then b.ap.sec else b.ap.ns

def Block.modChannel (b : Block) (sec : Bool) (f : Channel → Channel) : Block :=
  { b with ap := if sec then { b.ap with sec := f b.ap.sec } else { b.ap with ns := f b.ap.ns } }

/-- Offset in the staging area and size of a staging target. -/
def stageTarget (target select : Nat) : Nat × Nat :=
  if target = 1 then (0, 1052672) else if target = 2 then (0x101000 + select % 16 * 0x400, 1024)
  else if target = 3 then (0x102000, 32768) else (0x110000, 1048576)

/-- The transcript region that a handle names: its request's, live or in the firmware queue. -/
def Block.regionOf (b : Block) (h : Nat) : Option Region :=
  match b.byHandle h with
  | some (_, e) => b.region e.granule
  | none => (b.gr.fwQueue.find? fun f => f.moved.any fun e => e.handle == h).bind fun f => b.region f.granule

/-- Where that region lies (R41). -/
def Block.regionAddr (b : Block) (h : Nat) : Option Nat :=
  match b.byHandle h with
  | some (_, e) => some (b.transcriptPtr e.granule)
  | none => (b.gr.fwQueue.find? fun f => f.moved.any fun e => e.handle == h).map fun f => b.transcriptPtr f.granule

/-- A region as stored: admission record, tail, transcript (R41, R42, R59, R300). -/
def regionBytes (r : Region) : List Byte := regionHead r ++ padTo (4 * r.cap) (r.tokens.flatMap storedToken)

/-- SIZE of the bound target. -/
def Block.targetSize (b : Block) (c : Channel) : Nat :=
  if c.target = 0 then 0 else if c.target = 5 then (match b.regionOf c.select with
    | some r => 256 + 4 * r.cap
    | none => 0)
  else (stageTarget c.target c.select).2

/-- A target that the channel may use, and that binds (R358). -/
def Block.bindable (b : Block) (sec : Bool) (target select session : Nat) : Bool :=
  if target = 5 then
    (sec || (!secureSession session && (b.session session).state == .opened)) &&
    match b.handleTarget (if sec then 0 else session) select with
    | .entry _ => true
    | _ => false
  else sec && 1 ≤ target && target ≤ 4 && (target != 2 || select ≤ 3)

/-- A DP_CTL write. -/
def Block.writeDpCtl (b : Block) (a : HAccess) (sec : Bool) (value : Nat) : Block :=
  let c := b.channel sec
  let v := mergeWrite a (c.select * 4294967296 + c.session * 65536 + c.target) value
  let target := bits v 3 0
  let select := v / 4294967296
  let session := bits v 23 16
  if c.target != 0 && c.owner != a.agent then b.modChannel sec fun c => { c with foreign := true }
  else if target = 0 then b.modChannel sec fun c => { c with target := 0, owner := 0, select, session }
  else if b.bindable sec target select session then
    b.modChannel sec fun c => { c with target, select, session, owner := a.agent }
  else b.modChannel sec fun c => { c with denied := true }

/-- A DP_CURSOR write. -/
def Block.writeCursor (b : Block) (a : HAccess) (sec : Bool) (value : Nat) : Block :=
  let c := b.channel sec
  if c.target != 0 && c.owner != a.agent then b.modChannel sec fun c => { c with foreign := true }
  else if !lowHalf a then b
  else b.modChannel sec fun c => { c with cursor := value % 4294967296 / 8 * 8 }

/-- A DP_STATUS write: W1C. What an earlier access has set is cleared, since accesses take effect in order (R351); a bit that a junction
or the Memory Port sets at this moment stays (R12). -/
def Block.writeDpStatus (b : Block) (a : HAccess) (sec : Bool) (value : Nat) : Block :=
  if !lowHalf a then b else
  b.modChannel sec fun c => { c with
    overrun := c.overrun && !bit value 0, rdError := b.cleared (w1cChannel sec 1) c.rdError (bit value 1), foreign := c.foreign && !bit value 2
    busy := c.busy && !bit value 3, denied := c.denied && !bit value 4, crcError := c.crcError && !bit value 5
    changed := b.cleared (w1cChannel sec 6) c.changed (bit value 6) }

/-- A proposal is open on the group, as this instance knows it. -/
def Block.proposalOpen (b : Block) : Bool := !b.cp.stages.isEmpty || b.seq.proposal.isSome

/-- The open proposal is a MODEL_LOAD or MODE_SET, which locks the staged images (R359). -/
def Block.stagingLocked (b : Block) : Bool :=
  let locks := fun (p : Params) => match p with
    | .modelLoad _ | .modeSet _ => true
    | _ => false
  (b.cp.stages.any fun s => locks s.params) || (b.seq.proposal.any fun p => locks p.cmd.params)

/-- Advance CURSOR of the owner. -/
def Block.advance (b : Block) (sec : Bool) : Block := b.modChannel sec fun c => { c with cursor := (c.cursor + 8) % 4294967296 }

/-- A write beat: the block, and the address where it went to memory. -/
def Block.windowWrite (b : Block) (sec : Bool) (agent value : Nat) : Block × Option Nat :=
  let c := b.channel sec
  if c.target != 0 && c.owner != agent then (b.modChannel sec fun c => { c with foreign := true }, none)
  else if c.target = 0 then (b.modChannel sec fun c => { c with overrun := true }, none)
  else if c.target = 5 then ((b.modChannel sec fun c => { c with denied := true }).advance sec, none)
  else if c.cursor ≥ b.targetSize c then ((b.modChannel sec fun c => { c with overrun := true }).advance sec, none)
  else if c.target ≤ 3 && b.stagingLocked then ((b.modChannel sec fun c => { c with busy := true }).advance sec, none)
  else
    let addr := b.mdl.stageBase + (stageTarget c.target c.select).1 + c.cursor
    ((b.write addr (le 8 value)).advance sec, some addr)

/-- A read of device memory for a channel has failed. -/
def Block.readFailed (b : Block) (sec : Bool) : Block := (b.modChannel sec fun c => { c with rdError := true }).noteSet (w1cChannel sec 1)

/-- A read beat; `bad` when the device memory behind it could not be read. -/
def Block.windowRead (b : Block) (m : Memory) (sec : Bool) (agent : Nat) (bad : Bool) : Block × Nat :=
  let c := b.channel sec
  if c.target != 0 && c.owner != agent then (b.modChannel sec fun c => { c with foreign := true }, 0)
  else if c.target = 0 then (b.modChannel sec fun c => { c with overrun := true }, 0)
  else if c.target = 5 && (b.regionOf c.select).isNone then ((b.modChannel sec fun c => { c with denied := true }).advance sec, 0)
  else if c.cursor ≥ b.targetSize c then ((b.modChannel sec fun c => { c with overrun := true }).advance sec, 0)
  else if bad then ((b.readFailed sec).advance sec, 0)
  else
    let v := if c.target = 5 then (match b.regionOf c.select with
        | some r => ofLe (((regionBytes r).drop c.cursor).take 8)
        | none => 0)
      else memReadLe m (b.mdl.stageBase + (stageTarget c.target c.select).1 + c.cursor) 8
    (b.advance sec, v)

def Block.windowWrites (b : Block) (sec : Bool) (agent : Nat) : List Nat → Block × List Nat
  | [] => (b, [])
  | v :: vs =>
    let x := b.windowWrite sec agent v
    let y := Block.windowWrites x.1 sec agent vs
    (y.1, (match x.2 with
      | some a => [a]
      | none => []) ++ y.2)

def Block.windowReads (b : Block) (m : Memory) (sec : Bool) (agent : Nat) (bad : List Nat) : Nat → Nat → Block × List Out
  | _, 0 => (b, [])
  | i, n + 1 =>
    let x := b.windowRead m sec agent (bad.contains i)
    let y := Block.windowReads x.1 m sec agent bad (i + 1) n
    (y.1, readBeat 0 x.2 (n == 0) :: y.2)

/-- A read of the owner fetches up to 4 KiB from CURSOR on, on a stream of its target (R360, log entry 113). -/
def Block.fetchAhead (b : Block) (sec : Bool) (agent : Nat) : Block :=
  let c := b.channel sec
  let n := min 4096 (b.targetSize c - c.cursor)
  if c.target = 0 || c.owner != agent || !b.readDone (.window sec) then b
  else if c.target = 5 then (match b.regionAddr c.select with
    | some p => b.ask (if sec then 49 else 48) (p + c.cursor) n (.window sec)
    | none => b)
  else b.ask 63 (b.mdl.stageBase + (stageTarget c.target c.select).1 + c.cursor) n (.window sec)

/-- DATA_WINDOW_ACCESS: beats from an offset of the window; `data` for a write, `bad` the read beats whose memory fails. -/
def Block.window (b : Block) (m : Memory) (a : HAccess) (off : Nat) (write : Bool) (data bad : List Nat) : Block :=
  if a.core || b.ap.answers.length ≥ 16 || !windowOffset off then b else
  let sec := decide (off < 0xC0000)
  let st := accessStatus a off write
  if st != 0 then
    let b := if st = 2 && write && !a.crcOk then b.modChannel sec fun c => { c with crcError := true } else b
    let b := b.logAccess off a.agent 350
    (b.answer [] (if write then [writeBeat st] else (List.range (max 1 a.beats)).map fun i => readBeat st 0 (i + 1 == max 1 a.beats))).flushAnswers
  else if write then
    let x := b.windowWrites sec a.agent (data.take a.beats)
    (x.1.answer x.2 [writeBeat 0]).flushAnswers
  else
    let x := Block.windowReads (b.fetchAhead sec a.agent) m sec a.agent bad 0 a.beats
    (x.1.answer [] x.2).flushAnswers

/-- CHANGED: a junction has changed the bound transcript (R361). -/
def Block.noteChanged (b before : Block) (sec : Bool) : Block :=
  let c := b.channel sec
  let rebuilds := fun (x : Block) => x.byHandle c.select |>.any fun e => e.2.state == .rebuild
  if c.target = 5 && before.cp.applied != b.cp.applied &&
      (before.regionOf c.select != b.regionOf c.select || (rebuilds b && !rebuilds before)) then
    (b.modChannel sec fun c => { c with changed := true }).noteSet (w1cChannel sec 6) else b

/-- A STAGE_BASE write (R359). -/
def Block.writeStageBase (b : Block) (a : HAccess) (value : Nat) : Block :=
  if b.proposalOpen || (1 ≤ b.ap.sec.target && b.ap.sec.target ≤ 4) then b.logAccess 0x46020 a.agent 359
  else { b with mdl := { b.mdl with stageBase := mergeWrite a b.mdl.stageBase value / 4096 * 4096 } }

/-! ### Key bootstrap (Table 14-2, R382, R383) -/

/-- An ACTION starts, or is ignored and sets FAIL. -/
def Block.kbAction (b : Block) (action : Nat) : Block :=
  let k := b.keys
  let locked := k.locked || Tab.has 0 k.channel
  if action = 0 || action > 2 then b else
  let ok := k.action.isNone && !locked &&
    (if action = 1 then k.bootWrap.isSome && k.attempts > 0 && !Tab.has 0 k.channel else k.bootWrap.isNone)
  if !ok then { b with keys := { k with fail := true } }
  else
    let result := if action = 1 then k.bootWrap.bind fun w => Aes.unwrap w (k.blob.take 40) else some (k.blob.take 32)
    { b with keys := { k with action := some (action, result) } }

/-- A KB_CTL write by agent 2. -/
def Block.writeKbCtl (b : Block) (a : HAccess) (value : Nat) : Block :=
  if a.agent != 2 then b.logAccess 0x47000 a.agent 382
  else if !lowHalf a then b
  else { b with keys := { b.keys with certWrite := bit value 7, updateDis := bit value 6 } }.kbAction (value % 4)

/-- KB_ACTION_COMPLETE. -/
def Block.kbComplete (b : Block) : Block :=
  match b.keys.action with
  | none => b
  | some (1, some key) =>
    { b with keys := { b.keys with action := none, channel := Tab.set 0 key b.keys.channel, locked := true } }
  | some (1, none) =>
    let n := b.keys.attempts - 1
    { b with keys := { b.keys with action := none, attempts := n, fail := true, locked := b.keys.locked || n == 0 } }.noteSet w1cKey
  | some (_, key) => { b with keys := { b.keys with action := none, bootWrap := key } }

/-- A KB_BLOB word, i from 0. -/
def Block.writeKbBlob (b : Block) (a : HAccess) (i value : Nat) : Block :=
  if a.agent != 2 then b.logAccess (0x47010 + 8 * i) a.agent 382
  else
    let old := b.keys.blob
    let w := mergeWrite a (ofLe ((old.drop (8 * i)).take 8)) value
    { b with keys := { b.keys with blob := old.take (8 * i) ++ le 8 w ++ old.drop (8 * i + 8) } }

/-- KB_STATUS, W1C of FAIL. -/
def Block.writeKbStatus (b : Block) (a : HAccess) (value : Nat) : Block :=
  if a.agent != 2 then b.logAccess 0x47008 a.agent 382
  else { b with keys := { b.keys with fail := b.cleared w1cKey b.keys.fail (bit (carried a value) 0) } }

/-! ### Locks (R11, R416, R417) -/

def lockOffset (n : Nat) : Nat := if n < 32 then 0xA000 + 8 * n else 0x4A000 + 8 * (n - 32)

def Block.lockOwner (b : Block) (n : Nat) : Nat := Tab.getD n 0 b.ap.locks

def Block.setLock (b : Block) (n owner : Nat) : Block :=
  { b with ap := { b.ap with locks := if owner = 0 then Tab.erase n b.ap.locks else Tab.set n owner b.ap.locks } }

/-- A read of a lock: a free one is taken, and reads 0. -/
def Block.readLock (b : Block) (a : HAccess) (n : Nat) : Nat × Block :=
  let o := b.lockOwner n
  if o = 0 then (0, b.setLock n a.agent) else (o, b)

/-- A write of a lock: the owner's number, from the owner, releases it. -/
def Block.writeLock (b : Block) (a : HAccess) (n value : Nat) : Block :=
  if !lowHalf a then b else
  let v := value % 64
  if v = a.agent && v = b.lockOwner n && v != 0 then b.setLock n 0 else b.logAccess (lockOffset n) a.agent 11

/-- LOCK_BREAK. -/
def Block.breakLock (b : Block) (a : HAccess) (value : Nat) : Block :=
  if !lowHalf a then b else
  let n := value % 64
  (b.logAccess 0x4A100 a.agent 417 [n, b.lockOwner n]).setLock n 0

/-! ### Mailbox registers (Table 15-8) -/

def mailOffset (c : Nat) : Nat := if c < 16 then 0x48000 + c * 0x40 else 0x8000 + (c - 16) * 0x40

/-- A write to IN_CTL: IN_OVERRUN clears, and the doorbell rings. -/
def Block.writeInCtl (b : Block) (a : HAccess) (c value : Nat) : Block :=
  if !lowHalf a then b else
  let b := if bit value 1 then b.modMail c fun x => { x with inOverrun := false } else b
  if !bit value 0 then b
  else if (b.mailbox c).inPending then b.modMail c fun x => { x with inOverrun := true }
  else (b.modMail c fun x => { x with inPending := true, inAgent := a.agent }).ask (60 + c % 4) (b.mailbox c).inPtr 32 .mail

/-- A write to OUT_STATUS: the enables, and OUT_PENDING clears. -/
def Block.writeOutStatus (b : Block) (a : HAccess) (c value : Nat) : Block :=
  if !lowHalf a then b else
  (b.modMail c fun x => { x with irqEn := bit value 2, outEnable := bit value 1, outPending := b.cleared (w1cMailOut c) x.outPending (bit value 0) }).mailPump c

def Block.writeMail (b : Block) (a : HAccess) (c reg value : Nat) : Block :=
  let x := b.mailbox c
  if reg = 0 then
    if x.inPending then b.modMail c fun x => { x with inOverrun := true }
    else b.modMail c fun x => { x with inPtr := mergeWrite a x.inPtr value / 8 * 8 }
  else if reg = 8 then b.writeInCtl a c value
  else if reg = 0x10 then (b.modMail c fun x => { x with outBase := mergeWrite a x.outBase value / 4096 * 4096 }).mailPump c
  else if reg = 0x18 then
    if !lowHalf a then b else
    let v := value % 4294967296
    let v := if c < 16 then v else v - v % 8 + 2 * b2n (bit v 1)
    b.modMail c fun x => { x with subscribe := v }
  else if reg = 0x20 then b.writeOutStatus a c value
  else b

/-- A read of OUT_CTL: OUT_DROPPED, in the high half, is RC. -/
def Block.readOutCtl (b : Block) (a : HAccess) (c : Nat) : Nat × Block :=
  let x := b.mailbox c
  (x.dropped * 281474976710656 + x.outSlot * 68719476736 + x.subscribe,
   if a.size8 || a.high then b.modMail c fun x => { x with dropped := 0 } else b)

/-! ### The other registers (chapter 19, Tables 17-9, 18-2) -/

/-- GROUP_EVENT, W1C (R493). -/
def Block.writeGroupEvent (b : Block) (a : HAccess) (value : Nat) : Block :=
  if !lowHalf a then b else
  { b with cp := { b.cp with leadEvent := b.cleared (w1cGroup 0) b.cp.leadEvent (bit value 0) }
           flt := { b.flt with stopEvent := b.cleared (w1cGroup 1) b.flt.stopEvent (bit value 1) } }

/-- FAULT_STICKY, W1C (R497). -/
def Block.writeSticky (b : Block) (a : HAccess) (value : Nat) : Block :=
  let v := carried a value
  { b with flt := { b.flt with sticky := ofBools ((List.range 9).map fun i => b.cleared (w1cSticky i) (bit b.flt.sticky i) (bit v i)) } }

/-- COUNTER_SNAP (R500). -/
def Block.counterSnap (b : Block) (a : HAccess) (value : Nat) : Block :=
  if !lowHalf a || !bit value 0 then b else
  { b with obs := { b.obs with snapped := (List.range 35).map fun i => (i, b.unitCounter i) }, ap := { b.ap with snapTime := b.now } }

/-- GROUP_SETUP (R477): agent 2, fresh in FORMING. -/
def Block.writeGroupSetup (b : Block) (a : HAccess) (value : Nat) : Block :=
  if a.agent != 2 || !(b.cp.fresh && b.cp.state == .forming) then b.logAccess 0x4D000 a.agent 477
  else if !lowHalf a then b
  else { b with cp := { b.cp with n := bits value 25 16, rank := bits value 8 0 } }

/-- OBS_BASE (R460). -/
def Block.writeObsBase (b : Block) (a : HAccess) (value : Nat) : Block :=
  if !b.mdl.active.isEmpty then b.logAccess 0x4C008 a.agent 460
  else { b with obs := { b.obs with base := mergeWrite a b.obs.base value / 4096 * 4096 } }

def Block.writeCounterTick (b : Block) (a : HAccess) (value : Nat) : Block :=
  if !lowHalf a then b else { b with obs := { b.obs with tickPs := value % 65536 } }

/-- The channel and register of a mailbox offset. -/
def mailAt (off : Nat) : Option (Nat × Nat) :=
  if 0x8000 ≤ off && off < 0x8400 then some (16 + (off - 0x8000) / 0x40, off % 0x40)
  else if 0x48000 ≤ off && off < 0x48400 then some ((off - 0x48000) / 0x40, off % 0x40)
  else none

/-- The lock of an offset. -/
def lockAt (off : Nat) : Option Nat :=
  if 0xA000 ≤ off && off < 0xA100 then some ((off - 0xA000) / 8)
  else if 0x4A000 ≤ off && off < 0x4A100 then some (32 + (off - 0x4A000) / 8)
  else none

/-- A write at an offset of the register parts or the doorbell pages; what no register occupies ignores it (R350). -/
def Block.writeAt (b : Block) (a : HAccess) (off value : Nat) : Block :=
  if off ≥ 0x100000 then b.writePage a ((off - 0x100000) / 0x1000) (off % 0x1000) value
  else match mailAt off, lockAt off with
  | some (c, reg), _ => b.writeMail a c reg value
  | none, some n => b.writeLock a n value
  | none, none =>
    if off = 0x6000 then b.writeDpCtl a false value
    else if off = 0x6008 then b.writeCursor a false value
    else if off = 0x6010 then b.writeDpStatus a false value
    else if off = 0x46000 then b.writeDpCtl a true value
    else if off = 0x46008 then b.writeCursor a true value
    else if off = 0x46010 then b.writeDpStatus a true value
    else if off = 0x46020 then b.writeStageBase a value
    else if off = 0x40000 then b.writeGroupEvent a value
    else if off = 0x41030 then b.writeSticky a value
    else if off = 0x47000 then b.writeKbCtl a value
    else if off = 0x47008 then b.writeKbStatus a value
    else if 0x47010 ≤ off && off < 0x47050 then b.writeKbBlob a ((off - 0x47010) / 8) value
    else if 0x47100 ≤ off && off < 0x47160 then (if a.agent = 2 then b else b.logAccess off a.agent 382)
    else if off = 0x4A100 then b.breakLock a value
    else if off = 0x4C008 then b.writeObsBase a value
    else if off = 0x4C010 then b.writeCounterTick a value
    else if off = 0x4C100 then b.counterSnap a value
    else if off = 0x4D000 then b.writeGroupSetup a value
    else b

/-- A register or doorbell write as an access. -/
def Block.registerWrite (b : Block) (a : HAccess) (off value : Nat) : Block :=
  if windowOffset off || off ≥ 0x200000 then b else b.writeAccess a off fun b => b.writeAt a off value

end Sys2Proof.Machine
end

