-- ==== Sys2Proof/Machine/Registers.lean ====
section
/-! DEFINITION. What every register reads (Tables 13-4, 13-5, 14-2, 15-4, 15-8, 17-9, 18-2 and 19-2 to 19-9): the value of a
read that has no other effect. -/

namespace Sys2Proof.Machine
open Sys2Proof

/-- A register from its fields: (lowest bit, value). -/
def pack (fs : List (Nat × Nat)) : Nat := fs.foldl (fun n f => n + f.2 * 2 ^ f.1) 0

/-- An 8-byte word of a byte string. -/
def wordAt (l : List Byte) (i : Nat) : Nat := ofLe ((l.drop (8 * i)).take 8)

/-- Identity and capability (Table 19-2). -/
def Block.readIdentity (reg : Nat) : Nat :=
  if reg = 0 then pack [(32, 0xCE11), (0, Config.mfrId % 2048)]
  else if reg = 8 then 0x01000100
  else if reg = 0x10 then pack [(48, 0x1000), (32, 0x0100), (0, 0x8000)]
  else if reg = 0x18 then pack [(48, 0x0200), (32, 0x1000), (16, 0x040), (0, 0x2000)]
  else if reg = 0x20 then pack [(56, 0x40), (48, 0x10), (40, 0x40), (32, 0x20), (0, 0x01000000)]
  else if reg = 0x28 then pack [(48, 4), (40, 0x10), (32, 0x40), (16, 0x0800), (0, 0x1000)]
  else 0

/-- Group status (Table 19-3). -/
def Block.readGroup (b : Block) (reg : Nat) : Nat :=
  let c := b.cp
  let l := c.leadChange
  if reg = 0 then pack [(48, c.n), (32, b.shownLead), (16, c.rank), (3, b2n (b.isLead && c.state != .forming)), (2, b2n c.fresh),
      (0, c.state.code)]
  else if reg = 8 then pack [(32, c.epoch), (0, c.term)]
  else if reg = 0x10 then c.applied
  else if reg = 0x18 then b.shownOpen
  else if reg = 0x20 then pack [(63, b2n l.reused), (48, l.oldLead), (32, l.newLead), (0, l.term)]
  else if reg = 0x28 then l.junction
  else if reg = 0x30 then ofBools [c.leadEvent, b.flt.stopEvent]
  else if 0x40 ≤ reg && reg < 0x80 then maskOf ((c.barred.filter fun r => r / 64 == (reg - 0x40) / 8).map (· % 64))
  else 0

/-- Time base (Table 19-4). -/
def Block.readTime (b : Block) (reg : Nat) : Nat :=
  let t := b.ap.tb
  if reg = 0 then (if t.seen then b.now else 0)
  else if reg = 8 then pack [(32, t.losses), (2, b2n t.lost), (1, b2n t.armed), (0, b2n t.valid)]
  else if reg = 0x10 then t.lastSync else 0

/-- Fault status (Table 19-6, R496). -/
def Block.readFault (b : Block) (reg : Nat) : Nat :=
  let c := b.shownCauses
  if reg = 0 then pack [(48, c.2.1), (32, c.1), (16, b.flt.diagUnit), (8, b.resumeHint), (0, b.flt.diag)]
  else if reg = 8 then c.2.2.1
  else if reg = 0x10 then pack [(32, b.flt.sweep.length), (16, maskOf b.gr.banksOut), (0, c.2.2.2)]
  else if reg = 0x18 then pack [(32, b.flt.uncorrected), (0, b.flt.corrected)]
  else if reg = 0x20 then pack [(32, b.flt.halts), (16, b.fab.linksOut.length), (0, b.platformsOut)]
  else if reg = 0x28 then b.cp.digest
  else if reg = 0x30 then b.flt.sticky else 0

def railMask (b : Block) (f : Rail → Bool) : Nat := maskOf ((List.range 16).filter fun r => f (b.rail r))

/-- The multiple of 250 ns that the last frame was assigned to (R363). -/
def Power.tickTime (p : Power) : Nat := if p.tick = 0 then 0 else (p.lastFrame + 125) / 250 * 250

/-- Power status, caps, rails and grants (Tables 19-7, 19-8), from offset 0x04_2000. -/
def Block.readPower (b : Block) (reg : Nat) : Nat :=
  let p := b.pwr
  if reg = 0 then pack [(48, railMask b fun x => x.cfg.enable), (32, railMask b fun x => x.shown.recal), (16, railMask b fun x => x.hard),
      (4, b2n p.shownRamp), (3, b2n p.droop.isSome), (2, b2n p.configured), (0, stateCode p.shownState)]
  else if reg = 8 then pack [(48, p.pinCap), (32, p.groupCap), (16, p.local), (0, p.cap)]
  else if reg = 0x10 then pack [(16, b2n p.pinUrgent), (0, p.cmdCap)]
  else if reg = 0x18 then p.deadline.getD 0
  else if reg = 0x20 then p.tickTime
  else if 0x100 ≤ reg && reg < 0x200 then
    let x := b.rail ((reg - 0x100) / 16)
    if reg % 16 = 0 then pack [(48, x.capRail), (32, x.fore.headD 0), (16, x.shown.k), (0, x.shown.level)]
    else pack [(40, b2n x.cfg.enable), (39, b2n (x.cfg.enable && x.sampled)), (38, b2n x.shown.guardAll), (37, b2n x.shown.recal),
      (36, b2n x.hard), (24, x.shown.guard), (16, x.phi), (0, x.samples.headD 0)]
  else if 0x800 ≤ reg && reg < 0x1000 then
    let g := (reg - 0x800) / 8
    pack [(32, (b.group g).fullCurrent), (16, (b.group g).rail), (8, (b.grant g).1), (0, (b.grant g).2)]
  else 0

/-- A data channel (Table 13-5). -/
def Block.readChannel (b : Block) (sec : Bool) (reg : Nat) : Nat :=
  let c := b.channel sec
  if reg = 0 then pack [(32, c.select), (16, c.session), (8, c.owner), (0, c.target)]
  else if reg = 8 then c.cursor
  else if reg = 0x10 then pack [(32, b.targetSize c), (0, ofBools [c.overrun, c.rdError, c.foreign, c.busy, c.denied, c.crcError, c.changed])]
  else 0

/-- The identity public key, x then y, big-endian (R381). -/
def Block.deviceKey (b : Block) : List Byte :=
  let k := P384.keyPair (hkdf384 b.keys.deviceSecret (ascii "CHELDO DEVICE IDENTITY"))
  be 48 k.2.1 ++ be 48 k.2.2

/-- Key bootstrap (Table 14-2), from offset 0x04_7000. -/
def Block.readKb (b : Block) (reg : Nat) : Nat :=
  let k := b.keys
  if reg = 0 then pack [(7, b2n k.certWrite), (6, b2n k.updateDis)]
  else if reg = 8 then pack [(8, k.attempts), (4, b2n k.action.isSome), (3, b2n (k.locked || Tab.has 0 k.channel)), (2, b2n k.bootWrap.isSome),
      (1, b2n (Tab.has 0 k.channel)), (0, b2n k.fail)]
  else if 0x100 ≤ reg && reg < 0x160 then wordAt b.deviceKey ((reg - 0x100) / 8)
  else 0

/-- A mailbox channel (Table 15-8). -/
def Block.readMail (b : Block) (c reg : Nat) : Nat :=
  let x := b.mailbox c
  if reg = 0 then x.inPtr
  else if reg = 8 then ofBools [x.inPending, x.inOverrun]
  else if reg = 0x10 then x.outBase
  else if reg = 0x18 then pack [(48, x.dropped), (36, x.outSlot), (0, x.subscribe)]
  else if reg = 0x20 then ofBools [x.outPending, x.outEnable, x.irqEn]
  else if reg = 0x28 then x.inAgent else 0

/-- MBOX_PENDING (Table 19-5). -/
def Block.mailPending (b : Block) : Nat :=
  maskOf ((List.range 32).filter fun c => (b.mailbox c).outPending && (b.mailbox c).irqEn)

/-- Observability (Table 17-9, R501) and the counter window (R500), from offset 0x04_C000. -/
def Block.readObs (b : Block) (reg : Nat) : Nat :=
  let o := b.obs
  if reg = 0 then b.obsStatus
  else if reg = 8 then o.base
  else if reg = 0x10 then o.tickPs
  else if reg = 0x18 then o.traceWrite
  else if reg = 0x20 then o.censusWrite
  else if reg = 0x28 then o.traceMask
  else if reg = 0x30 then o.traceAddr
  else if reg = 0x38 then 32 * o.traceCap
  else if reg = 0x108 then b.ap.snapTime
  else if 0x2000 ≤ reg && reg < 0x3000 then
    let n := Tab.getD ((reg - 0x2000) / 16) 0 o.snapped
    if reg % 16 = 0 then n % 18446744073709551616 else wrapsOf 4294967295 n
  else 0

/-- A doorbell page (Table 13-4). -/
def Block.readPage (b : Block) (s reg : Nat) : Nat :=
  let x := b.session s
  let isOpen := x.state == .opened || x.state == .closing
  if reg = 0 then x.tail
  else if reg = 8 then x.fetch
  else if reg = 0x10 then x.cplHead
  else if reg = 0x18 then x.cplTail
  else if reg = 0x20 then x.cmdBase
  else if reg = 0x28 then x.cplBase
  else if reg = 0x30 then pack [(8, x.cplLog), (0, x.cmdLog)]
  else if reg = 0x38 then pack [(16, if isOpen && !secureSession s then x.tenant else 0),
      (0, ofBools [isOpen, secureSession s, x.cplLog != 0 && x.cplFree == 0])]
  else if reg = 0x50 then ofBools [x.irqEn, x.cplPending]
  else 0

/-- The value of a register; an offset that none occupies reads 0 (R350). A lock reads its owner: acquiring it is LOCK_READ. -/
def Block.readRegister (b : Block) (off : Nat) : Nat :=
  if off ≥ 0x100000 then b.readPage ((off - 0x100000) / 0x1000) (off % 0x1000)
  else match mailAt off, lockAt off with
  | some (c, reg), _ => b.readMail c reg
  | none, some n => b.lockOwner n
  | none, none =>
    if off < 0x1000 then Block.readIdentity off
    else if off < 0x1080 then b.readGroup (off - 0x1000)
    else if 0x2000 ≤ off && off < 0x2018 then b.readTime (off - 0x2000)
    else if 0x6000 ≤ off && off < 0x6018 then b.readChannel false (off - 0x6000)
    else if off = 0x8400 then b.mailPending / 65536
    else if off = 0x40000 then ofBools [b.cp.leadEvent, b.flt.stopEvent]
    else if 0x41000 ≤ off && off < 0x41038 then b.readFault (off - 0x41000)
    else if 0x42000 ≤ off && off < 0x43000 then b.readPower (off - 0x42000)
    else if 0x46000 ≤ off && off < 0x46018 then b.readChannel true (off - 0x46000)
    else if off = 0x46020 then b.mdl.stageBase
    else if 0x47000 ≤ off && off < 0x47160 then b.readKb (off - 0x47000)
    else if off = 0x48400 then b.mailPending
    else if 0x49000 ≤ off && off < 0x49120 then
      let x := b.sensor ((off - 0x49000) / 8)
      pack [(31, b2n x.valid), (26, x.alarm), (0, x.value)]
    else if off = 0x4D000 then pack [(16, b.cp.n), (0, b.cp.rank)]
    else if 0x4C000 ≤ off && off < 0x4F000 then b.readObs (off - 0x4C000)
    else 0

/-- TIME_STATUS. VALID returns with TB_VALID, of whose edges the table has no row: after a loss it is open until a TB_SYNC (log entry 121). -/
def Block.readTimeStatus (b : Block) : Nat × Block :=
  let v := b.readTime 8
  if b.ap.tb.valid || !b.ap.tb.seen then (v, b) else let x := b.freeNat 2; (v + x.1, x.2)

/-- A read of a register with what the read changes: a free lock is taken, and OUT_DROPPED clears (R11). -/
def Block.readAt (b : Block) (a : HAccess) (off : Nat) : Nat × Block :=
  match mailAt off, lockAt off with
  | some (c, reg), _ => if reg = 0x18 then b.readOutCtl a c else (b.readMail c reg, b)
  | none, some n => b.readLock a n
  | none, none => if off = 0x2008 then b.readTimeStatus else (b.readRegister off, b)

/-- A register or doorbell read as an access (R349, R350). -/
def Block.registerRead (b : Block) (r : RegRead) : Block :=
  let a : HAccess := { secure := r.secure, agent := r.agent, size8 := r.size8, high := r.high, beats := r.beats, aligned := r.aligned, crcOk := true }
  if windowOffset r.off || r.off ≥ 0x200000 then b else Block.readAccess { b with agent := r.agent } a r.off fun b => b.readAt a r.off

/-- A request of the aperture: the register reads accepted before it are answered first. -/
def Block.host (b : Block) (a : HAccess) (k : Block → Block) : Block :=
  k { a.before.foldl Block.registerRead b with agent := a.agent }

/-- The test instructions (Table 13-11). -/
inductive TestInstr where
  | bypass | idcode | wrapper | hsBreakScan | mbist
  deriving DecidableEq, Repr, Inhabited

/-- The instruction that an 8-bit code stands for: every other code acts as BYPASS. -/
def testInstruction (code : Nat) : TestInstr :=
  if code = 1 then .idcode else if code = 2 then .wrapper else if code = 3 then .hsBreakScan else if code = 4 then .mbist else .bypass

/-- The instruction in force at the test access port. -/
def Block.testSelected (b : Block) : TestInstr := testInstruction b.sb.ir

/-- IDCODE of the test access port (R372). -/
def idcode : Nat := pack [(28, 1), (12, 0xCE11), (1, Config.mfrId % 2048), (0, 1)]

/-- HA_IRQ (R355). -/
def Block.haIrq (b : Block) : List Bool :=
  if b.sb.safe then [false, false, false, false] else
  let rings := fun (sec : Bool) => b.ses.any fun s => secureSession s.1 == sec && s.2.cplPending && s.2.irqEn
  [rings true, rings false, b.cp.leadEvent || b.flt.stopEvent, b.mailPending != 0]

/-- RET_REQ of a core (Table 15-1, R377): it has nothing to run. -/
def Block.retReq (b : Block) (core : Nat) : Bool :=
  b.sb.phase == .firmware && !b.sb.safe &&
  (if core = 0 then b.sb.queue.isEmpty && b.sb.update.isNone && b.keys.action.isNone
   else if core = 1 then b.gr.fwQueue.isEmpty
   else if core = 2 then b.sb.stage.isEmpty
   else !(b.ap.mail.any fun x => x.2.inPending || !x.2.waiting.isEmpty))

end Sys2Proof.Machine
end

