-- ==== Sys2Proof/Machine/Flash.lean ====
section
/-! DEFINITION. The flash of the Signal Box: its bytes, the command queue (R404 to R406), firmware slots and the boot ROM's
selection (R393, R394), the persistent log's flush (R411). -/

namespace Sys2Proof.Machine
open Sys2Proof

/-! ### Flash bytes (R404, R405) -/

def erasedPage : List Byte := List.replicate 256 0xFF#8

/-- One 256-byte page. -/
def Block.flashPage (b : Block) (p : Nat) : List Byte := Tab.getD p erasedPage b.sb.flash

/-- n bytes of flash from an offset on. -/
def Block.flashRead (b : Block) (addr n : Nat) : List Byte :=
  (((List.range (n / 256 + 2)).flatMap fun i => b.flashPage (addr / 256 + i)).drop (addr % 256)).take n

def Block.setFlash (b : Block) (p : Nat) (l : List Byte) : Block := { b with sb := { b.sb with flash := Tab.set p l b.sb.flash } }

/-- Put bytes into one page; `f` combines the old byte with the new one. -/
def Block.flashPut (b : Block) (addr : Nat) (data : List Byte) (f : Byte → Byte → Byte) : Block :=
  let old := b.flashPage (addr / 256)
  let off := addr % 256
  b.setFlash (addr / 256) (old.take off ++ List.zipWith f (old.drop off) data ++ old.drop (off + data.length))

/-- PROGRAM within a page only clears bits. -/
def Block.flashProgram (b : Block) (addr : Nat) (data : List Byte) : Block := b.flashPut addr data fun x y => x &&& y

/-- ERASE_SECTOR of 64 KiB. -/
def Block.flashErase (b : Block) (addr : Nat) : Block :=
  { b with sb := { b.sb with flash := b.sb.flash.filter fun x => x.1 / 256 != addr / 65536 } }


/-! ### Slots (Table 14-5, R393) -/

def slotBase (s : Nat) : Nat := s * 0x400000
def bootMarkAddr (s : Nat) : Nat := slotBase s + 0x3FFFF0
def commitAddr (s : Nat) : Nat := slotBase s + 0x3FFFF8
def commitMagic : Nat := 0x43484C44
def erasedWord : Nat := 0xFFFFFFFFFFFFFFFF
def tryingWord : Nat := 0x00000000FFFFFFFF

def Block.flashWord (b : Block) (addr : Nat) : Nat := ofLe (b.flashRead addr 8)

def parseHeader (l : List Byte) : ImageHeader :=
  { magic := field l 0 4, hdrVersion := field l 4 1, keyIndex := field l 5 1, svn := field l 6 1, revokeMask := field l 7 1
    imageVersion := field l 8 4, interfaceVersion := field l 0xC 2, payloadLen := field l 0x10 4, entry := field l 0x14 4
    payloadHash := (l.drop 0x18).take 48, signature := (l.drop 0xA0).take 96 }

def Block.slotHeader (b : Block) (s : Nat) : ImageHeader := parseHeader (b.flashRead (slotBase s) 256)

def Block.slotPayload (b : Block) (s : Nat) : List Byte := b.flashRead (slotBase s + 256) (b.slotHeader s).payloadLen

/-- valid() of R393 without COMMIT: none where it holds, 1 where the image fails, 2 where only its SVN is below the counter. -/
def Block.imageFault (b : Block) (s : Nat) : Option Nat :=
  let h := b.slotHeader s
  let key := Config.romKey h.keyIndex
  if h.magic != 0x57464843 || h.hdrVersion != 1 || h.payloadLen < 0x100000 || h.payloadLen > 0x300000 then some 1
  else if h.keyIndex > 3 || bit b.keys.revoke h.keyIndex || bit h.revokeMask h.keyIndex then some 1
  else if !P384.verify key.1 key.2 (ofBe (h.signature.take 48)) (ofBe (h.signature.drop 48)) (b.flashRead (slotBase s) 0xA0) then some 1
  else if sha384 (b.slotPayload s) != h.payloadHash then some 1
  else if h.svn < b.keys.rollback then some 2
  else none

def Block.slotCommitted (b : Block) (s : Nat) : Bool := b.flashWord (commitAddr s) / 4294967296 == commitMagic

/-- A command that fails leaves what it was to write open; of an update's slot, that COMMIT holds no magic (R420). -/
def Block.flashSpoil (b : Block) (c : FlashCmd) : Block :=
  let b := if c.erase then
      (List.range 256).foldl (fun (b : Block) i => let x := b.freeBytes 256; x.2.setFlash (c.addr / 65536 * 256 + i) x.1) b
    else let x := b.freeBytes c.data.length; x.2.flashPut c.addr x.1 fun _ y => y
  let s := c.addr / 0x400000
  if (c.use == .update || c.use == .commit) && b.slotCommitted s then b.flashProgram (commitAddr s) (le 8 0) else b

def Block.slotValid (b : Block) (s : Nat) : Bool := b.slotCommitted s && (b.imageFault s).isNone

def Block.commitGen (b : Block) (s : Nat) : Nat := b.flashWord (commitAddr s) % 4294967296

/-- newer(a, c) of R393. -/
def Block.newer (b : Block) (a c : Nat) : Bool :=
  let x := (b.slotHeader a).svn
  let y := (b.slotHeader c).svn
  let d := sub32 (b.commitGen a) (b.commitGen c)
  x > y || (x == y && 1 ≤ d && d ≤ 2147483648)

/-- The slot that the ROM chooses among the valid ones. -/
def Block.chooseSlot (b : Block) : Option Nat :=
  match b.slotValid 0, b.slotValid 1 with
  | true, true => some (if b.newer 1 0 then 1 else 0)
  | true, false => some 0
  | false, true => some 1
  | false, false => none

/-- select of R393; the ROM's programs end before the next step of the ROM. -/
def Block.bootSelect : Nat → Block → Block × Option Nat
  | 0, b => (b, none)
  | n + 1, b => match b.chooseSlot with
    | none => (b, none)
    | some c =>
      let mark := b.flashWord (bootMarkAddr c)
      if mark = tryingWord && b.slotValid (1 - c) then Block.bootSelect n (b.flashProgram (commitAddr c) (le 8 0))
      else (if mark = erasedWord then b.flashProgram (bootMarkAddr c) (le 8 tryingWord) else b, some c)

/-- Steps 2 and 3 of R394 for the running image. -/
def Block.raiseCounter (b : Block) : Block :=
  match b.sb.slot with
  | none => b
  | some s =>
    let h := b.slotHeader s
    { b with keys := { b.keys with rollback := max b.keys.rollback h.svn, revoke := b.keys.revoke ||| h.revokeMask % 16 } }

/-! ### The command queue (R405, R406) -/

/-- Commands join the queue; the first of an idle queue starts at once. An update sends its erases and programs one at a time, so any
other command comes before those of it that wait (R406). -/
def Block.flashPush (b : Block) (cs : List FlashCmd) : Block :=
  let rest := b.sb.queue.drop 1
  let q := if cs.any fun c => c.use == .update then b.sb.queue ++ cs
    else b.sb.queue.take 1 ++ rest.filter (fun c => c.use != .update) ++ cs ++ rest.filter fun c => c.use == .update
  { b with sb := { b.sb with startedAt := if b.sb.queue.isEmpty then b.now else b.sb.startedAt, queue := q } }

/-- The integrator's flash at the Memory Port, 32 MiB (R404): the read window onto flash offset 0, and the control block of Table 15-3. -/
def flashRegion : Nat := Config.flashBase % 2 ^ 39 * 2 ^ 25
def flashControl : Nat := flashRegion + 0x1000000

/-- The first command of the queue goes to the controller where none runs: FC_DATA, FC_ADDR and FC_LEN, then FC_CMD, whose write starts
it; then core 0 asks for FC_STATUS on its stream (R401, R404 to R406; log entry 87). -/
def Block.flashStart (b : Block) : Block :=
  match b.sb.queue with
  | [] => b
  | c :: _ =>
    if b.sb.flashBusy then b else
    let b := { b with sb := { b.sb with flashBusy := true } }
    let b := if c.erase then b else b.write (flashControl + 0x100 + c.addr % 256) c.data
    let b := b.write (flashControl + 8) (le 8 c.addr ++ if c.erase then [] else le 8 c.data.length)
    (b.write flashControl (le 8 (if c.erase then 1 else 2)) 2 (some (flashControl + 8, 0x1F8))).ask 60 (flashControl + 0x18) 8 .other

/-- The limit of a running command, in ns. -/
def flashLimit (c : FlashCmd) : Nat := if c.erase then 2000000000 else 5000000

/-- Programs of data from an address on, none across a page. -/
def programsOf (use : FlashUse) : Nat → Nat → List Byte → List FlashCmd
  | 0, _, _ => []
  | n + 1, addr, data =>
    if data.isEmpty then [] else
    let k := 256 - addr % 256
    { erase := false, addr, data := data.take k, use } :: programsOf use n (addr + k) (data.drop k)

/-! ### The persistent log (R411) -/

def plogBase : Nat := 0x800000

/-- The SEQ that follows the highest in the persistent area, from which the firmware continues at boot (R411). -/
def Block.plogEnd (b : Block) : Nat := b.sb.plog.foldl (fun n (x : Nat × LogEntry) => max n (x.1 + 1)) 0

/-- Where a record of the persistent log stands. -/
def plogAddr (seq : Nat) : Nat := plogBase + seq % 65536 * 64

/-- The flash commands that store records from a SEQ on: an erase before the first record of a sector. -/
def flushCmds : Nat → Nat → List LogEntry → List FlashCmd
  | 0, _, _ => []
  | n + 1, seq, rs =>
    if rs.isEmpty then [] else
    let recs := (List.range (4 - seq % 4)).zip rs |>.map fun x => (seq + x.1, x.2)
    let prog : FlashCmd :=
      { erase := false, addr := plogAddr seq, data := recs.flatMap (fun (x : Nat × LogEntry) => recordBytes x.1 x.2), use := .log, records := recs }
    let rest := flushCmds n (seq + recs.length) (rs.drop recs.length)
    if seq % 1024 = 0 then { erase := true, addr := plogAddr seq, data := [], use := .log } :: prog :: rest else prog :: rest

/-- Flush the staging buffer. -/
def Block.flushLog (b : Block) : Block :=
  if b.sb.stage.isEmpty then b else
  let cs := flushCmds b.sb.stage.length b.sb.plogNext b.sb.stage
  let n := b.sb.stage.length
  { b with sb := { b.sb with stage := [], plogNext := b.sb.plogNext + n } }.flashPush cs

/-- PERSISTENT_LOG_FLUSH: 16 records, or 10 ms. -/
def Block.flushDue (b : Block) : Block :=
  if b.sb.phase == .firmware && !b.sb.stage.isEmpty && (b.sb.stage.length ≥ 16 || b.now ≥ b.sb.stagedAt + 10000000) then b.flushLog else b

/-- A fault in the log area: the sector is skipped, and the records not yet stored wait for the next one. -/
def Block.skipSector (b : Block) : Block :=
  let waiting := (b.sb.queue.filter fun c => c.use == .log).flatMap fun c => c.records.map (·.2)
  let first := match ((b.sb.queue.filter fun c => c.use == .log).flatMap fun c => c.records).head? with
    | some x => x.1
    | none => b.sb.plogNext
  { b with sb := { b.sb with
      queue := b.sb.queue.filter fun c => c.use != .log
      stage := waiting ++ b.sb.stage, stagedAt := b.now, plogNext := (first / 1024 + 1) * 1024 } }

/-- A log command has ended well: an erased sector's records go, a program's records are there. -/
def Block.logStored (b : Block) (c : FlashCmd) : Block :=
  if c.erase then { b with sb := { b.sb with plog := b.sb.plog.filter fun (x : Nat × LogEntry) => plogAddr x.1 / 65536 != c.addr / 65536 } }
  else { b with sb := { b.sb with plog := b.sb.plog ++ c.records } }

/-! ### LOG_READ (R409, R410) -/

/-- Records of the volatile log that the ring still holds and that are readable, with their SEQ. -/
def Block.volatileRecords (b : Block) : List (Nat × LogEntry) :=
  let from_ := b.vlog.length - 16384
  ((List.range (b.vlog.length - from_)).map fun i => from_ + i).zip (b.vlog.drop from_) |>.filter fun x => !b.sb.dropped.contains x.1

/-- LOG_READ: COUNT records from FIRST on, or from the oldest one held. -/
def Block.logRead (b : Block) (s log first count : Nat) : Block :=
  if log > 1 then b.reply s 0x0103 else
  let rs := if log = 0 then b.volatileRecords else b.sb.plog
  let rs := (rs.filter fun x => x.1 ≥ first).take count
  -- records of the persistent log are read through the flash's read window, by core 2 (R404)
  let b := if log = 0 then b else rs.foldl (fun (b : Block) x => b.ask 62 (flashRegion + plogAddr x.1) 64 .other) b
  b.reply s 0 (rs.flatMap fun x => recordBytes x.1 x.2)

end Sys2Proof.Machine
end

