-- ==== Sys2Proof/Machine/Manage.lean ====
section
/-! DEFINITION. The Management Port: MCTP control (R371), PLDM and the firmware update (R395, R396, R420). A message that leaves
is its body from the message type's own header on: for MCTP control and PLDM the instance number, the (type and) command and the
completion code. Codes and layouts that the manual leaves to the DMTF documents are theirs (log entry 60). -/

namespace Sys2Proof.Machine
open Sys2Proof

/-! ### Messages in and out (R371) -/

/-- The fields of an MCTP transport header (DSP0236): destination and source EID, SOP, EOP, sequence number, TO bit with message tag. -/
def mctpByte (x : MctpMsg) (i : Nat) : Nat := (x.packet.getD i 0).toNat
def mctpDest (x : MctpMsg) : Nat := mctpByte x 1
def mctpSource (x : MctpMsg) : Nat := mctpByte x 2
def mctpSop (x : MctpMsg) : Bool := bit (mctpByte x 3) 7
def mctpEop (x : MctpMsg) : Bool := bit (mctpByte x 3) 6
def mctpSeq (x : MctpMsg) : Nat := mctpByte x 3 / 16 % 4
def mctpFlow (x : MctpMsg) : Nat := mctpByte x 3 % 16

/-- The bytes of its message in a packet: the baseline unit has 64 at most. -/
def mctpSize (x : MctpMsg) : Nat := x.packet.length - 4

/-- The message that a packet opens or continues; none where none of its sender and tag is being put together. -/
def Block.mctpPart (b : Block) (x : MctpMsg) : Option MctpPart :=
  if mctpSop x then some { source := mctpSource x, flow := mctpFlow x, next := mctpSeq x, size := 0, head := (x.packet.drop 4).take 4 }
  else b.sb.mctpParts.find? fun p => p.source == mctpSource x && p.flow == mctpFlow x

/-- A packet of a message that is not given up: it comes in its turn, every packet but the last is full, the message has at most 4,352
bytes and a supported type with no integrity check, and at most 4 messages are put together at once (Table 13-10). -/
def MctpPart.takes (p : MctpPart) (x : MctpMsg) (others : Nat) : Bool :=
  mctpSeq x == p.next && 0 < mctpSize x && mctpSize x ≤ 64 && (mctpEop x || mctpSize x == 64) && p.size + mctpSize x ≤ 4352 &&
  [0, 1, 5].contains (p.head.getD 0 0).toNat && (!mctpSop x || mctpEop x || others < 4)

/-- A packet comes (R370, R371): the message that it completes, where it does, and the block after it. One whose CRC fails, one for
another endpoint, and a message given up are discarded, and each counts once; a packet of no message is dropped (log entry 62). -/
def Block.mctpTake (b : Block) (x : MctpMsg) : Option MctpHead × Block :=
  let count := fun (b : Block) => (none, { b with sb := { b.sb with mctpDiscards := b.sb.mctpDiscards + 1 } })
  if x.crc != crc32c x.packet then count b
  else match b.mctpPart x with
  | none => (none, b)
  | some p =>
    let control := p.head.getD 0 0 == 0
    if !((mctpDest x == b.sb.eid && mctpDest x != 0) || (control && mctpDest x == 0)) then count b
    else
      let others := b.sb.mctpParts.filter fun q => !(q.source == mctpSource x && q.flow == mctpFlow x)
      let c := { b with sb := { b.sb with mctpParts := others } }
      if !p.takes x others.length then count c
      else if mctpEop x then (some { source := p.source, tag := p.flow % 8, bytes := p.head }, c)
      else (none, { b with sb := { b.sb with mctpParts := others ++ [{ p with next := (mctpSeq x + 1) % 4, size := p.size + mctpSize x }] } })

/-- The packets of a message (R370, R371): a transport header of DSP0236 and up to 64 bytes of the message, which opens with its type;
`tag` is the TO bit and the message tag. -/
def mctpPackets (dest source tag : Nat) (message : List Byte) : List (List Byte × Nat) :=
  let n := max 1 (ceilDiv message.length 64)
  (List.range n).map fun i =>
    let flags := 128 * b2n (i == 0) + 64 * b2n (i + 1 == n) + 16 * (i % 4) + tag
    let p := [1#8, byteOf dest, byteOf source, byteOf flags] ++ (message.drop (64 * i)).take 64
    (p, crc32c p)

/-- A message leaves. -/
def Block.mctpSend (b : Block) (dest type tag : Nat) (body : List Byte) : Block :=
  b.emit (.mctp dest type body (mctpPackets dest b.sb.eid tag (le 1 type ++ body)))

/-- A byte of the head of a message, and the instance number of one of MCTP control or PLDM. -/
def MctpHead.byte (x : MctpHead) (i : Nat) : Nat := (x.bytes.getD i 0).toNat
def MctpHead.inst (x : MctpHead) : Nat := x.byte 1 % 32

/-- An answer to an MCTP control command. -/
def Block.mctpReply (b : Block) (x : MctpHead) (cmd code : Nat) (data : List Byte := []) : Block :=
  b.mctpSend x.source 0 x.tag (le 1 x.inst ++ le 1 cmd ++ le 1 code ++ data)

/-- A PLDM message with a request bit: a request of Cheldo's own has an instance number and a message tag that are open. -/
def Block.pldmSend (b : Block) (dest tag inst type cmd : Nat) (body : List Byte) : Block :=
  b.mctpSend dest 1 tag (le 1 inst ++ le 1 type ++ le 1 cmd ++ body)

def Block.pldmReply (b : Block) (x : MctpHead) (type cmd code : Nat) (data : List Byte := []) : Block :=
  b.pldmSend x.source x.tag x.inst type cmd (le 1 code ++ data)

/-- An SPDM response: version 1.2, code, two parameters, body. -/
def Block.spdmReply (b : Block) (x : MctpHead) (code p1 p2 : Nat) (body : List Byte := []) : Block :=
  b.mctpSend x.source 5 x.tag (le 1 0x12 ++ le 1 code ++ le 1 p1 ++ le 1 p2 ++ body)

def Block.spdmError (b : Block) (x : MctpHead) (code : Nat) (data : Nat := 0) : Block := b.spdmReply x 0x7F code data

def invalidRequest : Nat := 1
def busy : Nat := 3
def unexpectedRequest : Nat := 4
def unspecified : Nat := 5
def unsupportedRequest : Nat := 7

/-- The commands that Cheldo supports, of MCTP control (Table 13-10), of a PLDM type (Table 14-6) and of SPDM (Table 14-7). -/
def controlCommands : List Nat := [1, 2, 3, 4, 5]
def pldmCommands (type : Nat) : List Nat :=
  if type = 0 then [2, 3, 4, 5] else if type = 5 then [0x01, 0x02, 0x10, 0x13, 0x14, 0x1A, 0x1B, 0x1C, 0x1D] else []
def spdmRequests : List Nat := [0x81, 0x82, 0x83, 0x84, 0xE0, 0xE1, 0xE3, 0xEE]

/-- A request of another command, answered so: ERROR_UNSUPPORTED_CMD, ERROR_UNSUPPORTED_PLDM_CMD (both 0x05) or ERROR UnsupportedRequest
with the request's code (R371, R396, R397). None for a command of the subsets and for an answer. -/
def Block.unsupported (b : Block) (x : MctpHead) : Option Block :=
  let request := bit (x.byte 1) 7
  match x.byte 0 with
  | 0 => if request && !controlCommands.contains (x.byte 2) then some (b.mctpReply x (x.byte 2) 5) else none
  | 1 =>
    let type := x.byte 2 % 64
    if request && !(pldmCommands type).contains (x.byte 3) then some (b.pldmReply x type (x.byte 3) 5) else none
  | _ => if x.byte 2 ≥ 128 && !spdmRequests.contains (x.byte 2) then some (b.spdmError x unsupportedRequest (x.byte 2)) else none

/-- A packet of an MCTP message, in ROM recovery too: with the message complete, `k` serves it, where it is of the subsets. The opcode
table has no rows for the other commands: a packet of any row may show one (log entry 62). -/
def Block.mctpIn (b : Block) (x : MctpMsg) (k : MctpHead → Block → Block) : Block :=
  if b.sb.phase != .firmware && b.sb.phase != .recovery then b
  else match b.mctpTake x with
  | (none, c) => c
  | (some h, c) => (c.unsupported h).getD (k h c)

/-- Set Endpoint ID: operations 0 and 1 set it, the others are not supported. -/
def Block.setEndpointId (b : Block) (x : MctpMsg) (op eid : Nat) : Block :=
  b.mctpIn x fun x b =>
    if op > 1 || eid = 0 || eid ≥ 255 then b.mctpReply x 1 2
    else { b with sb := { b.sb with eid } }.mctpReply x 1 0 (zeros 1 ++ le 1 eid ++ zeros 1)

def Block.getEndpointId (b : Block) (x : MctpMsg) : Block :=
  b.mctpIn x fun x b => b.mctpReply x 2 0 (le 1 b.sb.eid ++ zeros 2)

def Block.getEndpointUuid (b : Block) (x : MctpMsg) : Block :=
  b.mctpIn x fun x b => b.mctpReply x 3 0 ((List.range 16).map Config.uuid)

/-- Get MCTP Version Support: 1.3 for the base and control; the versions of the two bindings are open. -/
def Block.getMctpVersion (b : Block) (x : MctpMsg) (type : Nat) : Block :=
  b.mctpIn x fun x b =>
    if type = 0 || type = 0xFF then b.mctpReply x 4 0 (le 1 1 ++ [0xF1, 0xF3, 0xFF, 0x00])
    else if type = 1 || type = 5 then
      let v := b.freeBytes 4
      v.2.mctpReply x 4 0 (le 1 1 ++ v.1)
    else b.mctpReply x 4 0x80

def Block.getMessageTypes (b : Block) (x : MctpMsg) : Block :=
  b.mctpIn x fun x b => b.mctpReply x 5 0 (le 1 2 ++ [0x01, 0x05])

/-! ### PLDM queries (Table 14-6) -/

/-- A query that always succeeds. -/
def Block.pldmQuery (b : Block) (x : MctpMsg) (type cmd : Nat) (data : List Byte) : Block :=
  b.mctpIn x fun x b => b.pldmReply x type cmd 0 data

/-- CRC-32 of IEEE 802.3, as GetPLDMVersion carries it. -/
def crc32 (l : List Byte) : Nat :=
  let step := fun (c : BitVec 32) (_ : Nat) => if c.getLsbD 0 then (c >>> 1) ^^^ 0xEDB88320#32 else c >>> 1
  (l.foldl (fun c x => (List.range 8).foldl step (c ^^^ x.setWidth 32)) 0xFFFFFFFF#32 ^^^ 0xFFFFFFFF#32).toNat

/-- GetPLDMVersion: 1.1.0 of the update type; the version of the base type is open. -/
def Block.getPldmVersion (b : Block) (x : MctpMsg) (type : Nat) : Block :=
  b.mctpIn x fun x b =>
    let answer := fun (b : Block) (v : List Byte) => b.pldmReply x 0 3 0 (zeros 4 ++ le 1 5 ++ v ++ le 4 (crc32 v))
    if type = 5 then answer b [0x00, 0xF0, 0xF1, 0xF1]
    else if type = 0 then let v := b.freeBytes 4; answer v.2 v.1
    else b.pldmReply x 0 3 0x83

/-- GetPLDMCommands: a bit for every command answered. -/
def Block.getPldmCommands (b : Block) (x : MctpMsg) (type : Nat) : Block :=
  b.mctpIn x fun x b =>
    if type = 0 then b.pldmReply x 0 5 0 (le 32 (maskOf (pldmCommands 0)))
    else if type = 5 then b.pldmReply x 0 5 0 (le 32 (maskOf (pldmCommands 5)))
    else b.pldmReply x 0 5 0x83

/-- The vendor-defined descriptor: block release, interface version, TEST_MFR_ID. -/
def deviceIdentifiers : List Byte :=
  let data := le 1 1 ++ le 1 6 ++ ascii "CHELDO" ++ le 2 0x0100 ++ le 2 0x0100 ++ le 2 Config.mfrId
  let d := le 2 0xFFFF ++ le 2 data.length ++ data
  le 4 d.length ++ le 1 1 ++ d

/-- The component of Table 14-6, with the running image's version. -/
def Block.firmwareParameters (b : Block) : List Byte :=
  let version := fun (s : Option Nat) => match s with
    | some s => (b.slotHeader s).imageVersion
    | none => 0
  let next := match b.sb.slot with
    | some s => if (b.imageFault (1 - s)).isNone && b.slotCommitted (1 - s) && b.newer (1 - s) s then some (1 - s) else none
    | none => none
  let stamp := fun (s : Option Nat) => le 4 (version s) ++ le 1 0 ++ le 1 4 ++ zeros 8
  zeros 4 ++ le 2 1 ++ le 1 0 ++ le 1 4 ++ le 1 0 ++ le 1 4 ++ le 4 (version b.sb.slot) ++ le 4 (version next) ++
  le 2 0x000A ++ le 2 0xCE11 ++ zeros 1 ++ stamp b.sb.slot ++ stamp next ++ le 2 0x0004 ++ zeros 4 ++
  le 4 (version b.sb.slot) ++ le 4 (version next)

/-! ### The update (R395, R396) -/

/-- The state GetStatus reports. -/
def UpdatePhase.code : UpdatePhase → Nat
  | .learn => 1 | .ready | .activate => 2 | .erasing | .download => 3 | .verify => 4 | .apply => 5

def Block.updateCode (b : Block) : Nat := match b.sb.update with
  | some u => u.phase.code
  | none => 0

/-- The update changes: the state left is kept for GetStatus, and the event enters the log. -/
def Block.setUpdate (b : Block) (u : Option Update) (result : Nat) : Block :=
  let old := b.updateCode
  let b := { b with sb := { b.sb with update := u, pldmPrev := if old = (u.map fun (v : Update) => v.phase.code).getD 0 then b.sb.pldmPrev else old } }
  b.logRec srcSignalBox 0x0163 0 [b.updateCode, result]

/-- Phases in which no component transfer is open. -/
def openForUpdate (u : Update) : Bool := u.phase == .ready || u.phase == .activate

/-- Leave the update with a reason code. -/
def Block.endUpdate (b : Block) (reason : Nat) : Block := { b with sb := { b.sb with lastResult := reason } }.setUpdate none 0

/-- GetStatus: state, previous state, auxiliary state and status, progress, reason, options. -/
def Block.updateStatus (b : Block) : List Byte :=
  let aux := match b.sb.update with
    | some u => if u.failed then 2 else if u.phase.code < 3 then 3 else 0
    | none => 3
  le 1 b.updateCode ++ le 1 b.sb.pldmPrev ++ le 1 aux ++ le 1 0 ++ le 1 0x65 ++ le 1 b.sb.lastResult ++ zeros 4

/-- RequestUpdate. -/
def Block.requestUpdate (b : Block) (x : MctpMsg) (maxTransfer : Nat) : Block :=
  b.mctpIn x fun x b =>
    if b.keys.updateDis then b.pldmReply x 5 0x10 0x8A
    else if b.sb.update.isSome then b.pldmReply x 5 0x10 0x81
    else if maxTransfer < 64 then b.pldmReply x 5 0x10 0x83
    else
      let u : Update := { agent := x.source, phase := .learn, maxTransfer := min maxTransfer 4096, slot := 0, size := 0, got := 0
                          failed := false }
      (b.setUpdate (some u) 0).pldmReply x 5 0x10 0 (zeros 3)

/-- A command of a running update; outside update mode it is answered with NOT_IN_UPDATE_MODE. -/
def Block.inUpdate (b : Block) (x : MctpMsg) (cmd : Nat) (k : MctpHead → Block → Update → Block) : Block :=
  b.mctpIn x fun x b => match b.sb.update with
    | none => b.pldmReply x 5 cmd 0x80
    | some u => k x b u

/-- The one component of Table 14-6. -/
def isComponent (classification identifier : Nat) : Bool := classification == 0x000A && identifier == 0xCE11

/-- PassComponentTable: the last part of the table ends the LEARN COMPONENTS state. -/
def Block.passComponent (b : Block) (x : MctpMsg) (classification identifier : Nat) (last : Bool) : Block :=
  b.inUpdate x 0x13 fun x b u =>
    if u.phase != .learn then b.pldmReply x 5 0x13 0x84 else
    let b := if last then b.setUpdate (some { u with phase := .ready }) 0 else b
    b.pldmReply x 5 0x13 0 (if isComponent classification identifier then [0, 0] else [1, 6])

/-- The erases of a slot, the sector of COMMIT and BOOT_MARK first (R395). -/
def slotErases (s : Nat) : List FlashCmd :=
  (63 :: List.range 63).map fun i => { erase := true, addr := slotBase s + i * 65536, data := [], use := .update }

/-- UpdateComponent: the slot that does not run is erased. -/
def Block.updateComponent (b : Block) (x : MctpMsg) (classification identifier size : Nat) : Block :=
  b.inUpdate x 0x14 fun x b u =>
    if !openForUpdate u then b.pldmReply x 5 0x14 0x84
    else if !isComponent classification identifier then b.pldmReply x 5 0x14 0 ([1, 6] ++ zeros 6)
    else if size < 256 + 0x100000 || size > 256 + 0x300000 then b.pldmReply x 5 0x14 0x82
    else
      let s := match b.sb.slot with
        | some r => 1 - r
        | none => 0
      let b := b.setUpdate (some { u with phase := .erasing, slot := s, size, got := 0, page := [], failed := false }) 0
      (b.flashPush (slotErases s)).pldmReply x 5 0x14 0 (zeros 8)

/-- A request of Cheldo to its update agent. -/
def Block.agentRequest (b : Block) (u : Update) (cmd : Nat) (body : List Byte) : Block :=
  let i := b.freeNat 32
  let t := i.2.freeNat 8
  t.2.pldmSend u.agent (8 + t.1) (128 + i.1) 5 cmd body

/-- RequestFirmwareData for the next part of the image. -/
def Block.requestData (b : Block) (u : Update) : Block :=
  b.agentRequest u 0x15 (le 4 u.got ++ le 4 (min u.maxTransfer (u.size - u.got)))

/-- The image is complete: it is verified, and COMMIT is programmed (R395 steps 4 and 5). -/
def Block.verifyUpdate (b : Block) (u : Update) : Block :=
  -- the image is read back through the flash's read window (R404, R420)
  let b := (b.ask 60 (flashRegion + slotBase u.slot) u.size .other).agentRequest u 0x16 [0]
  match b.imageFault u.slot with
  | some r => (b.setUpdate (some { u with phase := .verify, failed := true }) r).agentRequest u 0x17 (le 1 r)
  | none =>
    let b := (b.setUpdate (some { u with phase := .apply }) 0).agentRequest u 0x17 [0]
    let gen := match b.sb.slot with
      | some s => (b.commitGen s + 1) % 4294967296
      | none => 1
    b.flashPush [{ erase := false, addr := commitAddr u.slot, data := le 8 (commitMagic * 4294967296 + gen), use := .commit }]

/-- After a flash command of the update: the next step of R395. -/
def Block.advanceUpdate (b : Block) : Block :=
  match b.sb.update with
  | none => b
  | some u =>
    if u.failed || b.sb.queue.any fun c => c.use == .update then b
    else if u.phase == .erasing then (b.setUpdate (some { u with phase := .download }) 0).requestData u
    else if u.phase == .download then (if u.got < u.size then b.requestData u else b.verifyUpdate u)
    else b

/-- COMMIT is programmed: ApplyComplete. -/
def Block.commitDone (b : Block) (c : FlashCmd) : Block :=
  match b.sb.update with
  | some u =>
    if u.phase == .apply && c.data != le 8 0 then (b.setUpdate (some { u with phase := .activate }) 0).agentRequest u 0x18 (zeros 3) else b
  | none => b

/-- A flash fault ends the update: ApplyComplete reports the failure (R420). -/
def Block.failUpdate (b : Block) : Block :=
  let b := { b with sb := { b.sb with queue := b.sb.queue.filter fun (c : FlashCmd) => c.use != FlashUse.update && c.use != FlashUse.commit } }
  match b.sb.update with
  | some u => (b.setUpdate (some { u with failed := true, phase := .apply }) 2).agentRequest u 0x18 (le 1 2 ++ zeros 2)
  | none => b

/-- FIRMWARE_DATA: the data asked for goes to the slot, a page at a time (R420). -/
def Block.firmwareData (b : Block) (x : MctpMsg) (code : Nat) (data : List Byte) : Block :=
  b.mctpIn x fun x b => match b.sb.update with
    | some u =>
      let want := min u.maxTransfer (u.size - u.got)
      if u.phase != .download || u.failed || x.source != u.agent || b.sb.queue.any (fun c => c.use == .update) then b
      else if code != 0 || data.length < want then b.requestData u
      else
        let all := u.page ++ data.take want
        let n := if u.got + want ≥ u.size then all.length else all.length / 256 * 256
        let cs := programsOf .update (n / 256 + 2) (slotBase u.slot + u.got - u.page.length) (all.take n)
        let v := { u with got := u.got + want, page := all.drop n }
        let b := { b with sb := { b.sb with update := some v } }
        if cs.isEmpty then b.requestData v else b.flashPush cs
    | none => b

/-- The component transfer ends without ApplyComplete: the slot stays invalid (R396). What waits of it goes, but for the erase of the
sector of COMMIT, and a COMMIT being programmed is cleared. -/
def Block.dropTransfer (b : Block) (u : Update) : Block :=
  let running := (b.sb.queue.take 1).filter fun (c : FlashCmd) => c.use == .update || c.use == .commit
  let others := (b.sb.queue.drop running.length).filter fun (c : FlashCmd) =>
    (c.use != .update && c.use != .commit) || (c.use == .update && c.erase && c.addr == slotBase u.slot + 63 * 65536)
  let b := { b with sb := { b.sb with queue := running ++ others } }
  if running.any fun c => c.use == .commit then
    b.flashPush [{ erase := false, addr := commitAddr u.slot, data := le 8 0, use := .commit }]
  else b

/-- CancelUpdateComponent. -/
def Block.cancelComponent (b : Block) (x : MctpMsg) : Block :=
  b.inUpdate x 0x1C fun x b u =>
    if u.phase.code < 3 then b.pldmReply x 5 0x1C 0x84
    else ((b.dropTransfer u).setUpdate (some { u with phase := .ready, failed := false, size := 0, got := 0, page := [] }) 0).pldmReply x 5 0x1C 0

/-- CancelUpdate. -/
def Block.cancelUpdate (b : Block) (x : MctpMsg) : Block :=
  b.inUpdate x 0x1D fun x b u =>
    let b := if u.phase.code < 3 then b else b.dropTransfer u
    (b.endUpdate 2).pldmReply x 5 0x1D 0 (zeros 9)

/-- ActivateFirmware: the next reset activates; a self-contained activation is not permitted. -/
def Block.activateFirmware (b : Block) (x : MctpMsg) (selfContained : Bool) : Block :=
  b.inUpdate x 0x1A fun x b u =>
    if u.phase == .activate then
      if selfContained then b.pldmReply x 5 0x1A 0x8C else (b.endUpdate 1).pldmReply x 5 0x1A 0 (zeros 2)
    else if u.phase == .ready then b.pldmReply x 5 0x1A 0x85
    else b.pldmReply x 5 0x1A 0x84

end Sys2Proof.Machine
end

