-- ==== Sys2Proof/Machine/Attest.lean ====
section
/-! DEFINITION. Attestation: the SPDM responder (R397, R398, Tables 14-7 and 14-8). Codes and layouts that the manual leaves to
DSP0274 are that document's (log entry 60); signatures and nonces are open values. -/

namespace Sys2Proof.Machine
open Sys2Proof

/-- A request that needs the algorithms settled. -/
def Block.negotiated (b : Block) (x : MctpMsg) (k : MctpHead → Block → Block) : Block :=
  b.mctpIn x fun x b => if b.sb.spdm == .negotiated then k x b else b.spdmError x unexpectedRequest

/-- GET_VERSION: 1.2 only; the connection starts again. -/
def Block.spdmVersion (b : Block) (x : MctpMsg) : Block :=
  b.mctpIn x fun x b => { b with sb := { b.sb with spdm := .version } }.spdmReply x 0x04 0 0 (zeros 1 ++ le 1 1 ++ le 2 0x1200)

/-- CERT_CAP, CHAL_CAP, MEAS_CAP with signature, SET_CERT_CAP. -/
def spdmFlags : Nat := maskOf [1, 2, 4, 19]

/-- GET_CAPABILITIES: the largest message is that of Table 13-10; the time exponent is open. -/
def Block.spdmCapabilities (b : Block) (x : MctpMsg) : Block :=
  b.mctpIn x fun x b =>
    if b.sb.spdm != .version then b.spdmError x unexpectedRequest else
    let e := b.freeNat 256
    { e.2 with sb := { e.2.sb with spdm := .capabilities } }.spdmReply x 0x61 0 0
      (zeros 1 ++ le 1 e.1 ++ zeros 2 ++ le 4 spdmFlags ++ le 4 4352 ++ le 4 4352)

/-- NEGOTIATE_ALGORITHMS: P-384 (bit 7) and SHA-384 (bit 1) must be offered. -/
def Block.spdmAlgorithms (b : Block) (x : MctpMsg) (asym hash : Nat) : Block :=
  b.mctpIn x fun x b =>
    if b.sb.spdm != .capabilities then b.spdmError x unexpectedRequest
    else if !(bit asym 7 && bit hash 1) then b.spdmError x invalidRequest
    else { b with sb := { b.sb with spdm := .negotiated } }.spdmReply x 0x63 0 0
      (le 2 36 ++ le 1 1 ++ zeros 1 ++ le 4 0x04 ++ le 4 0x80 ++ le 4 0x02 ++ zeros 16)

/-- GET_DIGESTS: no slot until slot 0 holds a chain. -/
def Block.spdmDigests (b : Block) (x : MctpMsg) : Block :=
  b.negotiated x fun x b => match b.sb.chain with
    | some c => b.spdmReply x 0x01 0 1 (sha384 c)
    | none => b.spdmReply x 0x01 0 0

/-- GET_CERTIFICATE: a part of slot 0's chain, as large as a message holds. -/
def Block.spdmCertificate (b : Block) (x : MctpMsg) (certSlot offset length : Nat) : Block :=
  b.negotiated x fun x b => match b.sb.chain with
    | some c =>
      if certSlot != 0 || offset ≥ c.length then b.spdmError x invalidRequest else
      let n := min (min length (c.length - offset)) 4344
      b.spdmReply x 0x02 0 0 (le 2 n ++ le 2 (c.length - offset - n) ++ (c.drop offset).take n)
    | none => b.spdmError x invalidRequest

/-! ### Measurements (Table 14-8) -/

/-- The value of a measurement. Measurement 2 of an instance in ROM recovery, where no slot runs, is open. -/
def Block.measurement (b : Block) (i : Nat) : List Byte × Block :=
  if i = 1 then ((List.range 48).map Config.romHash, b)
  else if i = 2 then match b.sb.slot with
    | some s =>
      let h := b.slotHeader s
      (sha384 (b.flashRead (slotBase s) 256 ++ b.slotPayload s) ++ le 1 h.svn ++ le 4 h.imageVersion ++ le 1 (65 + s), b)
    | none => b.freeBytes 54
  else if i = 3 then
    let k := b.keys
    (le 1 k.rollback ++ le 1 k.revoke ++ le 1 (b2n k.bootWrap.isSome) ++ le 1 (b2n (k.locked || Tab.has 0 k.channel)) ++
      le 2 (maskOf (Tab.keys k.channel)) ++ le 2 (Tab.keys k.tenant).length ++ le 4 k.testEntries ++ le 1 (b2n (b.sb.phase == .recovery)), b)
  else (le 2 0x0100 ++ le 2 0x0100 ++ le 2 Config.mfrId, b)

/-- A measurement block: index, specification, size, type and value. -/
def measurementBlock (i : Nat) (v : List Byte) : List Byte :=
  let type := if i = 1 then 0 else if i = 2 then 1 else if i = 3 then 0x83 else 0x84
  le 1 i ++ le 1 1 ++ le 2 (v.length + 3) ++ le 1 type ++ le 2 v.length ++ v

/-- The blocks of some measurements. -/
def Block.measurements (b : Block) (is : List Nat) : List Byte × Block :=
  is.foldl (fun (x : List Byte × Block) i => let v := x.2.measurement i; (x.1 ++ measurementBlock i v.1, v.2)) ([], b)

/-- A signature under the identity key of R381, r then s: the digest of the transcript, which DSP0274 forms of messages that the model
does not keep, and the random number of ECDSA are open. -/
def Block.identitySign (b : Block) : List Byte × Block :=
  let h := b.freeBytes 48
  let k := h.2.freeBytes 48
  let d := (P384.keyPair (hkdf384 b.keys.deviceSecret (ascii "CHELDO DEVICE IDENTITY"))).1
  let x := P384.sign d (ofBe h.1) (ofBe k.1 % (P384.n - 1) + 1)
  (be 48 x.1 ++ be 48 x.2, k.2)

/-- CHALLENGE: nonce and transcript digest are open, and so is the summary of the trusted base's measurements alone. -/
def Block.spdmChallenge (b : Block) (x : MctpMsg) (certSlot summary : Nat) : Block :=
  b.negotiated x fun x b => match b.sb.chain with
    | some c =>
      if certSlot != 0 || !(summary == 0 || summary == 1 || summary == 255) then b.spdmError x invalidRequest else
      let nonce := b.freeBytes 32
      let hash := if summary = 0 then ([], nonce.2)
        else if summary = 1 then nonce.2.freeBytes 48
        else let ms := nonce.2.measurements [1, 2, 3, 4]; (sha384 ms.1, ms.2)
      let sig := hash.2.identitySign
      sig.2.spdmReply x 0x03 0 1 (sha384 c ++ nonce.1 ++ hash.1 ++ zeros 2 ++ sig.1)
    | none => b.spdmError x invalidRequest

/-- GET_MEASUREMENTS, signed alone; the state is that at this moment (R398). -/
def Block.spdmMeasurements (b : Block) (x : MctpMsg) (certSlot operation : Nat) (signed : Bool) : Block :=
  b.negotiated x fun x b =>
    if !signed then b.spdmError x unsupportedRequest 0xE0
    else if certSlot != 0 || (operation > 4 && operation != 255) then b.spdmError x invalidRequest
    else
      let is := if operation = 0 then [] else if operation = 255 then [1, 2, 3, 4] else [operation]
      let ms := b.measurements is
      let nonce := ms.2.freeBytes 32
      let sig := nonce.2.identitySign
      sig.2.spdmReply x 0x60 (if operation = 0 then 4 else 0) 0
        (le 1 is.length ++ le 3 ms.1.length ++ ms.1 ++ nonce.1 ++ zeros 2 ++ sig.1)

def certBase : Nat := 0xC00000

/-- SET_CERTIFICATE: the sector is erased and the chain programmed; the answer follows the last program. -/
def Block.spdmSetCertificate (b : Block) (x : MctpMsg) (certSlot : Nat) (chain : List Byte) : Block :=
  b.negotiated x fun x b =>
    if certSlot != 0 || !b.keys.certWrite then b.spdmError x unexpectedRequest
    else if chain.isEmpty || chain.length > 65536 then b.spdmError x invalidRequest
    else if b.sb.chainWrite.isSome then b.spdmError x busy
    else
      { b with sb := { b.sb with chainWrite := some (x.source, x.tag, chain) } }.flashPush
        ({ erase := true, addr := certBase, data := [], use := .certificate } :: programsOf .certificate 257 certBase chain)

/-- A certificate command has ended: the erase empties the slot, the last program fills it. -/
def Block.certificateDone (b : Block) (erased : Bool) : Block :=
  let b := if erased then { b with sb := { b.sb with chain := none } } else b
  match b.sb.chainWrite with
  | some (dest, tag, c) =>
    if b.sb.queue.any fun (q : FlashCmd) => q.use == .certificate then b
    else { b with sb := { b.sb with chain := some c, chainWrite := none } }.mctpSend dest 5 tag [0x12, 0x6E, 0, 0]
  | none => b

/-- A flash fault ends the write; the slot holds no chain. -/
def Block.certificateFault (b : Block) : Block :=
  let b := { b with sb := { b.sb with queue := b.sb.queue.filter fun (q : FlashCmd) => q.use != FlashUse.certificate, chain := none } }
  match b.sb.chainWrite with
  | some (dest, tag, _) => { b with sb := { b.sb with chainWrite := none } }.mctpSend dest 5 tag [0x12, 0x7F, byteOf unspecified, 0]
  | none => b

/-! ### The running flash command ends (R405, R406) -/

/-- A flash fault: logged, not retried, and answered by the use of the command. -/
def Block.flashFault (b : Block) (c : FlashCmd) : Block :=
  let b := (b.flashSpoil c).logRec srcSignalBox 0x0150 2 [if c.erase then 1 else 2, c.addr]
  match c.use with
  | .boot => b
  | .update | .commit => b.failUpdate
  | .log => { b with sb := { b.sb with queue := c :: b.sb.queue } }.skipSector
  | .certificate => b.certificateFault

/-- A command that ended well. -/
def Block.flashEffect (b : Block) (c : FlashCmd) : Block :=
  let b := if c.erase then b.flashErase c.addr else b.flashProgram c.addr c.data
  match c.use with
  | .boot => b.raiseCounter
  | .update => b.advanceUpdate
  | .commit => b.commitDone c
  | .log => b.logStored c
  | .certificate => b.certificateDone c.erase

/-- Take the running command off the queue; the next one starts. -/
def Block.flashNext (b : Block) (k : Block → FlashCmd → Block) : Block :=
  match b.sb.queue with
  | [] => b
  | c :: rest => k { b with sb := { b.sb with queue := rest, flashBusy := false, startedAt := b.now } } c

/-- FLASH_COMMAND_DONE. -/
def Block.flashDone (b : Block) (ok : Bool) : Block := b.flashNext fun b c => if ok then b.flashEffect c else b.flashFault c

/-- FLASH_COMMAND_TIMEOUT. -/
def Block.flashTimeout (b : Block) : Block :=
  if b.now < b.sb.startedAt + (b.sb.queue.head?.map flashLimit).getD 0 then b else b.flashNext Block.flashFault

end Sys2Proof.Machine
end

