-- ==== Sys2Proof/Machine/CoreTrace.lean ====
section
/-! DEFINITION. The instruction trace of the Signal Box cores (R457, R458). The manual does not give the firmware, so what a core
retires between two commands is left open (log entry 115): how many instructions, which of them branch, jump or trap, and the
addresses. -/

namespace Sys2Proof.Machine
open Sys2Proof

def Block.core (b : Block) (i : Nat) : CoreTrace := b.obs.cores.getD i {}

def Block.setCore (b : Block) (i : Nat) (c : CoreTrace) : Block := { b with obs := { b.obs with cores := b.obs.cores.set i c } }

/-- A core that executes: all of them under the firmware, core 0 alone in ROM recovery; none in retention. -/
def Block.coreRuns (b : Block) (i : Nat) : Bool :=
  i < 4 && (b.sb.phase == .firmware || (b.sb.phase == .recovery && i == 0)) && !b.sb.acks.getD i false

/-- Instruction trace covers a core. -/
def Block.coreTraced (b : Block) (i : Nat) : Bool := bit b.obs.traceMask 10 && bit b.obs.traceMask (24 + i)

/-- CORE_FLAGS of a closing record: SYNC, TRAP, INDIRECT. -/
def coreSync : Nat := 1
def coreTrap : Nat := 2
def coreIndirect : Nat := 4

/-- A core closes its record and starts a new one; after SYNC it counts its retired instructions anew. -/
def Block.closeCore (b : Block) (i flags : Nat) : Block :=
  let c := b.core i
  let x := b.freeNat 18446744073709551616
  let b := x.2.trace 10 (le 1 (flags + 64 * i) ++ le 1 c.bits.length ++ zeros 1 ++ le 12 (ofBools c.bits) ++ le 8 x.1)
  b.setCore i { bits := [], retired := if flags % 2 = 1 then 0 else c.retired }

/-- A core that is traced closes its record with SYNC: at entry to Buffer Stop and at wake from retention. -/
def Block.syncCore (b : Block) (i : Nat) : Block := if b.coreTraced i then b.closeCore i coreSync else b

/-- One instruction of a core: a conditional branch, not taken or taken, an indirect jump or return, a trap, or another. A trap
retires nothing; an indirect jump that is the 4,096th instruction carries both flags, whose ADDR is one address. -/
def Block.coreStep (b : Block) (i : Nat) : Block :=
  let x := b.freeNat 5
  let b := x.2
  if x.1 = 4 then b.closeCore i coreTrap else
  let c := b.core i
  let c := { c with retired := c.retired + 1, bits := if x.1 = 1 || x.1 = 2 then c.bits ++ [x.1 == 2] else c.bits }
  let count := decide (c.bits.length ≥ 96 || c.retired ≥ 4096)
  let b := b.setCore i c
  if x.1 = 3 then b.closeCore i (coreIndirect + if count then coreSync else 0)
  else if count then b.closeCore i coreSync else b

def Block.coreSteps (i : Nat) : Nat → Block → Block
  | 0, b => b
  | n + 1, b => Block.coreSteps i n (b.coreStep i)

/-- What the traced cores execute until the next command. -/
def Block.coresRun (b : Block) : Block :=
  if !bit b.obs.traceMask 10 then b else
  ((List.range 4).filter fun i => b.coreTraced i && b.coreRuns i).foldl (fun (b : Block) i =>
    Block.coreSteps i (Config.freeNat b.fresh) { b with fresh := b.fresh + 1 }) b

/-- Entry to Buffer Stop closes the record of every core that runs. -/
def Block.coresStop (b : Block) : Block :=
  if !bit b.obs.traceMask 10 then b else ((List.range 4).filter b.coreRuns).foldl Block.syncCore b

end Sys2Proof.Machine
end

