-- ==== Sys2Proof/Machine/Signal.lean ====
section
/-! DEFINITION. Resets and self-test (R372 to R376, R473, R474), test modes, port clocks and the time base (R368, R374, R475),
storage errors and the sweep (R423 to R425, R433), the Signal Box's cores (R377, R380, R402), the Memory Port's responses
(R336, R337), the Power Port's losses (R253, R260, R363). -/

namespace Sys2Proof.Machine
open Sys2Proof

/-- What the firmware serves (R400, R473): nothing before it runs. -/
def Block.firmware (b : Block) (k : Block → Block) : Block := if b.sb.phase == .firmware then k b else b

/-- Asserted reset, and a test mode until a reset, leave nothing to serve (R373, R375). -/
def Block.dead (b : Block) : Bool := b.sb.phase == .held || b.sb.phase == .test

/-! ### Resets (R375, R376) -/

/-- What no reset clears: the OTP, the flash with the persistent log, and the model's own records. -/
def Block.afterReset (b : Block) (keys : Keys) : Block :=
  let k := { keys with deviceSecret := b.keys.deviceSecret, bootWrap := b.keys.bootWrap, rollback := b.keys.rollback, revoke := b.keys.revoke }
  let s := { Block.reset.sb with phase := .held, plog := b.sb.plog, plogNext := b.plogEnd, flash := b.sb.flash, chain := b.sb.chain }
  { Block.reset with now := b.now, out := b.out, fresh := b.fresh, keys := k, sb := s }

/-- PORESET: everything is cleared. -/
def Block.poreset (b : Block) : Block := b.afterReset Keys.reset

/-- The records of one moment take SEQ in ascending SOURCE order (R410): those from `seen` on. FIRST_FATAL_SEQ follows its record. -/
def Block.orderRecords (b : Block) (seen : Nat) : Block :=
  let new := (List.range (b.vlog.length - seen)).map (seen + ·) |>.zip (b.vlog.drop seen)
  let sorted := sortBy (fun (x y : Nat × LogEntry) => x.2.source < y.2.source) new
  let first := match sorted.findIdx? fun x => x.1 == b.flt.firstFatal with
    | some i => seen + i
    | none => b.flt.firstFatal
  { b with vlog := b.vlog.take seen ++ sorted.map (·.2), flt := { b.flt with firstFatal := first } }

/-- A byte of local memory, of 4 MiB: the payload that the ROM has copied to address 0, and the firmware's data behind it (R401; log
entry 115). -/
def Block.localByte (b : Block) (a : Nat) : Byte := b.sb.localMem.getD a (Config.localData b.now a)

/-- What the firmware finds at boot in the ring that WRESET keeps: the records to be copied that the persistent log does not hold, those
among them whose copy the reset cut short; they are staged (R411; DEDUCED, log entry 105). -/
def Block.restage (b : Block) : Block :=
  let owed := b.volatileRecords.filter fun x => persists x.2 && !b.sb.plog.any fun y => y.2 == x.2
  owed.foldl (fun (b : Block) x => b.stageRecord x.2) b

/-- WRESET: HALT is sent while FP_PCLK runs; the keys, the volatile log and the MCTP EID are kept. -/
def Block.wreset (b : Block) : Block :=
  let b := if b.dead || b.ap.lostClocks.contains .fp then b else ((b.stop .warmReset srcSignalBox).orderRecords b.vlog.length).pumpAll
  let x := b.afterReset { Keys.reset with
    channel := b.keys.channel, tenant := b.keys.tenant, attempts := b.keys.attempts, locked := b.keys.locked
    testEntries := b.keys.testEntries }
  { x with vlog := b.vlog, sb := { x.sb with eid := b.sb.eid, seen := b.vlog.length, dropped := b.sb.dropped } }.restage

/-- The receive credits of classes 1 to 6 at reset release (R340). -/
def receiveCredits : List (Nat × Nat) := [(1, 64), (2, 64), (3, 256), (4, 32), (5, 8), (6, 16)]

/-- RESET_RELEASE: the receive credits go out, DEVICE_SECRET is drawn once, local memory is tested, and the ROM selects a slot,
whose payload it copies to local memory (R403, R473). -/
def Block.release (b : Block) (memFail : Option Nat) : Block :=
  if !(b.sb.phase == .held || b.sb.phase == .released) then b else
  let b := receiveCredits.foldl (fun (b : Block) x =>
    { b.emit (.credit x.1 x.2) with fab := { b.fab with given := b.fab.given.set x.1 x.2 } }) b
  let b := if b.keys.deviceSecret.isEmpty then
      let x := b.freeBytes 32
      { x.2 with keys := { x.2.keys with deviceSecret := x.1 } }
    else b
  let start := fun (b : Block) (p : BootPhase) (slot : Option Nat) (copy : List Byte) =>
    { b with
      sb := { b.sb with phase := p, slot, localMem := copy }, flt := { b.flt with diag := if slot.isSome then 1 else 0 }
      ap := { b.ap with tb := { b.ap.tb with valid := true, seen := true } } }
  match memFail with
  | some a => (start b .recovery none []).logRec srcSignalBox 0 2 [a]
  | none => match b.bootSelect 4 with
    | (b, some s) =>
      -- the payload is copied, and its hash checked again over the copy
      let copy := b.slotPayload s
      if sha384 copy = (b.slotHeader s).payloadHash then start b .firmware (some s) copy else start b .recovery none copy
    | (b, none) => start b .recovery none []

/-- SELF_TEST_COMPLETE: the image marks its slot; DIAG takes the result of both parts. -/
def Block.selfTestDone (b : Block) (firmwareOk : Bool) (unit : Option Nat) : Block :=
  if b.sb.phase != .firmware || b.sb.tested then b else
  let b := { b with sb := { b.sb with tested := true } }
  let b := if !firmwareOk then b else match b.sb.slot with
    | some s =>
      if b.flashWord (bootMarkAddr s) = 0 then b.raiseCounter
      else b.flashPush [{ erase := false, addr := bootMarkAddr s, data := le 8 0, use := .boot }]
    | none => b
  let fail := if firmwareOk then unit else some srcSignalBox
  match fail with
  | some u => b.diagFail u
  | none => if b.flt.diag = 1 && b.cp.state == .forming then { b with flt := { b.flt with diag := 2 } } else b

/-! ### Test access (R372, R373) -/

def testCode : TestMode → Nat
  | .wsExtest => 0 | .wsIntest => 1 | .hsBreakScan => 3 | .mbist => 4

/-- The test instruction that enters a mode (Table 13-11). -/
def testInstr : TestMode → Nat
  | .wsExtest | .wsIntest => 0x02 | .hsBreakScan => 0x03 | .mbist => 0x04

/-- TEST_MODE_ENTRY: HALT is sent, every key is zeroed, and nothing is served until a reset. -/
def Block.testMode (b : Block) (mode : TestMode) : Block :=
  let b := { b with sb := { b.sb with ir := testInstr mode } }
  if b.sb.phase == .test then { b with keys := { b.keys with testEntries := b.keys.testEntries + 1 } } else
  let b := (b.stop .testMode srcSecurity [testCode mode]).pumpAll
  { b with
    keys := { b.keys with channel := [], tenant := [], testEntries := b.keys.testEntries + 1 }
    ses := b.ses.map fun x => (x.1, { x.2 with state := .closed, ks := [], current := none, deferred := [] })
    sb := { b.sb with phase := .test } }

/-- WS_SAFE_ENTRY: every output stands at its reset value, and no port transfer takes place. -/
def Block.wsSafe (b : Block) : Block := { b with sb := { b.sb with safe := true, ir := 0x02 } }

/-! ### The time base and the port clocks (R23, R368, R374, R475) -/

/-- A check of R368 fails; the last two are armed by the first TB_SYNC. -/
def Block.timeBaseLost (b : Block) (fault : TimeBaseFault) : Block :=
  let late := fault == .syncMisplaced || fault == .syncMissing
  let last := b.ap.tb.lastSync / 1048576 * 1048576
  if (late && !b.ap.tb.armed) || (fault == .syncMissing && decide (b.now < last + 1048640)) then b else
  let b := { b with ap := { b.ap with tb := { b.ap.tb with
    lost := true, absent := true, losses := satInc 65535 b.ap.tb.losses
    seen := b.ap.tb.seen || [TimeBaseFault.backwards, .jump, .frozen].contains fault
    valid := match fault with
      | .validLow => false
      | .backwards | .jump | .frozen => true
      | .syncMisplaced | .syncMissing | .pclk => b.ap.tb.valid } } }
  b.stop .timeBase srcCoupling []

/-- TB_SYNC_PULSE: a pulse at a multiple of 2^20 arms the checks; one elsewhere loses the time base once they are armed. -/
def Block.tbSync (b : Block) : Block :=
  if b.now % 1048576 != 0 && b.ap.tb.armed then b.timeBaseLost .syncMisplaced
  else { b with ap := { b.ap with tb := { b.ap.tb with valid := true, seen := true, armed := true, absent := false, lastSync := b.now } } }

/-- The unit that owns a port, of the ports whose clock matters to the group (Table 16-4). -/
def clockUnit : PortClock → Option Nat
  | .ls0 | .ls1 => some 6 | .dp | .cp => some 5 | .mp => some 14 | .fp => some 15 | .ha => some 12 | .pw => some 10 | .tb => some 9
  | .mg | .tck | .wrck => none

def clockCode : PortClock → Nat
  | .ls0 => 0 | .ls1 => 1 | .dp => 2 | .cp => 3 | .mp => 4 | .fp => 5 | .ha => 6 | .pw => 7 | .tb => 8 | .mg => 9 | .tck => 10 | .wrck => 11

/-- PCLK_LOST: the group stops, or the loss is only logged; a port clock stays lost until its port moves again. -/
def Block.pclkLost (b : Block) (c : PortClock) : Block :=
  let b := if c == .tck || c == .wrck || b.ap.lostClocks.contains c then b
    else { b with ap := { b.ap with lostClocks := b.ap.lostClocks ++ [c] } }
  match clockUnit c with
  | some u => (if c == .tb then { b with ap := { b.ap with tb := { b.ap.tb with lost := true, absent := true, losses := satInc 65535 b.ap.tb.losses } } } else b).stop
      .pclkLost u [clockCode c]
  | none => b.logRec srcSignalBox Cause.pclkLost.code 1 [clockCode c]

/-- A port moves: its clock is present. -/
def Block.clockSeen (b : Block) (c : Option PortClock) : Block := match c with
  | some c => { b with ap := { b.ap with lostClocks := b.ap.lostClocks.filter fun x => x != c } }
  | none => b

/-! ### Storage errors (R423 to R425, Table 16-1) -/

/-- A bank condition of R425: 0 two entries, 1 corrected errors, 2 logic. -/
def Block.bankCondition (b : Block) (bank criterion : Nat) : Block :=
  (b.logRec srcGranary 0x0104 2 [bank, criterion]).report { handle := 0, cause := 0, bankReport := true, bank }

/-- A scrub pass of a bank begins: its counts restart. -/
def Block.beginPass (b : Block) (bank : Nat) (fresh : Bool) : Block :=
  if fresh then { b with flt := { b.flt with passCorrected := Tab.erase bank b.flt.passCorrected, passEntries := Tab.erase bank b.flt.passEntries } }
  else b

/-- SCRUB_SYMBOL_CORRECTED. -/
def Block.corrected (b : Block) (unit addr : Nat) (bank : Option Nat) (newPass : Bool) : Block :=
  let b := { b with flt := { b.flt with corrected := satInc 4294967295 b.flt.corrected } }
  let b := b.logRec unit 0x0100 0 [unit, addr]
  match bank with
  | none => b
  | some k =>
    let b := b.beginPass k newPass
    let n := Tab.getD k 0 b.flt.passCorrected + 1
    let b := { b with flt := { b.flt with passCorrected := Tab.set k n b.flt.passCorrected } }
    if n = 64 then b.bankCondition k 1 else b

/-- A Granary entry cannot be read: a loss of its request, held back in Buffer Stop (R424, R425, R433). -/
def Block.entryError (b : Block) (slot : Nat) (newPass : Bool) : Block :=
  let bank := slot / 2048
  let b := (b.logRec srcGranary 0x0101 2 [slot, bank]).beginPass bank newPass
  let old := Tab.getD bank [] b.flt.passEntries
  let seen := if old.contains slot then old else old ++ [slot]
  let b := { b with flt := { b.flt with passEntries := Tab.set bank seen b.flt.passEntries } }
  let b := if b.cp.state == .bufferStop then
      (if b.flt.sweep.contains slot then b else { b with flt := { b.flt with sweep := b.flt.sweep ++ [slot] } })
    else match Tab.get? slot b.gr.entries with
      | some e => b.lose e.handle 1
      | none => b
  if seen.length = 2 && old.length = 1 then b.bankCondition bank 0 else b

/-- A finding in Buffer Stop that makes the sweep FAIL and the state cold (R433). -/
def Block.foundBad (b : Block) (unit : Nat) : Block := { b.diagFail unit with flt := { (b.diagFail unit).flt with cold := true } }

/-- An uncorrectable finding in no Granary entry and no control state: it makes a sweep that has not ended FAIL (R433). -/
def Block.sweepFinding (b : Block) (unit : Nat) : Block :=
  if b.cp.state == .bufferStop && b.flt.diag < 2 then b.foundBad unit else b

/-- A fault in control state: Buffer Stop; in Buffer Stop the sweep fails and the state is cold (R433, R475). -/
def Block.controlError (b : Block) (c : Cause) (unit : Nat) : Block :=
  if b.cp.state == .bufferStop then
    let b := b.logRec unit c.code 3
    b.foundBad unit
  else b.stop c unit

/-- A row of the consist belongs to a request. -/
def Block.rowServes (b : Block) (row handle : Nat) : Bool := match b.rowAt row with
  | some r => r.handle == handle
  | none => false

/-- A slab that could not be staged: every row of its request carries SLAB_ERROR, the rows whose segments are still to come too, and the
slab is rebuilt at the next junction (R164). -/
def Block.slabLost (b : Block) (handle : Nat) : Block :=
  let contexts := b.thr.contexts.map fun (c : RowContext) => if b.rowServes c.row handle then { c with slabError := true } else c
  { b.slabBroken handle with thr := { b.thr with contexts, slabBad := if b.thr.slabBad.contains handle then b.thr.slabBad else b.thr.slabBad ++ [handle] } }

/-- A cache line is invalidated and fetched again (Table 16-1): 0 the page-list cache, 1 the Rhizome node cache, another number a
prefetch buffer. Which address it held is open (log entry 120). -/
def Block.refetch (b : Block) (cache line : Nat) : Block :=
  let a := b.freeNat (2 ^ 58)
  a.2.ask ((if cache = 0 then 0 else if cache = 1 then 16 else 32) + line % 16) (64 * a.1) 64 .other

/-- SRAM_UNCORRECTABLE, by storage. -/
def Block.uncorrectable (b : Block) (x : Storage) (newPass : Bool) : Block :=
  let b := { b with flt := { b.flt with uncorrected := satInc 4294967295 b.flt.uncorrected } }
  let rowError := fun (b : Block) (row : Nat) => b.logRec srcThresher 0x0102 2 [b.consistNow.step, row]
  match x with
  | .granaryEntry slot => b.entryError slot newPass
  | .cacheLine c line => ((b.logRec 3 0x0103 1 [c, line]).sweepFinding 3).refetch c line
  | .rowContext port row =>
    let contexts := b.thr.contexts.map fun (c : RowContext) => if c.port = port && c.row = row then { c with portError := true } else c
    ({ rowError b row with thr := { b.thr with contexts } } : Block).sweepFinding srcThresher
  | .gleanBuffer row rank =>
    let mark := fun (p : PartialResult) => { p with flags := { p.flags with portError := true } }
    ((rowError b row).sweepFinding srcGlean).modGlean row fun g =>
      let contribs := g.contribs.map fun (c : Nat × Nat × PartialResult) => if c.1 = rank then (c.1, (c.2.1, mark c.2.2)) else c
      { g with contribs }
  | .stagedSlab slot =>
    (((b.rowsWhere fun r => slotOf r.handle == slot).foldl rowError b).sweepFinding srcThresher).slabLost (b.ent slot).handle
  | .logRecord seq => Block.sweepFinding { b with sb := { b.sb with
      dropped := if b.sb.dropped.contains seq then b.sb.dropped else b.sb.dropped ++ [seq] } } srcSignalBox
  | .bankLogic bank =>
    let hit := b.gr.entries.filter fun e => e.1 / 2048 == bank
    ((hit.foldl (fun (b : Block) e => b.lose e.2.handle 1) b).bankCondition bank 2).sweepFinding srcGranary
  | .control unit => b.controlError .ctrlUe unit
  | .handshake unit => b.controlError .handshake unit

/-- DIAG_SWEEP_COMPLETE: the sweep that runs since the pipelines quiesced ends. -/
def Block.sweepDone (b : Block) (unit : Option Nat) : Block :=
  if b.cp.state != .bufferStop || b.flt.diag != 1 then b else
  match unit with
  | none => { b with flt := { b.flt with diag := 2 } }
  | some u => b.foundBad u

/-! ### The Signal Box's cores (R377, R380, R402) -/

/-- CORE_WATCHDOG: a core in retention is exempt; in ROM recovery core 0 alone runs. -/
def Block.coreWatchdog (b : Block) (core pc : Nat) : Block :=
  let runs := b.sb.phase == .firmware || (b.sb.phase == .recovery && core == 0)
  if core > 3 || !runs || b.sb.acks.getD core false then b else b.stop .watchdog srcSignalBox [core, pc]

/-- RETENTION_ACK; a core that wakes closes its CORE record (R458). -/
def Block.retentionAck (b : Block) (core : Nat) (level : Bool) : Block :=
  let wakes := b.sb.acks.getD core false && !level
  let b := { b with sb := { b.sb with acks := b.sb.acks.set core level } }
  if wakes then b.syncCore core else b

/-- DRBG_HEALTH_FAIL: the failure is logged. -/
def Block.drbgFail (b : Block) : Block := { b with keys := { b.keys with drbgOk := false } }.logRec srcSecurity 0 2

def Block.drbgReseed (b : Block) : Block := { b with keys := { b.keys with drbgOk := true } }

/-! ### The Memory Port (R336, R337) -/

/-- A read beat of a structure that cannot be read, by the rule of its structure (R337). -/
def Block.beatLost (b : Block) (use : MemRead) : Block :=
  match use with
    | .commandPacket | .mail => b
    | .transcript h => b.lose h 5
    | .slab h => b.slabLost h
    | .window sec => b.readFailed sec
    | .staged | .walk _ | .other => b.controlError .memoryCtrl srcMemory

/-- MEMORY_READ_RESPONSE: a line of an outstanding read; a tag and beat that no read awaits have no effect. A beat whose RD_CRC is not that
of its 64 bytes counts as UNCORRECTABLE (R333, R337). -/
def Block.memRead (b : Block) (r : ReadBeat) (status crc : Nat) : Block :=
  match b.transferred r.channel r.tag r.beat with
  | some x =>
    if status = 2 then x.2.controlError .memoryCtrl srcMemory
    else if status = 0 && crc == crc32c r.data then x.2.lineRead x.1 r.beat r.data
    else x.2.beatLost x.1.use
  | none => b

/-- MEMORY_WRITE_RESPONSE: responses of a channel return in request order. An error is the control fault of R433; the answer of a window
write that waited for the response returns with either status (R349, R360). -/
def Block.memWritten (b : Block) (channel status : Nat) : Block :=
  let x := match (if channel = 0 then b.mp.writes0 else b.mp.writes1) with
    | [] => (none, b)
    | a :: rest => (some a, { b with mp := if channel = 0 then { b.mp with writes0 := rest } else { b.mp with writes1 := rest } })
  match x.1 with
  | none => x.2
  | some a => (if status = 0 then x.2.mailWritten a.addr else x.2.controlError .memoryCtrl srcMemory).windowWritten a.addr

/-! ### The Power Port (R253, R256, R260, R363) -/

/-- The item that a platform would be given next (R256): its prediction. -/
def Block.nextItem (b : Block) (p : Nat) : Nat := match b.platform? p with
  | some x => match b.nextRun p x with
    | some r => b.predItem p (b.energyOf r)
    | none => 0
  | none => 0

/-- A node that starts with its step: it awaits nothing but STEP_START (Table 05-3). -/
def TNode.startsStep (n : TNode) : Bool := n.inputs.all fun i => i == 0xFFFE || i == 0xFFFF

/-- The items of step J's STEP_START nodes once agreement on J has begun, in the order of their runs (R137, R256). -/
def Block.startQueue (b : Block) : List TNode := match b.dsp.next with
  | none => []
  | some x =>
    if x.junction != b.cp.applied + 1 || (b.cp.sent.isNone && b.cp.ready.isEmpty) then [] else
    let runs := ((x.nodes.zip x.template.nodes).filter fun n => n.2.startsStep).flatMap fun n =>
      (nodeRuns n.2 x.consist n.1.2.count).map fun r => (r.1, n.2, r.2.2.length)
    ((List.range 16).flatMap fun l => runs.filter fun r => r.1 == l).flatMap fun r => List.replicate r.2.2 r.2.1

/-- One item for each platform in ascending number, the first whose set it belongs to. -/
def Block.startOn (b : Block) : List (Nat × Platform) → List TNode → Table Nat
  | [], _ => []
  | (p, x) :: ps, q =>
    match q.find? fun n => x.inService && x.entry.kind == 1 && bit x.entry.setMask n.platformSet with
    | some n => (p, b.predItem p n.energyClass) :: Block.startOn b ps (q.erase n)
    | none => Block.startOn b ps q

/-- What the first items of the next step are predicted to draw on a platform (R256; DEDUCED, log entry 116). -/
def Block.startItem (b : Block) : Nat → Nat :=
  let t := b.startOn b.dsp.platforms b.startQueue
  fun p => Tab.getD p 0 t

/-- TELEMETRY_FRAME: a second frame of a tick, and one whose CRC fails, are discarded and counted. -/
def Block.telemetry (b : Block) (f : TelemetryFrame) : Block :=
  if !f.crcOk || (b.pwr.tick > 0 && tickOf b.now = tickOf b.pwr.lastFrame) then b.count 28 else b.tick f.samples b.nextItem b.startItem

/-- HARD_STUCK. -/
def Block.hardStuck (b : Block) (r : Nat) : Block :=
  if (b.rail r).hard && b.now ≥ (b.rail r).hardSince + b.pwr.global.hardStuck * 1000 then b.stop .hardStuck srcGradient [r] else b

/-- TELEMETRY_LOSS. -/
def Block.telemetryLoss (b : Block) (r : Nat) : Block :=
  if (b.rail r).cfg.enable && b.now ≥ (b.rail r).lastValid + 1000 then b.stop .telemetry srcGradient [r] else b

/-! ### The Fabric Port and the walks -/

/-- ENDPOINT_RESPONSE for the rank asked about. -/
def Block.endpointResponse (b : Block) (rank : Nat) (alive : Bool) : Block :=
  if b.fab.query.any fun q => q.1 == rank then b.endpointAnswer alive else b

/-- JUNCTION_READY; a reserved KIND breaks the protocol (R225). -/
def Block.junctionPacket (b : Block) (src junction term : Nat) (r : Ready) (reserved : Bool) : Block :=
  if reserved then b.inTerm term fun b => b.stop .couplingProtocol srcCoupling [src] else b.readyIn src junction term r

/-- PREFIX_WALK: the walk of a request has read what it needs, and ends with the nodes it matches (R113). -/
def Block.prefixWalk (b : Block) (handle : Nat) : Block :=
  match b.byHandle handle with
  | none => b
  | some (_, e) =>
    if !b.readDone (.walk handle) || !b.readDone (.transcript handle) then b else
    let done := fun (w : Walk) => if w.handle = handle && !w.finished then { w with finished := true, nodes := b.walk e } else w
    { b with gr := { b.gr with walks := b.gr.walks.map done } }

end Sys2Proof.Machine
end

