-- ==== Sys2Proof/Machine/Run.lean ====
section
/-! DEFINITION. One command: the time it comes at, its effect, what follows at once inside the block (own copies of messages,
token writes, the record of the step's completion, transmission), and the memory writes it posts. -/

namespace Sys2Proof.Machine
open Sys2Proof

/-- A message of the Fabric Port taken from the adapter's own copy (R341). -/
def Block.own (b : Block) (m : Memory) (x : Msg) : Block :=
  let me := b.cp.rank
  match x with
  | .ready j term doneTime logCrc moveSeq => b.readyIn me j term { doneTime, logCrc, moveSeq }
  | .digest j term d => b.digestIn me j term d
  | .takeover j term old _ => b.takeoverIn me j term old
  | .takeoverAck _ term _ copies => b.takeoverAckIn me term copies
  | .log l => b.logIn me 0 1 l false
  | .logResend j first count => b.logResend me (j % 4294967296) first count
  | .gleanData row step format r => b.gleanData me row step format r
  | .gleanVerdict row step v => b.gleanVerdict me row step v
  | .gleanResendReq row step _ => b.gleanResend me row step
  | .propose h c => b.proposeIn m me h c
  | .prepared h mem page fixed => b.preparedIn me h (mem, page, fixed)
  | .refused h status detail => b.refusedIn me h status detail
  | .capReport h cap seq => b.epochIn h fun b => b.capReport me cap seq
  | .capSet h cap seq effective low => b.epochIn h fun b => b.capSet cap low seq effective
  | .lossReport h r => b.lossReportIn h r
  | .formReport r => b.formReportIn m me r
  | .formCommit _ c => b.formCommitIn m me c
  | .roster _ id _ es => b.rosterIn id es
  | .halt .. => b
  | .linkmap link _ time => b.linkFails link time

/-- The step is complete here (R225): its work is done, every sampled row is decided, and on the lead its tokens may be written. -/
def Block.recordStep (b : Block) : Block :=
  if b.running && b.cp.complete && b.cp.stepDone.isNone && b.workDone && b.verified && (!b.isLead || b.mayWrite) then
    { b with cp := { b.cp with stepDone := some b.now } }.dumpHeaders
  else b

/-- What follows at once from a change of state: segments that waited are taken, and the rest of the step with them; a barrier ends
where it has nothing left to hold (R262); under WS_SAFE nothing is transmitted. -/
def Block.followUp (b : Block) : Block :=
  let b := b.watchStage.drainPorts.closeMissing.writeTokens.recordStep.startLeadTimer.endCollect.barrierMoment
  if b.sb.safe then b else b.pumpAll

/-- One round: what follows at once, and the oldest own copy taken, where there is one. -/
def Block.round (m : Memory) (b : Block) : Block × Bool :=
  let b := b.followUp
  match b.fab.selfIn with
  | [] => (b, false)
  | x :: rest => ({ b with fab := { b.fab with selfIn := rest } }.own m x, true)

/-- Follow up and take the own copies, until none is left. -/
def Block.settle (m : Memory) : Nat → Block → Block
  | 0, b => b
  | n + 1, b => if (b.round m).2 then Block.settle m n (b.round m).1 else (b.round m).1

/-- The end of a command: what `before` shows to have changed, the firmware's view of the log (R411, R415), the instruction trace,
a flash command that may start (R406), and the Memory Port. Under WS_SAFE no request is issued. -/
def Block.close (b before : Block) : Block :=
  let b := (b.notePerturbed before.perturbed).orderRecords before.vlog.length
  let b := (b.noteChanged before true).noteChanged before false
  let stopped := b.cp.state == .bufferStop && before.cp.state != .bufferStop
  let b := b.firmware fun b => let b := Block.seeRecords 4 b; if stopped then b.flushLog else b
  let b := (((if stopped then b.coresStop else b).coresRun).tracePower before).stageTraces
  let b := if b.dead then b else b.flashStart
  if b.sb.safe then b else b.memPump

/-- Put the block's new state in place, and carry out its writes. -/
def State.commit (s : State) (b : Block) : State :=
  { s with blk := { b with posted := [], agent := 0 }, mem := memWriteAll s.mem b.posted.reverse }

/-- Device memory as a read of the Memory Port finds it: a read of a line follows every earlier write to it (R336). -/
def State.view (s : State) : Memory := memWriteAll s.mem (s.blk.mp.writeWait.map fun w => (w.addr, w.data))

/-- A command has taken the block from `before` to `after`: what follows at once, and the end of the command. -/
def State.settled (s : State) (before after : Block) : State := s.commit ((Block.settle s.view 64 after).close before)

/-- Time passes to t. -/
def Block.atTime (b : Block) (t : Nat) : Block := { b with now := max b.now t }

/-- An event inside the block at time t. While a reset or a test mode holds the block it has no effect. -/
def State.event (s : State) (t : Nat) (f : Memory → Block → Block) : State :=
  let b := s.blk.atTime t
  if b.dead then s.commit b else s.settled b (f s.view b)

/-- A transfer at a port whose clock is c; under WS_SAFE none takes place. -/
def State.port (s : State) (t : Nat) (c : Option PortClock) (f : Memory → Block → Block) : State :=
  s.event t fun m b => if b.sb.safe then b else f m (b.clockSeen c)

/-- Core n runs firmware: it is not in retention, and in ROM recovery core 0 runs alone (R377, R403). -/
def Block.coreUp (b : Block) (n : Nat) : Bool :=
  !b.sb.acks.getD n false && (b.sb.phase == .firmware || (b.sb.phase == .recovery && n == 0))

/-- A request of the aperture, or the access of a core by its internal path (R399, R401). -/
def State.host (s : State) (t : Nat) (a : HAccess) (f : Memory → Block → Block) : State :=
  if a.core then s.event t fun m b => if b.coreUp (a.agent - 3) then f m { b with agent := a.agent } else b
  else s.port t (some .ha) fun m b => b.host a (f m)

/-- Entry to a test mode: a reset alone holds it off (R373). -/
def State.testEvent (s : State) (t : Nat) (f : Block → Block) : State :=
  let b := s.blk.atTime t
  if b.sb.phase == .held then s.commit b else s.settled b (f b)

/-- A reset input: it acts in every state. -/
def State.resetInput (s : State) (t : Nat) (f : Block → Block) : State := s.commit ((f (s.blk.atTime t)).memPump)

/-- The command that a session has fetched is carried out where it is the one `k` serves; checks 8 to 12 hold until then. -/
def Block.command (b : Block) (s : Nat) (k : Packet → Option (Block → Block)) : Block :=
  match (b.session s).current with
  | none => b
  | some c => match k c.pkt with
    | none => b
    | some f => match b.scopeRefusal s c.entry c.pkt with
      | some st => b.reply s st
      | none => f b

/-- A command of chapter 11 at time t. -/
def State.command (s : State) (t sid : Nat) (k : Memory → Packet → Option (Block → Block)) : State :=
  s.event t fun m b => b.command sid (k m)

end Sys2Proof.Machine
end

