-- ==== Sys2Proof/Machine/ExecAttestation.lean ====
section
/-! DEFINITION. Meanings: SPDM (chapter 14). -/

namespace Sys2Proof.Machine
open Sys2Proof

/-- GET_VERSION: GET_VERSION (R397). -/
def execGetVersion (t : Time) (msg : MctpMsg) (x : State) : Host.Outcome State Fault Refusal :=
  .next (x.port t (some .mg) fun _ b => b.spdmVersion msg)

/-- GET_CAPABILITIES: GET_CAPABILITIES (R397). -/
def execGetCapabilities (t : Time) (msg : MctpMsg) (x : State) : Host.Outcome State Fault Refusal :=
  .next (x.port t (some .mg) fun _ b => b.spdmCapabilities msg)

/-- NEGOTIATE_ALGORITHMS: NEGOTIATE_ALGORITHMS with the algorithms offered (R397). -/
def execNegotiateAlgorithms (t : Time) (msg : MctpMsg) (asym : Nat) (hash : Nat) (x : State) : Host.Outcome State Fault Refusal :=
  .next (x.port t (some .mg) fun _ b => b.spdmAlgorithms msg asym hash)

/-- GET_DIGESTS: GET_DIGESTS (R397). -/
def execGetDigests (t : Time) (msg : MctpMsg) (x : State) : Host.Outcome State Fault Refusal :=
  .next (x.port t (some .mg) fun _ b => b.spdmDigests msg)

/-- GET_CERTIFICATE: GET_CERTIFICATE (R397). -/
def execGetCertificate (t : Time) (msg : MctpMsg) (certSlot : Nat) (offset : Nat) (length : Nat) (x : State) : Host.Outcome State Fault Refusal :=
  .next (x.port t (some .mg) fun _ b => b.spdmCertificate msg certSlot offset length)

/-- CHALLENGE: CHALLENGE with its measurement summary type (R397). -/
def execChallenge (t : Time) (msg : MctpMsg) (certSlot : Nat) (summary : Nat) (x : State) : Host.Outcome State Fault Refusal :=
  .next (x.port t (some .mg) fun _ b => b.spdmChallenge msg certSlot summary)

/-- GET_MEASUREMENTS: GET_MEASUREMENTS: the slot, the measurement or all (255) or their number (0), and whether a signature is asked (R398). -/
def execGetMeasurements (t : Time) (msg : MctpMsg) (certSlot : Nat) (operation : Nat) (signed : Bool) (x : State) : Host.Outcome State Fault Refusal :=
  .next (x.port t (some .mg) fun _ b => b.spdmMeasurements msg certSlot operation signed)

/-- SET_CERTIFICATE: SET_CERTIFICATE (R397). -/
def execSetCertificate (t : Time) (msg : MctpMsg) (certSlot : Nat) (chain : List Byte) (x : State) : Host.Outcome State Fault Refusal :=
  .next (x.port t (some .mg) fun _ b => b.spdmSetCertificate msg certSlot chain)

end Sys2Proof.Machine
end

