-- ==== Sys2Proof/Machine/ExecClocks.lean ====
section
/-! DEFINITION. Meanings: the time base and the port clocks (chapter 13). -/

namespace Sys2Proof.Machine
open Sys2Proof

/-- TIME_BASE_LOST: the time base fails a check of R368 (R368). -/
def execTimeBaseLost (t : Time) (fault : TimeBaseFault) (x : State) : Host.Outcome State Fault Refusal :=
  .next (x.event t fun _ b => b.timeBaseLost fault)

/-- PCLK_LOST: a port clock shows no edge (R374). -/
def execPclkLost (t : Time) (clock : PortClock) (x : State) : Host.Outcome State Fault Refusal :=
  .next (x.event t fun _ b => b.pclkLost clock)

/-- TB_SYNC_PULSE: a TB_SYNC pulse (R368). -/
def execTbSyncPulse (t : Time) (x : State) : Host.Outcome State Fault Refusal :=
  .next (x.port t (some .tb) fun _ b => b.tbSync)

end Sys2Proof.Machine
end

