-- ==== Sys2Proof/Machine/ExecCmdModel.lean ====
section
/-! DEFINITION. Meanings: the model, strain, tenant and class commands (Tables 11-12 to 11-14). -/

namespace Sys2Proof.Machine
open Sys2Proof

/-- MODEL_STAGE of session s (R301). -/
def execModelStage (t : Time) (s : Nat) (x : State) : Host.Outcome State Fault Refusal :=
  .next (x.command t s fun m p => match p.params with
    | .modelStage p => some fun b => b.modelStage m s p
    | _ => none)

/-- MODEL_LOAD of session s (R303). -/
def execModelLoad (t : Time) (s : Nat) (x : State) : Host.Outcome State Fault Refusal :=
  .next (x.command t s fun _ p => match p.params with
    | .modelLoad p => some fun b => b.modelLoad s p
    | _ => none)

/-- MODEL_UNLOAD of session s (R305). -/
def execModelUnload (t : Time) (s : Nat) (x : State) : Host.Outcome State Fault Refusal :=
  .next (x.command t s fun _ p => match p.params with
    | .modelUnload j d => some fun b => b.modelUnload s j d
    | _ => none)

/-- MODEL_QUERY of session s (R306). -/
def execModelQuery (t : Time) (s : Nat) (x : State) : Host.Outcome State Fault Refusal :=
  .next (x.command t s fun _ p => match p.params with
    | .modelQuery d => some fun b => b.modelQuery s d
    | _ => none)

/-- STRAIN_LOAD of session s (R308). -/
def execStrainLoad (t : Time) (s : Nat) (x : State) : Host.Outcome State Fault Refusal :=
  .next (x.command t s fun m p => match p.params with
    | .strainLoad d x size crc off => some fun b => b.strainLoad m s d x size crc off
    | _ => none)

/-- STRAIN_DROP of session s (R309). -/
def execStrainDrop (t : Time) (s : Nat) (x : State) : Host.Outcome State Fault Refusal :=
  .next (x.command t s fun _ p => match p.params with
    | .strainDrop d x v => some fun b => b.strainDrop s d x v
    | _ => none)

/-- TENANT_CONFIG of session s (R84). -/
def execTenantConfig (t : Time) (s : Nat) (x : State) : Host.Outcome State Fault Refusal :=
  .next (x.command t s fun _ p => match p.params with
    | .tenantConfig i c => some fun b => b.tenantConfig s i c
    | _ => none)

/-- CLASS_CONFIG of session s (R76). -/
def execClassConfig (t : Time) (s : Nat) (x : State) : Host.Outcome State Fault Refusal :=
  .next (x.command t s fun _ p => match p.params with
    | .classConfig i c => some fun b => b.classConfig s i c
    | _ => none)

end Sys2Proof.Machine
end

