-- ==== Sys2Proof/Machine/ExecCmdObserve.lean ====
section
/-! DEFINITION. Meanings: the observability and recovery commands (Table 11-17). -/

namespace Sys2Proof.Machine
open Sys2Proof

/-- COUNTER_READ of session s (R451). -/
def execCounterRead (t : Time) (s : Nat) (x : State) : Host.Outcome State Fault Refusal :=
  .next (x.command t s fun _ p => match p.params with
    | .counterRead sp f n => some fun b => b.counterRead s sp f n
    | _ => none)

/-- TRACE_CONFIG of session s (R454). -/
def execTraceConfig (t : Time) (s : Nat) (x : State) : Host.Outcome State Fault Refusal :=
  .next (x.command t s fun _ p => match p.params with
    | .traceConfig mask addr n => some fun b => b.traceConfig s mask addr n
    | _ => none)

/-- CENSUS_CONFIG of session s (R461). -/
def execCensusConfig (t : Time) (s : Nat) (x : State) : Host.Outcome State Fault Refusal :=
  .next (x.command t s fun _ p => match p.params with
    | .censusConfig e i addr n => some fun b => b.censusConfig s e i addr n
    | _ => none)

/-- TENSOR_DUMP of session s (R463). -/
def execTensorDump (t : Time) (s : Nat) (x : State) : Host.Outcome State Fault Refusal :=
  .next (x.command t s fun _ p => match p.params with
    | .tensorDump l o h st addr n => some fun b => b.tensorDump s l o h st addr n
    | _ => none)

/-- HANG_DUMP of session s (R467). -/
def execHangDump (t : Time) (s : Nat) (x : State) : Host.Outcome State Fault Refusal :=
  .next (x.command t s fun _ p => match p.params with
    | .hangDump addr n w => some fun b => b.hangDump s addr n w
    | _ => none)

/-- LOG_READ of session s (R410). -/
def execLogRead (t : Time) (s : Nat) (x : State) : Host.Outcome State Fault Refusal :=
  .next (x.command t s fun _ p => match p.params with
    | .logRead l f n => some fun b => b.logRead s l f n
    | _ => none)

/-- BUFFER_STOP of session s (R430). -/
def execBufferStop (t : Time) (s : Nat) (x : State) : Host.Outcome State Fault Refusal :=
  .next (x.command t s fun _ p => match p.params with
    | .bufferStop x => some fun b => b.bufferStopCmd s x
    | _ => none)

/-- RECOVER of session s (R434). -/
def execRecover (t : Time) (s : Nat) (x : State) : Host.Outcome State Fault Refusal :=
  .next (x.command t s fun _ p => match p.params with
    | .recover i rb cb => some fun b => b.recover s i rb cb
    | _ => none)

/-- FAULT_QUERY of session s (R434). -/
def execFaultQuery (t : Time) (s : Nat) (x : State) : Host.Outcome State Fault Refusal :=
  .next (x.command t s fun _ p => match p.params with
    | .faultQuery => some fun b => b.faultQuery s
    | _ => none)

end Sys2Proof.Machine
end

