-- ==== Sys2Proof/Machine/ExecCmdPower.lean ====
section
/-! DEFINITION. Meanings: the power, mode, link and platform commands (Tables 11-15 and 11-16). -/

namespace Sys2Proof.Machine
open Sys2Proof

/-- POWER_CONFIG of session s (R247). -/
def execPowerConfig (t : Time) (s : Nat) (x : State) : Host.Outcome State Fault Refusal :=
  .next (x.command t s fun _ p => match p.params with
    | .powerConfig p => some fun b => b.powerConfig s p
    | _ => none)

/-- POWER_CALIBRATE of session s (R267). -/
def execPowerCalibrate (t : Time) (s : Nat) (x : State) : Host.Outcome State Fault Refusal :=
  .next (x.command t s fun _ p => match p.params with
    | .powerCalibrate r hi es => some fun b => b.powerCalibrate s r hi es
    | _ => none)

/-- POWER_CAP of session s (R269). -/
def execPowerCap (t : Time) (s : Nat) (x : State) : Host.Outcome State Fault Refusal :=
  .next (x.command t s fun _ p => match p.params with
    | .powerCap c => some fun b => b.powerCap s c
    | _ => none)

/-- MODE_SET of session s (R231). -/
def execModeSet (t : Time) (s : Nat) (x : State) : Host.Outcome State Fault Refusal :=
  .next (x.command t s fun _ p => match p.params with
    | .modeSet p => some fun b => b.modeSet s p
    | _ => none)

/-- LINK_MAP of session s (R242). -/
def execLinkMap (t : Time) (s : Nat) (x : State) : Host.Outcome State Fault Refusal :=
  .next (x.command t s fun _ p => match p.params with
    | .linkMap n rs => some fun b => b.linkMap s n rs
    | _ => none)

/-- MAINT_WINDOW of session s (R245). -/
def execMaintWindow (t : Time) (s : Nat) (x : State) : Host.Outcome State Fault Refusal :=
  .next (x.command t s fun _ p => match p.params with
    | .maintWindow n ls => some fun b => b.maintWindow s n ls
    | _ => none)

/-- PLATFORM_MAP of session s (R146). -/
def execPlatformMap (t : Time) (s : Nat) (x : State) : Host.Outcome State Fault Refusal :=
  .next (x.command t s fun _ p => match p.params with
    | .platformMap f n rd es => some fun b => b.platformMap s f n rd es
    | _ => none)

end Sys2Proof.Machine
end

