-- ==== Sys2Proof/Machine/ExecCmdRequest.lean ====
section
/-! DEFINITION. Meanings: the request commands (Tables 11-9 and 11-11). -/

namespace Sys2Proof.Machine
open Sys2Proof

/-- REQ_ADMIT of session s (R40). -/
def execReqAdmit (t : Time) (s : Nat) (x : State) : Host.Outcome State Fault Refusal :=
  .next (x.command t s fun _ p => match p.params with
    | .reqAdmit p => some fun b => b.reqAdmit s p
    | _ => none)

/-- REQ_APPEND of session s (R44). -/
def execReqAppend (t : Time) (s : Nat) (x : State) : Host.Outcome State Fault Refusal :=
  .next (x.command t s fun _ p => match p.params with
    | .reqAppend h f n ts => some fun b => b.reqAppend s h f n ts
    | _ => none)

/-- REQ_TRUNCATE of session s (R46). -/
def execReqTruncate (t : Time) (s : Nat) (x : State) : Host.Outcome State Fault Refusal :=
  .next (x.command t s fun _ p => match p.params with
    | .reqTruncate h p => some fun b => b.reqTruncate s h p
    | _ => none)

/-- REQ_CANCEL of session s (R48). -/
def execReqCancel (t : Time) (s : Nat) (x : State) : Host.Outcome State Fault Refusal :=
  .next (x.command t s fun _ p => match p.params with
    | .reqCancel h => some fun b => b.reqCancel s h
    | _ => none)

/-- REQ_PAUSE of session s (R50). -/
def execReqPause (t : Time) (s : Nat) (x : State) : Host.Outcome State Fault Refusal :=
  .next (x.command t s fun _ p => match p.params with
    | .reqPause h tier ttl => some fun b => b.reqPause s h tier ttl
    | _ => none)

/-- REQ_RESUME of session s (R50). -/
def execReqResume (t : Time) (s : Nat) (x : State) : Host.Outcome State Fault Refusal :=
  .next (x.command t s fun _ p => match p.params with
    | .reqResume h => some fun b => b.reqResume s h
    | _ => none)

/-- REQ_FREE of session s (R39). -/
def execReqFree (t : Time) (s : Nat) (x : State) : Host.Outcome State Fault Refusal :=
  .next (x.command t s fun _ p => match p.params with
    | .reqFree h => some fun b => b.reqFree s h
    | _ => none)

/-- REQ_SET_SAMPLING of session s (R159). -/
def execReqSetSampling (t : Time) (s : Nat) (x : State) : Host.Outcome State Fault Refusal :=
  .next (x.command t s fun _ p => match p.params with
    | .reqSetSampling h p => some fun b => b.reqSetSampling s h p
    | _ => none)

/-- REQ_QUERY of session s (R300). -/
def execReqQuery (t : Time) (s : Nat) (x : State) : Host.Outcome State Fault Refusal :=
  .next (x.command t s fun _ p => match p.params with
    | .reqQuery h => some fun b => b.reqQuery s h
    | _ => none)

end Sys2Proof.Machine
end

