-- ==== Sys2Proof/Machine/ExecCmdSession.lean ====
section
/-! DEFINITION. Meanings: the session commands (Table 11-8). -/

namespace Sys2Proof.Machine
open Sys2Proof

/-- SESSION_OPEN of session s (R387). -/
def execSessionOpen (t : Time) (s : Nat) (x : State) : Host.Outcome State Fault Refusal :=
  .next (x.command t s fun _ p => match p.params with
    | .sessionOpen tenant _ minor nonce => some fun b => b.sessionOpen s tenant minor nonce
    | _ => none)

/-- SESSION_CONFIRM of session s (R387). -/
def execSessionConfirm (t : Time) (s : Nat) (x : State) : Host.Outcome State Fault Refusal :=
  .next (x.command t s fun _ p => match p.params with
    | .sessionConfirm proof => some fun b => b.sessionConfirm s proof
    | _ => none)

/-- SESSION_CLOSE of session s (R387). -/
def execSessionClose (t : Time) (s : Nat) (x : State) : Host.Outcome State Fault Refusal :=
  .next (x.command t s fun _ p => match p.params with
    | .sessionClose => some fun b => b.sessionClose s
    | _ => none)

/-- CAP_QUERY of session s (R297). -/
def execCapQuery (t : Time) (s : Nat) (x : State) : Host.Outcome State Fault Refusal :=
  .next (x.command t s fun _ p => match p.params with
    | .capQuery => some fun b => b.capQuery s
    | _ => none)

/-- GROUP_QUERY of session s (R297). -/
def execGroupQuery (t : Time) (s : Nat) (x : State) : Host.Outcome State Fault Refusal :=
  .next (x.command t s fun _ p => match p.params with
    | .groupQuery => some fun b => b.groupQuery s
    | _ => none)

/-- KEY_PROVISION of session s (R384). -/
def execKeyProvision (t : Time) (s : Nat) (x : State) : Host.Outcome State Fault Refusal :=
  .next (x.command t s fun _ p => match p.params with
    | .keyProvision kind index wrapped flags => some fun b => b.keyProvision s kind index wrapped flags p.seq
    | _ => none)

end Sys2Proof.Machine
end

