-- ==== Sys2Proof/Machine/ExecErrors.lean ====
section
/-! DEFINITION. Meanings: storage errors and the sweep (chapter 16). -/

namespace Sys2Proof.Machine
open Sys2Proof

/-- SRAM_UNCORRECTABLE: an uncorrectable error or illegal code; newPass where a scrub pass of its bank has begun since the last error (R424). -/
def execSramUncorrectable (t : Time) (storage : Storage) (newPass : Bool) (x : State) : Host.Outcome State Fault Refusal :=
  .next (x.event t fun _ b => b.uncorrectable storage newPass)

/-- DIAG_SWEEP_COMPLETE: the sweep ends; the first failing unit (R433). -/
def execDiagSweepComplete (t : Time) (unit : Option Nat) (x : State) : Host.Outcome State Fault Refusal :=
  .next (x.event t fun _ b => b.sweepDone unit)

/-- QUIESCENCE: the pipelines have quiesced (R468). -/
def execQuiescence (t : Time) (x : State) : Host.Outcome State Fault Refusal :=
  .next (x.event t fun _ b => b.quiescence)

/-- SCRUB_SYMBOL_CORRECTED: a corrected word, and its Granary bank (R423). -/
def execScrubSymbolCorrected (t : Time) (unit : Nat) (addr : Nat) (bank : Option Nat) (newPass : Bool) (x : State) : Host.Outcome State Fault Refusal :=
  .next (x.event t fun _ b => b.corrected unit addr bank newPass)

end Sys2Proof.Machine
end

