-- ==== Sys2Proof/Machine/ExecForming.lean ====
section
/-! DEFINITION. Meanings: formation (chapters 16 and 18). -/

namespace Sys2Proof.Machine
open Sys2Proof

/-- FORM_REPORT: a FORM_REPORT message (R480). -/
def execFormReport (t : Time) (rx : Rx) (report : FormReport) (x : State) : Host.Outcome State Fault Refusal :=
  .next (x.port t (some .fp) fun m b => b.rx rx 4 fun b => b.formReportIn m rx.src report)

/-- FORM_REPORT_REPEAT: FORM_REPORT is repeated (R480). -/
def execFormReportRepeat (t : Time) (x : State) : Host.Outcome State Fault Refusal :=
  .next (x.event t fun _ b => b.formReportRepeat)

/-- FORM_COMMIT: a FORM_COMMIT message (R480). -/
def execFormCommit (t : Time) (rx : Rx) (commit : FormCommit) (x : State) : Host.Outcome State Fault Refusal :=
  .next (x.port t (some .fp) fun m b => b.rx rx 4 fun b => b.formCommitIn m rx.src commit)

/-- ROSTER: a ROSTER message (R438). -/
def execRoster (t : Time) (rx : Rx) (recoverId : Nat) (entries : List RosterEntry) (x : State) : Host.Outcome State Fault Refusal :=
  .next (x.port t (some .fp) fun _ b => b.rx rx 4 fun b => b.rosterIn recoverId entries)

/-- FORMATION_TIMEOUT: formation has not completed within 1 s (R441). -/
def execFormationTimeout (t : Time) (x : State) : Host.Outcome State Fault Refusal :=
  .next (x.event t fun _ b => b.formationTimeout)

end Sys2Proof.Machine
end

