-- ==== Sys2Proof/Machine/ExecGradient.lean ====
section
/-! DEFINITION. Meanings: the Gradient (chapter 10). -/

namespace Sys2Proof.Machine
open Sys2Proof

/-- TELEMETRY_FRAME: a telemetry frame (R256). -/
def execTelemetryFrame (t : Time) (frame : TelemetryFrame) (x : State) : Host.Outcome State Fault Refusal :=
  .next (x.port t (some .pw) fun _ b => b.telemetry frame)

/-- HARD_STUCK: HARD_STUCK passes for a rail in HARD (R260). -/
def execHardStuck (t : Time) (rail : Nat) (x : State) : Host.Outcome State Fault Refusal :=
  .next (x.event t fun _ b => b.hardStuck rail)

/-- TELEMETRY_LOSS: 1,000 ns without a valid sample of a rail (R253). -/
def execTelemetryLoss (t : Time) (rail : Nat) (x : State) : Host.Outcome State Fault Refusal :=
  .next (x.event t fun _ b => b.telemetryLoss rail)

/-- CALIBRATION_WINDOW: a 1 µs window ends (R265). -/
def execCalibrationWindow (t : Time) (x : State) : Host.Outcome State Fault Refusal :=
  .next (x.event t fun _ b => b.calibrate)

/-- CAP_STROBE: a fast cap strobe (R365). -/
def execCapStrobe (t : Time) (cap : Nat) (urgent : Bool) (x : State) : Host.Outcome State Fault Refusal :=
  .next (x.port t (some .pw) fun _ b => b.capStrobe cap urgent)

/-- CAP_DEADLINE: the cap deadline has come (R274). -/
def execCapDeadline (t : Time) (x : State) : Host.Outcome State Fault Refusal :=
  .next (x.event t fun _ b => b.capDeadline)

/-- DROOP_WARNING_ASSERT: the droop warning rises (R268). -/
def execDroopWarningAssert (t : Time) (x : State) : Host.Outcome State Fault Refusal :=
  .next (x.port t (some .pw) fun _ b => b.droopAssert)

/-- DROOP_WARNING_DEASSERT: the droop warning falls (R268). -/
def execDroopWarningDeassert (t : Time) (x : State) : Host.Outcome State Fault Refusal :=
  .next (x.port t (some .pw) fun _ b => b.droopDeassert)

/-- DROOP_RAMP: the droop has held for DROOP_RAMP_AFTER (R268). -/
def execDroopRamp (t : Time) (x : State) : Host.Outcome State Fault Refusal :=
  .next (x.event t fun _ b => b.droopRamp)

end Sys2Proof.Machine
end

