-- ==== Sys2Proof/Machine/ExecGroup.lean ====
section
/-! DEFINITION. Meanings: junctions, logs and takeover (chapter 9). -/

namespace Sys2Proof.Machine
open Sys2Proof

/-- READY_SEND: READY is sent (R225). -/
def execReadySend (t : Time) (x : State) : Host.Outcome State Fault Refusal :=
  .next (x.event t fun _ b => b.readySend)

/-- JUNCTION_READY: a JUNCTION packet READY; reserved where its KIND is a reserved one (R226). -/
def execJunctionReady (t : Time) (rx : Rx) (junction : Nat) (term : Nat) (doneTime : Nat) (logCrc : Nat) (moveSeq : Nat) (reserved : Bool) (x : State) : Host.Outcome State Fault Refusal :=
  .next (x.port t (some .fp) fun _ b => b.rx rx 1 fun b => b.junctionPacket rx.src junction term { doneTime, logCrc, moveSeq } reserved)

/-- JUNCTION_DIGEST: a JUNCTION packet DIGEST (R228). -/
def execJunctionDigest (t : Time) (rx : Rx) (junction : Nat) (term : Nat) (digest : Nat) (x : State) : Host.Outcome State Fault Refusal :=
  .next (x.port t (some .fp) fun _ b => b.rx rx 1 fun b => b.digestIn rx.src junction term digest)

/-- DIGEST_RESEND_TIMER: the lead resends DIGEST (R228). -/
def execDigestResendTimer (t : Time) (x : State) : Host.Outcome State Fault Refusal :=
  .next (x.event t fun _ b => b.digestResend)

/-- READY_RESEND_TIMER: READY is resent (R225). -/
def execReadyResendTimer (t : Time) (x : State) : Host.Outcome State Fault Refusal :=
  .next (x.event t fun _ b => b.readyResend)

/-- JUNCTION_WATCHDOG: JUNCTION_WATCHDOG passes (R229). -/
def execJunctionWatchdog (t : Time) (x : State) : Host.Outcome State Fault Refusal :=
  .next (x.event t fun _ b => b.junctionWatchdog)

/-- IDLE_INTERVAL: IDLE_INTERVAL passes on an idle group (R83). -/
def execIdleInterval (t : Time) (x : State) : Host.Outcome State Fault Refusal :=
  .next (x.event t fun _ b => b.idleInterval)

/-- YARD_FINALISATION: the lead finalises the consist and closes the log (R80). -/
def execYardFinalisation (t : Time) (x : State) : Host.Outcome State Fault Refusal :=
  .next (x.event t fun _ b => b.yardFinalisation)

/-- LOG_RECEIVED: a LOG fragment; reserved where the log carries a section of a reserved TYPE (R224). -/
def execLogReceived (t : Time) (rx : Rx) (frag : Nat) (count : Nat) (log : JLog) (reserved : Bool) (x : State) : Host.Outcome State Fault Refusal :=
  .next (x.port t (some .fp) fun _ b => b.rx rx 2 fun b => b.logIn rx.src frag count log reserved)

/-- LOG_RESEND_REQUEST: a LOG resend request (R343). -/
def execLogResendRequest (t : Time) (rx : Rx) (id : Nat) (first : Nat) (count : Nat) (x : State) : Host.Outcome State Fault Refusal :=
  .next (x.port t (some .fp) fun _ b => b.rx rx 2 fun b => b.logResend rx.src id first count)

/-- LOG_RESEND_TIMER: log J is asked for again (R224). -/
def execLogResendTimer (t : Time) (x : State) : Host.Outcome State Fault Refusal :=
  .next (x.event t fun _ b => b.logResendTimer)

/-- LEAD_TIMER_EXPIRY: the lead timer reaches this instance (R235). -/
def execLeadTimerExpiry (t : Time) (x : State) : Host.Outcome State Fault Refusal :=
  .next (x.port t (some .fp) fun _ b => b.leadTimerExpiry)

/-- TAKEOVER: a TAKEOVER packet (R237). -/
def execTakeover (t : Time) (rx : Rx) (junction : Nat) (term : Nat) (oldLead : Nat) (x : State) : Host.Outcome State Fault Refusal :=
  .next (x.port t (some .fp) fun _ b => b.rx rx 1 fun b => b.takeoverIn rx.src junction term oldLead)

/-- TAKEOVER_ACK: a TAKEOVER_ACK packet (R238). -/
def execTakeoverAck (t : Time) (rx : Rx) (term : Nat) (copies : Nat) (x : State) : Host.Outcome State Fault Refusal :=
  .next (x.port t (some .fp) fun _ b => b.rx rx 1 fun b => b.takeoverAckIn rx.src term copies)

/-- TAKEOVER_TIMEOUT: 250 µs have passed since TAKEOVER (R238). -/
def execTakeoverTimeout (t : Time) (x : State) : Host.Outcome State Fault Refusal :=
  .next (x.event t fun _ b => b.takeoverTimeout)

end Sys2Proof.Machine
end

