-- ==== Sys2Proof/Machine/ExecItems.lean ====
section
/-! DEFINITION. Meanings: the timetable and the Dispatcher (chapters 4 and 5). -/

namespace Sys2Proof.Machine
open Sys2Proof

/-- DRAW_WAIT_COMPLETION: the drafted children that a held completion waits for are in memory (R204). -/
def execDrawWaitCompletion (t : Time) (tag : Nat) (x : State) : Host.Outcome State Fault Refusal :=
  .next (x.event t fun _ b => b.drawWait tag b.drawn)

/-- TIMETABLE_INSTANTIATION: the Expander instantiates the next step (R129). -/
def execTimetableInstantiation (t : Time) (x : State) : Host.Outcome State Fault Refusal :=
  .next (x.event t fun _ b => b.instantiate)

/-- NODE_INSERT: the next node enters the Stook (R133). -/
def execNodeInsert (t : Time) (x : State) : Host.Outcome State Fault Refusal :=
  .next (x.event t fun _ b => b.insertNode)

/-- DISPATCH_STAGE: the Dispatcher stages the next item (R137). -/
def execDispatchStage (t : Time) (x : State) : Host.Outcome State Fault Refusal :=
  .next (x.port t (some .dp) fun _ b => b.dispatchStage)

/-- WAVE_RELEASE: a wave is released (R262). -/
def execWaveRelease (t : Time) (x : State) : Host.Outcome State Fault Refusal :=
  .next (x.port t (some .dp) fun _ b => b.waveRelease)

/-- COMPLETION_RECORD: a completion record, and CP_CRC (R144). -/
def execCompletionRecord (t : Time) (rec : CompletionRec) (crc : Nat) (x : State) : Host.Outcome State Fault Refusal :=
  .next (x.port t (some .cp) fun _ b => b.completion rec crc b.drawn)

/-- ITEM_TIMEOUT: an open item exceeds its ITEM_TIMEOUT (R144). -/
def execItemTimeout (t : Time) (tag : Nat) (x : State) : Host.Outcome State Fault Refusal :=
  .next (x.event t fun _ b => b.itemTimeout tag)

/-- PREFIX_WALK: the prefix walk of a request ends (R113). -/
def execPrefixWalk (t : Time) (handle : Nat) (x : State) : Host.Outcome State Fault Refusal :=
  .next (x.event t fun _ b => b.prefixWalk handle)

end Sys2Proof.Machine
end

