-- ==== Sys2Proof/Machine/ExecMailbox.lean ====
section
/-! DEFINITION. Meanings: the mailboxes (chapter 15). -/

namespace Sys2Proof.Machine
open Sys2Proof

/-- MAILBOX_DOORBELL: a write of IN_CTL of a channel (R413). -/
def execMailboxDoorbell (t : Time) (a : HAccess) (ch : Nat) (value : Nat) (x : State) : Host.Outcome State Fault Refusal :=
  .next (x.host t a fun _ b => b.registerWrite a (mailOffset ch + 8) value)

/-- PING: core 3 takes a PING, or a message of a type that Table 15-10 does not list (R414). -/
def execPing (t : Time) (ch : Nat) (type : Nat) (msg : InMail) (x : State) : Host.Outcome State Fault Refusal :=
  .next (x.port t (some .mp) fun _ b => b.firmware fun b => b.mailPing ch type msg)

/-- SENSOR_SNAPSHOT: core 3 takes a SENSOR_SNAPSHOT message (R414). -/
def execSensorSnapshot (t : Time) (ch : Nat) (msg : InMail) (x : State) : Host.Outcome State Fault Refusal :=
  .next (x.port t (some .mp) fun _ b => b.firmware fun b => b.mailSensors ch msg)

/-- LOG_MARK: core 3 takes a LOG_MARK message (R414). -/
def execLogMark (t : Time) (ch : Nat) (msg : InMail) (x : State) : Host.Outcome State Fault Refusal :=
  .next (x.port t (some .mp) fun _ b => b.firmware fun b => b.mailMark ch msg)

/-- OUT_PENDING_CLEAR: a write of OUT_STATUS of a channel (R415). -/
def execOutPendingClear (t : Time) (a : HAccess) (ch : Nat) (value : Nat) (x : State) : Host.Outcome State Fault Refusal :=
  .next (x.host t a fun _ b => b.registerWrite a (mailOffset ch + 0x20) value)

/-- OUT_DROPPED_READ: a read of OUT_CTL of a channel (R11). -/
def execOutDroppedRead (t : Time) (a : HAccess) (ch : Nat) (x : State) : Host.Outcome State Fault Refusal :=
  .next (x.host t a fun _ b => b.readAccess a (mailOffset ch + 0x18) fun b => b.readOutCtl a ch)

end Sys2Proof.Machine
end

