-- ==== Sys2Proof/Machine/ExecManagement.lean ====
section
/-! DEFINITION. Meanings: MCTP control and PLDM (chapters 13 and 14). -/

namespace Sys2Proof.Machine
open Sys2Proof

/-- SET_ENDPOINT_ID: Set Endpoint ID (R371). -/
def execSetEndpointId (t : Time) (msg : MctpMsg) (op : Nat) (eid : Nat) (x : State) : Host.Outcome State Fault Refusal :=
  .next (x.port t (some .mg) fun _ b => b.setEndpointId msg op eid)

/-- GET_ENDPOINT_ID: Get Endpoint ID (R371). -/
def execGetEndpointId (t : Time) (msg : MctpMsg) (x : State) : Host.Outcome State Fault Refusal :=
  .next (x.port t (some .mg) fun _ b => b.getEndpointId msg)

/-- GET_ENDPOINT_UUID: Get Endpoint UUID (R371). -/
def execGetEndpointUuid (t : Time) (msg : MctpMsg) (x : State) : Host.Outcome State Fault Refusal :=
  .next (x.port t (some .mg) fun _ b => b.getEndpointUuid msg)

/-- GET_MCTP_VERSION_SUPPORT: Get MCTP Version Support for a message type (R371). -/
def execGetMctpVersionSupport (t : Time) (msg : MctpMsg) (type : Nat) (x : State) : Host.Outcome State Fault Refusal :=
  .next (x.port t (some .mg) fun _ b => b.getMctpVersion msg type)

/-- GET_MESSAGE_TYPE_SUPPORT: Get Message Type Support (R371). -/
def execGetMessageTypeSupport (t : Time) (msg : MctpMsg) (x : State) : Host.Outcome State Fault Refusal :=
  .next (x.port t (some .mg) fun _ b => b.getMessageTypes msg)

/-- GET_TID: GetTID (R396). -/
def execGetTid (t : Time) (msg : MctpMsg) (x : State) : Host.Outcome State Fault Refusal :=
  .next (x.port t (some .mg) fun _ b => b.pldmQuery msg 0 2 (le 1 Config.tid))

/-- GET_PLDM_VERSION: GetPLDMVersion for a PLDM type (R396). -/
def execGetPldmVersion (t : Time) (msg : MctpMsg) (type : Nat) (x : State) : Host.Outcome State Fault Refusal :=
  .next (x.port t (some .mg) fun _ b => b.getPldmVersion msg type)

/-- GET_PLDM_TYPES: GetPLDMTypes (R396). -/
def execGetPldmTypes (t : Time) (msg : MctpMsg) (x : State) : Host.Outcome State Fault Refusal :=
  .next (x.port t (some .mg) fun _ b => b.pldmQuery msg 0 4 (le 8 0x21))

/-- GET_PLDM_COMMANDS: GetPLDMCommands for a PLDM type (R396). -/
def execGetPldmCommands (t : Time) (msg : MctpMsg) (type : Nat) (x : State) : Host.Outcome State Fault Refusal :=
  .next (x.port t (some .mg) fun _ b => b.getPldmCommands msg type)

/-- QUERY_DEVICE_IDENTIFIERS: QueryDeviceIdentifiers (R396). -/
def execQueryDeviceIdentifiers (t : Time) (msg : MctpMsg) (x : State) : Host.Outcome State Fault Refusal :=
  .next (x.port t (some .mg) fun _ b => b.pldmQuery msg 5 1 deviceIdentifiers)

/-- GET_FIRMWARE_PARAMETERS: GetFirmwareParameters (R396). -/
def execGetFirmwareParameters (t : Time) (msg : MctpMsg) (x : State) : Host.Outcome State Fault Refusal :=
  .next (x.port t (some .mg) fun _ b => b.pldmQuery msg 5 2 b.firmwareParameters)

/-- REQUEST_UPDATE: RequestUpdate (R396). -/
def execRequestUpdate (t : Time) (msg : MctpMsg) (maxTransfer : Nat) (x : State) : Host.Outcome State Fault Refusal :=
  .next (x.port t (some .mg) fun _ b => b.requestUpdate msg maxTransfer)

/-- PASS_COMPONENT_TABLE: PassComponentTable for one component (R396). -/
def execPassComponentTable (t : Time) (msg : MctpMsg) (classification : Nat) (identifier : Nat) (last : Bool) (x : State) : Host.Outcome State Fault Refusal :=
  .next (x.port t (some .mg) fun _ b => b.passComponent msg classification identifier last)

/-- UPDATE_COMPONENT: UpdateComponent (R395). -/
def execUpdateComponent (t : Time) (msg : MctpMsg) (classification : Nat) (identifier : Nat) (size : Nat) (x : State) : Host.Outcome State Fault Refusal :=
  .next (x.port t (some .mg) fun _ b => b.updateComponent msg classification identifier size)

/-- FIRMWARE_DATA: the answer to RequestFirmwareData: completion code and image bytes (R420). -/
def execFirmwareData (t : Time) (msg : MctpMsg) (code : Nat) (data : List Byte) (x : State) : Host.Outcome State Fault Refusal :=
  .next (x.port t (some .mg) fun _ b => b.firmwareData msg code data)

/-- ACTIVATE_FIRMWARE: ActivateFirmware (R396). -/
def execActivateFirmware (t : Time) (msg : MctpMsg) (selfContained : Bool) (x : State) : Host.Outcome State Fault Refusal :=
  .next (x.port t (some .mg) fun _ b => b.activateFirmware msg selfContained)

/-- GET_STATUS: GetStatus (R396). -/
def execGetStatus (t : Time) (msg : MctpMsg) (x : State) : Host.Outcome State Fault Refusal :=
  .next (x.port t (some .mg) fun _ b => b.pldmQuery msg 5 0x1B b.updateStatus)

/-- CANCEL_UPDATE_COMPONENT: CancelUpdateComponent (R396). -/
def execCancelUpdateComponent (t : Time) (msg : MctpMsg) (x : State) : Host.Outcome State Fault Refusal :=
  .next (x.port t (some .mg) fun _ b => b.cancelComponent msg)

/-- CANCEL_UPDATE: CancelUpdate (R396). -/
def execCancelUpdate (t : Time) (msg : MctpMsg) (x : State) : Host.Outcome State Fault Refusal :=
  .next (x.port t (some .mg) fun _ b => b.cancelUpdate msg)

end Sys2Proof.Machine
end

