-- ==== Sys2Proof/Machine/ExecPort.lean ====
section
/-! DEFINITION. Meanings: the Memory Port, HALT, links and credits (chapters 9, 12 and 16). -/

namespace Sys2Proof.Machine
open Sys2Proof

/-- MEMORY_READ_RESPONSE: a read beat of a channel of the Memory Port: RD_TAG, RD_BEAT, RD_DATA, RD_STATUS and RD_CRC (R337). -/
def execMemoryReadResponse (t : Time) (beat : ReadBeat) (status : Nat) (crc : Nat) (x : State) : Host.Outcome State Fault Refusal :=
  .next (x.port t (some .mp) fun _ b => b.memRead beat status crc)

/-- MEMORY_WRITE_RESPONSE: a write response of a channel of the Memory Port (R336). -/
def execMemoryWriteResponse (t : Time) (channel : Nat) (status : Nat) (x : State) : Host.Outcome State Fault Refusal :=
  .next (x.port t (some .mp) fun _ b => b.memWritten channel status)

/-- HALT_RECEIVED: a HALT packet (R430). -/
def execHaltReceived (t : Time) (rx : Rx) (reason : Nat) (rank : Nat) (time : Nat) (x : State) : Host.Outcome State Fault Refusal :=
  .next (x.port t (some .fp) fun _ b => b.rx rx 5 fun b => b.haltReceived reason rank time)

/-- LINKMAP: a LINKMAP packet: the link and the time of the failure report (R243). -/
def execLinkmap (t : Time) (rx : Rx) (report : LinkReport) (x : State) : Host.Outcome State Fault Refusal :=
  .next (x.port t (some .fp) fun _ b => b.rx rx 6 fun b => b.linkFails report.link report.time)

/-- LINK_FAIL_REPORT: the fabric reports a failed link (R243). -/
def execLinkFailReport (t : Time) (link : Nat) (x : State) : Host.Outcome State Fault Refusal :=
  .next (x.port t (some .fp) fun _ b => b.linkFails link b.now)

/-- TX_CREDIT_RETURN: a transmit credit of a class returns (R340). -/
def execTxCreditReturn (t : Time) (cls : Nat) (x : State) : Host.Outcome State Fault Refusal :=
  .next (x.port t (some .fp) fun _ b => b.returnCredit cls)

/-- ENDPOINT_RESPONSE: the fabric answers the endpoint query for a rank (R346). -/
def execEndpointResponse (t : Time) (rank : Nat) (alive : Bool) (x : State) : Host.Outcome State Fault Refusal :=
  .next (x.port t (some .fp) fun _ b => b.endpointResponse rank alive)

/-- ENDPOINT_QUERY_TIMEOUT: 1,024 pclk cycles have passed without an answer (R346). -/
def execEndpointQueryTimeout (t : Time) (x : State) : Host.Outcome State Fault Refusal :=
  .next (x.port t (some .fp) fun _ b => b.endpointAnswer false)

end Sys2Proof.Machine
end

