-- ==== Sys2Proof/Machine/ExecProposals.lean ====
section
/-! DEFINITION. Meanings: EPOCH messages (chapters 9, 10 and 16). -/

namespace Sys2Proof.Machine
open Sys2Proof

/-- PROPOSE: a PROPOSE message (R232). -/
def execPropose (t : Time) (rx : Rx) (head : EpochHead) (cmd : CmdRecord) (x : State) : Host.Outcome State Fault Refusal :=
  .next (x.port t (some .fp) fun m b => b.rx rx 4 fun b => b.proposeIn m rx.src head cmd)

/-- PREPARED: a PREPARED message (R231). -/
def execPrepared (t : Time) (rx : Rx) (head : EpochHead) (mem : Nat) (page : Nat) (fixed : Nat) (x : State) : Host.Outcome State Fault Refusal :=
  .next (x.port t (some .fp) fun _ b => b.rx rx 4 fun b => b.preparedIn rx.src head (mem, page, fixed))

/-- REFUSED: a REFUSED message (R231). -/
def execRefused (t : Time) (rx : Rx) (head : EpochHead) (status : Nat) (detail : Nat) (x : State) : Host.Outcome State Fault Refusal :=
  .next (x.port t (some .fp) fun _ b => b.rx rx 4 fun b => b.refusedIn rx.src head status detail)

/-- CAP_REPORT: a CAP_REPORT message (R272). -/
def execCapReport (t : Time) (rx : Rx) (head : EpochHead) (cap : Nat) (seq : Nat) (x : State) : Host.Outcome State Fault Refusal :=
  .next (x.port t (some .fp) fun _ b => b.rx rx 4 fun b => b.epochIn head fun b => b.capReport rx.src cap seq)

/-- CAP_SET: a CAP_SET message (R273). -/
def execCapSet (t : Time) (rx : Rx) (head : EpochHead) (cap : GroupCap) (seq : Nat) (effective : Nat) (x : State) : Host.Outcome State Fault Refusal :=
  .next (x.port t (some .fp) fun _ b => b.rx rx 4 fun b => b.epochIn head fun b => b.capSet cap.cap cap.rank seq effective)

/-- LOSS_REPORT: a LOSS_REPORT message (R427). -/
def execLossReport (t : Time) (rx : Rx) (head : EpochHead) (report : LossReport) (x : State) : Host.Outcome State Fault Refusal :=
  .next (x.port t (some .fp) fun _ b => b.rx rx 4 fun b => b.lossReportIn head report)

/-- LOSS_REPORT_RESEND: an unlogged loss report is sent again (R426). -/
def execLossReportResend (t : Time) (x : State) : Host.Outcome State Fault Refusal :=
  .next (x.event t fun _ b => b.lossReportResend)

end Sys2Proof.Machine
end

