-- ==== Sys2Proof/Machine/ExecQueues.lean ====
section
/-! DEFINITION. Meanings: Doorbell pages and the fetch of commands (chapters 11 and 13). -/

namespace Sys2Proof.Machine
open Sys2Proof

/-- CMD_TAIL_WRITE: a write of CMD_TAIL (R281). -/
def execCmdTailWrite (t : Time) (a : HAccess) (s : Nat) (value : Nat) (x : State) : Host.Outcome State Fault Refusal :=
  .next (x.host t a fun _ b => b.registerWrite a (page s) value)

/-- COMMAND_FETCH: the next entry and packet of a session, none where the packet cannot be read, with checks 1 to 12 of Table 11-5 (R283). -/
def execCommandFetch (t : Time) (s : Nat) (entry : CmdEntry) (pkt : Option Packet) (x : State) : Host.Outcome State Fault Refusal :=
  .next (x.port t (some .mp) fun m b => b.fetchWritten m s entry pkt)

/-- CPL_HEAD_WRITE: a write of CPL_HEAD (R353). -/
def execCplHeadWrite (t : Time) (a : HAccess) (s : Nat) (value : Nat) (x : State) : Host.Outcome State Fault Refusal :=
  .next (x.host t a fun _ b => b.registerWrite a (page s + 0x10) value)

/-- QUEUE_CONFIG_WRITE: a write of CMD_QUEUE_BASE, CPL_QUEUE_BASE or QUEUE_CFG (R353). -/
def execQueueConfigWrite (t : Time) (a : HAccess) (s : Nat) (reg : QueueReg) (value : Nat) (x : State) : Host.Outcome State Fault Refusal :=
  .next (x.host t a fun _ b => b.registerWrite a (page s + queueReg reg) value)

/-- TOKEN_CONS_REPORT: a write of TOKEN_REPORT (R354). -/
def execTokenConsReport (t : Time) (a : HAccess) (s : Nat) (value : Nat) (x : State) : Host.Outcome State Fault Refusal :=
  .next (x.host t a fun _ b => b.registerWrite a (page s + 0x40) value)

/-- EVENT_CONS_REPORT: a write of EVENT_REPORT (R354). -/
def execEventConsReport (t : Time) (a : HAccess) (s : Nat) (value : Nat) (x : State) : Host.Outcome State Fault Refusal :=
  .next (x.host t a fun _ b => b.registerWrite a (page s + 0x48) value)

/-- SESSION_OPENING_TIMEOUT: 100 ms have passed in OPENING (R387). -/
def execSessionOpeningTimeout (t : Time) (s : Nat) (x : State) : Host.Outcome State Fault Refusal :=
  .next (x.event t fun _ b => b.openingTimeout s)

/-- SESSION_LOCKOUT_END: the lockout of a session ends (R387). -/
def execSessionLockoutEnd (t : Time) (s : Nat) (x : State) : Host.Outcome State Fault Refusal :=
  .next (x.event t fun _ b => b.lockoutEnd s)

end Sys2Proof.Machine
end

