-- ==== Sys2Proof/Machine/ExecRegisters.lean ====
section
/-! DEFINITION. Meanings: the host aperture (chapters 13, 14, 17, 18 and 19). -/

namespace Sys2Proof.Machine
open Sys2Proof

/-- REGISTER_WRITE: a write at an offset of the register parts (R11). -/
def execRegisterWrite (t : Time) (a : HAccess) (off : Nat) (value : Nat) (x : State) : Host.Outcome State Fault Refusal :=
  .next (x.host t a fun _ b => b.registerWrite a off value)

/-- DP_CTL_WRITE: a write of DP_CTL of the secure or the non-secure data channel (R357). -/
def execDpCtlWrite (t : Time) (a : HAccess) (secure : Bool) (value : Nat) (x : State) : Host.Outcome State Fault Refusal :=
  .next (x.host t a fun _ b => b.registerWrite a (if secure then 0x46000 else 0x6000) value)

/-- DATA_WINDOW_ACCESS: beats in a data window: the data of a write, and the read beats whose memory cannot be read (R356). -/
def execDataWindowAccess (t : Time) (a : HAccess) (off : Nat) (write : Bool) (data : List Nat) (bad : List Nat) (x : State) : Host.Outcome State Fault Refusal :=
  .next (x.host t a fun m b => b.window m a off write data bad)

/-- STAGE_BASE_WRITE: a write of STAGE_BASE (R359). -/
def execStageBaseWrite (t : Time) (a : HAccess) (value : Nat) (x : State) : Host.Outcome State Fault Refusal :=
  .next (x.host t a fun _ b => b.registerWrite a 0x46020 value)

/-- KB_UNWRAP: a write of KB_CTL with ACTION 1 (R383). -/
def execKbUnwrap (t : Time) (a : HAccess) (value : Nat) (x : State) : Host.Outcome State Fault Refusal :=
  .next (x.host t a fun _ b => b.registerWrite a 0x47000 (value / 4 * 4 + 1))

/-- KB_PROGRAM_WRAP_KEY: a write of KB_CTL with ACTION 2 (R383). -/
def execKbProgramWrapKey (t : Time) (a : HAccess) (value : Nat) (x : State) : Host.Outcome State Fault Refusal :=
  .next (x.host t a fun _ b => b.registerWrite a 0x47000 (value / 4 * 4 + 2))

/-- LOCK_READ: a read of lock n (R416). -/
def execLockRead (t : Time) (a : HAccess) (n : Nat) (x : State) : Host.Outcome State Fault Refusal :=
  .next (x.host t a fun _ b => b.readAccess a (lockOffset n) fun b => b.readLock a n)

/-- LOCK_RELEASE: a write of lock n (R11). -/
def execLockRelease (t : Time) (a : HAccess) (n : Nat) (value : Nat) (x : State) : Host.Outcome State Fault Refusal :=
  .next (x.host t a fun _ b => b.registerWrite a (lockOffset n) value)

/-- LOCK_BREAK: a write of LOCK_BREAK (R417). -/
def execLockBreak (t : Time) (a : HAccess) (value : Nat) (x : State) : Host.Outcome State Fault Refusal :=
  .next (x.host t a fun _ b => b.registerWrite a 0x4A100 value)

/-- GROUP_EVENT_CLEAR: a write of GROUP_EVENT (R493). -/
def execGroupEventClear (t : Time) (a : HAccess) (value : Nat) (x : State) : Host.Outcome State Fault Refusal :=
  .next (x.host t a fun _ b => b.registerWrite a 0x40000 value)

/-- COUNTER_SNAP: a write of COUNTER_SNAP (R500). -/
def execCounterSnap (t : Time) (a : HAccess) (value : Nat) (x : State) : Host.Outcome State Fault Refusal :=
  .next (x.host t a fun _ b => b.registerWrite a 0x4C100 value)

/-- GROUP_SETUP_WRITE: a write of GROUP_SETUP (R477). -/
def execGroupSetupWrite (t : Time) (a : HAccess) (value : Nat) (x : State) : Host.Outcome State Fault Refusal :=
  .next (x.host t a fun _ b => b.registerWrite a 0x4D000 value)

/-- OBS_BASE_WRITE: a write of OBS_BASE (R460). -/
def execObsBaseWrite (t : Time) (a : HAccess) (value : Nat) (x : State) : Host.Outcome State Fault Refusal :=
  .next (x.host t a fun _ b => b.registerWrite a 0x4C008 value)

end Sys2Proof.Machine
end

