-- ==== Sys2Proof/Machine/ExecResets.lean ====
section
/-! DEFINITION. Meanings: resets and test modes (chapters 13 and 18). -/

namespace Sys2Proof.Machine
open Sys2Proof

/-- PORESET: PORESET_N asserts (R375). -/
def execPoreset (t : Time) (x : State) : Host.Outcome State Fault Refusal :=
  .next (x.resetInput t Block.poreset)

/-- WRESET: WRESET_N asserts (R376). -/
def execWreset (t : Time) (x : State) : Host.Outcome State Fault Refusal :=
  .next (x.resetInput t Block.wreset)

/-- RESET_RELEASE: reset releases and the boot ROM runs; memFail is the address where the march test of local memory fails (R473). -/
def execResetRelease (t : Time) (memFail : Option Nat) (x : State) : Host.Outcome State Fault Refusal :=
  .next (x.resetInput t fun b => b.release memFail)

/-- SELF_TEST_COMPLETE: the self-tests end; unit is the first failing unit of the block test (R474). -/
def execSelfTestComplete (t : Time) (firmwareOk : Bool) (unit : Option Nat) (x : State) : Host.Outcome State Fault Refusal :=
  .next (x.event t fun _ b => b.selfTestDone firmwareOk unit)

/-- TEST_MODE_ENTRY: a test mode is entered (R373). -/
def execTestModeEntry (t : Time) (mode : TestMode) (x : State) : Host.Outcome State Fault Refusal :=
  .next (x.testEvent t fun b => b.testMode mode)

/-- WS_SAFE_ENTRY: WS_SAFE is selected (R372). -/
def execWsSafeEntry (t : Time) (x : State) : Host.Outcome State Fault Refusal :=
  .next (x.event t fun _ b => b.wsSafe)

end Sys2Proof.Machine
end

