-- ==== Sys2Proof/Machine/ExecResults.lean ====
section
/-! DEFINITION. Meanings: Logit Stream Ports and Glean messages (chapters 6 and 7). -/

namespace Sys2Proof.Machine
open Sys2Proof

/-- LOGIT_SEGMENT: a segment at Logit Stream Port 0 or 1 (R154). -/
def execLogitSegment (t : Time) (lsport : Nat) (seg : Segment) (x : State) : Host.Outcome State Fault Refusal :=
  .next (x.port t (if lsport = 0 then some .ls0 else some .ls1) fun _ b => b.segment lsport seg)

/-- GLEAN_DATA: a GLEAN_DATA packet (R189). -/
def execGleanData (t : Time) (rx : Rx) (row : Nat) (step : Nat) (format : Nat) (result : PartialResult) (x : State) : Host.Outcome State Fault Refusal :=
  .next (x.port t (some .fp) fun _ b => b.rx rx 3 (fun b => b.gleanData rx.src row step format result) (some step))

/-- GLEAN_VERDICT: a VERDICT packet (R190). -/
def execGleanVerdict (t : Time) (rx : Rx) (row : Nat) (step : Nat) (verdict : Verdict) (x : State) : Host.Outcome State Fault Refusal :=
  .next (x.port t (some .fp) fun _ b => b.rx rx 3 (fun b => b.gleanVerdict rx.src row step verdict) (some step))

/-- GLEAN_RESEND_REQ: a RESEND_REQ packet (R187). -/
def execGleanResendReq (t : Time) (rx : Rx) (row : Nat) (step : Nat) (x : State) : Host.Outcome State Fault Refusal :=
  .next (x.port t (some .fp) fun _ b => b.rx rx 3 (fun b => b.gleanResend rx.src row step) (some step))

/-- GLEAN_RESEND_TIMER: RESEND_AFTER passes for a row (R187). -/
def execGleanResendTimer (t : Time) (row : Nat) (x : State) : Host.Outcome State Fault Refusal :=
  .next (x.event t fun _ b => b.gleanResendTimer row)

/-- GLEAN_TIMEOUT: GLEAN_TIMEOUT passes for a row at the lead (R189). -/
def execGleanTimeout (t : Time) (row : Nat) (x : State) : Host.Outcome State Fault Refusal :=
  .next (x.event t fun _ b => b.gleanTimeout row)

/-- GLEAN_VERDICT_WAIT_TIMEOUT: 2 × GLEAN_TIMEOUT have passed since the verdict of a row (R190). -/
def execGleanVerdictWaitTimeout (t : Time) (row : Nat) (x : State) : Host.Outcome State Fault Refusal :=
  .next (x.event t fun _ b => b.gleanWait row)

/-- GLEAN_MISMATCH_WINDOW: an aligned second of the time base (R429). -/
def execGleanMismatchWindow (t : Time) (x : State) : Host.Outcome State Fault Refusal :=
  .next (x.event t fun _ b => b.mismatchWindow)

end Sys2Proof.Machine
end

