-- ==== Sys2Proof/Machine/ExecUpkeep.lean ====
section
/-! DEFINITION. Meanings: the Signal Box's own events (chapters 13, 14, 15 and 17). -/

namespace Sys2Proof.Machine
open Sys2Proof

/-- FLASH_COMMAND_DONE: the running flash command ends; ok where ERROR is 0 (R405). -/
def execFlashCommandDone (t : Time) (ok : Bool) (x : State) : Host.Outcome State Fault Refusal :=
  .next (x.port t (some .mp) fun _ b => b.flashDone ok)

/-- FLASH_COMMAND_TIMEOUT: the running flash command overruns its limit (R405). -/
def execFlashCommandTimeout (t : Time) (x : State) : Host.Outcome State Fault Refusal :=
  .next (x.event t fun _ b => b.flashTimeout)

/-- PERSISTENT_LOG_FLUSH: staged records are flushed (R411). -/
def execPersistentLogFlush (t : Time) (x : State) : Host.Outcome State Fault Refusal :=
  .next (x.event t fun _ b => b.flushDue)

/-- CORE_WATCHDOG: the watchdog of a core expires (R402). -/
def execCoreWatchdog (t : Time) (core : Nat) (pc : Nat) (x : State) : Host.Outcome State Fault Refusal :=
  .next (x.event t fun _ b => b.coreWatchdog core pc)

/-- RETENTION_ACK: RET_ACK of a core changes (R377). -/
def execRetentionAck (t : Time) (core : Nat) (level : Bool) (x : State) : Host.Outcome State Fault Refusal :=
  .next (x.event t fun _ b => b.retentionAck core level)

/-- SENSOR_SAMPLE: a sample of a sensor (R408). -/
def execSensorSample (t : Time) (sensor : Nat) (value : Nat) (x : State) : Host.Outcome State Fault Refusal :=
  .next (x.event t fun _ b => b.firmware fun b => b.sensorSample sensor value)

/-- CENSUS_SNAPSHOT: a census interval ends (R462). -/
def execCensusSnapshot (t : Time) (x : State) : Host.Outcome State Fault Refusal :=
  .next (x.event t fun _ b => b.censusSnapshot)

/-- DRBG_HEALTH_FAIL: a noise source fails its health test (R380). -/
def execDrbgHealthFail (t : Time) (x : State) : Host.Outcome State Fault Refusal :=
  .next (x.event t fun _ b => b.drbgFail)

/-- DRBG_RESEED: the generator is reseeded (R380). -/
def execDrbgReseed (t : Time) (x : State) : Host.Outcome State Fault Refusal :=
  .next (x.event t fun _ b => b.drbgReseed)

/-- KB_ACTION_COMPLETE: a key bootstrap action ends (R383). -/
def execKbActionComplete (t : Time) (x : State) : Host.Outcome State Fault Refusal :=
  .next (x.event t fun _ b => b.firmware Block.kbComplete)

end Sys2Proof.Machine
end

