-- ==== Sys2Proof/Machine/Dispatch.lean ====
section
/-! DEFINITION. One arm per command: the call of its meaning. -/

namespace Sys2Proof.Machine
open Sys2Proof

def exec (i : Instr) (s : State) : Host.Outcome State Fault Refusal :=
  match i with
  | .cmdTailWrite t a sid value => Sys2Proof.Machine.execCmdTailWrite t a sid value s
  | .commandFetch t sid entry pkt => Sys2Proof.Machine.execCommandFetch t sid entry pkt s
  | .cplHeadWrite t a sid value => Sys2Proof.Machine.execCplHeadWrite t a sid value s
  | .queueConfigWrite t a sid reg value => Sys2Proof.Machine.execQueueConfigWrite t a sid reg value s
  | .tokenConsReport t a sid value => Sys2Proof.Machine.execTokenConsReport t a sid value s
  | .eventConsReport t a sid value => Sys2Proof.Machine.execEventConsReport t a sid value s
  | .sessionOpen t sid => Sys2Proof.Machine.execSessionOpen t sid s
  | .sessionConfirm t sid => Sys2Proof.Machine.execSessionConfirm t sid s
  | .sessionClose t sid => Sys2Proof.Machine.execSessionClose t sid s
  | .sessionOpeningTimeout t sid => Sys2Proof.Machine.execSessionOpeningTimeout t sid s
  | .sessionLockoutEnd t sid => Sys2Proof.Machine.execSessionLockoutEnd t sid s
  | .capQuery t sid => Sys2Proof.Machine.execCapQuery t sid s
  | .groupQuery t sid => Sys2Proof.Machine.execGroupQuery t sid s
  | .keyProvision t sid => Sys2Proof.Machine.execKeyProvision t sid s
  | .modelStage t sid => Sys2Proof.Machine.execModelStage t sid s
  | .modelLoad t sid => Sys2Proof.Machine.execModelLoad t sid s
  | .modelUnload t sid => Sys2Proof.Machine.execModelUnload t sid s
  | .modelQuery t sid => Sys2Proof.Machine.execModelQuery t sid s
  | .strainLoad t sid => Sys2Proof.Machine.execStrainLoad t sid s
  | .strainDrop t sid => Sys2Proof.Machine.execStrainDrop t sid s
  | .tenantConfig t sid => Sys2Proof.Machine.execTenantConfig t sid s
  | .classConfig t sid => Sys2Proof.Machine.execClassConfig t sid s
  | .reqAdmit t sid => Sys2Proof.Machine.execReqAdmit t sid s
  | .reqAppend t sid => Sys2Proof.Machine.execReqAppend t sid s
  | .reqTruncate t sid => Sys2Proof.Machine.execReqTruncate t sid s
  | .reqCancel t sid => Sys2Proof.Machine.execReqCancel t sid s
  | .reqPause t sid => Sys2Proof.Machine.execReqPause t sid s
  | .reqResume t sid => Sys2Proof.Machine.execReqResume t sid s
  | .reqFree t sid => Sys2Proof.Machine.execReqFree t sid s
  | .reqSetSampling t sid => Sys2Proof.Machine.execReqSetSampling t sid s
  | .reqQuery t sid => Sys2Proof.Machine.execReqQuery t sid s
  | .powerConfig t sid => Sys2Proof.Machine.execPowerConfig t sid s
  | .powerCalibrate t sid => Sys2Proof.Machine.execPowerCalibrate t sid s
  | .powerCap t sid => Sys2Proof.Machine.execPowerCap t sid s
  | .modeSet t sid => Sys2Proof.Machine.execModeSet t sid s
  | .linkMap t sid => Sys2Proof.Machine.execLinkMap t sid s
  | .maintWindow t sid => Sys2Proof.Machine.execMaintWindow t sid s
  | .platformMap t sid => Sys2Proof.Machine.execPlatformMap t sid s
  | .counterRead t sid => Sys2Proof.Machine.execCounterRead t sid s
  | .traceConfig t sid => Sys2Proof.Machine.execTraceConfig t sid s
  | .censusConfig t sid => Sys2Proof.Machine.execCensusConfig t sid s
  | .tensorDump t sid => Sys2Proof.Machine.execTensorDump t sid s
  | .hangDump t sid => Sys2Proof.Machine.execHangDump t sid s
  | .logRead t sid => Sys2Proof.Machine.execLogRead t sid s
  | .bufferStop t sid => Sys2Proof.Machine.execBufferStop t sid s
  | .recover t sid => Sys2Proof.Machine.execRecover t sid s
  | .faultQuery t sid => Sys2Proof.Machine.execFaultQuery t sid s
  | .registerWrite t a off value => Sys2Proof.Machine.execRegisterWrite t a off value s
  | .dpCtlWrite t a secure value => Sys2Proof.Machine.execDpCtlWrite t a secure value s
  | .dataWindowAccess t a off write data bad => Sys2Proof.Machine.execDataWindowAccess t a off write data bad s
  | .stageBaseWrite t a value => Sys2Proof.Machine.execStageBaseWrite t a value s
  | .kbUnwrap t a value => Sys2Proof.Machine.execKbUnwrap t a value s
  | .kbProgramWrapKey t a value => Sys2Proof.Machine.execKbProgramWrapKey t a value s
  | .mailboxDoorbell t a ch value => Sys2Proof.Machine.execMailboxDoorbell t a ch value s
  | .ping t ch type msg => Sys2Proof.Machine.execPing t ch type msg s
  | .sensorSnapshot t ch msg => Sys2Proof.Machine.execSensorSnapshot t ch msg s
  | .logMark t ch msg => Sys2Proof.Machine.execLogMark t ch msg s
  | .outPendingClear t a ch value => Sys2Proof.Machine.execOutPendingClear t a ch value s
  | .lockRead t a n => Sys2Proof.Machine.execLockRead t a n s
  | .lockRelease t a n value => Sys2Proof.Machine.execLockRelease t a n value s
  | .lockBreak t a value => Sys2Proof.Machine.execLockBreak t a value s
  | .groupEventClear t a value => Sys2Proof.Machine.execGroupEventClear t a value s
  | .counterSnap t a value => Sys2Proof.Machine.execCounterSnap t a value s
  | .groupSetupWrite t a value => Sys2Proof.Machine.execGroupSetupWrite t a value s
  | .obsBaseWrite t a value => Sys2Proof.Machine.execObsBaseWrite t a value s
  | .logitSegment t lsport seg => Sys2Proof.Machine.execLogitSegment t lsport seg s
  | .gleanData t rx row step format result => Sys2Proof.Machine.execGleanData t rx row step format result s
  | .gleanVerdict t rx row step verdict => Sys2Proof.Machine.execGleanVerdict t rx row step verdict s
  | .gleanResendReq t rx row step => Sys2Proof.Machine.execGleanResendReq t rx row step s
  | .gleanResendTimer t row => Sys2Proof.Machine.execGleanResendTimer t row s
  | .gleanTimeout t row => Sys2Proof.Machine.execGleanTimeout t row s
  | .gleanVerdictWaitTimeout t row => Sys2Proof.Machine.execGleanVerdictWaitTimeout t row s
  | .gleanMismatchWindow t => Sys2Proof.Machine.execGleanMismatchWindow t s
  | .drawWaitCompletion t tag => Sys2Proof.Machine.execDrawWaitCompletion t tag s
  | .timetableInstantiation t => Sys2Proof.Machine.execTimetableInstantiation t s
  | .nodeInsert t => Sys2Proof.Machine.execNodeInsert t s
  | .dispatchStage t => Sys2Proof.Machine.execDispatchStage t s
  | .waveRelease t => Sys2Proof.Machine.execWaveRelease t s
  | .completionRecord t rec crc => Sys2Proof.Machine.execCompletionRecord t rec crc s
  | .itemTimeout t tag => Sys2Proof.Machine.execItemTimeout t tag s
  | .memoryReadResponse t beat status crc => Sys2Proof.Machine.execMemoryReadResponse t beat status crc s
  | .memoryWriteResponse t channel status => Sys2Proof.Machine.execMemoryWriteResponse t channel status s
  | .prefixWalk t handle => Sys2Proof.Machine.execPrefixWalk t handle s
  | .readySend t => Sys2Proof.Machine.execReadySend t s
  | .junctionReady t rx junction term doneTime logCrc moveSeq reserved => Sys2Proof.Machine.execJunctionReady t rx junction term doneTime logCrc moveSeq reserved s
  | .junctionDigest t rx junction term digest => Sys2Proof.Machine.execJunctionDigest t rx junction term digest s
  | .digestResendTimer t => Sys2Proof.Machine.execDigestResendTimer t s
  | .readyResendTimer t => Sys2Proof.Machine.execReadyResendTimer t s
  | .junctionWatchdog t => Sys2Proof.Machine.execJunctionWatchdog t s
  | .idleInterval t => Sys2Proof.Machine.execIdleInterval t s
  | .yardFinalisation t => Sys2Proof.Machine.execYardFinalisation t s
  | .logReceived t rx frag count log reserved => Sys2Proof.Machine.execLogReceived t rx frag count log reserved s
  | .logResendRequest t rx id first count => Sys2Proof.Machine.execLogResendRequest t rx id first count s
  | .logResendTimer t => Sys2Proof.Machine.execLogResendTimer t s
  | .leadTimerExpiry t => Sys2Proof.Machine.execLeadTimerExpiry t s
  | .takeover t rx junction term oldLead => Sys2Proof.Machine.execTakeover t rx junction term oldLead s
  | .takeoverAck t rx term copies => Sys2Proof.Machine.execTakeoverAck t rx term copies s
  | .takeoverTimeout t => Sys2Proof.Machine.execTakeoverTimeout t s
  | .propose t rx head cmd => Sys2Proof.Machine.execPropose t rx head cmd s
  | .prepared t rx head mem page fixed => Sys2Proof.Machine.execPrepared t rx head mem page fixed s
  | .refused t rx head status detail => Sys2Proof.Machine.execRefused t rx head status detail s
  | .capReport t rx head cap seq => Sys2Proof.Machine.execCapReport t rx head cap seq s
  | .capSet t rx head cap seq effective => Sys2Proof.Machine.execCapSet t rx head cap seq effective s
  | .lossReport t rx head report => Sys2Proof.Machine.execLossReport t rx head report s
  | .lossReportResend t => Sys2Proof.Machine.execLossReportResend t s
  | .formReport t rx report => Sys2Proof.Machine.execFormReport t rx report s
  | .formReportRepeat t => Sys2Proof.Machine.execFormReportRepeat t s
  | .formCommit t rx commit => Sys2Proof.Machine.execFormCommit t rx commit s
  | .roster t rx recoverId entries => Sys2Proof.Machine.execRoster t rx recoverId entries s
  | .formationTimeout t => Sys2Proof.Machine.execFormationTimeout t s
  | .haltReceived t rx reason rank time => Sys2Proof.Machine.execHaltReceived t rx reason rank time s
  | .linkmap t rx report => Sys2Proof.Machine.execLinkmap t rx report s
  | .linkFailReport t link => Sys2Proof.Machine.execLinkFailReport t link s
  | .txCreditReturn t cls => Sys2Proof.Machine.execTxCreditReturn t cls s
  | .endpointResponse t rank alive => Sys2Proof.Machine.execEndpointResponse t rank alive s
  | .endpointQueryTimeout t => Sys2Proof.Machine.execEndpointQueryTimeout t s
  | .telemetryFrame t frame => Sys2Proof.Machine.execTelemetryFrame t frame s
  | .hardStuck t rail => Sys2Proof.Machine.execHardStuck t rail s
  | .telemetryLoss t rail => Sys2Proof.Machine.execTelemetryLoss t rail s
  | .calibrationWindow t => Sys2Proof.Machine.execCalibrationWindow t s
  | .capStrobe t cap urgent => Sys2Proof.Machine.execCapStrobe t cap urgent s
  | .capDeadline t => Sys2Proof.Machine.execCapDeadline t s
  | .droopWarningAssert t => Sys2Proof.Machine.execDroopWarningAssert t s
  | .droopWarningDeassert t => Sys2Proof.Machine.execDroopWarningDeassert t s
  | .droopRamp t => Sys2Proof.Machine.execDroopRamp t s
  | .timeBaseLost t fault => Sys2Proof.Machine.execTimeBaseLost t fault s
  | .pclkLost t clock => Sys2Proof.Machine.execPclkLost t clock s
  | .setEndpointId t msg op eid => Sys2Proof.Machine.execSetEndpointId t msg op eid s
  | .getEndpointId t msg => Sys2Proof.Machine.execGetEndpointId t msg s
  | .getEndpointUuid t msg => Sys2Proof.Machine.execGetEndpointUuid t msg s
  | .getMctpVersionSupport t msg type => Sys2Proof.Machine.execGetMctpVersionSupport t msg type s
  | .getMessageTypeSupport t msg => Sys2Proof.Machine.execGetMessageTypeSupport t msg s
  | .getTid t msg => Sys2Proof.Machine.execGetTid t msg s
  | .getPldmVersion t msg type => Sys2Proof.Machine.execGetPldmVersion t msg type s
  | .getPldmTypes t msg => Sys2Proof.Machine.execGetPldmTypes t msg s
  | .getPldmCommands t msg type => Sys2Proof.Machine.execGetPldmCommands t msg type s
  | .queryDeviceIdentifiers t msg => Sys2Proof.Machine.execQueryDeviceIdentifiers t msg s
  | .getFirmwareParameters t msg => Sys2Proof.Machine.execGetFirmwareParameters t msg s
  | .requestUpdate t msg maxTransfer => Sys2Proof.Machine.execRequestUpdate t msg maxTransfer s
  | .passComponentTable t msg classification identifier last => Sys2Proof.Machine.execPassComponentTable t msg classification identifier last s
  | .updateComponent t msg classification identifier size => Sys2Proof.Machine.execUpdateComponent t msg classification identifier size s
  | .firmwareData t msg code data => Sys2Proof.Machine.execFirmwareData t msg code data s
  | .activateFirmware t msg selfContained => Sys2Proof.Machine.execActivateFirmware t msg selfContained s
  | .getStatus t msg => Sys2Proof.Machine.execGetStatus t msg s
  | .cancelUpdateComponent t msg => Sys2Proof.Machine.execCancelUpdateComponent t msg s
  | .cancelUpdate t msg => Sys2Proof.Machine.execCancelUpdate t msg s
  | .getVersion t msg => Sys2Proof.Machine.execGetVersion t msg s
  | .getCapabilities t msg => Sys2Proof.Machine.execGetCapabilities t msg s
  | .negotiateAlgorithms t msg asym hash => Sys2Proof.Machine.execNegotiateAlgorithms t msg asym hash s
  | .getDigests t msg => Sys2Proof.Machine.execGetDigests t msg s
  | .getCertificate t msg certSlot offset length => Sys2Proof.Machine.execGetCertificate t msg certSlot offset length s
  | .challenge t msg certSlot summary => Sys2Proof.Machine.execChallenge t msg certSlot summary s
  | .getMeasurements t msg certSlot operation signed => Sys2Proof.Machine.execGetMeasurements t msg certSlot operation signed s
  | .setCertificate t msg certSlot chain => Sys2Proof.Machine.execSetCertificate t msg certSlot chain s
  | .flashCommandDone t ok => Sys2Proof.Machine.execFlashCommandDone t ok s
  | .flashCommandTimeout t => Sys2Proof.Machine.execFlashCommandTimeout t s
  | .persistentLogFlush t => Sys2Proof.Machine.execPersistentLogFlush t s
  | .coreWatchdog t core pc => Sys2Proof.Machine.execCoreWatchdog t core pc s
  | .retentionAck t core level => Sys2Proof.Machine.execRetentionAck t core level s
  | .sensorSample t sensor value => Sys2Proof.Machine.execSensorSample t sensor value s
  | .censusSnapshot t => Sys2Proof.Machine.execCensusSnapshot t s
  | .sramUncorrectable t storage newPass => Sys2Proof.Machine.execSramUncorrectable t storage newPass s
  | .drbgHealthFail t => Sys2Proof.Machine.execDrbgHealthFail t s
  | .diagSweepComplete t unit => Sys2Proof.Machine.execDiagSweepComplete t unit s
  | .quiescence t => Sys2Proof.Machine.execQuiescence t s
  | .poreset t => Sys2Proof.Machine.execPoreset t s
  | .wreset t => Sys2Proof.Machine.execWreset t s
  | .resetRelease t memFail => Sys2Proof.Machine.execResetRelease t memFail s
  | .selfTestComplete t firmwareOk unit => Sys2Proof.Machine.execSelfTestComplete t firmwareOk unit s
  | .testModeEntry t mode => Sys2Proof.Machine.execTestModeEntry t mode s
  | .drbgReseed t => Sys2Proof.Machine.execDrbgReseed t s
  | .kbActionComplete t => Sys2Proof.Machine.execKbActionComplete t s
  | .tbSyncPulse t => Sys2Proof.Machine.execTbSyncPulse t s
  | .scrubSymbolCorrected t unit addr bank newPass => Sys2Proof.Machine.execScrubSymbolCorrected t unit addr bank newPass s
  | .outDroppedRead t a ch => Sys2Proof.Machine.execOutDroppedRead t a ch s
  | .wsSafeEntry t => Sys2Proof.Machine.execWsSafeEntry t s

end Sys2Proof.Machine
end

