-- ==== Sys2Proof/Safety.lean ====
section
/-! DEFINITION. The terms that statements use: what holds between two commands, the conditions under which a command acts, and
the answers of the host aperture. -/

namespace Sys2Proof.Machine
open Sys2Proof

/-- Device memory is in its canonical form, no write of an earlier command is left to carry out, and no access is in progress. -/
def State.Inv (s : State) : Prop := Memory.wf s.mem = true ∧ s.blk.posted = [] ∧ s.blk.agent = 0

/-- Neither a reset nor a test mode holds the block (R373, R375). -/
def State.Live (x : State) : Prop := x.blk.dead = false

/-- The block serves its ports: it is live, and WS_SAFE is not selected (R372). -/
def State.Serving (x : State) : Prop := x.blk.dead = false ∧ x.blk.sb.safe = false

/-- The block as a transfer at a port finds it: its time, and the port's clock present. -/
def State.seen (x : State) (t : Nat) (c : PortClock) : Block := (x.blk.atTime t).clockSeen (some c)

/-- Session s of a live block holds the fetched command c, and checks 8 to 12 of Table 11-5 pass at time t. -/
def State.Carries (x : State) (t s : Nat) (c : Current) : Prop :=
  x.blk.dead = false ∧ (x.blk.session s).current = some c ∧ (x.blk.atTime t).scopeRefusal s c.entry c.pkt = none

/-- Session s has queues, an entry to fetch, a free completion entry, and no command that waits to be carried out (R281, R283,
R353). -/
def Block.CanFetch (b : Block) (s : Nat) : Prop :=
  s < 256 ∧ (4 ≤ (b.session s).cmdLog ∧ (b.session s).cmdLog ≤ 12) ∧ (4 ≤ (b.session s).cplLog ∧ (b.session s).cplLog ≤ 12) ∧
  (b.session s).cmdBase ≠ 0 ∧ (b.session s).cplBase ≠ 0 ∧ (b.session s).fetch ≠ (b.session s).tail ∧
  (b.session s).cplFree ≠ 0 ∧ (b.session s).current = none

/-- What host software writes before an entry is fetched, and memory with it: its packet, and the entry at CMD_BASE +
(i mod 2^n) × 32 (R281, R284, log entry 117). -/
def Block.placed (b : Block) (s : Nat) (e : CmdEntry) (pkt : Option Packet) : Block :=
  { b with posted := (b.fetchImage s e pkt).reverse ++ b.posted }

/-- Session s with one more entry fetched at address a, and a completion entry reserved for it (R283). -/
def Block.fetched (b : Block) (s a : Nat) : Block :=
  (b.modSession s fun x => { x with fetch := add32 x.fetch 1, reserved := x.reserved + 1 }).ask 60 a 32 .commandPacket

/-- Check 1 of Table 11-5 passes: the entry's lengths and addresses. -/
def goodEntry (e : CmdEntry) : Prop := 48 ≤ e.pktLen ∧ e.pktLen ≤ 262288 ∧ e.pktAddr % 8 = 0 ∧ e.replyAddr % 8 = 0

/-- A packet of a class that completes a message (R340, R342): sent against a receive credit that the fabric holds, its PKT_CRC
matches, its fragment is not held, and every other one is. The fragments of class 2, LOG, are held with their log. A message of a step
names it. -/
def Block.Whole (b : Block) (r : Rx) (cls : Nat) (step : Option Nat := none) : Prop :=
  r.reserved = false ∧ r.credit = true ∧ b.fab.given.getD cls 0 ≠ 0 ∧ packetIntact r.bytes = true ∧
  (cls = 2 ∨ (r.frag ∉ (b.partsOf r cls step).got ∧ ∀ i < r.count, i = r.frag ∨ i ∈ (b.partsOf r cls step).got))

/-- An intact packet of a class has come from a rank at time t: the block with its receive stamp and its fragment, its credit
returned. -/
def State.got (x : State) (t : Nat) (r : Rx) (cls : Nat) (step : Option Nat := none) : Block := (x.seen t .fp).taken r cls step

/-- The block as a request of the aperture finds it: its time, the clock present, and the register reads accepted before the request
answered (R349); the records that the access causes carry its agent number (R409). -/
def State.asked (x : State) (t : Nat) (a : HAccess) : Block :=
  { a.before.foldl Block.registerRead (x.seen t .ha) with agent := a.agent }

/-- A write of one register at the port that Table 13-3 answers with OKAY, at an aperture with room for its answer. -/
def State.Writes (x : State) (t : Nat) (a : HAccess) (off : Nat) : Prop :=
  x.blk.dead = false ∧ x.blk.sb.safe = false ∧ a.core = false ∧ (x.asked t a).ap.answers.length < 16 ∧ accessStatus a off true = 0

/-- A read of one register at the port that Table 13-3 answers with OKAY. -/
def State.Reads (x : State) (t : Nat) (a : HAccess) (off : Nat) : Prop :=
  x.blk.dead = false ∧ x.blk.sb.safe = false ∧ a.core = false ∧ (x.asked t a).ap.answers.length < 16 ∧ accessStatus a off false = 0

/-- An access of Signal Box core n, which runs, by its internal path (R399, R401). -/
def State.CoreAccess (x : State) (t : Nat) (a : HAccess) (n : Nat) : Prop :=
  x.blk.dead = false ∧ a.core = true ∧ n < 4 ∧ a.agent = 3 + n ∧ (x.blk.atTime t).coreUp n = true

/-- The answer of an access joins the answers, and those that are due leave. -/
def Block.answered (b : Block) (o : Out) : Block := (b.answer [] [o]).flushAnswers

/-- A packet that completes an MCTP message with head h, of a command of the subsets, which Cheldo serves; c: the block after it (R371). -/
def Block.Hears (b : Block) (m : MctpMsg) (h : MctpHead) (c : Block) : Prop :=
  (b.sb.phase = .firmware ∨ b.sb.phase = .recovery) ∧ b.mctpTake m = (some h, c) ∧ c.unsupported h = none

/-- A segment of row record r that the ports accept (R154, R156): an epoch has committed, and it is of the current step, of a sampled
row whose model this instance holds a shard of, under the tag of an open compute item of the step, of a row not yet closed. -/
def Block.Streams (b : Block) (h : RowHeader) (r : RowRec) : Prop :=
  b.running = true ∧ b.cp.epoch ≠ 0 ∧ h.step16 = b.consistNow.step % 65536 ∧ b.rowAt h.row = some r ∧ r.sample = true ∧
  (shardOf (b.mapOf r) b.cp.rank).isSome = true ∧ b.dsp.oldTags.contains h.itemTag = false ∧
  (b.dsp.openItems.any fun o => o.tag == h.itemTag && o.copy.isNone && o.step == b.consistNow.step) = true ∧
  b.thr.closed.contains h.row = false

/-- Nothing follows a command at once: the group does not run, no takeover is collected, no proposal is staged, nothing waits to be
sent or taken, no segment waits at a port, and no barrier stands or is due. -/
def Block.Quiet (b : Block) : Prop :=
  b.running = false ∧ b.cp.collect = none ∧ b.cp.staged = none ∧ b.fab.queue = [] ∧ b.fab.selfIn = [] ∧ b.thr.skid = [] ∧
  b.pwr.barrier = none ∧ b.idleEligible ≤ b.pwr.global.waveSize

/-- The end of a command leaves the block as it is but for the Memory Port: no log record is new, neither what R459 reports nor the
last junction applied nor what the power trace shows has changed, no trace record waits, no core is traced, and no flash command waits to be started. -/
def Block.Plain (b before : Block) : Prop :=
  b.vlog.length ≤ before.vlog.length ∧ b.powerTrace = before.powerTrace ∧ b.obs.traced = [] ∧ b.sb.seen = b.vlog.length ∧ b.perturbed = before.perturbed ∧ b.cp.applied = before.cp.applied ∧
  (b.cp.state = .bufferStop → before.cp.state = .bufferStop) ∧ bit b.obs.traceMask 10 = false ∧ (b.sb.queue = [] ∨ b.sb.flashBusy = true)

/-- The numbers that runs hold, in order. -/
def Runs.list (r : Runs) : List Nat := r.flatMap fun p => (List.range p.2).map (p.1 + ·)

/-- The free list of slots (R29, R62): it holds every slot of a bank in service that has no entry, each once. The entries stand in
slot order, each under the slot of its handle. -/
def Block.SlotsOk (b : Block) : Prop :=
  (Tab.keys b.gr.entries).Pairwise (· < ·) ∧ (∀ x ∈ b.gr.entries, x.1 < 32768 ∧ slotOf x.2.handle = x.1) ∧ (∀ k ∈ b.gr.banksOut, k < 16) ∧
  (Runs.list b.gr.freeList).Nodup ∧
  ∀ s, s ∈ Runs.list b.gr.freeList ↔ s < 32768 ∧ s / 2048 ∉ b.gr.banksOut ∧ s ∉ b.liveSlots

/-- The lengths of a slot's request (R36), and the transcript region that holds its tokens. -/
def Block.LengthsOk (b : Block) (slot : Nat) : Prop :=
  let e := b.ent slot
  e.committedLen ≤ e.transcriptLen ∧ e.transcriptLen ≤ e.transcriptCap ∧ ∃ r, b.region e.granule = some r ∧ r.tokens.length = e.transcriptLen

/-- The form of the page tables: keys rise, and no run of free pages or nodes is empty. -/
def Block.PagesOk (b : Block) : Prop :=
  (Tab.keys b.pg.desc).Pairwise (· < ·) ∧ (Tab.keys b.pg.nodes).Pairwise (· < ·) ∧ (Tab.keys b.pg.buckets).Pairwise (· < ·) ∧
  (∀ t, ∀ x ∈ b.pg.stack t, 0 < x.2) ∧ ∀ x ∈ b.pg.freeNodes, 0 < x.2

/-- What the instances of a group hold alike and change at a junction (R19, R223): the Granary but for what a step leaves staged for its
junction, the policy, the pages and the Rhizome but for the moves, and the models but for what MODEL_STAGE and STAGE_BASE leave. -/
def Block.committedState (b : Block) : Granary × Policy × Pages × Models :=
  ({ b.gr with results := [], losses := [], slabErrors := [], walks := [] }, b.pol, { b.pg with moves := [] },
   { b.mdl with staged := [], stageBase := 0 })

/-- The log held is that of the next junction, and so is one of the old term that a new lead reuses (R224, R239). -/
def Block.NextLogs (b : Block) : Prop :=
  (∀ l, b.cp.log = some l → l.junction = b.cp.applied + 1) ∧ (∀ l, b.seq.reuse = some l → l.junction = b.cp.applied + 1)

/-- The commands of the reset inputs (R375, R376, R473). -/
def isReset : Instr → Bool
  | .poreset .. | .wreset .. | .resetRelease .. => true
  | _ => false

/-- Entry to a test mode (R373). -/
def isTestEntry : Instr → Bool
  | .testModeEntry .. => true
  | _ => false

/-- The commands that are transfers at a port of the block (chapters 12 and 13); the internal path of a core is no port (R401). -/
def isTransfer : Instr → Bool
  | .cmdTailWrite (a := a) .. | .cplHeadWrite (a := a) .. | .queueConfigWrite (a := a) .. | .tokenConsReport (a := a) ..
  | .eventConsReport (a := a) .. | .registerWrite (a := a) .. | .dpCtlWrite (a := a) .. | .dataWindowAccess (a := a) ..
  | .stageBaseWrite (a := a) .. | .kbUnwrap (a := a) .. | .kbProgramWrapKey (a := a) .. | .mailboxDoorbell (a := a) ..
  | .outPendingClear (a := a) .. | .lockRead (a := a) .. | .lockRelease (a := a) .. | .lockBreak (a := a) ..
  | .groupEventClear (a := a) .. | .counterSnap (a := a) .. | .groupSetupWrite (a := a) .. | .obsBaseWrite (a := a) ..
  | .outDroppedRead (a := a) .. => !a.core
  | .commandFetch .. | .ping .. | .sensorSnapshot .. | .logMark .. | .logitSegment .. | .gleanData .. | .gleanVerdict ..
  | .gleanResendReq .. | .dispatchStage .. | .waveRelease .. | .completionRecord .. | .memoryReadResponse ..
  | .memoryWriteResponse .. | .junctionReady .. | .junctionDigest .. | .logReceived .. | .logResendRequest ..
  | .leadTimerExpiry .. | .takeover .. | .takeoverAck .. | .propose .. | .prepared .. | .refused .. | .capReport .. | .capSet ..
  | .lossReport .. | .formReport .. | .formCommit .. | .roster .. | .haltReceived .. | .linkmap .. | .linkFailReport ..
  | .txCreditReturn .. | .endpointResponse .. | .endpointQueryTimeout .. | .telemetryFrame .. | .capStrobe ..
  | .droopWarningAssert .. | .droopWarningDeassert .. | .setEndpointId .. | .getEndpointId .. | .getEndpointUuid ..
  | .getMctpVersionSupport .. | .getMessageTypeSupport .. | .getTid .. | .getPldmVersion .. | .getPldmTypes ..
  | .getPldmCommands .. | .queryDeviceIdentifiers .. | .getFirmwareParameters .. | .requestUpdate .. | .passComponentTable ..
  | .updateComponent .. | .firmwareData .. | .activateFirmware .. | .getStatus .. | .cancelUpdateComponent .. | .cancelUpdate ..
  | .getVersion .. | .getCapabilities .. | .negotiateAlgorithms .. | .getDigests .. | .getCertificate .. | .challenge ..
  | .getMeasurements .. | .setCertificate .. | .flashCommandDone .. | .tbSyncPulse .. => true
  | _ => false

end Sys2Proof.Machine
end

