-- ==== Sys2Proof/WellFormed.lean ====
section
/-! DEFINITION. Which commands are well formed: every operand lies within the field the manual gives it. -/

namespace Sys2Proof

/-- A number of n bits. -/
def fits (n x : Nat) : Bool := x < 2 ^ n

def below (n x : Nat) : Bool := x < n

/-- An agent's number (R348). -/
def HAccess.wf (a : HAccess) : Bool :=
  below 64 a.agent && fits 16 a.beats && (!a.core || (3 ≤ a.agent && a.agent ≤ 6)) && a.before.all fun r => below 64 r.agent && fits 16 r.beats && below 0x200000 r.off

/-- Table 11-1. -/
def CmdEntry.wf (e : CmdEntry) : Bool := fits 64 e.pktAddr && fits 32 e.pktLen && fits 32 e.replyMax && fits 64 e.replyAddr

/-- Table 11-3. -/
def Packet.wf (p : Packet) : Bool := fits 8 p.version && fits 16 p.session && fits 64 p.seq && fits 32 p.paramLen && p.mac.length == 16

/-- Table 12-12. -/
def Rx.wf (x : Rx) : Bool := below 512 x.src && fits 32 x.msgId && fits 16 x.frag && fits 16 x.count && x.frag < x.count && x.bytes.length == 64

/-- Table 15-9. -/
def InMail.wf (x : InMail) : Bool := fits 16 x.bodyLen && fits 32 x.seq && x.body.length ≤ 4064

/-- Table 13-9: a packet has its transport header of 4 bytes and a payload. -/
def MctpMsg.wf (x : MctpMsg) : Bool := 5 ≤ x.packet.length && fits 32 x.crc

/-- Table 06-1; a beat has 64 lanes (R320). -/
def RowHeader.wf (h : RowHeader) : Bool :=
  fits 32 h.itemTag && fits 16 h.step16 && below 4 h.format && fits 12 h.row && fits 32 h.baseIndex && fits 32 h.count

def Segment.wf (x : Segment) : Bool := x.header.all RowHeader.wf && x.beats.all (fun b => b.length == 64) && fits 32 x.crc

/-- Table 06-5. -/
def PartialResult.wf (r : PartialResult) : Bool :=
  fits 12 r.row && fits 16 r.step16 && below 65 r.k && r.returned ≤ r.k && r.entries.length == r.k && below 512 r.shardRank

/-- Table 07-3. -/
def Verdict.wf (v : Verdict) : Bool := below 2 v.outcome && fits 64 v.used && fits 64 v.missing && fits 64 v.digest

/-- Tables 12-6 and 12-7. -/
def CompletionRec.wf (r : CompletionRec) : Bool :=
  fits 32 r.itemTag && fits 12 r.platform && below 4 r.slot && fits 4 r.status && fits 4 r.stallReason &&
  fits 32 r.busyStart && fits 32 r.stallStart && fits 32 r.idleStart && fits 32 r.endA && fits 32 r.endB && fits 32 r.endC && fits 9 r.rsvd

/-- Table 12-14. -/
def EpochHead.wf (h : EpochHead) : Bool := below 512 h.source && fits 24 h.proposal && fits 32 h.leadTerm && fits 32 h.epoch && fits 64 h.junction

/-- Table 11-6. -/
def CmdRecord.wf (c : CmdRecord) : Bool := below 256 c.session && fits 64 c.acceptTime && fits 32 c.assigned

/-- Table 03-3. -/
def RowRec.wf (r : RowRec) : Bool := fits 32 r.handle && below 5 r.kind && below 4 r.model && below 8 r.cls

/-- Tables 09-1, 09-2 and 03-2. -/
def JLog.wf (l : JLog) : Bool :=
  fits 64 l.junction && fits 32 l.leadTerm && below 512 l.leadRank && fits 32 l.epoch && fits 64 l.closeTime &&
  l.commands.all CmdRecord.wf && l.banks.all (below 16) && l.consist.rows.length ≤ 4096 && l.consist.rows.all RowRec.wf

/-- Table 16-2. -/
def LossReport.wf (r : LossReport) : Bool := fits 32 r.handle && below 6 r.cause && below 16 r.bank

/-- Table 18-3. -/
def FormReport.wf (r : FormReport) : Bool :=
  fits 32 r.highestTerm && fits 32 r.epoch && fits 64 r.junction && fits 32 r.recoverId && fits 16 r.n && below 3 r.resumeHint &&
  fits 64 r.lastDigest && r.barred.all (below 512)

def FormCommit.wf (c : FormCommit) : Bool :=
  fits 32 c.recoverId && fits 16 c.n && below 3 c.resumeKind && fits 64 c.firstJunction && fits 32 c.leadTerm && below 512 c.leadRank

/-- Table 16-7. -/
def RosterEntry.wf (x : RosterEntry) : Bool :=
  fits 32 x.handle && fits 8 x.state && fits 8 x.endReason && fits 16 x.flags && fits 32 x.granule && fits 32 x.transcriptLen

/-- Table 12-8: 10 bits of RD_TAG, 2 of RD_BEAT. -/
def ReadBeat.wf (x : ReadBeat) : Bool := below 2 x.channel && fits 10 x.tag && below 4 x.beat && x.data.length == 64

/-- Table 12-15. -/
def LinkReport.wf (x : LinkReport) : Bool := fits 16 x.link && fits 64 x.time

/-- Table 10-5. -/
def GroupCap.wf (x : GroupCap) : Bool := fits 16 x.cap && below 512 x.rank

/-- Table 13-7: 16 rails. -/
def TelemetryFrame.wf (f : TelemetryFrame) : Bool := f.samples.length == 16 && f.samples.all (fun s => s.all (fits 16))

/-- Table 16-1: a slot, a bank, a unit of Table 15-7. -/
def Storage.wf : Storage → Bool
  | .granaryEntry slot | .stagedSlab slot => below 32768 slot
  | .cacheLine _ _ | .logRecord _ => true
  | .rowContext port row => below 2 port && below 4096 row
  | .gleanBuffer row rank => below 4096 row && below 512 rank
  | .bankLogic bank => below 16 bank
  | .control unit | .handshake unit => 1 ≤ unit && unit ≤ 16

/-- A well-formed command. -/
def Instr.wf : Instr → Bool
  | .cmdTailWrite t a s value => fits 64 t && a.wf && below 256 s && fits 64 value
  | .commandFetch t s entry pkt => fits 64 t && below 256 s && entry.wf && pkt.all Packet.wf
  | .cplHeadWrite t a s value => fits 64 t && a.wf && below 256 s && fits 64 value
  | .queueConfigWrite t a s _ value => fits 64 t && a.wf && below 256 s && fits 64 value
  | .tokenConsReport t a s value => fits 64 t && a.wf && below 256 s && fits 64 value
  | .eventConsReport t a s value => fits 64 t && a.wf && below 256 s && fits 64 value
  | .sessionOpen t s => fits 64 t && below 256 s
  | .sessionConfirm t s => fits 64 t && below 256 s
  | .sessionClose t s => fits 64 t && below 256 s
  | .sessionOpeningTimeout t s => fits 64 t && below 256 s
  | .sessionLockoutEnd t s => fits 64 t && below 256 s
  | .capQuery t s => fits 64 t && below 256 s
  | .groupQuery t s => fits 64 t && below 256 s
  | .keyProvision t s => fits 64 t && below 256 s
  | .modelStage t s => fits 64 t && below 256 s
  | .modelLoad t s => fits 64 t && below 256 s
  | .modelUnload t s => fits 64 t && below 256 s
  | .modelQuery t s => fits 64 t && below 256 s
  | .strainLoad t s => fits 64 t && below 256 s
  | .strainDrop t s => fits 64 t && below 256 s
  | .tenantConfig t s => fits 64 t && below 256 s
  | .classConfig t s => fits 64 t && below 256 s
  | .reqAdmit t s => fits 64 t && below 256 s
  | .reqAppend t s => fits 64 t && below 256 s
  | .reqTruncate t s => fits 64 t && below 256 s
  | .reqCancel t s => fits 64 t && below 256 s
  | .reqPause t s => fits 64 t && below 256 s
  | .reqResume t s => fits 64 t && below 256 s
  | .reqFree t s => fits 64 t && below 256 s
  | .reqSetSampling t s => fits 64 t && below 256 s
  | .reqQuery t s => fits 64 t && below 256 s
  | .powerConfig t s => fits 64 t && below 256 s
  | .powerCalibrate t s => fits 64 t && below 256 s
  | .powerCap t s => fits 64 t && below 256 s
  | .modeSet t s => fits 64 t && below 256 s
  | .linkMap t s => fits 64 t && below 256 s
  | .maintWindow t s => fits 64 t && below 256 s
  | .platformMap t s => fits 64 t && below 256 s
  | .counterRead t s => fits 64 t && below 256 s
  | .traceConfig t s => fits 64 t && below 256 s
  | .censusConfig t s => fits 64 t && below 256 s
  | .tensorDump t s => fits 64 t && below 256 s
  | .hangDump t s => fits 64 t && below 256 s
  | .logRead t s => fits 64 t && below 256 s
  | .bufferStop t s => fits 64 t && below 256 s
  | .recover t s => fits 64 t && below 256 s
  | .faultQuery t s => fits 64 t && below 256 s
  | .registerWrite t a off value => fits 64 t && a.wf && below 0x200000 off && fits 64 value
  | .dpCtlWrite t a _ value => fits 64 t && a.wf && fits 64 value
  | .dataWindowAccess t a off _ data _ => fits 64 t && a.wf && below 0x200000 off && data.all (fits 64)
  | .stageBaseWrite t a value => fits 64 t && a.wf && fits 64 value
  | .kbUnwrap t a value => fits 64 t && a.wf && fits 64 value
  | .kbProgramWrapKey t a value => fits 64 t && a.wf && fits 64 value
  | .mailboxDoorbell t a ch value => fits 64 t && a.wf && below 32 ch && fits 64 value
  | .ping t ch type msg => fits 64 t && below 32 ch && fits 16 type && msg.wf
  | .sensorSnapshot t ch msg => fits 64 t && below 32 ch && msg.wf
  | .logMark t ch msg => fits 64 t && below 32 ch && msg.wf
  | .outPendingClear t a ch value => fits 64 t && a.wf && below 32 ch && fits 64 value
  | .lockRead t a n => fits 64 t && a.wf && below 64 n
  | .lockRelease t a n value => fits 64 t && a.wf && below 64 n && fits 64 value
  | .lockBreak t a value => fits 64 t && a.wf && fits 64 value
  | .groupEventClear t a value => fits 64 t && a.wf && fits 64 value
  | .counterSnap t a value => fits 64 t && a.wf && fits 64 value
  | .groupSetupWrite t a value => fits 64 t && a.wf && fits 64 value
  | .obsBaseWrite t a value => fits 64 t && a.wf && fits 64 value
  | .logitSegment t lsport seg => fits 64 t && below 2 lsport && seg.wf
  | .gleanData t rx row step format result => fits 64 t && rx.wf && below 4096 row && fits 64 step && below 4 format && result.wf
  | .gleanVerdict t rx row step verdict => fits 64 t && rx.wf && below 4096 row && fits 64 step && verdict.wf
  | .gleanResendReq t rx row step => fits 64 t && rx.wf && below 4096 row && fits 64 step
  | .gleanResendTimer t row => fits 64 t && below 4096 row
  | .gleanTimeout t row => fits 64 t && below 4096 row
  | .gleanVerdictWaitTimeout t row => fits 64 t && below 4096 row
  | .gleanMismatchWindow t => fits 64 t
  | .drawWaitCompletion t tag => fits 64 t && fits 32 tag
  | .timetableInstantiation t => fits 64 t
  | .nodeInsert t => fits 64 t
  | .dispatchStage t => fits 64 t
  | .waveRelease t => fits 64 t
  | .completionRecord t rec crc => fits 64 t && rec.wf && fits 32 crc
  | .itemTimeout t tag => fits 64 t && fits 32 tag
  | .memoryReadResponse t beat status crc => fits 64 t && beat.wf && below 4 status && fits 32 crc
  | .memoryWriteResponse t channel status => fits 64 t && below 2 channel && below 4 status
  | .prefixWalk t handle => fits 64 t && fits 32 handle
  | .readySend t => fits 64 t
  | .junctionReady t rx junction term doneTime logCrc moveSeq _ => fits 64 t && rx.wf && fits 64 junction && fits 32 term && fits 64 doneTime && fits 64 logCrc && fits 32 moveSeq
  | .junctionDigest t rx junction term digest => fits 64 t && rx.wf && fits 64 junction && fits 32 term && fits 64 digest
  | .digestResendTimer t => fits 64 t
  | .readyResendTimer t => fits 64 t
  | .junctionWatchdog t => fits 64 t
  | .idleInterval t => fits 64 t
  | .yardFinalisation t => fits 64 t
  | .logReceived t rx frag count log _ => fits 64 t && rx.wf && fits 16 frag && fits 16 count && log.wf
  | .logResendRequest t rx id first count => fits 64 t && rx.wf && fits 32 id && fits 16 first && fits 16 count
  | .logResendTimer t => fits 64 t
  | .leadTimerExpiry t => fits 64 t
  | .takeover t rx junction term oldLead => fits 64 t && rx.wf && fits 64 junction && fits 32 term && below 512 oldLead
  | .takeoverAck t rx term copies => fits 64 t && rx.wf && fits 32 term && fits 16 copies
  | .takeoverTimeout t => fits 64 t
  | .propose t rx head cmd => fits 64 t && rx.wf && head.wf && cmd.wf
  | .prepared t rx head mem page fixed => fits 64 t && rx.wf && head.wf && fits 64 mem && fits 64 page && fits 64 fixed
  | .refused t rx head status detail => fits 64 t && rx.wf && head.wf && fits 16 status && fits 32 detail
  | .capReport t rx head cap seq => fits 64 t && rx.wf && head.wf && fits 16 cap && fits 32 seq
  | .capSet t rx head cap seq effective => fits 64 t && rx.wf && head.wf && cap.wf && fits 32 seq && fits 64 effective
  | .lossReport t rx head report => fits 64 t && rx.wf && head.wf && report.wf
  | .lossReportResend t => fits 64 t
  | .formReport t rx report => fits 64 t && rx.wf && report.wf
  | .formReportRepeat t => fits 64 t
  | .formCommit t rx commit => fits 64 t && rx.wf && commit.wf
  | .roster t rx recoverId entries => fits 64 t && rx.wf && fits 32 recoverId && entries.length ≤ 64 && entries.all RosterEntry.wf
  | .formationTimeout t => fits 64 t
  | .haltReceived t rx reason rank time => fits 64 t && rx.wf && fits 16 reason && below 512 rank && fits 64 time
  | .linkmap t rx report => fits 64 t && rx.wf && report.wf
  | .linkFailReport t link => fits 64 t && fits 16 link
  | .txCreditReturn t cls => fits 64 t && below 8 cls
  | .endpointResponse t rank _ => fits 64 t && below 512 rank
  | .endpointQueryTimeout t => fits 64 t
  | .telemetryFrame t frame => fits 64 t && frame.wf
  | .hardStuck t rail => fits 64 t && below 16 rail
  | .telemetryLoss t rail => fits 64 t && below 16 rail
  | .calibrationWindow t => fits 64 t
  | .capStrobe t cap _ => fits 64 t && fits 16 cap
  | .capDeadline t => fits 64 t
  | .droopWarningAssert t => fits 64 t
  | .droopWarningDeassert t => fits 64 t
  | .droopRamp t => fits 64 t
  | .timeBaseLost t _ => fits 64 t
  | .pclkLost t _ => fits 64 t
  | .setEndpointId t msg op eid => fits 64 t && msg.wf && below 4 op && below 256 eid
  | .getEndpointId t msg => fits 64 t && msg.wf
  | .getEndpointUuid t msg => fits 64 t && msg.wf
  | .getMctpVersionSupport t msg type => fits 64 t && msg.wf && fits 16 type
  | .getMessageTypeSupport t msg => fits 64 t && msg.wf
  | .getTid t msg => fits 64 t && msg.wf
  | .getPldmVersion t msg type => fits 64 t && msg.wf && fits 16 type
  | .getPldmTypes t msg => fits 64 t && msg.wf
  | .getPldmCommands t msg type => fits 64 t && msg.wf && fits 16 type
  | .queryDeviceIdentifiers t msg => fits 64 t && msg.wf
  | .getFirmwareParameters t msg => fits 64 t && msg.wf
  | .requestUpdate t msg maxTransfer => fits 64 t && msg.wf && fits 32 maxTransfer
  | .passComponentTable t msg classification identifier _ => fits 64 t && msg.wf && fits 16 classification && fits 16 identifier
  | .updateComponent t msg classification identifier size => fits 64 t && msg.wf && fits 16 classification && fits 16 identifier && fits 32 size
  | .firmwareData t msg code _ => fits 64 t && msg.wf && below 256 code
  | .activateFirmware t msg _ => fits 64 t && msg.wf
  | .getStatus t msg => fits 64 t && msg.wf
  | .cancelUpdateComponent t msg => fits 64 t && msg.wf
  | .cancelUpdate t msg => fits 64 t && msg.wf
  | .getVersion t msg => fits 64 t && msg.wf
  | .getCapabilities t msg => fits 64 t && msg.wf
  | .negotiateAlgorithms t msg asym hash => fits 64 t && msg.wf && fits 32 asym && fits 32 hash
  | .getDigests t msg => fits 64 t && msg.wf
  | .getCertificate t msg certSlot offset length => fits 64 t && msg.wf && below 16 certSlot && fits 16 offset && fits 16 length
  | .challenge t msg certSlot summary => fits 64 t && msg.wf && below 16 certSlot && below 256 summary
  | .getMeasurements t msg certSlot operation _ => fits 64 t && msg.wf && below 16 certSlot && below 256 operation
  | .setCertificate t msg certSlot _ => fits 64 t && msg.wf && below 16 certSlot
  | .flashCommandDone t _ => fits 64 t
  | .flashCommandTimeout t => fits 64 t
  | .persistentLogFlush t => fits 64 t
  | .coreWatchdog t core pc => fits 64 t && below 4 core && fits 64 pc
  | .retentionAck t core _ => fits 64 t && below 4 core
  | .sensorSample t sensor value => fits 64 t && below 36 sensor && fits 64 value
  | .censusSnapshot t => fits 64 t
  | .sramUncorrectable t storage _ => fits 64 t && storage.wf
  | .drbgHealthFail t => fits 64 t
  | .diagSweepComplete t unit => fits 64 t && unit.all (below 17)
  | .quiescence t => fits 64 t
  | .poreset t => fits 64 t
  | .wreset t => fits 64 t
  | .resetRelease t _ => fits 64 t
  | .selfTestComplete t _ unit => fits 64 t && unit.all (below 17)
  | .testModeEntry t _ => fits 64 t
  | .drbgReseed t => fits 64 t
  | .kbActionComplete t => fits 64 t
  | .tbSyncPulse t => fits 64 t
  | .scrubSymbolCorrected t unit addr bank _ => fits 64 t && fits 16 unit && fits 64 addr && bank.all (below 16)
  | .outDroppedRead t a ch => fits 64 t && a.wf && below 32 ch
  | .wsSafeEntry t => fits 64 t

end Sys2Proof
end

