-- ==== Sys2Proof/Certificates/Slice0/Obligations.lean ====
section
/-! DEFINITION. The statements: the queue and the frame of every command, device memory, and for each family of commands the block
that each of its commands leaves. In a statement about a command, `x` is the state before it and the conclusion names the whole
block after its own effect; `x.settled` then carries out what follows at once, which statement QuietCommandLeavesItsOwnEffect says
for a block in which nothing does, and the frame of the command is what the named block does not change. -/

open Sys2Proof Sys2Proof.Machine

/-! ### The queue, resets and safe modes -/

/-- The command at the front of the queue is carried out on the state with the queue's rest. The queue is the model's own. An
empty queue idles. The model's own choice (log entry 7). -/
def Obligations.StepTakesFrontCommand : Prop :=
  (∀ (s : State) (i : Instr) (rest : List Instr), s.pending = i :: rest → step s = exec i { s with pending := rest }) ∧
  (∀ s : State, s.pending = [] → step s = .next s)

/-- A command neither looks at the commands that wait behind it nor changes them. The queue is the model's own. -/
def Obligations.CommandsLeaveTheQueue : Prop :=
  ∀ (i : Instr) (s t : State) (q : List Instr), exec i s = .next t →
    t.pending = s.pending ∧ exec i { s with pending := q } = .next { t with pending := q }

/-- Every step keeps device memory in its canonical form, with no write of a command left over. -/
def Obligations.StepKeepsInvariant : Prop := ∀ s t : State, s.Inv → step s = .next t → t.Inv

/-- Between two junctions nothing changes the committed state: a step after which the last junction applied is the one of before
leaves requests, free list, transcripts, slabs, firmware queue, policy, pages, nodes and models as they are, where it is no
RECOVER, no reset, and no formation ends in it (R19, R223). The logs in hand stay those of the next junction. -/
def Obligations.CommittedStateChangesAtJunctions : Prop :=
  State.reset.blk.NextLogs ∧
  ∀ (s t : State), step s = .next t → s.blk.NextLogs → t.blk.NextLogs ∧
    ((∀ i rest, s.pending = i :: rest → isReset i = false ∧ isTestEntry i = false ∧ ∀ u k, i ≠ .recover u k) →
     (∀ f, s.blk.form = some f → f.committed = true) → t.blk.cp.applied = s.blk.cp.applied →
     t.blk.committedState = s.blk.committedState)

/-- While a reset is asserted or a test mode holds the block, every command but those of the reset inputs leaves all of it as it
is but the time; in a test mode a further TEST_MODE_ENTRY is not one of these, for it is counted (R373, R375; that time passes is
log entry 5). Under WS_SAFE no transfer at a port has an effect of its own (R372): the command is as if only its time had come.
What becomes of a transfer then is the model's own choice (log entry 95). -/
def Obligations.HeldAndSafeBlocksStandStill : Prop :=
  (∀ (i : Instr) (s : State), s.Inv → s.blk.dead = true → isReset i = false → (s.blk.sb.phase = .held ∨ isTestEntry i = false) →
     ∃ t, s.blk.now ≤ t ∧ exec i s = .next { s with blk := { s.blk with now := t } }) ∧
  (∀ (i : Instr) (s : State), s.Live → s.blk.sb.safe = true → isTransfer i = true →
     ∃ t, exec i s = .next (s.settled (s.blk.atTime t) (s.blk.atTime t)))

/-- What follows a command at once is nothing where the group does not run and nothing waits to be sent, taken or collected: the
command leaves its own effect, the Memory Port takes the writes and reads that may go, none under WS_SAFE, and those writes are
carried out. That they are carried out at the command's end is the model's own choice (log entry 36). -/
def Obligations.QuietCommandLeavesItsOwnEffect : Prop :=
  ∀ (s : State) (before b : Block), b.Quiet → b.Plain before →
    let c := if b.sb.safe then b else b.memPump
    s.settled before b = { s with blk := { c with posted := [], agent := 0 }, mem := memWriteAll s.mem c.posted.reverse }

/-- Bytes written to device memory are the bytes read, every other address reads as before, and the memory keeps its form. Every
multi-byte field is stored least significant byte first, and reads back (R6). -/
def Obligations.MemoryBytesReadBack : Prop :=
  (∀ (m : Memory) (a c : Nat) (bs : List Byte), Memory.wf m = true →
     Memory.wf (memWriteN m a bs) = true ∧
     memRead (memWriteN m a bs) c = if a ≤ c ∧ c < a + bs.length then bs.getD (c - a) 0 else memRead m c) ∧
  (∀ (m : Memory) (a n v : Nat), Memory.wf m = true → memReadLe (memWriteN m a (le n v)) a n = v % 256 ^ n)

/-- The order key (R167): what it and key_value are, that a larger key means a larger value, the ends of the keys' range, and that
a beat gives each valid element its key and counts the NaNs and -inf elements, which have none. Entries rank by descending key,
then ascending index. -/
def Obligations.OrderKeysRankTheValues : Prop :=
  (∀ v : F32, let n := if v.toNat = 2 ^ 31 then 0 else v.toNat
    orderKey v = if 2 ^ 31 ≤ n then 2 ^ 32 - 1 - n else n + 2 ^ 31) ∧
  (∀ key < 2 ^ 32, (keyValue key).toNat = if 2 ^ 31 ≤ key then key - 2 ^ 31 else 2 ^ 32 - 1 - key) ∧
  (∀ v : F32, F.isNaN v = false → v ≠ F.negInf →
    0x00800000 ≤ orderKey v ∧ orderKey v ≤ 0xFF800000 ∧ keyValue (orderKey v) = (if v.toNat = 2 ^ 31 then F.zero else v)) ∧
  orderKey 0xFF7FFFFF#32 = 0x00800000 ∧ orderKey F.posInf = 0xFF800000 ∧
  (∀ v w : F32, F.isNaN v = false → v ≠ F.negInf → F.isNaN w = false → w ≠ F.negInf → (orderKey v < orderKey w ↔ F.lt v w = true)) ∧
  (∀ (a : RowAcc) (p : Sampling) (cnt : Nat → Nat) (places base : Nat) (vs : List F32),
    let ws := ((List.range vs.length).zip vs).map fun x => (base + x.1, penalise p (cnt (base + x.1)) x.2)
    let c := a.beat p cnt places base vs
    c.nan = a.nan + (ws.filter fun x => F.isNaN x.2).length ∧ c.negInf = a.negInf + (ws.filter fun x => x.2 == F.negInf).length ∧
    c.vals = ((ws.filter fun x => !F.isNaN x.2 && x.2 != F.negInf).map fun x => (orderKey x.2, x.1)).reverse ++ a.vals) ∧
  ∀ l : List (Nat × Nat), (rankSort l).Perm l ∧ (rankSort l).Pairwise fun x y => y.1 < x.1 ∨ x.1 = y.1 ∧ x.2 ≤ y.2

/-! ### The host aperture: doorbell pages, data channels, locks, registers -/

/-- CMD_TAIL_WRITE and CPL_HEAD_WRITE: an index that stays within the queue is taken, one beyond it leaves the queue and is logged
(R281, R353). QUEUE_CONFIG_WRITE with 8 bytes: in CLOSED or OPENING the register takes its value and the session's four indices
restart; in OPEN or CLOSING it is ignored and logged, and so is a QUEUE_CFG out of its range (R353). -/
def Obligations.QueueRegistersMoveIndices : Prop :=
  (∀ (x : State) (t : Time) (a : HAccess) (s v : Nat), s < 256 → lowHalf a = true →
     let b := x.asked t a
     (x.Writes t a (page s) → sub32 (v % 4294967296) (b.session s).fetch ≤ (b.session s).cmdSize →
       exec (.cmdTailWrite t a s v) x = .next (x.settled (x.blk.atTime t)
         ((b.modSession s fun q => { q with tail := v % 4294967296 }).answered (writeBeat 0)))) ∧
     (x.Writes t a (page s) → (b.session s).cmdSize < sub32 (v % 4294967296) (b.session s).fetch →
       exec (.cmdTailWrite t a s v) x = .next (x.settled (x.blk.atTime t) ((b.logAccess (page s) a.agent 281).answered (writeBeat 0)))) ∧
     (x.Writes t a (page s + 0x10) → sub32 (b.session s).cplTail (v % 4294967296) ≤ (b.session s).cplSize →
       exec (.cplHeadWrite t a s v) x = .next (x.settled (x.blk.atTime t)
         ((b.modSession s fun q => { q with cplHead := v % 4294967296 }).answered (writeBeat 0)))) ∧
     (x.Writes t a (page s + 0x10) → (b.session s).cplSize < sub32 (b.session s).cplTail (v % 4294967296) →
       exec (.cplHeadWrite t a s v) x = .next (x.settled (x.blk.atTime t)
         ((b.logAccess (page s + 0x10) a.agent 353).answered (writeBeat 0))))) ∧
  (∀ (x : State) (t : Time) (a : HAccess) (s v : Nat) (r : QueueReg), s < 256 → a.size8 = true → v < 18446744073709551616 →
     x.Writes t a (page s + queueReg r) →
     let b := x.asked t a
     let restart := fun (q : Session) => { q with tail := 0, fetch := 0, cplHead := 0, cplTail := 0 }
     if (b.session s).state = .opened ∨ (b.session s).state = .closing then
       exec (.queueConfigWrite t a s r v) x = .next (x.settled (x.blk.atTime t)
         ((b.logAccess (page s + queueReg r) a.agent 353).answered (writeBeat 0)))
     else match r with
       | .cmdBase => exec (.queueConfigWrite t a s r v) x = .next (x.settled (x.blk.atTime t)
           ((b.modSession s fun q => restart { q with cmdBase := v / 64 * 64 }).answered (writeBeat 0)))
       | .cplBase => exec (.queueConfigWrite t a s r v) x = .next (x.settled (x.blk.atTime t)
           ((b.modSession s fun q => restart { q with cplBase := v / 64 * 64 }).answered (writeBeat 0)))
       | .cfg => exec (.queueConfigWrite t a s r v) x = .next (x.settled (x.blk.atTime t)
           ((if logOk (bits v 3 0) && logOk (bits v 11 8) then
               b.modSession s fun q => restart { q with cmdLog := bits v 3 0, cplLog := bits v 11 8 }
             else b.logAccess (page s + queueReg r) a.agent 353).answered (writeBeat 0))))

/-- TOKEN_CONS_REPORT and EVENT_CONS_REPORT: where the write is not one of 8 bytes, the instance not the lead of a running group,
the session not open, the handle not one of R30, the index beyond the producer's or below the one last accepted, the report is
ignored, counted and logged; else it is entered, beside the request's other index as last accepted, in the CONSUMER list of the
open junction's log, where the last one stands, and sets both indices of its request at that junction (R354). One that the log has
no room for waits (R224). -/
def Obligations.ConsumerReportsEnterTheSequencer : Prop :=
  (∀ (x : State) (t : Time) (a : HAccess) (s v : Nat), s < 256 → v < 18446744073709551616 →
    let b := x.asked t a
    let h := v % 4294967296
    let i := v / 4294967296
    let serves := a.size8 = true ∧ b.isLead = true ∧ b.cp.state = .running ∧
      (secureSession s = true ∨ (b.session s).state = .opened ∨ (b.session s).state = .closing)
    let done := fun B : Block => Host.Outcome.next (x.settled (x.blk.atTime t) (B.answered (writeBeat 0)))
    let ignored := fun off => done (b.logAccess (page s + off) a.agent 354)
    (x.Writes t a (page s + 0x40) →
      (¬ serves → exec (.tokenConsReport t a s v) x = ignored 0x40) ∧
      (serves → (∀ e, b.handleTarget s h ≠ .entry e) → exec (.tokenConsReport t a s v) x = ignored 0x40) ∧
      (∀ e, serves → b.handleTarget s h = .entry e →
        (ringSize e.tokenRing < sub32 (add32 e.tokenProd (b.writtenTokens e)) i ∨ toInt32 (sub32 i (b.lastReport e).1) < 0 →
          exec (.tokenConsReport t a s v) x = ignored 0x40) ∧
        (sub32 (add32 e.tokenProd (b.writtenTokens e)) i ≤ ringSize e.tokenRing → 0 ≤ toInt32 (sub32 i (b.lastReport e).1) →
          exec (.tokenConsReport t a s v) x = done (b.consumerReport h i (b.lastReport e).2)))) ∧
    (x.Writes t a (page s + 0x48) →
      (¬ serves → exec (.eventConsReport t a s v) x = ignored 0x48) ∧
      (serves → (∀ e, b.handleTarget s h ≠ .entry e) → exec (.eventConsReport t a s v) x = ignored 0x48) ∧
      (∀ e, serves → b.handleTarget s h = .entry e →
        (ringSize e.eventRing < sub32 e.eventProd i ∨ toInt32 (sub32 i (b.lastReport e).2) < 0 →
          exec (.eventConsReport t a s v) x = ignored 0x48) ∧
        (sub32 e.eventProd i ≤ ringSize e.eventRing → 0 ≤ toInt32 (sub32 i (b.lastReport e).2) →
          exec (.eventConsReport t a s v) x = done (b.consumerReport h (b.lastReport e).1 i))))) ∧
  (∀ (b : Block) (h tok ev : Nat), let list := Tab.set h (tok, ev) b.seq.consumer
    let fits := b.logNeed b.openJ (b.cmdsFor b.openJ) (b.ticketsFor b.openJ) (list.map fun x => (x.1, x.2.1, x.2.2)) ≤ b.logLimit
    (Tab.has h b.seq.consumerWait = false → fits → b.consumerReport h tok ev = { b with seq := { b.seq with consumer := list } }) ∧
    (Tab.has h b.seq.consumerWait = true ∨ ¬ fits →
      b.consumerReport h tok ev = { b with seq := { b.seq with consumerWait := Tab.set h (tok, ev) b.seq.consumerWait } })) ∧
  (∀ (b : Block) (j h tok ev : Nat), (h, tok, ev) ∈ (b.draftLog j).consumer ↔ (h, (tok, ev)) ∈ b.seq.consumer) ∧
  ∀ (b : Block) (h tok ev slot : Nat) (e : Entry), b.byHandle h = some (slot, e) →
    let t := (b.applyConsumer (h, tok, ev)).ent slot
    t.tokenCons = tok ∧ t.eventCons = ev ∧ t.state = e.state ∧ t.tokenProd = e.tokenProd

/-- LOCK_READ and LOCK_RELEASE: locks 0 to 31 lie at 0xA000 and serve every agent, locks 32 to 63 lie at 0x4A000 and are DENIED to
a non-secure access. A read of 4 or 8 bytes of a free lock gives 0 and takes it for the reading agent, a read of a held one gives
its owner in field [5:0], also to the owner, and takes nothing (a 4-byte read at +4 gives bits [63:32], R487); the owner's own
number, written by the owner, frees it, and any other write leaves it and is logged (R416, with LK of Table 00-2). A core's access
by the internal path takes, finds and frees the locks of both halves under its own agent number 3 + n (R399, R401; log entry 115).
LOCK_BREAK, a secure write whose field [5:0] names a lock, frees that lock at once and logs the lock and its owner; both resets
free every lock, and a watchdog that expires leaves every lock held (R417). The code and arguments of that record are the model's
own choice (log entry 82). -/
def Obligations.LocksAreTakenAndFreed : Prop :=
  ((∀ n, n < 32 → lockOffset n = 0xA000 + n * 8) ∧ (∀ n, 32 ≤ n → lockOffset n = 0x4A000 + (n - 32) * 8) ∧
   (∀ (a : HAccess) (n : Nat) (write : Bool), 32 ≤ n → n < 64 → a.core = false → a.secure = false → accessStatus a (lockOffset n) write = 1) ∧
   (∀ n, State.reset.blk.lockOwner n = 0) ∧
   ∀ (x : State) (t : Time) (a : HAccess) (n v : Nat), n < 64 →
     let b := x.asked t a
     (x.Reads t a (lockOffset n) → b.lockOwner n = 0 →
       exec (.lockRead t a n) x = .next (x.settled (x.blk.atTime t) ((b.setLock n a.agent).answered (readBeat 0 0 true)))) ∧
     (x.Reads t a (lockOffset n) → b.lockOwner n ≠ 0 →
       exec (.lockRead t a n) x = .next (x.settled (x.blk.atTime t) (b.answered (readBeat 0
         (if a.size8 then b.lockOwner n else if a.high then b.lockOwner n / 4294967296 else b.lockOwner n % 4294967296) true)))) ∧
     (x.Writes t a (lockOffset n) → lowHalf a = true → b.lockOwner n = a.agent → v % 64 = a.agent → a.agent ≠ 0 →
       exec (.lockRelease t a n v) x = .next (x.settled (x.blk.atTime t) ((b.setLock n 0).answered (writeBeat 0)))) ∧
     (x.Writes t a (lockOffset n) → lowHalf a = true → v % 64 ≠ a.agent ∨ b.lockOwner n ≠ a.agent →
       exec (.lockRelease t a n v) x = .next (x.settled (x.blk.atTime t)
         ((b.logAccess (lockOffset n) a.agent 11).answered (writeBeat 0)))) ∧
     (∀ core write, x.CoreAccess t a core → shapeBroken a (lockOffset n) = false → a.crcOk = true →
       let c := { x.blk.atTime t with agent := a.agent }
       accessStatus a (lockOffset n) write = 0 ∧
       (c.lockOwner n = 0 → exec (.lockRead t a n) x = .next (x.settled (x.blk.atTime t) (c.setLock n (3 + core)))) ∧
       (c.lockOwner n ≠ 0 → exec (.lockRead t a n) x = .next (x.settled (x.blk.atTime t) c)) ∧
       (lowHalf a = true → c.lockOwner n = 3 + core → v % 64 = 3 + core →
         exec (.lockRelease t a n v) x = .next (x.settled (x.blk.atTime t) (c.setLock n 0))))) ∧
  (∀ (x : State) (t : Time),
     (∀ (a : HAccess) (v : Nat), x.Writes t a 0x4A100 → lowHalf a = true →
       let b := x.asked t a
       let logged := (b.count 34).logRec srcAperture 0x0160 1 [0x4A100, a.agent, 417, v % 64, b.lockOwner (v % 64)]
       exec (.lockBreak t a v) x = .next (x.settled (x.blk.atTime t)
         (({ logged with ap := { logged.ap with locks := Tab.erase (v % 64) b.ap.locks } } : Block).answered (writeBeat 0)))) ∧
     (∃ y, exec (.poreset t) x = .next y ∧ y.blk.ap.locks = []) ∧ (∃ y, exec (.wreset t) x = .next y ∧ y.blk.ap.locks = []) ∧
     (∀ core pc, x.Live → ∃ B : Block, exec (.coreWatchdog t core pc) x = .next (x.settled (x.blk.atTime t) B) ∧ B.ap.locks = x.blk.ap.locks))

/-- DP_CTL_WRITE with 8 bytes, on either channel: the write of another agent than the owner only sets FOREIGN; TARGET 0 frees the
channel; a target the channel may use binds it for the writer, and one it may not use, of a SELECT out of range, or of a
transcript whose handle fails R30, only sets DENIED. STAGE_BASE_WRITE moves STAGE_BASE, at 4 KiB, while no proposal is open and no
staging target is bound, and is logged else (R357, R358, R359). DATA_WINDOW_ACCESS: the beats of a request at the port act one
after the other on the channel of their half of the window, and are answered together. A beat of another agent than the owner only
sets FOREIGN; every beat of the owner moves CURSOR on by 8. A write posts its 8 bytes at STAGE_BASE and the target's offset; a
read gives the 8 bytes there, or those of the bound transcript's region. A beat beyond SIZE sets OVERRUN, a write to a locked
staging target BUSY, a write to a transcript and a read of a freed one DENIED, a read that fails RD_ERROR. A read asks for the
bytes from CURSOR on (R356, R358 to R361; which stream, and that the bytes count as read at the access, is log entry 113). -/
def Obligations.DataChannelsMoveBytes : Prop :=
  (∀ (x : State) (t : Time) (a : HAccess) (v : Nat), a.size8 = true → v < 18446744073709551616 →
     let b := x.asked t a
     let done := fun B : Block => Host.Outcome.next (x.settled (x.blk.atTime t) (B.answered (writeBeat 0)))
     (∀ sec, x.Writes t a (if sec then 0x46000 else 0x6000) →
       let c := b.channel sec
       let target := bits v 3 0
       let select := v / 4294967296
       let session := bits v 23 16
       let becomes := fun d : Channel => exec (.dpCtlWrite t a sec v) x = done (b.modChannel sec fun _ => d)
       let mine := c.target = 0 ∨ c.owner = a.agent
       let bound := { c with target, select, session, owner := a.agent }
       let denied := { c with denied := true }
       (¬ mine → becomes { c with foreign := true }) ∧
       (mine → target = 0 → becomes { c with target := 0, owner := 0, select, session }) ∧
       (mine → target = 1 ∨ target = 3 ∨ target = 4 ∨ target = 2 ∧ select ≤ 3 → becomes (if sec then bound else denied)) ∧
       (mine → target = 2 → 3 < select → becomes denied) ∧ (mine → 6 ≤ target → becomes denied) ∧
       (mine → target = 5 → (sec = true ∨ 16 ≤ session ∧ (b.session session).state = .opened) →
         (∀ e, b.handleTarget (if sec then 0 else session) select = .entry e → becomes bound) ∧
         ((∀ e, b.handleTarget (if sec then 0 else session) select ≠ .entry e) → becomes denied)) ∧
       (mine → target = 5 → sec = false → (session < 16 ∨ (b.session session).state ≠ .opened) → becomes denied)) ∧
     (x.Writes t a 0x46020 → b.proposalOpen = false → b.ap.sec.target = 0 ∨ b.ap.sec.target = 5 →
       exec (.stageBaseWrite t a v) x = done { b with mdl := { b.mdl with stageBase := v / 4096 * 4096 } }) ∧
     (x.Writes t a 0x46020 → b.proposalOpen = true ∨ (1 ≤ b.ap.sec.target ∧ b.ap.sec.target ≤ 4) →
       exec (.stageBaseWrite t a v) x = done (b.logAccess 0x46020 a.agent 359))) ∧
  ((∀ (x : State) (t : Time) (a : HAccess) (off : Nat) (data bad : List Nat), x.Serving → a.core = false →
     (x.asked t a).ap.answers.length < 16 → 0x80000 ≤ off → off < 0x100000 →
     let b := x.asked t a
     let sec := decide (off < 0xC0000)
     let done := fun B : Block => Host.Outcome.next (x.settled (x.blk.atTime t) B.flushAnswers)
     (accessStatus a off true = 0 → let w := b.windowWrites sec a.agent (data.take a.beats)
       exec (.dataWindowAccess t a off true data bad) x = done (w.1.answer w.2 [writeBeat 0])) ∧
     (accessStatus a off false = 0 → let r := (b.fetchAhead sec a.agent).windowReads x.view sec a.agent bad 0 a.beats
       exec (.dataWindowAccess t a off false data bad) x = done (r.1.answer [] r.2))) ∧
   (∀ (b : Block) (sec : Bool) (agent : Nat), b.windowWrites sec agent [] = (b, []) ∧
     (∀ v vs, let w := b.windowWrite sec agent v
       let y := w.1.windowWrites sec agent vs
       b.windowWrites sec agent (v :: vs) = (y.1, w.2.toList ++ y.2)) ∧
     ∀ (m : Memory) (bad : List Nat) (i n : Nat), b.windowReads m sec agent bad i 0 = (b, []) ∧
       (let r := b.windowRead m sec agent (bad.contains i)
        let y := r.1.windowReads m sec agent bad (i + 1) n
        b.windowReads m sec agent bad i (n + 1) = (y.1, readBeat 0 r.2 (n == 0) :: y.2))) ∧
   (∀ s, stageTarget 1 s = (0, 1052672) ∧ stageTarget 2 s = (0x101000 + s % 16 * 0x400, 1024) ∧ stageTarget 3 s = (0x102000, 32768) ∧
     stageTarget 4 s = (0x110000, 1048576)) ∧
   ∀ (b : Block) (m : Memory) (sec : Bool) (agent v : Nat) (bad : Bool),
     let c := b.channel sec
     let keeps := fun d : Channel => b.modChannel sec fun _ => d
     let moves := fun d : Channel => b.modChannel sec fun _ => { d with cursor := (c.cursor + 8) % 4294967296 }
     let p := stageTarget c.target c.select
     let addr := b.mdl.stageBase + p.1 + c.cursor
     let mine := c.target ≠ 0 ∧ c.owner = agent
     let write := b.windowWrite sec agent v
     let read := b.windowRead m sec agent bad
     (c.target ≠ 0 → c.owner ≠ agent → write = (keeps { c with foreign := true }, none) ∧ read = (keeps { c with foreign := true }, 0)) ∧
     (c.target = 0 → write = (keeps { c with overrun := true }, none) ∧ read = (keeps { c with overrun := true }, 0)) ∧
     (mine → c.target ≤ 4 → p.2 ≤ c.cursor → write = (moves { c with overrun := true }, none) ∧ read = (moves { c with overrun := true }, 0)) ∧
     (mine → c.target ≤ 3 → c.cursor < p.2 → b.stagingLocked = true → write = (moves { c with busy := true }, none)) ∧
     (mine → c.target ≤ 4 → c.cursor < p.2 → (c.target = 4 ∨ b.stagingLocked = false) →
       write = ((b.write addr (le 8 v)).modChannel sec fun _ => { c with cursor := (c.cursor + 8) % 4294967296 }, some addr)) ∧
     (mine → c.target ≤ 4 → c.cursor < p.2 → bad = false → read = (moves c, memReadLe m addr 8)) ∧
     (mine → c.target ≤ 4 → c.cursor < p.2 → bad = true → (read.1.channel sec).rdError = true ∧ read.2 = 0 ∧
       (read.1.channel sec).cursor = (c.cursor + 8) % 4294967296) ∧
     (mine → c.target = 5 → write = (moves { c with denied := true }, none)) ∧
     (mine → c.target = 5 → b.regionOf c.select = none → read = (moves { c with denied := true }, 0)) ∧
     (∀ r, mine → c.target = 5 → b.regionOf c.select = some r → 256 + 4 * r.cap ≤ c.cursor → read = (moves { c with overrun := true }, 0)) ∧
     (∀ r, mine → c.target = 5 → b.regionOf c.select = some r → c.cursor < 256 + 4 * r.cap → bad = false →
       read = (moves c, ofLe (((regionBytes r).drop c.cursor).take 8))))

/-- GROUP_EVENT_CLEAR and REGISTER_WRITE of FAULT_STICKY clear the bits written 1 that no event of the same instant has set (R12);
COUNTER_SNAP copies every counter of the window at once; GROUP_SETUP_WRITE by agent 2 sets N and the rank of an instance fresh in
FORMING; OBS_BASE_WRITE moves the area while no model is ACTIVE (R460, R477, R493, R497, R500). -/
def Obligations.StatusRegistersTakeWrites : Prop :=
  ∀ (x : State) (t : Time) (a : HAccess) (v : Nat), a.size8 = true → v < 18446744073709551616 →
    let b := x.asked t a
    (x.Writes t a 0x40000 →
      exec (.groupEventClear t a v) x = .next (x.settled (x.blk.atTime t)
        ({ b with cp := { b.cp with leadEvent := b.cleared (w1cGroup 0) b.cp.leadEvent (bit v 0) }
                  flt := { b.flt with stopEvent := b.cleared (w1cGroup 1) b.flt.stopEvent (bit v 1) } }.answered (writeBeat 0)))) ∧
    (x.Writes t a 0x41030 →
      exec (.registerWrite t a 0x41030 v) x = .next (x.settled (x.blk.atTime t)
        ({ b with flt := { b.flt with
            sticky := ofBools ((List.range 9).map fun i => b.cleared (w1cSticky i) (bit b.flt.sticky i) (bit v i)) } }.answered
          (writeBeat 0)))) ∧
    (x.Writes t a 0x4C100 → bit v 0 = true →
      exec (.counterSnap t a v) x = .next (x.settled (x.blk.atTime t)
        ({ b with obs := { b.obs with snapped := (List.range 35).map fun i => (i, b.unitCounter i) }
                  ap := { b.ap with snapTime := b.now } }.answered (writeBeat 0)))) ∧
    (x.Writes t a 0x4D000 → a.agent = 2 → b.cp.fresh = true → b.cp.state = .forming →
      exec (.groupSetupWrite t a v) x = .next (x.settled (x.blk.atTime t)
        ({ b with cp := { b.cp with n := bits v 25 16, rank := bits v 8 0 } }.answered (writeBeat 0)))) ∧
    (x.Writes t a 0x4D000 → a.agent ≠ 2 ∨ b.cp.fresh = false ∨ b.cp.state ≠ .forming →
      exec (.groupSetupWrite t a v) x = .next (x.settled (x.blk.atTime t) ((b.logAccess 0x4D000 a.agent 477).answered (writeBeat 0)))) ∧
    (x.Writes t a 0x4C008 → b.mdl.active = [] →
      exec (.obsBaseWrite t a v) x = .next (x.settled (x.blk.atTime t)
        ({ b with obs := { b.obs with base := v / 4096 * 4096 } }.answered (writeBeat 0)))) ∧
    (x.Writes t a 0x4C008 → b.mdl.active ≠ [] →
      exec (.obsBaseWrite t a v) x = .next (x.settled (x.blk.atTime t) ((b.logAccess 0x4C008 a.agent 460).answered (writeBeat 0))))

/-- KB_UNWRAP and KB_PROGRAM_WRAP_KEY by agent 2 start their action where Table 14-2 allows it and set FAIL where it does not:
while an action runs, while the mechanism is locked, without the wrap key or an attempt left, and with a wrap key to program it
again. The end of an unwrap that succeeds installs channel key 0 and locks the mechanism; that of one that does not takes an
attempt, sets FAIL and at the last one locks; that of the other action programs the wrap key (R382, R383). KEY_PROVISION unwraps
its key under WK, installs it, also in the place of one that is there, or deletes the one that is there, logs it, and closes every
other session under a key that was there before; a key that does not unwrap is refused, and channel key 0 is not deleted (R384,
R385). That the range is checked before the wrapped key is the model's own choice (log entry 67). -/
def Obligations.KeysAreInstalledByBootstrapAndProvision : Prop :=
  (∀ (x : State) (t : Time) (a : HAccess) (v : Nat), a.size8 = true → v < 18446744073709551616 →
     let b := x.asked t a
     let k := { b.keys with certWrite := bit v 7, updateDis := bit v 6 }
     (∀ w, x.Writes t a 0x47000 → a.agent = 2 → k.action = none → k.locked = false → Tab.has 0 k.channel = false → 0 < k.attempts →
       k.bootWrap = some w →
       exec (.kbUnwrap t a v) x = .next (x.settled (x.blk.atTime t)
         ({ b with keys := { k with action := some (1, Aes.unwrap w (k.blob.take 40)) } }.answered (writeBeat 0)))) ∧
     (x.Writes t a 0x47000 → a.agent = 2 → k.action = none → k.locked = false → Tab.has 0 k.channel = false → k.bootWrap = none →
       exec (.kbProgramWrapKey t a v) x = .next (x.settled (x.blk.atTime t)
         ({ b with keys := { k with action := some (2, some (k.blob.take 32)) } }.answered (writeBeat 0)))) ∧
     (x.Writes t a 0x47000 → a.agent = 2 →
       k.action.isSome = true ∨ k.locked = true ∨ k.bootWrap = none ∨ k.attempts = 0 ∨ Tab.has 0 k.channel = true →
       exec (.kbUnwrap t a v) x = .next (x.settled (x.blk.atTime t)
         ({ b with keys := { k with fail := true } }.answered (writeBeat 0)))) ∧
     (x.Writes t a 0x47000 → a.agent = 2 → k.action.isSome = true ∨ k.locked = true ∨ k.bootWrap.isSome = true →
       exec (.kbProgramWrapKey t a v) x = .next (x.settled (x.blk.atTime t)
         ({ b with keys := { k with fail := true } }.answered (writeBeat 0)))) ∧
     (∀ key, x.Live → x.blk.sb.phase = .firmware → x.blk.keys.action = some (1, some key) →
       exec (.kbActionComplete t) x = .next (x.settled (x.blk.atTime t) { x.blk.atTime t with keys :=
         { x.blk.keys with action := none, channel := Tab.set 0 key x.blk.keys.channel, locked := true } })) ∧
     (x.Live → x.blk.sb.phase = .firmware → x.blk.keys.action = some (1, none) →
       exec (.kbActionComplete t) x = .next (x.settled (x.blk.atTime t) (({ x.blk.atTime t with keys :=
         { x.blk.keys with action := none, attempts := x.blk.keys.attempts - 1, fail := true
                           locked := x.blk.keys.locked || x.blk.keys.attempts - 1 == 0 } } : Block).noteSet w1cKey))) ∧
     (∀ key, x.Live → x.blk.sb.phase = .firmware → x.blk.keys.action = some (2, key) →
       exec (.kbActionComplete t) x = .next (x.settled (x.blk.atTime t) { x.blk.atTime t with keys :=
         { x.blk.keys with action := none, bootWrap := key } }))) ∧
  (∀ (x : State) (t s kind index flags : Nat) (wrapped : List Byte) (c : Current), x.Carries t s c →
     let b := x.blk.atTime t
     let wk := hmac256 (b.session s).ks (ascii "CHELDO WRAP" ++ le 8 c.pkt.seq ++ [1])
     let delete := bit flags 0
     let put := fun (key : List Byte) (k : Table (List Byte)) => if delete then Tab.erase index k else Tab.set index key k
     let channel := fun key => ({ b with keys := { b.keys with channel := put key b.keys.channel } } : Block).logRec srcSecurity 0x0162 0 [1, index]
     let tenant := fun key => ({ b with keys := { b.keys with tenant := put key b.keys.tenant } } : Block).logRec srcSecurity 0x0162 0 [2, index]
     c.pkt.params = .keyProvision kind index wrapped flags →
     (∀ key, kind = 1 → index < 16 → ¬ (delete = true ∧ index = 0) → Aes.unwrap wk wrapped = some key → Tab.has index b.keys.channel = false →
       exec (.keyProvision t s) x = .next (x.settled b ((channel key).reply s 0))) ∧
     (∀ key, kind = 1 → index < 16 → ¬ (delete = true ∧ index = 0) → Aes.unwrap wk wrapped = some key → Tab.has index b.keys.channel = true →
       exec (.keyProvision t s) x = .next (x.settled b (((channel key).closeUnder true index s).reply s 0))) ∧
     (∀ key, kind = 2 → index < 4096 → Aes.unwrap wk wrapped = some key → Tab.has index b.keys.tenant = false →
       exec (.keyProvision t s) x = .next (x.settled b ((tenant key).reply s 0))) ∧
     (∀ key, kind = 2 → index < 4096 → Aes.unwrap wk wrapped = some key → Tab.has index b.keys.tenant = true →
       exec (.keyProvision t s) x = .next (x.settled b (((tenant key).closeUnder false index s).reply s 0))) ∧
     (kind = 1 ∧ index < 16 ∧ ¬ (delete = true ∧ index = 0) ∨ kind = 2 ∧ index < 4096 → Aes.unwrap wk wrapped = none →
       exec (.keyProvision t s) x = .next (x.settled b (b.reply s 0x0201))) ∧
     (kind = 1 → index = 0 → delete = true → exec (.keyProvision t s) x = .next (x.settled b (b.reply s 0x0103))))

/-- No register reads a channel key, a tenant key or the boot wrap key: blocks that differ in nothing else, and hold keys in the
same places, read alike at every offset (R382). -/
def Obligations.RegistersReadNoKey : Prop :=
  ∀ (b : Block) (channel tenant : Table (List Byte)) (wrap : Option (List Byte)) (off : Nat),
    Tab.has 0 channel = Tab.has 0 b.keys.channel → wrap.isSome = b.keys.bootWrap.isSome →
    Block.readRegister { b with keys := { b.keys with channel, tenant, bootWrap := wrap } } off = b.readRegister off

/-! ### Mailboxes, sensors -/

/-- MAILBOX_DOORBELL, OUT_PENDING_CLEAR and OUT_DROPPED_READ: the doorbell of a channel with no message pending posts one for its
agent, whose header is read by the stream 60 + channel mod 4 (log entry 113), and one that arrives while a message is pending only
sets IN_OVERRUN (R413); a write of OUT_STATUS sets the enables, clears OUT_PENDING where bit 0 is 1 and it was not set in the same
instant (R12), and lets the next message go (R415); a read of OUT_CTL clears OUT_DROPPED (R11). -/
def Obligations.MailboxRegistersPostAndClear : Prop :=
  ∀ (x : State) (t : Time) (a : HAccess) (c v : Nat), c < 32 → a.size8 = true → v < 18446744073709551616 →
    let b := x.asked t a
    (x.Writes t a (mailOffset c + 8) → bit v 0 = true → bit v 1 = false → (b.mailbox c).inPending = false →
      exec (.mailboxDoorbell t a c v) x = .next (x.settled (x.blk.atTime t)
        (((b.modMail c fun m => { m with inPending := true, inAgent := a.agent }).ask (60 + c % 4) (b.mailbox c).inPtr 32 .mail).answered
          (writeBeat 0)))) ∧
    (x.Writes t a (mailOffset c + 8) → bit v 0 = true → bit v 1 = false → (b.mailbox c).inPending = true →
      exec (.mailboxDoorbell t a c v) x = .next (x.settled (x.blk.atTime t)
        ((b.modMail c fun m => { m with inOverrun := true }).answered (writeBeat 0)))) ∧
    (x.Writes t a (mailOffset c + 8) → bit v 0 = false → bit v 1 = true →
      exec (.mailboxDoorbell t a c v) x = .next (x.settled (x.blk.atTime t)
        ((b.modMail c fun m => { m with inOverrun := false }).answered (writeBeat 0)))) ∧
    (x.Writes t a (mailOffset c + 0x20) → (b.mailbox c).waiting = [] →
      exec (.outPendingClear t a c v) x = .next (x.settled (x.blk.atTime t)
        ((b.modMail c fun m => { m with irqEn := bit v 2, outEnable := bit v 1, outPending := b.cleared (w1cMailOut c) m.outPending (bit v 0) }).answered
          (writeBeat 0)))) ∧
    (∀ msg rest, x.Writes t a (mailOffset c + 0x20) → (b.mailbox c).waiting = msg :: rest → (b.mailbox c).writing = none →
      (b.mailbox c).outBase ≠ 0 → bit v 0 = true → bit v 1 = true → Tab.get? (w1cMailOut c) b.setAt ≠ some b.now →
      let slot := (b.mailbox c).outBase + (b.mailbox c).next * 256
      let b2 := b.modMail c fun m => { m with irqEn := bit v 2, outEnable := true, outPending := false }
      exec (.outPendingClear t a c v) x = .next (x.settled (x.blk.atTime t)
        (((b2.write slot (mailBytes b.now msg)).modMail c fun m => { m with waiting := rest, writing := some slot }).answered
          (writeBeat 0)))) ∧
    (x.Reads t a (mailOffset c + 0x18) →
      exec (.outDroppedRead t a c) x = .next (x.settled (x.blk.atTime t)
        ((b.modMail c fun m => { m with dropped := 0 }).answered
          (readBeat 0 ((b.mailbox c).dropped * 2 ^ 48 + (b.mailbox c).outSlot * 2 ^ 36 + (b.mailbox c).subscribe) true))))

/-- PING, SENSOR_SNAPSHOT and LOG_MARK pending on a channel: IN_PENDING clears, and the message is answered with its type, its
MSG_SEQ and status 0, a snapshot with the VALUE and ALARM of the 36 sensors; LOG_MARK first enters its body in the volatile log,
under the agent that rang (R409, R413, R414). The body of each is read by a stream of the Signal Box (R401), which of them is log
entry 113. A reply or notice waits at the end of its channel's queue, and goes at once where the channel is free: to its next
slot, a reply with TIME, REPLY and the sequence number of its message, a notice with the channel's own; where the channel posts
nothing, a reply is dropped and counted. A notice goes to the channels that subscribe to its kind and post, a secure-only kind to
secure channels; a full queue of 64 drops and counts a new message, but a FATAL notice takes the place of the oldest message that
is not one, and that is counted (R413 to R415; the record of what is dropped is log entry 83). SENSOR_SAMPLE: the sensor's
register takes the sample; while its ALARM does not change, nothing else does; where it changes, a record and a notice tell it,
and ALARM 3 stops the instance (R408). That there is one record and one notice at every change is the model's own choice (log
entry 83). -/
def Obligations.MailboxMessagesTakeTheirTurn : Prop :=
  (∀ (x : State) (t : Time) (c : Nat) (m : InMail), x.Serving → x.blk.sb.phase = .firmware →
     let b := x.seen t .mp
     let rung := { b.modMail c fun m => { m with inPending := false } with agent := (b.mailbox c).inAgent }
     let taken := rung.ask (60 + c % 4) ((b.mailbox c).inPtr + 32) (if m.bodyLen ≤ 4064 then m.bodyLen else 0) .mail
     (b.mailbox c).inPending = true → m.readOk = true →
     (m.bodyLen = 0 →
       exec (.ping t c 1 m) x = .next (x.settled (x.blk.atTime t) (taken.mailReply c 1 m.seq 0 []))) ∧
     (m.bodyLen = 0 →
       exec (.sensorSnapshot t c m) x = .next (x.settled (x.blk.atTime t) (taken.mailReply c 2 m.seq 0
         ((List.range 36).flatMap fun i => le 4 ((b.sensor i).value + 65536 * (b.sensor i).alarm))))) ∧
     (1 ≤ m.bodyLen → m.bodyLen ≤ 40 →
       exec (.logMark t c m) x = .next (x.settled (x.blk.atTime t)
         ((taken.logRec srcSignalBox 0x0180 0 ((m.body.take m.bodyLen).map (·.toNat))).mailReply c 3 m.seq 0 []))) ∧
     (∀ k, 3 < k →
       exec (.ping t c k m) x = .next (x.settled (x.blk.atTime t) (taken.mailReply c k m.seq 0x0101 [])))) ∧
  (∀ (b : Block) (c type seq status : Nat) (body : List Byte),
     let m := b.mailbox c
     let msg : MailMsg := { type, flags := 1, status, seq, body }
     (m.outEnable = true → m.outBase ≠ 0 → m.waiting.length < 64 → m.outPending = true ∨ m.writing.isSome = true →
       b.mailReply c type seq status body = b.modMail c fun m => { m with waiting := m.waiting ++ [msg] }) ∧
     (m.outEnable = true → m.outBase ≠ 0 → m.waiting = [] → m.outPending = false → m.writing = none →
       b.mailReply c type seq status body =
         (b.write (m.outBase + m.next * 256) (mailBytes b.now msg)).modMail c fun m => { m with writing := some (m.outBase + m.next * 256) }) ∧
     (m.outEnable = false ∨ m.outBase = 0 → b.mailReply c type seq status body = b.mailDrop c) ∧
     ((b.mailDrop c).mailbox c).dropped = min 65535 (m.dropped + 1) ∧
     (m.waiting.length = 64 → m.outEnable = true → m.outBase ≠ 0 → b.mailReply c type seq status body = b.mailDrop c) ∧
     (∀ (fatal : Bool) (pre post : List Nat), 0x8001 ≤ type → Tab.keys b.ap.mail = pre ++ c :: post → c ∉ post →
       let wants := fun k => bit (b.mailbox k).subscribe (type - 0x8001) && (b.mailbox k).posts && (decide (k < 16) || type == 0x8002)
       let told : MailMsg := { type, seq := m.seq, body, fatal }
       let numbered := b.modMail c fun m => { m with seq := add32 m.seq 1 }
       (∀ k ∈ pre ++ post, wants k = false) →
       (wants c = false → b.notice type body fatal = b) ∧
       (wants c = true → m.waiting.length < 64 → m.outPending = true ∨ m.writing.isSome = true →
         b.notice type body fatal = numbered.modMail c fun m => { m with waiting := m.waiting ++ [told] }) ∧
       (wants c = true → m.waiting = [] → m.outPending = false → m.writing = none →
         b.notice type body fatal = (numbered.write (m.outBase + m.next * 256) (mailBytes b.now told)).modMail c fun m =>
           { m with writing := some (m.outBase + m.next * 256) }) ∧
       (wants c = true → m.waiting.length = 64 → fatal = false → b.notice type body fatal = numbered.mailDrop c) ∧
       (∀ older y newer, wants c = true → m.waiting = older ++ y :: newer → m.waiting.length = 64 → fatal = true → y.fatal = false →
         (∀ z ∈ older, z.fatal = true) →
         b.notice type body fatal = (numbered.modMail c fun m => { m with waiting := older ++ newer ++ [told] }).mailDrop c))) ∧
  (∀ (x : State) (t : Time) (i v : Nat), x.Live → x.blk.sb.phase = .firmware → i < 36 →
     let b := x.blk.atTime t
     let now : Sensor := { valid := true, alarm := alarmOf i v, value := v % 65536 }
     let shown := { b with sb := { b.sb with sensors := Tab.set i now b.sb.sensors } }
     (alarmOf i v = (b.sensor i).alarm → exec (.sensorSample t i v) x = .next (x.settled b shown)) ∧
     (alarmOf i v ≠ (b.sensor i).alarm → alarmOf i v ≠ 3 →
       exec (.sensorSample t i v) x = .next (x.settled b ((shown.logRec srcSignalBox 0x0171 1 [i, alarmOf i v, v % 65536]).notice 0x8002
         (le 2 i ++ le 2 (alarmOf i v) ++ le 2 v ++ zeros 2) false))) ∧
     (alarmOf i v = 3 → (b.sensor i).alarm ≠ 3 →
       exec (.sensorSample t i v) x = .next (x.settled b (((shown.logRec srcSignalBox 0x0171 1 [i, 3, v % 65536]).notice 0x8002
         (le 2 i ++ le 2 3 ++ le 2 v ++ zeros 2) false).stop .sensorTrip srcSignalBox [i, 3, v % 65536]))))

/-! ### Commands: fetch, sessions, keys -/

/-- COMMAND_FETCH: the entry that host software has written at CMD_BASE + (i mod 2^n) × 32 is fetched from there, and a completion
entry is reserved for it. A bad entry is refused with LENGTH, an unreadable packet with its status; a packet of an open session
whose MAC, SEQ, version and scope pass waits to be carried out, and its SEQ is consumed; SESSION_OPEN under the session's key,
with SEQ 0 and major version 1, waits likewise (R281, R283, R387, R388). The fetch and its read are log entries 117 and 113, that
LENGTH comes before an opcode's own checks is log entries 16 and 65. The checks of Table 11-5 on a packet of an open session in
their order, each with its status: SESSION, MAC, SEQ, version and then the checks of the opcode (their order is log entries 16 and
65); from the version on, the SEQ has been consumed. -/
def Obligations.FetchChecksCommandsInOrder : Prop :=
  (∀ (x : State) (t : Time) (s : Nat) (e : CmdEntry), x.Serving → Memory.wf x.mem = true → e.wf = true →
     let b := x.seen t .mp
     let f := fun pkt => (b.placed s e pkt).fetched s ((b.session s).cmdBase + (b.session s).fetch % 2 ^ (b.session s).cmdLog * 32)
     let g := fun pkt => (f pkt).ask 60 e.pktAddr e.pktLen .commandPacket
     b.CanFetch s →
     (∀ pkt, ¬ goodEntry e →
       exec (.commandFetch t s e pkt) x = .next (x.settled (x.blk.atTime t) ((f pkt).refuse s e 0 0 0x0102))) ∧
     (goodEntry e →
       exec (.commandFetch t s e none) x = .next (x.settled (x.blk.atTime t) ((g none).refuse s e 0 0 0x0603))) ∧
     (∀ p, goodEntry e → p.session = s → opcodeOf p.params ≠ 1 → (b.session s).state = .opened →
       macOf (b.session s).ks p = p.mac → p.seq = (b.session s).expected → p.seq < 2 ^ 48 →
       p.version / 16 = (b.session s).major → p.version % 16 ≤ (b.session s).minor → b.scopeRefusal s e p = none →
       exec (.commandFetch t s e (some p)) x = .next (x.settled (x.blk.atTime t)
         ((g (some p)).modSession s fun q => { q with expected := q.expected + 1, current := some { entry := e, pkt := p } }))) ∧
     (∀ p tenant minor nonce k, goodEntry e → p.session = s → p.params = .sessionOpen tenant 1 minor nonce →
       (b.session s).state = .closed → b.lockedOut s = false → b.keys.drbgOk = true → b.keyFor s tenant = some k →
       macOf k p = p.mac → p.seq = 0 → p.version / 16 = 1 → b.scopeRefusal s e p = none →
       exec (.commandFetch t s e (some p)) x = .next (x.settled (x.blk.atTime t)
         ((g (some p)).modSession s fun q => { q with current := some { entry := e, pkt := p } })))) ∧
  (∀ (b : Block) (s : Nat) (e : CmdEntry) (p : Packet), opcodeOf p.params ≠ 1 → (b.session s).state = .opened →
     let op := opcodeOf p.params
     let used := b.modSession s fun q => { q with expected := q.expected + 1 }
     (p.session ≠ s → b.checkPacket s e p = b.refuse s e op p.seq 0x010F) ∧
     (p.session = s → macOf (b.session s).ks p ≠ p.mac → b.checkPacket s e p = b.refuse s e op p.seq 0x0201) ∧
     (p.session = s → macOf (b.session s).ks p = p.mac → p.seq ≠ (b.session s).expected →
       b.checkPacket s e p = b.refuse s e op p.seq 0x0202) ∧
     (p.session = s → macOf (b.session s).ks p = p.mac → p.seq = (b.session s).expected → p.seq < 2 ^ 48 →
       p.version / 16 ≠ (b.session s).major → b.checkPacket s e p = used.refuse s e op p.seq 0x0701) ∧
     (p.session = s → macOf (b.session s).ks p = p.mac → p.seq = (b.session s).expected → p.seq < 2 ^ 48 →
       p.version / 16 = (b.session s).major → (b.session s).minor < p.version % 16 →
       b.checkPacket s e p = used.refuse s e op p.seq 0x0702) ∧
     (∀ st, p.session = s → macOf (b.session s).ks p = p.mac → p.seq = (b.session s).expected → p.seq < 2 ^ 48 →
       p.version / 16 = (b.session s).major → p.version % 16 ≤ (b.session s).minor → b.scopeRefusal s e p = some st →
       b.checkPacket s e p = used.refuse s e op p.seq st))

/-- A reply packet is a header of 32 bytes (Table 11-4) and its payload, with no MAC. What does not fit within REPLY_MAX - 32
bytes is not written, and TRUNCATED is set; PAYLOAD_LEN gives the full length, REPLY_LEN of the completion entry the bytes
written. LEAD_RANK is 0x1FF and LEAD_TERM 0 in FORMING (R478, whose words are of refused GROUP commands: log entry 73), EFFECTIVE
stands with the statuses of log entry 49. The session's command is no longer current, its reserved completion entry is used, the
index moves on, CPL_PENDING is set (R282, R285). -/
def Obligations.RepliesUseTheirCompletionEntry : Prop :=
  ∀ (b : Block) (s status : Nat) (payload : List Byte) (effective : Nat) (c : Current),
    (b.session s).current = some c → 32 ≤ c.entry.replyMax →
    let q := b.session s
    let forming := b.cp.state = .forming
    let header := le 2 (opcodeOf c.pkt.params) ++ le 2 status ++ le 1 s ++ zeros 1 ++ le 2 (if forming then 0x1FF else b.cp.leadRank) ++
      le 8 c.pkt.seq ++ le 8 (if status = 0 ∨ status = 0x308 then effective else 0) ++ le 4 (if forming then 0 else b.cp.term) ++
      le 4 payload.length
    let packet := header ++ payload.take (c.entry.replyMax - 32)
    let truncated := decide (c.entry.replyMax - 32 < payload.length)
    let phase := q.cplTail / 2 ^ q.cplLog % 2 == 0
    header.length = 32 ∧ packet.length = min c.entry.replyMax (32 + payload.length) ∧
    b.reply s status payload effective =
      (((b.write c.entry.replyAddr packet 0).write (q.cplBase + q.cplTail % 2 ^ q.cplLog * 16)
        (le 8 c.pkt.seq ++ le 2 status ++ le 2 (4 * b2n truncated + 32768 * b2n phase) ++ le 4 packet.length) 0
        (some (c.entry.replyAddr, packet.length))).noteSet (w1cSession s)).modSession s fun q =>
          { q with cplTail := add32 q.cplTail 1, reserved := q.reserved - 1, cplPending := true, current := none }

/-- The commands of Table 14-4, each carried out where Carries says that it was fetched and passes its checks. SESSION_OPEN, in
CLOSED or OPENING with its key there, a healthy DRBG and no lockout, leads to OPENING with a nonce that nothing fixes, KS and the
proof of R386; with the DRBG failed, or in a lockout, it is refused. SESSION_CONFIRM in OPENING with the host's proof leads to
OPEN and clears the fail count; with another proof to CLOSED, counts a failure, and the sixteenth starts a lockout; in OPEN or
CLOSING it is refused with WRONG_STATE, in CLOSED with SESSION_CLOSED. SESSION_CLOSE in OPEN leads to CLOSED with its reply where
no reply is deferred, and to CLOSING while that of another command is (R380, R386, R387). SESSION_OPENING_TIMEOUT closes a session
that has been OPENING for 100 ms and erases its KS, SESSION_LOCKOUT_END ends a lockout after its second; before that, and where no
such time runs, either leaves the session as it is (R387). -/
def Obligations.SessionsOpenAndExpire : Prop :=
  (∀ (x : State) (t s : Nat) (c : Current), x.Carries t s c →
     let b := x.blk.atTime t
     let q := b.session s
     (∀ tenant major minor nonce k, c.pkt.params = .sessionOpen tenant major minor nonce →
       q.state = .closed ∧ b.lockedOut s = false ∨ q.state = .opening → b.keys.drbgOk = true → b.keyFor s tenant = some k →
       macOf k c.pkt = c.pkt.mac →
       let own := (List.range 32).map fun i => Config.freeByte b.fresh i
       let held := if s < 16 then 0 else tenant
       let ctx := le 2 b.cp.rank ++ le 1 s ++ le 1 1 ++ le 1 0 ++ zeros 1 ++ le 2 held
       let ks := hkdf256 (padTo 32 nonce ++ own) k (ascii "CHELDO SESSION" ++ ctx)
       exec (.sessionOpen t s) x = .next (x.settled b
         ((({ b with fresh := b.fresh + 1 } : Block).modSession s fun q => { q with
             state := .opening, tenant := held, major := 1, minor := 0, ks, openedAt := b.now, expected := 1 }).reply s 0
           (own ++ hmac256 ks (ascii "CHELDO PROOF" ++ ctx) ++ le 1 1 ++ le 1 0 ++ zeros 6)))) ∧
     (∀ tenant major minor nonce k, c.pkt.params = .sessionOpen tenant major minor nonce →
       q.state = .closed ∧ b.lockedOut s = false ∨ q.state = .opening → b.keys.drbgOk = true → b.keyFor s tenant = some k →
       macOf k c.pkt ≠ c.pkt.mac → exec (.sessionOpen t s) x = .next (x.settled b ((b.countFail s).reply s 0x0201))) ∧
     (∀ tenant major minor nonce, c.pkt.params = .sessionOpen tenant major minor nonce →
       b.keys.drbgOk = false ∨ q.state = .closed ∧ b.lockedOut s = true →
       exec (.sessionOpen t s) x = .next (x.settled b (b.reply s 0x0206))) ∧
     (∀ proof, c.pkt.params = .sessionConfirm proof → q.state = .opening →
       proof = hmac256 q.ks (ascii "HOST PROOF" ++ b.ctx s) →
       exec (.sessionConfirm t s) x = .next (x.settled b
         ((b.modSession s fun q => { q with state := .opened, fails := 0 }).reply s 0))) ∧
     (∀ proof, c.pkt.params = .sessionConfirm proof → q.state = .opening →
       proof ≠ hmac256 q.ks (ascii "HOST PROOF" ++ b.ctx s) → q.fails + 1 < 16 →
       exec (.sessionConfirm t s) x = .next (x.settled b
         ((b.modSession s fun q => { q with state := .closed, ks := [], fails := q.fails + 1 }).reply s 0x0206))) ∧
     (∀ proof, c.pkt.params = .sessionConfirm proof → q.state = .opening →
       proof ≠ hmac256 q.ks (ascii "HOST PROOF" ++ b.ctx s) → q.fails + 1 = 16 →
       exec (.sessionConfirm t s) x = .next (x.settled b
         (((b.modSession s fun q => { q with state := .closed, ks := [], fails := 0, lockedAt := some b.now }).logRec srcSecurity 0x0161 1
           [s]).reply s 0x0206))) ∧
     (∀ proof, c.pkt.params = .sessionConfirm proof → q.state = .opened ∨ q.state = .closing →
       exec (.sessionConfirm t s) x = .next (x.settled b (b.reply s 0x0402))) ∧
     (∀ proof, c.pkt.params = .sessionConfirm proof → q.state = .closed →
       exec (.sessionConfirm t s) x = .next (x.settled b (b.reply s 0x0203))) ∧
     (c.pkt.params = .sessionClose → q.state = .opened → q.deferred = [] →
       exec (.sessionClose t s) x = .next (x.settled b
         ((b.postReply s 3 c.pkt.seq c.entry 0 [] 0 true).modSession s fun q =>
           { q with current := none, state := .closed, ks := [] }))) ∧
     (c.pkt.params = .sessionClose → q.state = .opened → (∃ d ∈ q.deferred, d.opcode ≠ 3) →
       exec (.sessionClose t s) x = .next (x.settled b ((b.modSession s fun q => { q with state := .closing }).defer s 0)))) ∧
  (∀ (x : State) (t s : Nat), x.Live →
     let b := x.blk.atTime t
     let q := b.session s
     (q.state = .opening → q.openedAt + 100000000 ≤ b.now →
       exec (.sessionOpeningTimeout t s) x = .next (x.settled b (b.modSession s fun q => { q with state := .closed, ks := [] }))) ∧
     (q.state ≠ .opening ∨ b.now < q.openedAt + 100000000 → exec (.sessionOpeningTimeout t s) x = .next (x.settled b b)) ∧
     (∀ since, q.lockedAt = some since → since + 1000000000 ≤ b.now →
       exec (.sessionLockoutEnd t s) x = .next (x.settled b (b.modSession s fun q => { q with lockedAt := none }))) ∧
     (∀ since, q.lockedAt = some since → b.now < since + 1000000000 →
       exec (.sessionLockoutEnd t s) x = .next (x.settled b b)) ∧
     (q.lockedAt = none → exec (.sessionLockoutEnd t s) x = .next (x.settled b b)))

/-! ### Commands of scope GROUP (chapters 2, 3 and 11) -/

/-- A GROUP command is accepted whole: it joins the end of the sequencer at the junction R289 gives, which is the open junction or
later, and is answered at once with that junction; a record that no log can hold is refused with LENGTH. A handle names the live
request whose slot holds it under the same tag, for a session that may act for its tenant; to any other session, and for any other
handle that no accepted admission bears, it is stale, as is every handle into a bank out of service but the old handle of a
request moved to the firmware queue. That one, and a ticket, name their entry of the queue and its place in firmware order (R30,
R61, R62). A request command whose handle names nothing is refused with STALE_HANDLE, one beyond generation 1's slots with RANGE
(R14, R30). -/
def Obligations.AcceptedCommandsEnterTheSequencer : Prop :=
  (∀ (b : Block) (s : Nat) (p : Params),
     let c := b.recordOf s p
     let j := b.effectiveFor c
     c.session = s ∧ c.acceptTime = b.now ∧ c.assigned = 0 ∧ c.params = p ∧ b.openJ ≤ j ∧
     (b.tooLong s p = false → b.acceptReply s p =
       ({ b with seq := { b.seq with
           cmds := b.seq.cmds ++ [{ junction := j, cmd := c, size := (cmdRecordBytes c).length }] } } : Block).reply s 0 [] j) ∧
     (b.tooLong s p = true → b.acceptReply s p = b.reply s 0x0102)) ∧
  ((∀ (b : Block) (s h : Nat), (∀ f ∈ b.gr.fwQueue, ∀ e, f.moved = some e → e.handle ≠ h) →
     (h % 1048576 / 2048 ∈ b.gr.banksOut → b.handleTarget s h = .stale) ∧
     (h % 1048576 / 2048 ∉ b.gr.banksOut →
       (∀ e, Tab.get? (h % 1048576) b.gr.entries = some e → e.handle = h → s < 16 ∨ (b.session s).tenant = e.tenant →
         b.handleTarget s h = .entry e) ∧
       (∀ e, Tab.get? (h % 1048576) b.gr.entries = some e → e.handle = h → 16 ≤ s → (b.session s).tenant ≠ e.tenant →
         b.handleTarget s h = .stale) ∧
       (∀ e, Tab.get? (h % 1048576) b.gr.entries = some e → e.handle ≠ h → b.seq.cmds = [] → b.handleTarget s h = .stale) ∧
       (Tab.get? (h % 1048576) b.gr.entries = none → b.seq.cmds = [] → b.handleTarget s h = .stale))) ∧
   (∀ (b : Block) (s h : Nat), (∃ f ∈ b.gr.fwQueue, ∃ e, f.moved = some e ∧ e.handle = h) →
     ∀ i v, b.queueViews.findIdx? (fun v => v.moved && v.oldHandle == h) = some i → b.queueViews[i]? = some v →
       b.handleTarget s h = if s < 16 ∨ (b.session s).tenant = v.tenant then .queued v i else .stale) ∧
   (∀ (b : Block) (s n : Nat), let h : ReqHead := { handle := 0xFFFFFFFF, ticket := n }
     (n = 0 ∨ b.queueViews.findIdx? (fun v => !v.moved && v.ticket == n) = none → b.target s h = .stale) ∧
     ∀ i v, n ≠ 0 → b.queueViews.findIdx? (fun v => !v.moved && v.ticket == n) = some i → b.queueViews[i]? = some v →
       b.target s h = if s < 16 ∨ (b.session s).tenant = v.tenant then .queued v i else .stale) ∧
   ∀ b : Block, b.seq.tickets = [] → b.queueViews.Perm (b.gr.fwQueue.map b.viewOf) ∧ b.queueViews.Pairwise fun x y =>
     (y.moved = true → x.moved = true) ∧ (x.moved = false → y.moved = false → x.classPrio % 16 ≤ y.classPrio % 16 ∧
       (x.classPrio % 16 = y.classPrio % 16 → x.ticket ≤ y.ticket))) ∧
  (∀ (x : State) (t s handle : Nat) (c : Current), x.Carries t s c →
     let b := x.blk.atTime t
     let h : ReqHead := { handle, ticket := 0 }
     c.pkt.params = .reqCancel h →
     (handle ≠ 0xFFFFFFFF → handle % 1048576 < 32768 → b.target s h = .stale →
       exec (.reqCancel t s) x = .next (x.settled b (b.reply s 0x0401))) ∧
     (handle ≠ 0xFFFFFFFF → 32768 ≤ handle % 1048576 → exec (.reqCancel t s) x = .next (x.settled b (b.reply s 0x0103))))

/-- The request commands: on a live request each is accepted in the states Table 02-6 gives it and refused with WRONG_STATE in the
others; on a request in the firmware queue, by ticket or by its old handle, REQ_CANCEL is accepted, REQ_QUERY gives its ticket and
place, and the others are refused with 0x0404; on one whose admission awaits its junction REQ_QUERY gives QUEUED and the others
WRONG_STATE (log entry 114); an APPEND that no log can hold is refused with LENGTH (R289), before one with a reserved flag is with
RANGE (R14; the order is log entry 65); REQ_QUERY reads the request's entry and changes nothing (R39, R44, R46, R48, R50, R159,
R300). -/
def Obligations.RequestCommandsFollowTheirStates : Prop :=
  (∀ (x : State) (t s handle : Nat) (c : Current) (e : Entry), x.Carries t s c → handle % 1048576 < 32768 → handle ≠ 0xFFFFFFFF →
    let b := x.blk.atTime t
    let h : ReqHead := { handle, ticket := 0 }
    let accepted := Host.Outcome.next (x.settled b (b.acceptReply s c.pkt.params))
    let refused := fun st => Host.Outcome.next (x.settled b (b.reply s st))
    b.target s h = .entry e →
    (∀ flags count ts, c.pkt.params = .reqAppend h flags count ts → b.tooLong s c.pkt.params = true →
      exec (.reqAppend t s) x = refused 0x0102) ∧
    (∀ flags count ts, c.pkt.params = .reqAppend h flags count ts → b.tooLong s c.pkt.params = false → 1 < flags →
      exec (.reqAppend t s) x = refused 0x0103) ∧
    (∀ flags count ts, c.pkt.params = .reqAppend h flags count ts → b.tooLong s c.pkt.params = false → flags ≤ 1 → 0 < count → count ≤ 65536 → (∀ k ∈ ts, k % 16777216 < b.inputVocab) →
      exec (.reqAppend t s) x = if e.flags.inputOpen && appendState e.state then accepted else refused 0x0402) ∧
    (∀ pos, c.pkt.params = .reqTruncate h pos →
      exec (.reqTruncate t s) x = if e.state = .decode then accepted else refused 0x0402) ∧
    (c.pkt.params = .reqCancel h → b.cancelPending handle = false →
      exec (.reqCancel t s) x = if e.state = .free ∨ e.state = .draining then refused 0x0402 else accepted) ∧
    (∀ tier ttl, c.pkt.params = .reqPause h tier ttl → tier ≤ 2 → ttl ≤ 86400000000000 → b.pausePending handle = false →
      exec (.reqPause t s) x = if e.state = .prefill ∨ e.state = .decode then accepted else refused 0x0402) ∧
    (c.pkt.params = .reqResume h →
      exec (.reqResume t s) x = if e.state = .siding ∨ b.pausePending handle = true then accepted else refused 0x0402) ∧
    (c.pkt.params = .reqFree h →
      exec (.reqFree t s) x = if e.state = .done then accepted else refused 0x0402) ∧
    (∀ p, c.pkt.params = .reqSetSampling h p → samplingOk p = true → topKOk p.topK = true → verifyMode p ≠ 3 →
      exec (.reqSetSampling t s) x = if e.state = .done ∨ e.state = .draining ∨ e.state = .free then refused 0x0402 else accepted) ∧
    (c.pkt.params = .reqQuery h →
      exec (.reqQuery t s) x = .next (x.settled b
        (b.reply s 0 (b.entryBytes (handle % 1048576) e (b.pendingOf handle) ++ zeros 16))))) ∧
  ∀ (x : State) (t s : Nat) (h : ReqHead) (c : Current), x.Carries t s c → badHead h = false →
    let b := x.blk.atTime t
    let refused := fun st => Host.Outcome.next (x.settled b (b.reply s st))
    let others := fun st =>
      (∀ flags count ts, c.pkt.params = .reqAppend h flags count ts → b.tooLong s c.pkt.params = false → flags ≤ 1 → 0 < count → count ≤ 65536 →
        (∀ k ∈ ts, k % 16777216 < b.inputVocab) → exec (.reqAppend t s) x = refused st) ∧
      (∀ pos, c.pkt.params = .reqTruncate h pos → exec (.reqTruncate t s) x = refused st) ∧
      (∀ tier ttl, c.pkt.params = .reqPause h tier ttl → tier ≤ 2 → ttl ≤ 86400000000000 → exec (.reqPause t s) x = refused st) ∧
      (c.pkt.params = .reqResume h → exec (.reqResume t s) x = refused st) ∧
      (c.pkt.params = .reqFree h → exec (.reqFree t s) x = refused st) ∧
      (∀ p, c.pkt.params = .reqSetSampling h p → samplingOk p = true → topKOk p.topK = true → verifyMode p ≠ 3 →
        exec (.reqSetSampling t s) x = refused st)
    let query := fun handle state tenant cp time : Nat =>
      le 4 handle ++ le 1 state ++ zeros 3 ++ le 2 tenant ++ le 1 (cp % 128) ++ zeros 5 ++ le 8 time ++ zeros 232
    (h.handle = 0xFFFFFFFF → others 0x0404) ∧
    (∀ v i, b.target s h = .queued v i → others 0x0404 ∧
      (c.pkt.params = .reqCancel h → exec (.reqCancel t s) x = .next (x.settled b (b.acceptReply s c.pkt.params))) ∧
      (c.pkt.params = .reqQuery h → exec (.reqQuery t s) x = .next (x.settled b
        (b.reply s 0 (query 0 0xB v.tenant v.classPrio v.time ++ le 4 v.ticket ++ le 4 i ++ zeros 8))))) ∧
    (∀ e, b.target s h = .pending e → h.handle ≠ 0xFFFFFFFF → others 0x0402 ∧ (c.pkt.params = .reqCancel h → exec (.reqCancel t s) x = refused 0x0402) ∧
      (c.pkt.params = .reqQuery h → exec (.reqQuery t s) x = .next (x.settled b
        (b.reply s 0 (query h.handle 2 e.tenant e.classPrio e.admitTime ++ zeros 16)))))

/-- REQ_ADMIT that passes its checks: where a slot is free the command enters the sequencer under the slot's next handle and the
reply carries it; else, with room in the firmware queue, it enters the sequencer with no handle and is deferred under the next
ticket; else TABLE_FULL (R28, R29, R60, R290, R313). -/
def Obligations.AdmissionTakesASlotOrATicket : Prop :=
  ∀ (x : State) (t s : Nat) (c : Current) (p : AdmitParams), x.Carries t s c → c.pkt.params = .reqAdmit p →
    let b := x.blk.atTime t
    b.tooLong s (.reqAdmit p) = false → b.admitRange p = none → s < 16 ∨ (b.session s).tenant = p.tenant → b.admitPolicy p = none →
    (∀ slot, b.slotFor = some slot →
      let h := (Tab.getD slot 0 b.gr.tags + 1) % 4096 * 1048576 + slot
      let r : CmdRecord := { session := s, acceptTime := b.now, assigned := h, params := .reqAdmit p, result := .none
                             rsvd := c.pkt.rsvd.drop 32 }
      exec (.reqAdmit t s) x = .next (x.settled b (({ b with seq := { b.seq with cmds := b.seq.cmds ++
        [{ junction := b.effectiveFor r, cmd := r, size := (cmdRecordBytes r).length }] } } : Block).reply s 0 (le 4 h ++ zeros 4)
          (b.effectiveFor r)))) ∧
    (b.slotFor = none → b.queueLength < b.fwDepth → b.seq.nextTicket < 4294967295 →
      let n := b.seq.nextTicket
      let d := TicketRec.deferral n s b.now p
      let r : CmdRecord := { session := s, acceptTime := b.now, assigned := 0, params := .reqAdmit p, result := .none
                             rsvd := c.pkt.rsvd.drop 32 }
      let j := b.effectiveFor r [d]
      exec (.reqAdmit t s) x = .next (x.settled b
        (({ b with seq := { b.seq with
            cmds := b.seq.cmds ++ [{ junction := j, cmd := r, size := (cmdRecordBytes r).length }]
            tickets := b.seq.tickets ++ [(j, d)], nextTicket := n + 1 } } : Block).reply s 0x0308 (zeros 4 ++ le 4 n) j))) ∧
    (b.slotFor = none → b.fwDepth ≤ b.queueLength → exec (.reqAdmit t s) x = .next (x.settled b (b.reply s 0x0301)))

/-- A proposal: its command enters the sequencer at the junction it names, the session's reply is deferred, and PROPOSE goes to
every rank under the next proposal number, and under the epoch after that of the last decision, its log applied or not (R231,
R484). MODEL_LOAD, MODEL_UNLOAD and MODE_SET are proposed where no proposal is open and their junction leaves three; a junction
too early is refused first, and an open proposal last (R231, R303, R305, R311). -/
def Obligations.ChangesAreProposedToTheGroup : Prop :=
  (∀ (b : Block) (s junction : Nat) (p : Params),
     let n := (b.seq.proposalNo + 1) % 16777216
     let c := b.recordOf s p
     let e := b.epochDecided + 1
     let h : EpochHead := { source := b.cp.rank, proposal := n, leadTerm := b.cp.term, epoch := e, junction }
     (b.seq.decision = none → b.seq.closed = none → e = b.cp.epoch + 1) ∧ (∀ l, b.seq.decision = none → b.seq.closed = some l → e = l.epoch + 1) ∧
     b.propose s p junction =
       (({ b with seq := { b.seq with
           cmds := b.seq.cmds ++ [{ junction, cmd := c, size := (cmdRecordBytes c).length }]
           proposalNo := n
           proposal := some { number := n, junction, epoch := e, cmd := c, prepared := [], refused := [] } } } : Block).defer
             s junction).send none (.propose h c)) ∧
  (∀ (x : State) (t s : Nat) (c : Current), x.Carries t s c →
     let b := x.blk.atTime t
     let proposed := fun j => Host.Outcome.next (x.settled b (b.propose s c.pkt.params j))
     (∀ p, c.pkt.params = .modelLoad p → b.cp.applied + 3 ≤ p.junction → p.descriptor % 16 ≤ 3 → loadBad p = false →
       isDraftLoad p = false → bit p.loadFlags 2 = true → b.mdl.active = [] → b.seq.proposal = none →
       exec (.modelLoad t s) x = proposed p.junction) ∧
     (∀ p, c.pkt.params = .modelLoad p → p.junction < b.cp.applied + 3 →
       exec (.modelLoad t s) x = .next (x.settled b (b.reply s 0x010C))) ∧
     (∀ j d, c.pkt.params = .modelUnload j d → b.cp.applied + 3 ≤ j → d ≤ 3 → Tab.has d b.mdl.active = true → b.modelUsed d = false →
       b.draftModel = none → b.seq.proposal = none → exec (.modelUnload t s) x = proposed j) ∧
     (∀ j d, c.pkt.params = .modelUnload j d → b.cp.applied + 3 ≤ j → d ≤ 3 → Tab.has d b.mdl.active = true → b.modelUsed d = true →
       exec (.modelUnload t s) x = .next (x.settled b (b.reply s 0x040C))) ∧
     (∀ p, c.pkt.params = .modeSet p → b.cp.applied + 3 ≤ p.junction → p.descriptor ≤ 3 → p.flags = 0 → p.shardCount = 0 →
       b.mainModel.isSome = true → Tab.has p.descriptor b.mdl.active = true → b.seq.proposal = none →
       exec (.modeSet t s) x = proposed p.junction) ∧
     (∀ p, c.pkt.params = .modeSet p → b.cp.applied + 3 ≤ p.junction → p.descriptor ≤ 3 → p.flags = 0 → p.shardCount = 0 →
       b.mainModel.isSome = true → Tab.has p.descriptor b.mdl.active = true → b.seq.proposal.isSome = true →
       exec (.modeSet t s) x = .next (x.settled b (b.reply s 0x0406))))

/-- MODEL_STAGE refuses a SHARD_COUNT out of range, reads the staged images, records what was staged where it finds them sound,
and else names the first failing node or entry (what the check reads and finds is log entry 69, by which stream log entry 113);
MODEL_QUERY of a descriptor not ACTIVE reads zeros, of an ACTIVE one its state; TENANT_CONFIG, CLASS_CONFIG, MAINT_WINDOW and
TENSOR_DUMP inside their ranges are accepted, and outside them refused (R14, R76, R84, R301, R306, R312, R463). STRAIN_LOAD with a
free version slot and a run of the strain pool reads the staged bytes and enters the sequencer with them under the next version
number, its reply deferred, and one whose record no log can hold is refused with LENGTH; STRAIN_DROP of a READY version without
references is accepted, of one with references refused with IN_USE (R88, R89, R289, R308, R309). -/
def Obligations.ConfigurationAndStrainCommandsAreChecked : Prop :=
  (∀ (x : State) (t s : Nat) (c : Current), x.Carries t s c →
     let b := x.blk.atTime t
     let accepted := Host.Outcome.next (x.settled b (b.acceptReply s c.pkt.params))
     (∀ p, c.pkt.params = .modelStage p → p.descriptor % 16 ≤ 3 → p.shardCount = 0 ∨ 64 < p.shardCount →
       exec (.modelStage t s) x = .next (x.settled b (b.reply s 0x010A (le 4 noDetail)))) ∧
     (∀ p, c.pkt.params = .modelStage p → p.descriptor % 16 ≤ 3 → 0 < p.shardCount → p.shardCount ≤ 64 → p.treeBase % 64 = 0 →
       let r := b.readStage x.view p
       exec (.modelStage t s) x = .next (x.settled b (match b.stageFault x.view p with
         | none => ({ r with mdl := { b.mdl with staged := Tab.set (p.descriptor % 16) p b.mdl.staged } } : Block).reply s 0
         | some (status, detail) => r.reply s status (le 4 detail)))) ∧
     (∀ d, c.pkt.params = .modelQuery d → d ≤ 3 → Tab.get? d b.mdl.active = none →
       exec (.modelQuery t s) x = .next (x.settled b (b.reply s 0 (zeros 64)))) ∧
     (∀ d m, c.pkt.params = .modelQuery d → d ≤ 3 → Tab.get? d b.mdl.active = some m →
       ∃ bases, exec (.modelQuery t s) x = .next (x.settled b (b.reply s 0 (le 1 1 ++ le 1 (m.load.loadFlags % 64) ++ zeros 2 ++
         le 4 ((b.mdl.template.map (·.id)).getD 0) ++ le 4 b.mdl.maxLive ++ le 4 b.mdl.maxContext ++ le 4 b.mdl.n0 ++ le 4 m.epoch ++
         bases))) ∧ bases.length = 40) ∧
     (∀ i k, c.pkt.params = .tenantConfig i k → exec (.tenantConfig t s) x =
       if i < 4096 ∧ k.maxLive ≤ 32768 then accepted else .next (x.settled b (b.reply s 0x0103))) ∧
     (∀ i k, c.pkt.params = .classConfig i k → exec (.classConfig t s) x =
       if classBad i k then .next (x.settled b (b.reply s 0x0107)) else accepted) ∧
     (∀ n ls, c.pkt.params = .maintWindow n ls → exec (.maintWindow t s) x = accepted) ∧
     (∀ l o h step a n, c.pkt.params = .tensorDump l o h step a n → exec (.tensorDump t s) x =
       if 32768 ≤ h % 1048576 then .next (x.settled b (b.reply s 0x0103))
       else if b.openJ < step then accepted else .next (x.settled b (b.reply s 0x010C)))) ∧
  (∀ (x : State) (t s d strain : Nat) (c : Current), x.Carries t s c → d ≤ 3 → strain < 8192 →
     let b := x.blk.atTime t
     (∀ size crc off, c.pkt.params = .strainLoad d strain size crc off → 0 < size → size ≤ 65536 → off + size ≤ 1048576 →
       Tab.has d b.mdl.active = true → b.pol.strains = [] → b.openLoads = [] →
       (lowestFit b.strainGranules (ceilDiv size 4096) []).isSome = true →
       let v := b.nextVersion d strain
       let r : CmdRecord := { session := s, acceptTime := b.now, assigned := v, params := c.pkt.params
                              result := .strainData (memReadN x.view (b.mdl.stageBase + 0x110000 + off) size), rsvd := c.pkt.rsvd.drop 32 }
       let j := b.effectiveFor r
       let plain := b.recordOf s (.strainLoad d strain size crc off) 0 r.result
       (b.fitsEmpty plain = false → exec (.strainLoad t s) x = .next (x.settled b (b.reply s 0x0102))) ∧
       (b.fitsEmpty plain = true → exec (.strainLoad t s) x = .next (x.settled b
         (({ b.ask 61 (b.mdl.stageBase + 0x110000 + off) size .other with seq := { b.seq with cmds := b.seq.cmds ++ [{ junction := j, cmd := r, size := (cmdRecordBytes r).length }] } } :
           Block).defer s j v)))) ∧
     (∀ size crc off, c.pkt.params = .strainLoad d strain size crc off → size = 0 ∨ 65536 < size →
       exec (.strainLoad t s) x = .next (x.settled b (b.reply s 0x0104))) ∧
     (∀ v w, c.pkt.params = .strainDrop d strain v → w ∈ b.pol.strains → w.descriptor = d → w.strain = strain → w.version = v →
       w.state = .ready → b.seq.cmds = [] → exec (.strainDrop t s) x =
         if b.refsWithOpen d strain v = 0 then .next (x.settled b (b.acceptReply s c.pkt.params)) else .next (x.settled b (b.reply s 0x0405))) ∧
     (∀ v, c.pkt.params = .strainDrop d strain v → b.pol.strains = [] →
       exec (.strainDrop t s) x = .next (x.settled b (b.reply s 0x0402))))

/-! ### Local commands (chapters 10, 11, 15 to 17) -/

/-- The queries change nothing but the session: CAP_QUERY reads generation 1's capabilities, GROUP_QUERY the group's state, with
no lead and LEAD_TERM 0 while forming (R297; log entry 73, as R478 has it for a refused command), FAULT_QUERY the fault state,
which in Buffer Stop counts as queried (R434), LOG_READ the records from FIRST on, those of the persistent log read by core 2's
stream (R410, R404; log entry 113), COUNTER_READ the entries of a counter space (R451). -/
def Obligations.QueriesReadState : Prop :=
  ∀ (x : State) (t s : Nat) (c : Current), x.Carries t s c →
    let b := x.blk.atTime t
    (c.pkt.params = .capQuery → exec (.capQuery t s) x = .next (x.settled b (b.reply s 0 (le 2 0x0100 ++ le 2 0x0100 ++ le 4 32768 ++
      le 2 256 ++ le 2 4096 ++ le 2 8192 ++ le 2 64 ++ le 2 4096 ++ le 2 512 ++ le 4 16777216 ++ zeros 8)))) ∧
    (c.pkt.params = .groupQuery → exec (.groupQuery t s) x = .next (x.settled b (b.reply s 0 (le 2 b.cp.rank ++ le 2 b.cp.n ++
      le 2 (if b.cp.state = .forming then 0x1FF else b.cp.leadRank) ++
      le 1 (match b.cp.state with | .forming => 0 | .running => 1 | .bufferStop => 2) ++ zeros 1 ++
      le 4 (if b.cp.state = .forming then 0 else b.cp.term) ++ le 4 b.cp.epoch ++ le 8 b.cp.applied ++ le 8 b.shownOpen)))) ∧
    (c.pkt.params = .faultQuery → b.cp.state = .bufferStop → exec (.faultQuery t s) x = .next (x.settled b
      (({ b with flt := { b.flt with queried := true } } : Block).reply s 0 b.faultBytes))) ∧
    (c.pkt.params = .faultQuery → b.cp.state ≠ .bufferStop → exec (.faultQuery t s) x = .next (x.settled b (b.reply s 0 b.faultBytes))) ∧
    (∀ first n, c.pkt.params = .logRead 0 first n → exec (.logRead t s) x = .next (x.settled b (b.reply s 0
      (((b.volatileRecords.filter fun r => first ≤ r.1).take n).flatMap fun r => recordBytes r.1 r.2)))) ∧
    (∀ first n, c.pkt.params = .logRead 1 first n →
      let found := (b.sb.plog.filter fun r => first ≤ r.1).take n
      let asked := found.foldl (fun (b : Block) r => b.ask 62 (flashRegion + (0x800000 + r.1 % 65536 * 64)) 64 .other) b
      exec (.logRead t s) x = .next (x.settled b (asked.reply s 0 (found.flatMap fun r => recordBytes r.1 r.2)))) ∧
    (∀ first n, c.pkt.params = .counterRead 0 first n → 0 < n → first + n ≤ 256 → s < 16 →
      exec (.counterRead t s) x = .next (x.settled b (b.reply s 0 (le 8 b.now ++ le 2 0 ++ le 2 16 ++ le 4 n ++
        (List.range n).flatMap fun i => le 8 (b.unitCounter (first + i) % 2 ^ 64) ++
          le 4 (wrapsOf 4294967295 (b.unitCounter (first + i))) ++ le 2 (first + i) ++ zeros 2)))) ∧
    (∀ sp first n, c.pkt.params = .counterRead sp first n → sp ≤ 3 → 0 < n → n ≤ 4096 → first + n ≤ (spaceSize sp).1 → 16 ≤ s →
      ¬ (sp = 3 ∧ first = (b.session s).tenant ∧ n = 1) → exec (.counterRead t s) x = .next (x.settled b (b.reply s 0x0205)))

/-- POWER_CONFIG inside its tables waits for the next tick; one whose shares sum above 1,000 is refused with POWER_PARAM, one that
names a HARD_LIMIT below the present level of its rail, or disables a rail that a busy platform draws on, with POWER_LEVEL;
POWER_CALIBRATE loads a rail's energy table and clears its recalibration; POWER_CAP sets the command source of the cap, which the
next tick takes (R247, R267, R269). CAP_STROBE sets the pin source, which waits for the next tick. There C_loc is formed of what
the sources then hold: one strobe or many, a C_loc that has changed is reported once, under the next SEQ, to the lead of a running
group, and an effective cap that has not changed leaves everything else (R269, R272, R365). CAP_DEADLINE is the first tick at or
after the deadline, where no frame has come for it: a rail whose L still exceeds its cap_rail puts the instance in HOLD (R274). -/
def Obligations.PowerCommandsConfigureRails : Prop :=
  (∀ (x : State) (t s : Nat) (c : Current), x.Carries t s c →
     let b := x.blk.atTime t
     (∀ p, c.pkt.params = .powerConfig p → (∀ g, p.globalBlock = some g → globalOk g = true) → (∀ r ∈ p.rails, railCfgOk r.2 = true) →
       b.shareSum p ≤ 1000 → p.groups = none → (∀ r ∈ p.rails, b.levelNow r.1 ≤ r.2.hardLimit ∧ (r.2.enable = true ∨ b.railBusy r.1 = false)) →
       exec (.powerConfig t s) x = .next (x.settled b
         (({ b with pwr := { b.pwr with pendingCfg := b.pwr.pendingCfg ++ [p] } } : Block).reply s 0))) ∧
     (∀ p, c.pkt.params = .powerConfig p → 1000 < b.shareSum p → exec (.powerConfig t s) x = .next (x.settled b (b.reply s 0x010D))) ∧
     (∀ p r, c.pkt.params = .powerConfig p → (∀ g, p.globalBlock = some g → globalOk g = true) → (∀ r ∈ p.rails, railCfgOk r.2 = true) →
       b.shareSum p ≤ 1000 → p.groups = none → r ∈ p.rails → r.2.hardLimit < b.levelNow r.1 ∨ r.2.enable = false ∧ b.railBusy r.1 = true →
       exec (.powerConfig t s) x = .next (x.settled b (b.reply s 0x0408))) ∧
     (∀ r hi es, c.pkt.params = .powerCalibrate r hi es → r < 16 →
       let table := (List.range 64).map fun i => match es[i]? with
         | some e => EnergyCell.mk e.itemCurrent 4096 e.durNs
         | none => EnergyCell.mk 0 4096 0
       exec (.powerCalibrate t s) x = .next (x.settled b
         ((b.modRail r fun y => { y with energy := table, cfg := { y.cfg with bandHi := hi }, guard := y.cfg.guardBase, guardAll := false
                                         recal := false, overs := 0, good := 0, goodPeak := 0 }).reply s 0))) ∧
     (∀ cap, c.pkt.params = .powerCap cap → exec (.powerCap t s) x = .next (x.settled b
       (({ b with pwr := { b.pwr with
           cmdCap := cap, touched := b.pwr.touched.filter (fun k => k.1 != 1) ++ [(1, b.now)] } } : Block).reply s 0)))) ∧
  ((∀ (x : State) (t : Time), x.Serving →
     let b := x.seen t .pw
     let e := x.blk.atTime t
     (∀ cap urgent, exec (.capStrobe t cap urgent) x = .next (x.settled e { b with pwr := { b.pwr with
       pinCap := cap, pinUrgent := urgent, touched := b.pwr.touched.filter (fun k => k.1 != 0) ++ [(0, b.now)] } })) ∧
     (∀ d r, e.pwr.deadline = some d → 250 * tickOf e.pwr.lastFrame < d → d ≤ e.now / 250 * 250 → e.pwr.state ≠ .hold →
       r ∈ enabledRails e → (e.rail r).capRail < e.levelNow r →
       let w := e.worstRail
       exec (.capDeadline t) x = .next (x.settled e ((e.powerRecord 3 e.pwr.capBy w e.pwr.cap e.pwr.cap).setPower .hold))) ∧
     (e.pwr.deadline = none → exec (.capDeadline t) x = .next (x.settled e e)) ∧
     (∀ d, e.pwr.deadline = some d → e.now / 250 * 250 < d → exec (.capDeadline t) x = .next (x.settled e e))) ∧
   ∀ b : Block,
     let p := b.pwr
     let loc := min p.pinCap p.cmdCap
     let formed := { b with pwr := { p with touched := [], loc } }
     let again := { b with pwr := { p with touched := [], loc, reportSeq := p.reportSeq + 1 } }
     (p.touched = [] → b.formCaps = b) ∧
     (p.touched ≠ [] → loc = p.loc → min loc p.groupCap = p.cap → b.formCaps = formed) ∧
     (p.touched ≠ [] → loc ≠ p.loc → min loc p.groupCap = p.cap → b.running = false → b.formCaps = again) ∧
     (p.touched ≠ [] → loc ≠ p.loc → min loc p.groupCap = p.cap → b.running = true → b.formCaps = again.send (some b.cp.leadRank)
       (.capReport { source := b.cp.rank, proposal := 0, leadTerm := b.cp.term, epoch := 0, junction := 0 } loc (p.reportSeq + 1))))

/-- LINK_MAP outside RUNNING loads the routes, in RUNNING it is refused. PLATFORM_MAP reads its entries back; a write with a bad
entry or range is refused whole; any other write, in every state and of any number of entries, puts each entry in the map: a
platform whose entry clears IN_SERVICE or changes KIND is out of service at once, with REVOKE sent and, where the group goes on,
each of its open items closed, its tag void and its work in a run of its own again; one that becomes IN_SERVICE joins at the next
junction; the other platforms keep their entries; a member of RUNNING stops where a run is left without a platform that could
serve it (R145 to R149, R242). TRACE_CONFIG sets the trace buffer, discards the staged records and restarts it, with the CORE
records of the four cores; CENSUS_CONFIG 1 outside RUNNING starts a census from now, 0 ends it, and in RUNNING it is refused
(R454, R461). HANG_DUMP outside Buffer Stop is refused, before CUT_TIME it waits as the session's current command, and after it
writes the dump of the cut. QUIESCENCE in Buffer Stop records CUT_TIME, keeps the cut for the dumps (log entries 17 and 77) and
starts the sweep, but in ROM recovery, where no group forms (log entry 89) (R393, R432, R467, R468). -/
def Obligations.MapAndObservationCommandsAct : Prop :=
  (∀ (x : State) (t s : Nat) (c : Current), x.Carries t s c →
     let b := x.blk.atTime t
     (∀ n rs, c.pkt.params = .linkMap n rs →
       exec (.linkMap t s) x = .next (x.settled b (
         if n = 0 ∨ 512 < n then b.reply s 0x0103
         else if b.cp.state = .running then b.reply s 0x0402
         else ({ b with fab := { b.fab with routes := rs }, ap := { b.ap with routesLoaded := some n } } : Block).reply s 0))) ∧
     (∀ first n es, c.pkt.params = .platformMap first n true es → 0 < n → first + n ≤ 4096 →
       exec (.platformMap t s) x = .next (x.settled b
         (b.reply s 0 ((List.range n).flatMap fun i => platformBytes (b.mapEntry (first + i)))))) ∧
     (∀ first n read es, c.pkt.params = .platformMap first n read es →
       n = 0 ∨ 4096 < first + n ∨ (read = false ∧ (∀ e ∈ es, e.kind < 4) ∧ es.any platformBad) →
       exec (.platformMap t s) x = .next (x.settled b (b.reply s 0x0103))) ∧
     (∀ first es, c.pkt.params = .platformMap first es.length false es → 0 < es.length → first + es.length ≤ 4096 →
       (∀ e ∈ es, e.kind < 4) → es.any platformBad = false →
       ∃ d : Block, exec (.platformMap t s) x = .next (x.settled b (d.reply s 0)) ∧
         (∀ i e, es[i]? = some e → ∃ y, d.platform? (first + i) = some y ∧ y.entry = e ∧
           y.inService = (b.platform? (first + i)).any (fun z => z.inService && e.inService && e.kind == z.entry.kind) ∧
           y.joining = (e.inService && !y.inService)) ∧
         (∀ q, q < first ∨ first + es.length ≤ q →
           (d.platform? q).map (fun y => (y.entry, y.inService, y.joining)) =
             (b.platform? q).map fun y => (y.entry, y.inService, y.joining)) ∧
         (∀ i e z, es[i]? = some e → b.platform? (first + i) = some z → z.inService = true →
           e.inService = false ∨ e.kind ≠ z.entry.kind →
           (b.sb.safe = false → .revoke (first + i) (dispatchCrc (first + i) 0 1 (zeros 32)) ∈ d.out) ∧
           (d.running = true → (b.dsp.openItems.map (·.tag)).Nodup →
             ∀ o ∈ b.dsp.openItems, o.platform = first + i → o.held = false →
               (∀ o' ∈ d.dsp.openItems, o'.tag ≠ o.tag) ∧ o.tag ∈ d.dsp.oldTags ∧
               ∃ r ∈ d.dsp.runs, r.reissue = true ∧ r.items = [o.item] ∧ r.issues = o.issues ∧ r.level = o.level ∧ r.cls = o.cls ∧
                 r.left = o.left ++ [o.platform])) ∧
         (d.running = true → b.running = true ∧ ∀ r ∈ d.dsp.runs, r.items ≠ [] →
           ∃ y ∈ d.dsp.platforms, y.2.inService = true ∧ d.member r y.2 = true))) ∧
  (∀ (x : State) (t s : Nat) (c : Current), x.Carries t s c →
     let b := x.blk.atTime t
     (∀ mask a n, c.pkt.params = .traceConfig mask a n → n % 4096 = 0 → 65536 ≤ n → n ≤ 1073741824 → a % 4096 = 0 →
       exec (.traceConfig t s) x = .next (x.settled b (({ b with
         mp := { b.mp with writeWait := b.mp.writeWait.filter fun w => w.order != 1 }
         obs := { b.obs with
           traceMask := mask, traceAddr := a, traceCap := n / 32, traceWrite := 0, traceLost := 0, traced := []
           cores := [{}, {}, {}, {}] } } : Block).reply s 0))) ∧
     (∀ i a n, c.pkt.params = .censusConfig 1 i a n → 10000 ≤ i → i ≤ 1000000000 → 34880 ≤ n → b.cp.state ≠ .running →
       exec (.censusConfig t s) x = .next (x.settled b (({ b with obs := { b.obs with
         censusOn := true, censusInterval := i, censusAddr := a, censusCap := n / 34880, censusWrite := 0, censusLeft := none
         censusAt := b.now, waits := [], busy := [] } } : Block).reply s 0))) ∧
     (∀ i a n, c.pkt.params = .censusConfig 0 i a n →
       exec (.censusConfig t s) x = .next (x.settled b
         (({ b with obs := { b.obs with censusOn := false, censusLeft := none } } : Block).reply s 0))) ∧
     (∀ i a n, c.pkt.params = .censusConfig 1 i a n → 10000 ≤ i → i ≤ 1000000000 → 34880 ≤ n → b.cp.state = .running →
       exec (.censusConfig t s) x = .next (x.settled b (b.reply s 0x0402)))) ∧
  (∀ (x : State) (t s a n : Nat) (w : Bool) (c : Current), x.Carries t s c → c.pkt.params = .hangDump a n w →
     let b := x.blk.atTime t
     (b.cp.state ≠ .bufferStop → exec (.hangDump t s) x = .next (x.settled b (b.reply s 0x0402))) ∧
     (b.cp.state = .bufferStop → b.flt.cutTime = none → exec (.hangDump t s) x = .next (x.settled b b)) ∧
     (∀ cut, b.cp.state = .bufferStop → b.flt.cutTime = some cut →
       exec (.hangDump t s) x = .next (x.settled b (b.writeDump s cut a n w))) ∧
     (b.cp.state = .bufferStop → b.flt.cutTime = none → b.flt.diag = 0 → b.ses = [(s, b.session s)] →
       let cut := ({ b with flt := { b.flt with diag := if b.sb.phase = .recovery then 0 else 1 } } : Block).takeCut
       cut.flt.cutTime = some b.now ∧ exec (.quiescence t) x = .next (x.settled b (cut.writeDump s b.now a n w))))

/-- BUFFER_STOP is answered and then stops the instance; RECOVER where its conditions hold clears TB LOST, ends a running census
(log entry 76), defers its reply and begins formation, and is refused where the state, the diagnosis, a time base lost (log entry
121) or the setup do not allow it (R368, R430, R434, R435, R477). Every entry to Buffer Stop: the FATAL record of its cause, the
first cause kept, the volatile log's place of the record, the group event, no command, no message but HALT and no write of a token
or event ring left; a lead role lost before it enters its record as not reused (log entry 109); DIAG of a fresh instance that has
failed stays 3 (log entry 89); a fresh instance in FORMING only logs the causes of R475 (R237, R430, R431, R475). -/
def Obligations.StopsAndRecoveriesChangeTheGroupState : Prop :=
  (∀ (x : State) (t s : Nat) (c : Current), x.Carries t s c →
     let b := x.blk.atTime t
     (∀ reason, c.pkt.params = .bufferStop reason →
       exec (.bufferStop t s) x = .next (x.settled b ((b.reply s 0).stop .command srcCommand [reason]))) ∧
     (∀ id rb cb, c.pkt.params = .recover id rb cb → b.recoverWrongState = false → b.diagIncomplete = false → b.notSetUp = false →
       let ready := { b with ap := { b.ap with tb := { b.ap.tb with lost := false } }, obs := { b.obs with censusLeft := none } }
       exec (.recover t s) x = .next (x.settled b ((ready.defer s 0).beginFormation s id rb cb))) ∧
     (∀ id rb cb, c.pkt.params = .recover id rb cb → b.cp.state = .running →
       exec (.recover t s) x = .next (x.settled b (b.reply s 0x0402))) ∧
     (∀ id rb cb, c.pkt.params = .recover id rb cb → b.cp.state = .bufferStop → b.flt.diag ≠ 2 ∨ b.flt.queried = false ∨ b.timeBaseAbsent = true →
       exec (.recover t s) x = .next (x.settled b (b.reply s 0x0602)))) ∧
  (∀ (b : Block) (c : Cause) (src : Nat) (args : List Nat),
     (b.cp.state = .running → b.form = none →
       let B := b.stop c src args
       B.cp.state = .bufferStop ∧ B.flt.own = some (b.flt.own.getD c.code) ∧ B.flt.stopEvent = true ∧ B.flt.enteredAt = b.now ∧
       B.flt.diag = (if b.cp.fresh = true ∧ b.flt.diag = 3 then 3 else 0) ∧ B.flt.queried = false ∧ B.flt.cutTime = none ∧ B.flt.firstFatal = b.vlog.length ∧ B.seq.cmds = [] ∧
       B.obs.dumps = [] ∧ (∀ p ∈ B.fab.queue, p.cls = 5 ∨ p.cls = 6) ∧
       (∀ w ∈ B.mp.writeWait, w.ring = false) ∧
       let fatal : LogEntry := { time := b.now, source := src, code := c.code, sev := 3, args, agent := b.agent, rank := b.cp.rank }
       (b.cp.roleLost = none → B.vlog = b.vlog ++ [fatal]) ∧
       (∀ lead term, b.cp.roleLost = some (lead, term) → B.vlog = b.vlog ++ [fatal,
         { time := b.now, source := srcCoupling, code := 0x0121, sev := 2, args := [b.cp.rank, lead, term, 0], agent := b.agent, rank := b.cp.rank }])) ∧
     (b.cp.state = .bufferStop → b.stop c src args = b.logRec src c.code 3 args) ∧
     (b.cp.state = .forming → b.cp.fresh = true → c = .telemetry ∨ c = .timeBase ∨ c = .pclkLost →
       b.stop c src args = b.logRec src c.code 3 args))

/-! ### Selection and the Glean (chapters 6 and 7) -/

/-- LOGIT_SEGMENT at ports where none waits: it enters its port's queue, and leaves it when it is taken. A segment of a row whose
slab is staged is taken: before the last it moves the row's context on, with its elements through selection where its CRC holds
and PORT_ERROR where it does not; the last closes the row; a first segment opens one of the 16 contexts of its port, and waits
while there is none, as every segment waits for its slab. A segment that breaks the protocol stops the instance, and one under a
tag reissued away is discarded and counted before the other checks (log entry 40) (R154 to R157, R166, R323). The descents are
counted as log entry 112 has it. A row that closes leaves selection: its partial result goes to the Glean buffer of the main model
in memory (log entry 123), to the resend area and to every instance (R157, R186). -/
def Obligations.SegmentsBecomePartialResults : Prop :=
  (∀ (x : State) (t port : Nat) (seg : Segment) (h : RowHeader) (r : RowRec), x.Serving → port ≤ 1 → seg.header = some h →
     x.blk.thr.skid = [] →
     let b := x.seen t (if port = 0 then .ls0 else .ls1)
     let q := { b with thr := { b.thr with skid := [(port, seg, b.knownTag seg)] } }
     let leave := fun (c : Block) => { c with thr := { c.thr with skid := c.thr.skid.erase (port, seg, b.knownTag seg) } }
     let run := exec (.logitSegment t port seg) x
     let ctx := b.thr.contexts.find? fun k => k.row == h.row
     (∀ c, b.Streams h r → ctx = some c → b.segmentFault port h (some c) = false → b.slabStaged r.handle = true →
       let e := b.ent (r.handle % 1048576)
       let count := fun k => (((b.slab (r.handle % 1048576)).find? fun y => y.2.token == k).map (·.2.count)).getD 0
       let acc := if segmentIntact h seg then RowAcc.beats e.sampling count h.format c.acc (headerBase h) (headerElems h) seg.beats else c.acc
       let next := { c with
         nextIndex := headerBase h + headerElems h, beats := c.beats + seg.beats.length, acc
         portError := c.portError || !segmentIntact h seg }
       let rest := b.thr.contexts.filter fun k => k.row != h.row
       let d := if acc.descents = c.acc.descents then q else q.count 13 (acc.descents - c.acc.descents)
       (h.segLast = false → run = .next (x.settled (x.blk.atTime t) (leave { d with thr := { d.thr with contexts := rest ++ [next] } }))) ∧
       (h.segLast = true → run = .next (x.settled (x.blk.atTime t) (leave
         ((({ d with thr := { d.thr with contexts := rest } } : Block).closeRow h.row h.format
           (acc.close e.sampling h.row (b.consistNow.step % 65536) ((shardOf (b.mapOf r) b.cp.rank).getD 0) next.portError
             next.slabError)).setShadow (shadowOf c.port h)))))) ∧
     (b.Streams h r → ctx = none → b.segmentFault port h none = false → b.slabStaged r.handle = true →
       (b.thr.contexts.filter fun c => c.port == port).length < 16 →
       run = .next (x.settled (x.blk.atTime t) (leave (q.takeSegment h seg r {
         port := port, row := h.row, tag := h.itemTag, format := h.format, nextIndex := 0, acc := {}, portError := false, slabError := b.thr.slabBad.contains r.handle })))) ∧
     (b.Streams h r → b.segmentFault port h ctx = false →
       b.slabStaged r.handle = false ∨ ctx = none ∧ 16 ≤ (b.thr.contexts.filter fun c => c.port == port).length →
       run = .next (x.settled (x.blk.atTime t) q)) ∧
     (∀ c, b.Streams h r → ctx = some c →
       h.segFirst = true ∨ c.port ≠ port ∨ c.format ≠ h.format ∨ c.tag ≠ h.itemTag ∨ headerElems h = 0 ∨ headerBase h < c.nextIndex ∨
         b.vocab r < headerBase h + headerElems h →
       run = .next (x.settled (x.blk.atTime t) (leave (q.stop .logitProtocol srcThresher [port, h.itemTag, h.row])))) ∧
     (b.running = true → b.cp.epoch ≠ 0 → h.step16 = b.consistNow.step % 65536 → b.rowAt h.row = some r → r.sample = true →
       (shardOf (b.mapOf r) b.cp.rank).isSome = true → b.dsp.oldTags.contains h.itemTag = true →
       run = .next (x.settled (x.blk.atTime t) (leave ((({ q with thr := { q.thr with reissueSegments := b.thr.reissueSegments + 1 } } :
         Block).count 15).logRec srcThresher 0x0113 1 [port, h.itemTag, h.row, h.baseIndex]))))) ∧
  (∀ (b : Block) (row format : Nat) (p : PartialResult) (d : Nat × Descriptor), b.mainModel = some d → b.gln.asked = [] →
     let step := b.consistNow.step
     b.closeRow row format p =
       ({ b.write (d.2.stage.gleanBase + row * 576) (padTo 576 (partialBytes p)) with
           thr := { b.thr with closed := b.thr.closed ++ [row], contexts := b.thr.contexts.filter fun c => c.row != row }
           gln := { b.gln with resend := Tab.set row (step, format, p) b.gln.resend } } : Block).send none (.gleanData row step format p))

/-- Selection of the k largest of the valid entries `es`, with e the k-th in rank order (R168 to R170): DESCENT where more than
512 entries share its top byte or lie above, APPROX where more than 512 share its upper half or lie above. An exact result is the
first k in rank order; an approximate one takes, of the entries that share e's upper half, those of lowest index. The closed row
carries them, padded, with its counts, flags and masses (R173 to R175). -/
def Obligations.SelectionKeepsTheLargest : Prop :=
  (∀ (k : Nat) (es : List (Nat × Nat)), es.length < k → k ≤ 512 →
    selectTop k es = (rankSort es, false, false, match (rankSort es).getLast? with
      | some l => (es.filter fun x => x.1 == l.1).length
      | none => 0)) ∧
  (∀ (k : Nat) (es : List (Nat × Nat)) (e : Nat × Nat), 0 < k → k ≤ 512 → (es.map (·.2)).Nodup → (∀ x ∈ es, x.1 < 2 ^ 32) →
    (rankSort es)[k - 1]? = some e →
    let T := e.1 / 65536
    let descent := decide (512 < (es.filter fun x => decide (e.1 / 16777216 ≤ x.1 / 16777216)).length)
    let approx := descent && decide (512 < (es.filter fun x => decide (T ≤ x.1 / 65536)).length)
    let above := es.filter fun x => decide (T < x.1 / 65536)
    let here := es.filter fun x => x.1 / 65536 == T
    selectTop k es =
      if approx then (rankSort (above ++ (here.mergeSort fun x y => decide (x.2 ≤ y.2)).take (k - above.length)), true, true, here.length)
      else ((rankSort es).take k, descent, false, (es.filter fun x => x.1 == e.1).length)) ∧
  ∀ (a : RowAcc) (p : Sampling) (row step shard : Nat) (portError slabError : Bool),
    let r := a.close p row step shard portError slabError
    let es := a.vals.reverse
    let k := topKOf p
    let sel := selectTop k es
    let inf := es.any fun e => e.1 == infKey
    let infs := (es.filter fun e => e.1 == infKey).length
    let infRet := (sel.1.filter fun e => e.1 == infKey).length
    r.entries = sel.1 ++ List.replicate (k - sel.1.length) (padKey, padIndex) ∧ r.returned = sel.1.length ∧ r.k = k ∧ r.row = row ∧
    r.validCount = es.length ∧ r.tieCount = sel.2.2.2 ∧ r.nanCount = a.nan ∧ r.negInfCount = a.negInf ∧ r.shardRank = shard ∧
    r.flags = { empty := es.isEmpty, mismatch := false, contribLost := false, slabError, portError, descent := sel.2.1,
                nanSeen := decide (0 < a.nan), short := decide (es.length < k), inf, approx := sel.2.2.1 } ∧
    (inf = true → r.refMax = F.posInf ∧ r.totalMass = F.ofNat infs ∧ r.selectedMass = F.ofNat infRet ∧ r.leftMass = F.ofNat (infs - infRet)) ∧
    (inf = false → r.refMax = a.m ∧ r.totalMass = a.s ∧
      r.selectedMass = (sel.1.map fun e => F.scale (temperatureOf p) (F.sub (keyValue e.1) a.m)).foldl F.add F.zero ∧
      r.leftMass = max0 (F.sub a.s r.selectedMass))

/-- The merge of a row's contributions, in ascending rank (R192, R193, R195). Each index is kept once, from the lowest rank that
lists it; the list is the first k in rank order, padded; a pair of ranks is reported where their values of one index mismatch.
Counts are summed over the mass sources, flags joined over all contributions. -/
def Obligations.MergesKeepEachIndexOnce : Prop :=
  ∀ (p : Sampling) (row step : Nat) (used : List (Nat × Nat × PartialResult)) (sources : List Nat),
    let M := mergeRow p row step used sources
    let F := M.1
    let k := topKOf p
    let ret := F.entries.take F.returned
    let all := used.flatMap fun u => partialReal u.2.2
    let src := used.filter fun u => sources.contains u.1
    F.row = row ∧ F.step16 = step ∧ F.k = k ∧ F.shardRank = 0 ∧ ret.length = F.returned ∧ F.returned ≤ k ∧
    F.entries = ret ++ List.replicate (k - F.returned) (padKey, padIndex) ∧
    (ret.map (·.2)).Nodup ∧ ret.Pairwise (fun x y => y.1 < x.1 ∨ x.1 = y.1 ∧ x.2 < y.2) ∧
    (∀ e ∈ ret, all.find? (fun x => x.2 == e.2) = some e) ∧
    (∀ e, all.find? (fun x => x.2 == e.2) = some e → e ∉ ret → F.returned = k ∧ ∀ x ∈ ret, e.1 < x.1 ∨ x.1 = e.1 ∧ x.2 < e.2) ∧
    ((used.map (·.1)).Pairwise (· < ·) → (∀ u ∈ used, ((partialReal u.2.2).map (·.2)).Nodup) → ∀ i r1 r2, (i, r1, r2) ∈ M.2 ↔
      ∃ c ∈ used.find? (fun u => partialClean u.2.2), ∃ u ∈ used, ∃ v ∈ used, u.1 = r1 ∧ v.1 = r2 ∧ r1 < r2 ∧
        (∀ w ∈ used, w.1 < r1 → ∀ x ∈ partialReal w.2.2, x.2 ≠ i) ∧
        ∃ d ∈ partialReal u.2.2, ∃ e ∈ partialReal v.2.2, d.2 = i ∧ e.2 = i ∧ mismatch c.2.1 (keyValue d.1) (keyValue e.1) = true) ∧
    F.validCount = (src.map fun u => u.2.2.validCount).sum ∧ F.nanCount = (src.map fun u => u.2.2.nanCount).sum ∧
    F.negInfCount = (src.map fun u => u.2.2.negInfCount).sum ∧
    F.flags = { empty := F.returned == 0, mismatch := !M.2.isEmpty, contribLost := false
                slabError := used.any (·.2.2.flags.slabError), portError := used.any (·.2.2.flags.portError)
                descent := used.any (·.2.2.flags.descent), nanSeen := decide (0 < F.nanCount), short := decide (F.returned < k)
                inf := src.any (·.2.2.flags.inf), approx := used.any (·.2.2.flags.approx) } ∧
    (ret = [] → F.refMax = Machine.F.negInf ∧ F.totalMass = Machine.F.zero ∧ F.selectedMass = Machine.F.zero ∧ F.leftMass = Machine.F.zero) ∧
    (ret ≠ [] → F.leftMass = max0 (Machine.F.sub F.totalMass F.selectedMass) ∧
      (F.flags.inf = true → F.refMax = Machine.F.posInf) ∧ (F.flags.inf = false → F.refMax = keyValue (ret.headD (0, 0)).1))

/-- GLEAN_DATA of the step in flight: the sender's contribution is kept, once, and the row moves on; a contribution of another
step, one that is already held, and one that the row's list or verdict leaves out, is discarded and counted; one that reports
SLAB_ERROR has the request's penalty slab rebuilt at the next junction (R164, R189 to R191). The lead's verdict over contributions
that merge without a mismatch: the verdict is kept with its time and goes to every rank with the digest of the merged list (R189,
R190, R192), and the list takes effect on the lead at that moment (log entry 41). -/
def Obligations.ContributionsSettleRows : Prop :=
  (∀ (x : State) (t row step format s : Nat) (rx : Rx) (p : PartialResult) (r : RowRec), x.Serving → x.blk.Whole rx 3 (some step) →
     let b := x.got t rx 3 (some step)
     b.running = true → b.rowAt row = some r → r.sample = true → shardOf (b.mapOf r) rx.src = some s →
     let g := b.gleanRow row
     let run := exec (.gleanData t rx row step format p) x
     let noted := fun (c : Block) =>
       let errors := if c.gr.slabErrors.contains r.handle then c.gr.slabErrors else c.gr.slabErrors ++ [r.handle]
       if p.flags.slabError = true then ({ c with gr := { c.gr with slabErrors := errors } } : Block) else c
     (step = b.consistNow.step → Tab.has s g.contribs = false → g.final = none → g.verdict = none → g.first = none → g.resendAt = none →
       b.isLead = false →
       run = .next (x.settled (x.blk.atTime t) (noted (b.modGlean row fun g => { g with
         contribs := Tab.set s (format, p) g.contribs, first := some b.now, resendAt := some (b.now + b.mdl.glean.resendAfter * 1000) })))) ∧
     (∀ u, step = b.consistNow.step → Tab.has s g.contribs = false → g.final = none → g.verdict = none → b.isLead = true →
       b.cp.collect = none →
       let kept := noted (b.modGlean row fun g => { g with
         contribs := Tab.set s (format, p) g.contribs, first := g.first.orElse fun _ => some b.now
         resendAt := g.resendAt.orElse fun _ => some (b.now + b.mdl.glean.resendAfter * 1000) })
       usedNow (replicaSets (b.mapOf r)) (kept.gleanRow row) = some u →
       run = .next (x.settled (x.blk.atTime t) (kept.leadVerdict row r (some u)))) ∧
     (step % 4294967296 ≠ b.consistNow.step % 4294967296 ∨ Tab.has s g.contribs = true ∨ g.final.isSome = true ∨
         (∃ v, g.verdict = some v ∧ (v.outcome = 1 ∨ bit v.used s = false)) →
       run = .next (x.settled (x.blk.atTime t) { b with gln := { b.gln with discarded := b.gln.discarded + 1 } }))) ∧
  (∀ (b : Block) (row used : Nat) (r : RowRec) (f : PartialResult), b.mergeUsed row r used = some (f, []) → bit b.obs.traceMask 7 = false →
     let v : Verdict := { outcome := 0, used, missing := 0, digest := crc64 (partialBytes f) }
     b.leadVerdict row r (some used) =
       ((b.modGlean row fun g => { g with verdict := some v, verdictAt := some b.now }).send none
         (.gleanVerdict row b.consistNow.step v)).rowEffect row r f [])

/-- GLEAN_VERDICT from the lead for a sampled row without one: it is kept; with the outcome LOST the row's list is the lost list,
with contributions whose merge has another digest the instance stops. One for a row that the consist does not sample stops the
instance; one of another step is discarded and counted (log entry 41). GLEAN_RESEND_REQ reads the resend area, on stream 63 at the
main model's GLEAN_BASE (log entries 113 and 123), and is answered from it, and kept for a row still open (R187, R190, R191,
R221). The Glean's timers: GLEAN_RESEND_TIMER asks again for what the row needs and starts anew; GLEAN_TIMEOUT at the lead gives
the row the verdict LOST; GLEAN_VERDICT_WAIT_TIMEOUT at another rank stops the instance; GLEAN_MISMATCH_WINDOW restarts the
mismatch counts where an aligned second of the time base has begun since they last started (R187, R189, R190, R429). -/
def Obligations.VerdictsAndTimersDecideRows : Prop :=
  (∀ (x : State) (t row step : Nat) (rx : Rx) (v : Verdict) (r : RowRec), x.Serving → x.blk.Whole rx 3 (some step) →
     let b := x.got t rx 3 (some step)
     step = b.consistNow.step → b.running = true → b.cp.collect = none → b.rowAt row = some r → r.sample = true →
     let kept := b.modGlean row fun g => { g with verdict := some v, verdictAt := some b.now }
     let run := exec (.gleanVerdict t rx row step v) x
     (rx.src = b.cp.leadRank → (b.gleanRow row).verdict = none → (b.gleanRow row).final = none → v.outcome = 1 →
       bit b.obs.traceMask 7 = false →
       run = .next (x.settled (x.blk.atTime t)
         ((kept.count 20).rowEffect row r (lostList row (step % 65536) (topKOf (b.ent (r.handle % 1048576)).sampling)) []))) ∧
     (∀ f, rx.src = b.cp.leadRank → (b.gleanRow row).verdict = none → (b.gleanRow row).final = none → v.outcome = 0 →
       bit b.obs.traceMask 7 = false → kept.mergeUsed row r v.used = some (f, []) → crc64 (partialBytes f) ≠ v.digest →
       run = .next (x.settled (x.blk.atTime t) (kept.stop .verdictDigest srcGlean [row]))) ∧
     (rx.src ≠ b.cp.leadRank ∨ (b.gleanRow row).verdict.isSome = true → run = .next (x.settled (x.blk.atTime t) b)) ∧
     (∀ other, (∀ r, b.rowAt other = some r → r.sample = false) →
       exec (.gleanVerdict t rx other step v) x = .next (x.settled (x.blk.atTime t) (b.stop .couplingProtocol srcGlean [other]))) ∧
     (∀ other, x.blk.Whole rx 3 (some other) → other % 4294967296 ≠ step % 4294967296 → let c := x.got t rx 3 (some other)
       exec (.gleanVerdict t rx row other v) x = .next (x.settled (x.blk.atTime t)
         { c with gln := { c.gln with discarded := c.gln.discarded + 1 } })) ∧
     (∀ fmt p, Tab.get? row b.gln.resend = some (step, fmt, p) →
       let base := (b.mainModel.map fun d => d.2.stage.gleanBase).getD 0
       exec (.gleanResendReq t rx row step) x = .next (x.settled (x.blk.atTime t)
         ((b.ask 63 (base + row * 576) 576 .other).send (some rx.src) (.gleanData row step fmt p)))) ∧
     (Tab.get? row b.gln.resend = none → b.openRows.contains row = true →
       exec (.gleanResendReq t rx row step) x = .next (x.settled (x.blk.atTime t) { b with gln := { b.gln with
         asked := (b.gln.asked.filter fun a => a != (row, rx.src, step % 4294967296)) ++ [(row, rx.src, step % 4294967296)] } }))) ∧
  (∀ (x : State) (t row : Nat) (r : RowRec), x.Live →
     let b := x.blk.atTime t
     let g := b.gleanRow row
     b.running = true → b.rowAt row = some r →
     (∀ due i s, g.resendAt = some due → due ≤ b.now → b.needed row r = [i] → (b.mapOf r)[i]? = some s →
       exec (.gleanResendTimer t row) x = .next (x.settled b (((b.send (some s.rank) (.gleanResendReq row b.consistNow.step i)).count 19).modGlean
         row fun g => { g with resendAt := some (b.now + b.mdl.glean.resendAfter * 1000) }))) ∧
     (∀ due, g.resendAt = some due → b.now < due → exec (.gleanResendTimer t row) x = .next (x.settled b b)) ∧
     (∀ first, b.gln.since = 0 → g.first = some first → g.verdict = none → b.isLead = true → b.cp.collect = none → r.sample = true →
       first + b.mdl.glean.gleanTimeout * 1000 ≤ b.now →
       exec (.gleanTimeout t row) x = .next (x.settled b (b.leadVerdict row r none))) ∧
     (∀ at_, g.verdictAt = some at_ → b.isLead = false → g.final = none → at_ + 2 * b.mdl.glean.gleanTimeout * 1000 ≤ b.now →
       exec (.gleanVerdictWaitTimeout t row) x = .next (x.settled b (b.stop .gleanMissing srcGlean [row]))) ∧
     exec (.gleanMismatchWindow t) x = .next (x.settled b (if b.now / 1000000000 = b.gln.second then b
       else { b with gln := { b.gln with mismatches := [], second := b.now / 1000000000 } })))

/-- The kept set, the draw and the token of a final list (R176 to R179, R205, R206). The kept set is a prefix of the returned
entries, cut by TOP_P and MIN_P, in an INF row its +inf entries. The draw is AES-128 of the seed over the counter block; the token
is entry 0 where SAMPLE_MODE [0] or INF says so, else the first kept entry whose cumulative sum passes the draw. A row without a
token has the lowest of its causes. The children of a spine node are the kept entries in rank order, or drawn one after the other
without replacement. -/
def Obligations.TokensAreDrawnFromTheKeptSet : Prop :=
  (∀ (p : Sampling) (f : PartialResult),
    let ret := f.entries.take f.returned
    let m := keyValue (ret.headD (padKey, 0)).1
    let w := ret.map fun e => F.scale (temperatureOf p) (F.sub (keyValue e.1) m)
    let cum := fun (n : Nat) => (w.take n).foldl F.add F.zero
    (f.flags.inf = true → keptSet p f = (ret.filter fun e => e.1 == infKey).map fun e => (e.2, F.one)) ∧
    (f.flags.inf = false → ∃ n ≤ ret.length, keptSet p f = ((ret.map (·.2)).zip w).take n ∧
      (∀ x ∈ w.take n, F.le p.minP x = true) ∧
      (p.topP ≠ F.one → ∀ i < n, 0 < i → F.le (F.mul p.topP f.totalMass) (cum i) = false) ∧
      (n = ret.length ∨ (∃ x, w[n]? = some x ∧ F.le p.minP x = false) ∨
        p.topP ≠ F.one ∧ 0 < n ∧ F.le (F.mul p.topP f.totalMass) (cum n) = true))) ∧
  (∀ seed position index side : Nat, let c := Aes.encrypt (le 8 seed ++ zeros 8) (le 4 position ++ le 1 index ++ le 1 side ++ zeros 10)
    drawU seed position index side = F.enc false (ofLe (c.take 3)) (-24)) ∧
  (∀ (ws : List F32) (u : F32), let cum := fun (n : Nat) => (ws.take n).foldl F.add F.zero
    let i := inverseCdf ws u
    (∀ j < ws.length, (∀ l < j, F.lt (F.mul u (cum ws.length)) (cum (l + 1)) = false) → F.lt (F.mul u (cum ws.length)) (cum (j + 1)) = true → i = j) ∧
    ((∀ j < ws.length, F.lt (F.mul u (cum ws.length)) (cum (j + 1)) = false) → i = ws.length - 1)) ∧
  (∀ (p : Sampling) (seed position side : Nat) (f : PartialResult),
    (bit p.sampleMode 0 = true ∨ f.flags.inf = true → drawToken p seed position side f = (f.entries.headD (0, 0)).2) ∧
    (bit p.sampleMode 0 = false → f.flags.inf = false → keptSet p f ≠ [] →
      ∃ e, (keptSet p f)[inverseCdf ((keptSet p f).map (·.2)) (drawU seed position 0 side)]? = some e ∧
        drawToken p seed position side f = e.1)) ∧
  (∀ f : ResultFlags, let causes := [(f.empty, 1), (f.contribLost, 2), (f.portError, 3), (f.slabError, 4)]
    noTokenCause f = (causes.filter (·.1)).head?.map (·.2)) ∧
  (∀ (b : Block) (row slot : Nat) (r : RowRec) (f : PartialResult) (e : Entry), b.byHandle r.handle = some (slot, e) → r.kind ≤ 2 →
    let cause := noTokenCause f.flags
    let pos := r.firstPos + r.posCount
    (b.settleRow row r f).gr.results = b.gr.results ++ [{
      handle := r.handle, noToken := cause.map fun c => (pos, c)
      tokens := if cause.isSome then [] else [{ token := drawToken e.sampling e.seed pos 0 f, inf := f.flags.inf, approx := f.flags.approx }] }]) ∧
  (∀ (p : Sampling) (seed pos w : Nat) (f : PartialResult), let kept := keptSet p f
    let cs := childTokens p seed pos w f
    cs.length = min w kept.length ∧ (∀ c ∈ cs, ∃ e ∈ kept, e.1 = c.1) ∧
    ((kept.map (·.1)).Nodup → (cs.map (·.1)).Nodup) ∧
    (bit p.sampleMode 0 = true ∨ verifyMode p = 1 → cs = (kept.take w).map fun e => (e.1, F.div e.2 (keptSum kept))) ∧
    (bit p.sampleMode 0 = false → verifyMode p ≠ 1 → 0 < w → ∀ e, kept[inverseCdf (kept.map (·.2)) (drawU seed pos 0 1)]? = some e →
      cs.head? = some (e.1, F.div e.2 (keptSum kept))))

/-- The walk of a tree (R210 to R213), its result, and the statistics of a verify step (R216). The accepted nodes form a path down
from the root, none of them void, whose tokens the walk gives, with one final token but where it stops at a node whose row yields
none. Under GREEDY the next node is a child that carries the token drawn, under STOCHASTIC the first child that passes its test,
each rejection leaving the residual. The count of tokens of a tree that is no verify step is R212's. -/
def Obligations.TreesAreVerified : Prop :=
  (∀ (b : Block) (t : Tree) (e : Entry), let w := b.walkTree t e 17 0 [] []
    (w.2.1.length = w.1.length ∨ w.2.1.length = w.1.length + 1 ∧ w.2.2 = none) ∧
    ∀ (i m : Nat), w.1[i]? = some m → m ≠ 0 ∧ ∃ (n : TreeNode) (g : GenToken), t.nodes[m]? = some n ∧ n.void = false ∧
      (0 :: w.1)[i]? = some n.parent ∧ w.2.1[i]? = some g ∧ g.bonus = false ∧ ∀ v, n.token = some v → g.token = v) ∧
  (∀ (b : Block) (t : Tree) (e : Entry) (fuel x : Nat) (acc : List Nat) (toks : List GenToken) (f : PartialResult),
    b.finalOf ((b.rowsWhere fun r => r.handle == t.handle && r.kind == 3 && r.treeNode % 128 == x).headD 0) = some f →
    let pos := t.rootPos + (t.nodes[x]?.map (·.depth)).getD 0
    let kids := ((List.range t.nodes.length).zip t.nodes).filter fun n => n.2.parent == x && !n.2.void && n.1 != 0
    let v := drawToken e.sampling e.seed (pos + 1) 0 f
    let tok := fun (v : Nat) (bonus : Bool) => { token := v, inf := f.flags.inf, approx := f.flags.approx, bonus : GenToken }
    let greedy := bit e.sampling.sampleMode 0 || verifyMode e.sampling == 1
    let r := b.walkTree t e (fuel + 1) x acc toks
    let kept := keptProb (keptSet e.sampling f)
    let q := Tab.getD ((t.nodes[x]?.map (·.depth)).getD 0) [] t.sets
    (∀ c, noTokenCause f.flags = some c → r = (acc, toks, some (pos + 1, c))) ∧
    (noTokenCause f.flags = none →
      (kids = [] → r = (acc, toks ++ [tok v (!acc.isEmpty)], none)) ∧
      (kids ≠ [] → greedy = true → (∀ k ∈ kids, k.2.token ≠ some v) → r = (acc, toks ++ [tok v false], none)) ∧
      (greedy = true → ∀ k, kids.find? (fun k => k.2.token == some v) = some k →
        r = b.walkTree t e fuel k.1 (acc ++ [k.1]) (toks ++ [tok v false])) ∧
      (kids ≠ [] → greedy = false → (∀ m, stochastic e.seed pos kids kept q = .inl m →
          r = b.walkTree t e fuel m (acc ++ [m]) (toks ++ [tok ((t.nodes[m]?.bind (·.token)).getD 0) false])) ∧
        (∀ w, stochastic e.seed pos kids kept q = .inr w → r = (acc, toks ++ [tok
          (w.getD (inverseCdf (w.map (·.2)) (drawU e.seed (pos + 1) 128 0)) (0, F.zero)).1 false], none))))) ∧
  (∀ (seed pos m : Nat) (c : TreeNode) (cs : List (Nat × TreeNode)) (p q : List (Nat × F32)),
    let at_ := fun (l : List (Nat × F32)) (v : Nat) => ((l.find? fun e => e.1 == v).map (·.2)).getD F.zero
    let v := c.token.getD 0
    let passes := F.lt (F.mul (drawU seed (pos + 1) (64 + c.sibling) 0) (at_ q v)) (at_ p v)
    let left := p.map fun e => max0 (F.sub e.2 (at_ q e.1))
    let s := left.foldl F.add F.zero
    (passes = true → stochastic seed pos ((m, c) :: cs) p q = .inl m) ∧
    (passes = false → ∃ p' q', stochastic seed pos ((m, c) :: cs) p q = stochastic seed pos cs p' q' ∧ p'.map (·.1) = p.map (·.1) ∧
      q'.map (·.1) = q.map (·.1) ∧ (F.eq s F.zero = true → p' = p) ∧
      (F.eq s F.zero = false → p'.map (·.2) = left.map fun x => F.div x s))) ∧
  (∀ (seed pos : Nat) (p q : List (Nat × F32)), stochastic seed pos [] p q = .inr p) ∧
  (∀ (b : Block) (h i slot : Nat) (t : Tree) (e : Entry), (b.trees.findIdx? fun t => t.handle == h) = some i → b.trees[i]? = some t →
    b.byHandle h = some (slot, e) → t.walked = false →
    (∀ row ∈ b.rowsWhere fun r => r.handle == h && r.kind == 3, (b.finalOf row).isSome = true) → let w := b.walkTree t e 17 0 [] []
    (b.verifyTree h).gr.results = b.gr.results ++ [{
      handle := h, tokens := w.2.1, noToken := if w.1 = [] then w.2.2 else none
      verify := if 1 < t.nodes.length then some w.1.length else none
      committedAt := if w.2.2.isSome = true ∧ w.1 ≠ [] then some (t.rootPos + w.1.length) else none }]) ∧
  (∀ (b : Block) (slot n a : Nat), let e := b.ent slot
    let t := (b.verifyStats slot n a).ent slot
    let run := if n = 0 then min 255 (e.zeroAcceptRun + 1) else 0
    t.stepsVerified = add32 e.stepsVerified 1 ∧ t.tokensAccepted = add32 e.tokensAccepted n ∧ t.zeroAcceptRun = run ∧
    (t.acceptEma : Int) = max 0 ((e.acceptEma : Int) + ((n : Int) * 256 - e.acceptEma) / 4) ∧
    (8 ≤ run → t.flags.specPlain = true ∧ t.probeCountdown = 64 ∧ t.treeDepth = 0 ∧ t.treeWidth = 0) ∧
    (run < 8 → t.flags.specPlain = e.flags.specPlain ∧ t.treeDepth ≤ max 1 b.mdl.spec.depthMax ∧ t.treeWidth ≤ b.mdl.spec.widthMax))

/-! ### Timetable, Stook, Dispatcher, completions (chapter 5) -/

/-- TIMETABLE_INSTANTIATION makes the step of the log held from the epoch's template, each node PENDING with its item count;
NODE_INSERT puts the next node of the current step in the Stook, MATCHING (R129, R133). DRAW_WAIT_COMPLETION counts a held
completion whose draws are written, ITEM_TIMEOUT takes a platform out of service whose oldest item has outrun its class's timeout,
PREFIX_WALK ends the walk of a request, once its lines and its transcript have been read, with the nodes that match (R113, R144,
R204). -/
def Obligations.NodesMoveThroughTheStook : Prop :=
  (∀ (x : State) (t : Nat), x.Live →
     let b := x.blk.atTime t
     (∀ l tp, b.cp.log = some l → b.dsp.next = none → b.dsp.stook.length < 16384 → b.templateFor l = some tp →
       let nodes := ((List.range tp.nodes.length).zip tp.nodes).map fun n =>
         (n.1, NodeInst.mk .pending (itemCount n.2 (positionsOf (covered n.2 l.consist))) 0 0)
       exec (.timetableInstantiation t) x = .next (x.settled b { b with dsp := { b.dsp with
         next := some { junction := l.junction, epoch := l.epoch, template := tp, consist := l.consist, made := tp.nodes.length, nodes } } })) ∧
     (b.cp.log = none → exec (.timetableInstantiation t) x = .next (x.settled b b)) ∧
     (∀ buf, b.dsp.current = some buf → b.running = true → b.dsp.nextInsert < buf.made → b.dsp.stook.length < 16384 →
       exec (.nodeInsert t) x = .next (x.settled b
         ((({ b with dsp := { b.dsp with nextInsert := b.dsp.nextInsert + 1, stook := b.dsp.stook ++ [b.dsp.nextInsert] } } :
           Block).modNodeInst b.dsp.nextInsert fun n => { n with state := .matching }).settleNodes))) ∧
     (∀ buf, b.dsp.current = some buf → buf.made ≤ b.dsp.nextInsert → exec (.nodeInsert t) x = .next (x.settled b b))) ∧
  (∀ (x : State) (t : Nat), x.Live →
     let b := x.blk.atTime t
     (∀ tag o, (b.dsp.openItems.find? fun o => o.tag == tag && o.held) = some o → b.running = true → b.drawsReady o b.drawn = true →
       exec (.drawWaitCompletion t tag) x = .next (x.settled b (b.itemDone o))) ∧
     (∀ tag o, (b.dsp.openItems.find? fun o => o.tag == tag && o.held) = some o → b.drawsReady o b.drawn = false →
       exec (.drawWaitCompletion t tag) x = .next (x.settled b b)) ∧
     (∀ tag o buf since, (b.dsp.openItems.find? fun o => o.tag == tag && !o.held) = some o → o.oldestAt = some since →
       b.dsp.current = some buf → b.running = true → since + buf.template.timeouts.getD o.opClass 0 * 1000 < b.now →
       exec (.itemTimeout t tag) x = .next (x.settled b (b.removePlatform o.platform 0xFF))) ∧
     (∀ tag o buf since, (b.dsp.openItems.find? fun o => o.tag == tag && !o.held) = some o → o.oldestAt = some since →
       b.dsp.current = some buf → b.now ≤ since + buf.template.timeouts.getD o.opClass 0 * 1000 →
       exec (.itemTimeout t tag) x = .next (x.settled b b)) ∧
     (∀ handle slot e, b.byHandle handle = some (slot, e) → b.readDone (.walk handle) = false →
       exec (.prefixWalk t handle) x = .next (x.settled b b)) ∧
     (∀ handle slot e, b.byHandle handle = some (slot, e) → b.readDone (.walk handle) = true → b.readDone (.transcript handle) = true →
       exec (.prefixWalk t handle) x = .next (x.settled b { b with gr := { b.gr with walks := b.gr.walks.map fun w =>
         if w.handle = handle && !w.finished then { w with finished := true, nodes := b.walk e } else w } })))

/-- DISPATCH_STAGE gives the first platform in the order of R137 the next item of the run that comes first for it, where the power
permits it, and none in HOLD. Where that run is a gang the platform's slot is reserved for it; the gang is staged when it has a
slot for every item and all are permitted together, else the offer goes on (log entry 110); staging a gang opens its items, one on
each platform it had reserved, in order. WAVE_RELEASE stages a barrier's next wave when it is due, and ends the barrier when no
idle platform is eligible (R137 to R139, R257, R262). -/
def Obligations.TheDispatcherStagesInOrder : Prop :=
  (∀ (x : State) (t : Nat), x.Serving →
    let b := x.seen t .dp
    let room : StageRoom := ⟨b.dsp.platforms.length, false⟩
    (∀ used p y rest r, b.running = true → b.pwr.state ≠ .hold → b.pwr.barrier = none → b.idleEligible ≤ b.pwr.global.waveSize →
      b.freePlatforms false false = (used, p, y) :: rest → b.firstRun p y false = some r →
      let r' : Run := { r with reserved := r.reserved ++ [p] }
      let b' : Block := { b with dsp := { b.dsp with runs := replaceRun b.dsp.runs r r' } }
      let fits := fun (q : Run) => (q.reserved.filter fun p => (b.slotsHeld p).isEmpty).length ≤ b.dsp.platforms.length
      (r.gang = false → b.permits p (b.energyOf r) false r.node = true →
        exec (.dispatchStage t) x = .next (x.settled (x.blk.atTime t) (b.stageItem r p none))) ∧
      (r.gang = true → r.gathered = false → r'.reserved.length < r.items.length →
        exec (.dispatchStage t) x = .next (x.settled (x.blk.atTime t) (Block.offer none room rest b').1)) ∧
      (r.gathered = false → r'.gathered = true → fits r' → b'.permitsAll r'.reserved (b.energyOf r) true r.node = true →
        exec (.dispatchStage t) x = .next (x.settled (x.blk.atTime t) (b'.stageGang r.arrival r.node none r'.reserved))) ∧
      (r.gathered = false → r'.gathered = true → b'.permitsAll r'.reserved (b.energyOf r) true r.node = false →
        exec (.dispatchStage t) x = .next (x.settled (x.blk.atTime t) (Block.offer none room rest b').1)) ∧
      (r.gathered = true → fits r → b.permitsAll r.reserved (b.energyOf r) true r.node = true →
        exec (.dispatchStage t) x = .next (x.settled (x.blk.atTime t) (b.stageGang r.arrival r.node none r.reserved)))) ∧
    (b.running = false ∨ b.pwr.state = .hold → exec (.dispatchStage t) x = .next (x.settled (x.blk.atTime t) b)) ∧
    (∀ w, b.running = true → b.pwr.state ≠ .hold → b.pwr.barrier = some w → b.idleEligible = 0 →
      exec (.waveRelease t) x = .next (x.settled (x.blk.atTime t) { b with pwr := { b.pwr with barrier := none } })) ∧
    (∀ w, b.running = true → b.pwr.state ≠ .hold → b.pwr.barrier = some w → b.idleEligible ≠ 0 → b.now < w.nextAt →
      exec (.waveRelease t) x = .next (x.settled (x.blk.atTime t) b)) ∧
    (∀ w, b.running = true → b.pwr.state ≠ .hold → b.pwr.barrier = some w → b.idleEligible ≠ 0 → w.nextAt ≤ b.now →
      let r := Block.waveItems w.wave b.pwr.global.waveSize b 0
      let later := { w with wave := w.wave + 1, nextAt := r.1.now + r.1.pwr.global.waveInterval }
      (r.2 = 0 → exec (.waveRelease t) x = .next (x.settled (x.blk.atTime t) r.1)) ∧
      (0 < r.2 → bit r.1.obs.traceMask 9 = false → exec (.waveRelease t) x = .next (x.settled (x.blk.atTime t)
        ({ r.1 with pwr := { r.1.pwr with barrier := some later } } : Block).barrierMoment)))) ∧
  (∀ (b : Block) (arrival node : Nat) (wave : Option Nat) (r : Run),
    b.dsp.runs.find? (fun y => y.gang && y.arrival == arrival && y.node == node) = some r → r.reserved.Nodup →
    r.reserved.length = r.items.length → (∀ p ∈ r.reserved, ∃ k, k < 4 ∧ k ∉ b.slotsHeld p) →
    ∃ os, (b.stageGang arrival node wave r.reserved).dsp.openItems = b.dsp.openItems ++ os ∧
      os.map (fun o => (o.platform, o.item)) = r.reserved.zip r.items ∧
      ∀ o ∈ os, o.node = r.node ∧ o.collective = true ∧ o.issues = r.issues + 1 ∧ o.held = false)

/-- An item that is staged: its STAGE leaves at the Dispatch Port with DP_CRC, under a tag of its issue number, platform and slot,
with the step and epoch it belongs to; it is open on the platform, the oldest there where the platform was idle; and the issue
sequence moves on (R142, R144, R324, Table 05-5). COMPLETION_RECORD: a record whose own CRC fails and one that fits no open item
are counted and logged; one that fits feeds its platform's counters, and a code of the integrator that no other record carries is
logged (log entry 39); then its status decides: the item is done, reissued, its platform leaves service, its request's KV is lost,
or the instance stops. A CRC_BAD record counts, as RETRY, for the item of its platform and slot (R142 to R147, R327, R330). -/
def Obligations.StagedItemsCompleteByStatus : Prop :=
  (∀ (b : Block) (r : Run) (p slot item : Nat) (rest : List Nat), r.items = item :: rest →
     ((List.range 4).find? fun k => !(b.slotsHeld p).contains k) = some slot →
     let tag := b.dsp.issueSeq % 262144 * 16384 + p * 4 + slot
     let step := match r.copy with
       | some c => c.step
       | none => (b.dsp.current.map (·.junction)).getD 0
     let epoch := match r.copy with
       | some c => c.epoch
       | none => (b.dsp.current.map (·.epoch)).getD b.cp.epoch
     let desc := b.descriptor r item tag step epoch
     let B := b.stageItem r p none
     B.out = (if b.sb.safe then b.out else b.out ++ [.stage p slot desc (crc32c (desc ++ le 2 (p + slot * 4096)))]) ∧
     B.dsp.issueSeq = b.dsp.issueSeq + 1 ∧
     ∃ o, B.dsp.openItems = b.dsp.openItems ++ [o] ∧ o.tag = tag ∧ o.platform = p ∧ o.slot = slot ∧ o.node = r.node ∧ o.item = item ∧
       o.copy = r.copy ∧ o.issues = r.issues + 1 ∧ o.held = false ∧
       o.oldestAt = if b.dsp.openItems.any fun y => y.platform == p && !y.held then none else some b.now) ∧
  (∀ (x : State) (t : Nat) (c : CompletionRec), x.Serving →
     let b := x.seen t .cp
     let run := exec (.completionRecord t c (crc32c (completionBytes c))) x
     (∀ crc, crc ≠ crc32c (completionBytes c) → exec (.completionRecord t c crc) x = .next (x.settled (x.blk.atTime t) ((b.count 6).logRec srcDispatcher 0x0112 1 [c.platform, c.slot]))) ∧
     (∀ o y, c.crcBad = true → (b.dsp.openItems.find? fun o => o.platform == c.platform && o.slot == c.slot && !o.held) = some o →
       b.platform? o.platform = some y → y.inService = true →
       let retry := { c with status := 1 }
       let seen := (b.observe retry (if o.copy.isSome then 0xFFFF else o.node) o.tag (o.oldestAt.getD b.now)).logDetail retry o
       seen.running = true → run = .next (x.settled (x.blk.atTime t) ((seen.reissue o).checkPlatforms))) ∧
     (c.crcBad = false → (b.dsp.openItems.find? fun o => o.tag == c.itemTag && o.platform == c.platform && !o.held) = none →
       run = .next (x.settled (x.blk.atTime t) ((({ b with dsp := { b.dsp with staleCompletions := b.dsp.staleCompletions + 1 } } :
         Block).count 5).logRec srcDispatcher 0x0111 1 [c.platform, c.itemTag]))) ∧
     (∀ o y, c.crcBad = false → (b.dsp.openItems.find? fun o => o.tag == c.itemTag && o.platform == c.platform && !o.held) = some o →
       b.platform? o.platform = some y → y.inService = true →
       let seen := (b.observe c (if o.copy.isSome then 0xFFFF else o.node) o.tag (o.oldestAt.getD b.now)).logDetail c o
       seen.running = true →
       (c.status = 0 → o.copy.isSome = true ∨ (seen.count 3).drawsReady o b.drawn = true →
         run = .next (x.settled (x.blk.atTime t) ((seen.count 3).itemDone o))) ∧
       (c.status = 1 → run = .next (x.settled (x.blk.atTime t) ((seen.reissue o).checkPlatforms))) ∧
       (c.status = 2 → run = .next (x.settled (x.blk.atTime t) (seen.removePlatform o.platform 2))) ∧
       (c.status = 3 → run = .next (x.settled (x.blk.atTime t) ((seen.kvLost o c).itemDone o))) ∧
       (4 ≤ c.status → run = .next (x.settled (x.blk.atTime t)
         (seen.stop .itemFatal srcDispatcher [o.platform, o.tag, c.status, c.endC])))))

/-! ### Storage, the Memory Port, the Signal Box (chapters 12 to 16) -/

/-- MEMORY_READ_RESPONSE: a line of an outstanding read is no longer awaited, and its tag is free after the last. One that cannot
be read acts by the rule of its structure: a transcript's request is lost, a slab's rows carry SLAB_ERROR, a data window shows
RD_ERROR, a command packet is refused at its fetch, a mailbox message is answered so; a decode error, and any other structure, a
staged image among them, is a fault of control state. A beat fails whose CRC is not that of its 64 bytes. A sound line of a read
shows those bytes, but for what was written since the read was issued (log entry 93), and has no effect of its own, that of a
command packet or a mail included (log entries 93 and 117); a line no read awaits has none at all (log entry 93) (R333, R335,
R337). MEMORY_WRITE_RESPONSE answers the oldest write of its channel: a mailbox message that was being written shows as posted, an
answer of a data window that waited for it leaves; a failed write is a fault of control state, and such an answer leaves then too
(R335, R336, R360, R415). -/
def Obligations.MemoryPortErrorsAndResponses : Prop :=
  (∀ (x : State) (t channel tag beat : Nat) (data : List Byte), x.Serving →
     let b := x.seen t .mp
     let run := fun status crc => exec (.memoryReadResponse t ⟨channel, tag, beat, data⟩ status crc) x
     let result := fun B => Host.Outcome.next (x.settled (x.blk.atTime t) B)
     let found := b.mp.reads.find? fun r => r.tag == tag && r.line / 256 % 2 == channel && r.left.contains beat
     (found = none → ∀ st ok, run st ok = result b) ∧
     ∀ r, found = some r →
       let left := r.left.erase beat
       let c := { b with mp := { b.mp with reads := if left.isEmpty then b.mp.reads.erase r else b.mp.reads.replace r { r with left } } }
       let written := fun i => r.written.any fun w => w.1 ≤ r.line + 64 * beat + i && r.line + 64 * beat + i < w.1 + w.2
       let line := ((List.range 64).filter fun i => !written i).map fun i => (r.line + 64 * beat + i, [data.getD i 0])
       run 0 (crc32c data) = result { c with posted := line ++ b.posted } ∧ (∀ ok, run 2 ok = result (c.controlError .memoryCtrl srcMemory)) ∧
       ∀ st ok, st ≠ 2 → st ≠ 0 ∨ ok ≠ crc32c data → match r.use with
         | .transcript h => run st ok = result (c.lose h 5)
         | .slab h => run st ok = result (c.slabLost h)
         | .window sec => run st ok = result ((c.modChannel sec fun c => { c with rdError := true }).noteSet (w1cChannel sec 1))
         | .commandPacket | .mail => run st ok = result c
         | .staged | .walk _ | .other => run st ok = result (c.controlError .memoryCtrl srcMemory)) ∧
  (∀ (x : State) (t : Nat) (w : WriteReq) (rest : List WriteReq), x.Serving →
     let b := x.seen t .mp
     (b.mp.writes0 = w :: rest →
       let done := { b with mp := { b.mp with writes0 := rest } }
       exec (.memoryWriteResponse t 0 0) x = .next (x.settled (x.blk.atTime t) ((done.mailWritten w.addr).windowWritten w.addr)) ∧
       ∀ st, st ≠ 0 → exec (.memoryWriteResponse t 0 st) x = .next (x.settled (x.blk.atTime t)
         ((done.controlError .memoryCtrl srcMemory).windowWritten w.addr))) ∧
     (b.mp.writes1 = w :: rest →
       let done := { b with mp := { b.mp with writes1 := rest } }
       exec (.memoryWriteResponse t 1 0) x = .next (x.settled (x.blk.atTime t) ((done.mailWritten w.addr).windowWritten w.addr)) ∧
       ∀ st, st ≠ 0 → exec (.memoryWriteResponse t 1 st) x = .next (x.settled (x.blk.atTime t)
         ((done.controlError .memoryCtrl srcMemory).windowWritten w.addr))) ∧
     (b.mp.writes0 = [] → exec (.memoryWriteResponse t 0 0) x = .next (x.settled (x.blk.atTime t) b)) ∧
     (∀ c m, b.ap.mail = [(c, m)] → m.writing = some w.addr → b.mailWritten w.addr =
       (b.modMail c fun m => { m with writing := none, outPending := true, outSlot := m.next, next := (m.next + 1) % 16 }).noteSet
         (w1cMailOut c)))

/-- SCRUB_SYMBOL_CORRECTED counts and logs the error, and the 64th of a bank's pass reports the bank; SRAM_UNCORRECTABLE counts,
and acts by storage: a live entry's request is lost, control state stops the instance, and a cache line is logged and its 64 bytes
read again, the line itself at an address that nothing fixes (log entry 120); a finding while a stopped instance's sweep runs
makes it FAIL (R423 to R425, R433, Table 16-1). DIAG_SWEEP_COMPLETE ends the sweep of Buffer Stop with PASS or FAIL; CORE_WATCHDOG
of a core that is not in retention stops the instance; RETENTION_ACK, DRBG_HEALTH_FAIL and DRBG_RESEED set their bits, and a core
that wakes closes its CORE record (R377, R380, R402, R433, R458). The bits of the core and DRBG events are log entry 94.
TB_SYNC_PULSE on a multiple of 2^20 ns arms the checks, is seen, and ends a loss of the time base (log entries 91 and 121); a
failed check loses the time base and stops the instance, those that a TB_SYNC arms only once armed, and a pulse is missing only
2^20 + 64 ns after the last multiple that had one; PCLK_LOST of a port of the group stops it, of another is only logged (R368,
R374). -/
def Obligations.StorageErrorsAndSignalBoxEventsAct : Prop :=
  (∀ (x : State) (t : Nat), x.Live →
     let b := x.blk.atTime t
     let hard := { b with flt := { b.flt with uncorrected := satInc 4294967295 b.flt.uncorrected } }
     let soft := { b with flt := { b.flt with corrected := satInc 4294967295 b.flt.corrected } }
     (∀ unit addr fresh, exec (.scrubSymbolCorrected t unit addr none fresh) x = .next (x.settled b (soft.logRec unit 0x0100 0 [unit, addr]))) ∧
     (∀ unit addr bank, let n := Tab.getD bank 0 b.flt.passCorrected + 1
       let logged := soft.logRec unit 0x0100 0 [unit, addr]
       let counted := { logged with flt := { logged.flt with passCorrected := Tab.set bank n b.flt.passCorrected } }
       exec (.scrubSymbolCorrected t unit addr (some bank) false) x =
         .next (x.settled b (if n = 64 then counted.bankCondition bank 1 else counted))) ∧
     (∀ unit fresh, exec (.sramUncorrectable t (.control unit) fresh) x = .next (x.settled b (hard.controlError .ctrlUe unit))) ∧
     (∀ cache line fresh, ∃ a,
       let stream := (if cache = 0 then 0 else if cache = 1 then 16 else 32) + line % 16
       let logged := hard.logRec 3 0x0103 1 [cache, line]
       let bad := if b.cp.state = .bufferStop ∧ b.flt.diag < 2 then
         { logged with flt := { logged.flt with diag := 3, diagUnit := 3, cold := true } } else logged
       exec (.sramUncorrectable t (.cacheLine cache line) fresh) x =
         .next (x.settled b (({ bad with fresh := b.fresh + 1 } : Block).ask stream (64 * a) 64 .other))) ∧
     (∀ slot e, b.cp.state = .running → Tab.get? slot b.gr.entries = some e → Tab.getD (slot / 2048) [] b.flt.passEntries = [] →
       let logged := hard.logRec srcGranary 0x0101 2 [slot, slot / 2048]
       exec (.sramUncorrectable t (.granaryEntry slot) false) x = .next (x.settled b
         (({ logged with flt := { logged.flt with passEntries := Tab.set (slot / 2048) [slot] b.flt.passEntries } } :
           Block).lose e.handle 1)))) ∧
  (∀ (x : State) (t : Nat), x.Live →
     let b := x.blk.atTime t
     (b.cp.state = .bufferStop → b.flt.diag = 1 →
       exec (.diagSweepComplete t none) x = .next (x.settled b { b with flt := { b.flt with diag := 2 } }) ∧
       ∀ u, exec (.diagSweepComplete t (some u)) x = .next (x.settled b
         { b with flt := { b.flt with diag := 3, diagUnit := u, cold := true } })) ∧
     (∀ core pc, core < 4 → b.sb.phase = .firmware → b.sb.acks.getD core false = false →
       exec (.coreWatchdog t core pc) x = .next (x.settled b (b.stop .watchdog srcSignalBox [core, pc]))) ∧
     (∀ core pc, b.sb.acks.getD core false = true → exec (.coreWatchdog t core pc) x = .next (x.settled b b)) ∧
     (∀ core level, let set := { b with sb := { b.sb with acks := b.sb.acks.set core level } }
       exec (.retentionAck t core level) x = .next (x.settled b
         (if b.sb.acks.getD core false = true ∧ level = false then set.syncCore core else set))) ∧
     exec (.drbgHealthFail t) x = .next (x.settled b
       (({ b with keys := { b.keys with drbgOk := false } } : Block).logRec srcSecurity 0 2)) ∧
     exec (.drbgReseed t) x = .next (x.settled b { b with keys := { b.keys with drbgOk := true } })) ∧
  (∀ (x : State) (t : Nat),
     let b := x.blk.atTime t
     let lost := fun (b : Block) valid => { b with ap := { b.ap with tb := { b.ap.tb with
       lost := true, absent := true, losses := satInc 65535 b.ap.tb.losses, valid } } }
     (x.Serving → (x.seen t .tb).now % 1048576 = 0 →
       let b := x.seen t .tb
       exec (.tbSyncPulse t) x = .next (x.settled (x.blk.atTime t)
         { b with ap := { b.ap with tb := { b.ap.tb with valid := true, seen := true, armed := true, absent := false, lastSync := b.now } } })) ∧
     (x.Live → exec (.timeBaseLost t .validLow) x = .next (x.settled b ((lost b false).stop .timeBase srcCoupling))) ∧
     (x.Live → b.ap.tb.armed = false ∨ b.now < b.ap.tb.lastSync / 1048576 * 1048576 + 1048640 →
       exec (.timeBaseLost t .syncMissing) x = .next (x.settled b b)) ∧
     (x.Live → b.ap.tb.armed = true → b.ap.tb.lastSync / 1048576 * 1048576 + 1048640 ≤ b.now →
       exec (.timeBaseLost t .syncMissing) x = .next (x.settled b ((lost b b.ap.tb.valid).stop .timeBase srcCoupling))) ∧
     (x.Live → b.ap.lostClocks.contains .fp = false →
       exec (.pclkLost t .fp) x = .next (x.settled b
         (({ b with ap := { b.ap with lostClocks := b.ap.lostClocks ++ [.fp] } } : Block).stop .pclkLost srcFabric [5]))) ∧
     (x.Live → b.ap.lostClocks.contains .mg = false →
       exec (.pclkLost t .mg) x = .next (x.settled b
         (({ b with ap := { b.ap with lostClocks := b.ap.lostClocks ++ [.mg] } } : Block).logRec srcSignalBox 0x0031 1 [9]))))

/-! ### The Coupling Unit: junctions and logs (chapter 9) -/

/-- A message of an older term is discarded and counted, one of a newer term stops the instance (R221). LINK_FAIL_REPORT and
LINKMAP of a link in service take it out, log it and, outside FORMING, tell every rank with the time of the failure report; a link
already out changes nothing. HALT_RECEIVED stops the instance and keeps the earlier first cause; TX_CREDIT_RETURN adds a credit of
its class (R243, R340, R345, R430, R431). -/
def Obligations.FabricMessagesReachTheInstance : Prop :=
  (∀ (x : State) (t : Nat) (rx : Rx) (i : Instr) (term cls : Nat), x.Serving → x.blk.Whole rx cls →
     (∃ j d c m, i = .junctionReady t rx j term d c m false ∧ cls = 1) ∨ (∃ j d, i = .junctionDigest t rx j term d ∧ cls = 1) ∨
     (∃ k, i = .takeoverAck t rx term k ∧ cls = 1) ∨ (∃ f n l, i = .logReceived t rx f n l false ∧ l.leadTerm = term ∧ cls = 2) ∨
     (∃ h c, i = .propose t rx h c ∧ h.leadTerm = term ∧ cls = 4) ∨ (∃ h a b c, i = .prepared t rx h a b c ∧ h.leadTerm = term ∧ cls = 4) ∨
     (∃ h s d, i = .refused t rx h s d ∧ h.leadTerm = term ∧ cls = 4) ∨ (∃ h c s, i = .capReport t rx h c s ∧ h.leadTerm = term ∧ cls = 4) ∨
     (∃ h c s e, i = .capSet t rx h c s e ∧ h.leadTerm = term ∧ cls = 4) ∨ (∃ h r, i = .lossReport t rx h r ∧ h.leadTerm = term ∧ cls = 4) →
     let b := x.got t rx cls
     b.running = true →
     (term < b.cp.term → exec i x = .next (x.settled (x.blk.atTime t) (b.count 22))) ∧
     (b.cp.term < term → exec i x = .next (x.settled (x.blk.atTime t) (b.stop .couplingProtocol srcCoupling [term])))) ∧
  (∀ (x : State) (t : Nat), x.Serving →
     let result := fun B => Host.Outcome.next (x.settled (x.blk.atTime t) B)
     let b := x.seen t .fp
     (∀ link, b.fab.linksOut.contains link = false → b.cp.state ≠ .forming →
       let out := { b with fab := { b.fab with linksOut := b.fab.linksOut ++ [link], linkAt := Tab.set link b.now b.fab.linkAt } }
       (∀ r ∈ b.routesOver link, (out.lowRoute r.1).isSome = true) →
       exec (.linkFailReport t link) x = result
         ((out.logRec srcFabric 0x0120 2 [link, (b.routesOver link).length]).send none (.linkmap link b.cp.rank b.now))) ∧
     (∀ link r, b.fab.linksOut.contains link = false → b.cp.state = .running →
       let out := { b with fab := { b.fab with linksOut := b.fab.linksOut ++ [link], linkAt := Tab.set link b.now b.fab.linkAt } }
       r ∈ b.routesOver link → out.lowRoute r.1 = none →
       exec (.linkFailReport t link) x = result
         (((out.logRec srcFabric 0x0120 2 [link, (b.routesOver link).length]).send none (.linkmap link b.cp.rank b.now)).stop .routeLost srcCoupling
           [link])) ∧
     (∀ rx link at_, x.blk.Whole rx 6 → b.fab.linksOut.contains link = false → b.cp.state ≠ .forming →
       let heard := b.taken rx 6 none
       let out := { heard with fab := { heard.fab with linksOut := b.fab.linksOut ++ [link], linkAt := Tab.set link b.now b.fab.linkAt } }
       (∀ r ∈ heard.routesOver link, (out.lowRoute r.1).isSome = true) →
       exec (.linkmap t rx ⟨link, at_⟩) x = result
         ((out.logRec srcFabric 0x0120 2 [link, (heard.routesOver link).length]).send none (.linkmap link b.cp.rank at_))) ∧
     (∀ rx link at_, x.blk.Whole rx 6 → b.fab.linksOut.contains link = true →
       exec (.linkFailReport t link) x = result b ∧ exec (.linkmap t rx ⟨link, at_⟩) x = result (b.taken rx 6 none)) ∧
     (∀ rx reason rank at_, x.blk.Whole rx 5 → b.cp.state = .running →
       let heard := b.taken rx 5 none
       let stopped := ({ heard with flt := { b.flt with halts := satInc 65535 b.flt.halts } } : Block).stop .haltReceived srcFabric [reason, rank]
       exec (.haltReceived t rx reason rank at_) x = result { stopped with flt := stopped.flt.note reason at_ rank }) ∧
     (∀ rx reason rank at_, x.blk.Whole rx 5 → b.cp.state = .bufferStop →
       exec (.haltReceived t rx reason rank at_) x = result { b.taken rx 5 none with
         flt := ({ b.flt with halts := satInc 65535 b.flt.halts } : Faults).note reason at_ rank }) ∧
     (∀ cls, 0 < cls → cls ≤ 6 → exec (.txCreditReturn t cls) x = result { b with fab := { b.fab with
       credits := b.fab.credits.modify cls (· + 1) } }))

/-- READY_SEND of a step that is complete here, its log held: READY carries the completion time, the log's CRC and the first move
not yet complete, goes to every rank and is kept; READY_RESEND_TIMER sends it again after 20 µs, JUNCTION_WATCHDOG stops the
instance when the agreement has not come (R225, R229). JUNCTION_READY of the next junction is held for its rank; while a rank's is
missing nothing more happens, with every rank's held the log is applied at the latest completion time, with the smallest first
move reported as the completed mark (R118), and READYs of different logs stop the instance (R226). What applying it does to
requests, pages and policy is in statements of its own. JUNCTION_DIGEST: the lead keeps a rank's digest that equals its own; a
coupled instance whose digest equals the lead's completes the junction and answers; another digest stops the instance.
DIGEST_RESEND_TIMER asks each silent rank again (R228). -/
def Obligations.JunctionsAreAgreedOnce : Prop :=
  (∀ (x : State) (t : Nat), x.Live →
     let b := x.blk.atTime t
     (∀ l done, b.cp.log = some l → b.cp.stepDone = some done → b.readyDue = true →
       let r : Ready := { doneTime := done, logCrc := logCrc l, moveSeq := moveSeqOf b }
       exec (.readySend t) x = .next (x.settled b
         (({ b with cp := { b.cp with sent := some r, readySent := some b.now, readyAt := b.now } } : Block).send none
           (.ready (b.cp.applied + 1) b.cp.term r.doneTime r.logCrc r.moveSeq)))) ∧
     (b.readyDue = false → exec (.readySend t) x = .next (x.settled b b)) ∧
     (∀ r, b.cp.sent = some r → b.running = true → b.cp.readyAt + 20000 ≤ b.now →
       exec (.readyResendTimer t) x = .next (x.settled b
         (({ b with cp := { b.cp with readyAt := b.now } } : Block).send none
           (.ready (b.cp.applied + 1) b.cp.term r.doneTime r.logCrc r.moveSeq)))) ∧
     (∀ since, b.cp.readySent = some since → b.running = true → since + b.mdl.watchdog * 1000 ≤ b.now →
       exec (.junctionWatchdog t) x = .next (x.settled b (b.stop .junctionWatchdog srcCoupling [b.cp.applied + 1]))) ∧
     (∀ since, b.cp.readySent = some since → b.now < since + b.mdl.watchdog * 1000 →
       exec (.junctionWatchdog t) x = .next (x.settled b b))) ∧
  (∀ (x : State) (t done crc mv : Nat) (rx : Rx) (l : JLog), x.Serving → x.blk.Whole rx 1 →
     let b := x.got t rx 1
     b.running = true → b.cp.log = some l → rx.src < b.cp.n → Tab.has rx.src b.cp.ready = false →
     let held := Tab.set rx.src ⟨done, crc, mv⟩ b.cp.ready
     let kept := { b with cp := { b.cp with ready := held } }
     let run := exec (.junctionReady t rx (b.cp.applied + 1) b.cp.term done crc mv false) x
     let result := fun B => Host.Outcome.next (x.settled (x.blk.atTime t) B)
     let same := ∀ p ∈ held, p.2.logCrc = crc
     (∀ k, same → k < b.cp.n → Tab.has k held = false → run = result kept) ∧
     (same → (∀ k, k < b.cp.n → Tab.has k held = true) → run = result (kept.applyJunction l
       ((Tab.vals held).foldl (fun m r => max m r.doneTime) 0) ((minBy before32 ((Tab.vals held).map (·.moveSeq))).getD b.pg.nextMoveSeq))) ∧
     (¬ same → run = result (kept.stop .logCrcMismatch srcCoupling [b.cp.applied + 1]))) ∧
  (∀ (x : State) (t d : Nat) (rx : Rx), x.Serving → x.blk.Whole rx 1 →
     let b := x.got t rx 1
     let run := exec (.junctionDigest t rx b.cp.applied b.cp.term d) x
     let result := fun B => Host.Outcome.next (x.settled (x.blk.atTime t) B)
     b.running = true →
     (b.isLead = true → rx.src ≠ b.cp.rank → d = b.cp.digest →
       run = result { b with cp := { b.cp with digests := Tab.set rx.src d b.cp.digests } }) ∧
     (b.isLead = true → rx.src ≠ b.cp.rank → d ≠ b.cp.digest →
       run = result (b.stop .digestMismatch srcCoupling [b.cp.applied, rx.src])) ∧
     (b.isLead = false → rx.src = b.cp.leadRank → b.cp.complete = false → d = b.cp.digest →
       run = result ((({ b with cp := { b.cp with leadDigest := some (b.cp.applied, d) } } : Block).completeJunction).send
         (some b.cp.leadRank) (.digest b.cp.applied b.cp.term d))) ∧
     (b.isLead = false → rx.src = b.cp.leadRank → b.cp.complete = false → d ≠ b.cp.digest →
       run = result (({ b with cp := { b.cp with leadDigest := some (b.cp.applied, d) } } : Block).stop .digestMismatch srcCoupling
         [b.cp.applied])) ∧
     (∀ r, x.blk.isLead = true → x.blk.running = true → x.blk.cp.complete = true → 0 < x.blk.cp.applied →
       x.blk.cp.digestSentAt + 20000 ≤ (x.blk.atTime t).now → (x.blk.peers.filter fun r => !Tab.has r x.blk.cp.digests) = [r] →
       let b := x.blk.atTime t
       exec (.digestResendTimer t) x = .next (x.settled b
         (({ b with cp := { b.cp with digestSentAt := b.now } } : Block).send (some r) (.digest b.cp.applied b.cp.term b.cp.digest)))))

/-- LOG_RECEIVED: a fragment of the next log is held until the last comes, and the whole log is then this instance's log, stored
in memory; one with a section of a reserved type stops the instance. LOG_RESEND_REQUEST to the lead reads and sends the fragments
named, LOG_RESEND_TIMER asks the lead for a log of which nothing has come (R224, R343). -/
def Obligations.LogsAreReassembled : Prop :=
  ∀ (x : State) (t : Nat) (rx : Rx) (l : JLog), x.Serving → x.blk.Whole rx 2 →
    let b := x.got t rx 2
    let result := fun B => Host.Outcome.next (x.settled (x.blk.atTime t) B)
    b.running = true → b.cp.stageLost = false → b.cp.parts = [] → b.cp.logAskedAt = none →
    (∀ frag count, l.leadTerm = b.cp.term → l.junction = b.cp.applied + 1 → b.cp.log = none → frag < count → 1 < count →
      exec (.logReceived t rx frag count l false) x = result { b with cp := { b.cp with
        parts := [{ src := rx.src, log := l, count, got := [frag] }], logAskedAt := some b.now } }) ∧
    (l.leadTerm = b.cp.term → l.junction = b.cp.applied + 1 → b.cp.log = none →
      exec (.logReceived t rx 0 1 l false) x =
        result (({ b with cp := { b.cp with log := some l, parts := [], logAskedAt := some b.now } } : Block).storeLog l)) ∧
    (l.leadTerm = b.cp.term → l.junction = b.cp.applied + 1 → b.cp.log = none →
      exec (.logReceived t rx 0 1 l true) x = result (({ b with cp := { b.cp with
        parts := [{ src := rx.src, log := l, count := 1, got := [0] }], logAskedAt := some b.now } } : Block).stop .couplingProtocol srcCoupling
          [l.junction])) ∧
    (∀ first count, b.isLead = true → b.cp.log = some l →
      exec (.logResendRequest t rx (l.junction % 4294967296) first count) x = result ((b.readLog l first count).sendFrags rx.src l first count)) ∧
    (∀ asked, x.blk.running = true → x.blk.isLead = false → x.blk.cp.log = none → x.blk.cp.parts = [] → x.blk.cp.logAskedAt = some asked →
      asked + 20000 ≤ (x.blk.atTime t).now →
      let b := x.blk.atTime t
      exec (.logResendTimer t) x = .next (x.settled b
        (({ b with cp := { b.cp with logAskedAt := some b.now } } : Block).send (some b.cp.leadRank)
          (.logResend (b.cp.applied + 1) 0 0))))

/-- YARD_FINALISATION on the lead, the step verified and its tokens written, closes the log of the next junction, on an idle group
only for work that waits; IDLE_INTERVAL closes it on an idle group once the interval has passed (R80, R82, R83). The log that the
lead closes is that of the next junction, of its own term and rank, closed now; it is the lead's own log and stays closed in the
sequencer, which takes commands for the junction after (R82, R224, R289). -/
def Obligations.TheLeadClosesLogsInOrder : Prop :=
  (∀ (x : State) (t : Nat), x.Live →
     let b := x.blk.atTime t
     (b.mayClose = true → b.consistNow.rows ≠ [] ∨ b.commandDue = true → exec (.yardFinalisation t) x = .next (x.settled b b.finalise)) ∧
     (b.mayClose = true → b.consistNow.rows = [] → b.commandDue = false → b.seq.takeover = none → b.cp.firstJunction = false → exec (.yardFinalisation t) x = .next (x.settled b b)) ∧
     (b.mayClose = true → b.consistNow.rows = [] → b.cp.agreedAt + b.mdl.idleInterval ≤ b.now →
       exec (.idleInterval t) x = .next (x.settled b b.finalise)) ∧
     (b.mayClose = false → exec (.yardFinalisation t) x = .next (x.settled b b) ∧ exec (.idleInterval t) x = .next (x.settled b b))) ∧
  (∀ b : Block, b.cp.stageLost = false → ∃ l, b.closeLog.seq.closed = some l ∧ b.closeLog.cp.log = some l ∧ l.junction = b.cp.applied + 1 ∧
     l.leadTerm = b.cp.term ∧ l.leadRank = b.cp.rank ∧ l.closeTime = b.now ∧ l.commands = b.cmdsFor (b.cp.applied + 1) ∧
     l.consist.step = b.cp.applied + 1 ∧ b.closeLog.openJ = b.cp.applied + 2)

/-! ### What a junction does to requests, pages and policy (chapters 2 to 4) -/

/-- A handle is a slot and the slot's tag, which rises modulo 4,096 as the slot leaves FREE, from 1 after reset (R28). The lead
takes slots off the head of the free list, which reset fills in ascending order; an admission's handle has the slot's next tag,
and it takes the slot off the list under it, a freed slot joins the tail, those of a returned bank too, and refused or voided
admissions leave list and tags as they are. So the list stays that of R29. -/
def Obligations.SlotsAreTakenInOrder : Prop :=
  (∀ h < 2 ^ 32, tagOf h = bits h 31 20 ∧ slotOf h = bits h 19 0 ∧ mkHandle (tagOf h) (slotOf h) = h) ∧
  Runs.list State.reset.blk.gr.freeList = List.range 32768 ∧ (∀ s, Tab.getD s 0 State.reset.blk.gr.tags = 0) ∧
  State.reset.blk.SlotsOk ∧
  (∀ b : Block, b.queueLength = 0 → b.liveCount + b.openAdmits.length + b.chosenAdmits.length < b.mdl.maxLive →
    b.slotFor = (Runs.list b.gr.freeList).find? fun s => s ∉ b.pendingSlots ++ b.chosenAdmits.map fun a => slotOf a.2.2) ∧
  (∀ b after : Block, b.SlotsOk → ∀ n o h, TicketRec.admission n o h ∈ b.chooseAdmissions after →
    slotOf h ∈ Runs.list b.gr.freeList ∧ slotOf h ∉ b.pendingSlots ∧ tagOf h = (Tab.getD (slotOf h) 0 b.gr.tags + 1) % 4096) ∧
  (∀ (b : Block) (h : Nat) (e : Entry), b.SlotsOk → slotOf h ∈ Runs.list b.gr.freeList → e.handle = h →
    let c := (b.takeSlot h).setEnt (slotOf h) e
    Runs.list c.gr.freeList = (Runs.list b.gr.freeList).filter (· ≠ slotOf h) ∧
    (∀ s, Tab.getD s 0 c.gr.tags = if s = slotOf h then tagOf h else Tab.getD s 0 b.gr.tags) ∧ c.SlotsOk) ∧
  (∀ b : Block, b.SlotsOk → (∀ s ∈ b.work.freed, s ∈ b.liveSlots) →
    Runs.list b.reapSlots.gr.freeList =
      Runs.list b.gr.freeList ++ (sortNat b.work.freed).filter (fun s => s / 2048 ∉ b.gr.banksOut) ∧
    b.reapSlots.gr.tags = b.gr.tags ∧ (∀ s, s ∈ b.reapSlots.liveSlots ↔ s ∈ b.liveSlots ∧ s ∉ b.work.freed) ∧ b.reapSlots.SlotsOk) ∧
  (∀ b : Block, b.SlotsOk →
    Runs.list b.gr.freeList <+: Runs.list b.returnBanks.gr.freeList ∧ b.returnBanks.SlotsOk) ∧
  (∀ (b : Block) (s : Nat) (p : AdmitParams), (b.placeAdmit s p).gr = b.gr ∧ b.voidCommands.gr = b.gr ∧
    ∀ slot, b.SlotsOk → b.slotFor = some slot → ∃ h < 2 ^ 32, slotOf h = slot ∧ tagOf h = (Tab.getD slot 0 b.gr.tags + 1) % 4096 ∧
      (b.placeAdmit s p).seq.cmds.getLast?.map (·.cmd.assigned) = some h)

/-- What a junction does to one request (Table 02-5, R36 to R53). A request in DRAINING leaves; a cancel ends it, or frees it in
DONE; a step's rows commit positions and append the tokens that stand, which may end it; TRUNCATE, APPEND, PAUSE, RESUME,
SET_SAMPLING, FREE, an expiry, LOST and its losses act as Table 02-5 has them. The lengths of R36 are kept. Which of several ends
counts, and that an expiry waits for a log closed after it, is the model's own choice (log entries 110, 20). -/
def Obligations.JunctionsChangeRequests : Prop :=
  ∀ (b : Block) (cmds : List CmdRecord) (losses rw : List (Nat × Nat)) (a closed slot : Nat),
    let e := b.ent slot
    let s := stagingOf e.handle cmds
    let B := b.applyRequest cmds losses rw a closed slot
    let t := B.ent slot
    let rows := b.rowsOf e.handle
    let calm := (∀ l ∈ losses, l.1 ≠ e.handle) ∧ b.gr.slabErrors.contains e.handle = false
    let plain := calm ∧ rows = []
    let open_ := (e.maxGen = 0 ∨ e.genCount < e.maxGen) ∧ e.transcriptLen < e.transcriptCap
    (b.LengthsOk slot → (∀ r ∈ rows, r.firstPos + r.posCount ≤ e.transcriptLen) → B.LengthsOk slot) ∧
    (e.state = .draining → B = b.freeSlot slot) ∧
    (s.cancel = true → cancelState e.state = true → t.state = .draining ∧ t.endReason = 4 ∧ t.sidingExpiry = 0 ∧
      t.committedLen = e.committedLen ∧ t.transcriptLen = e.transcriptLen ∧ B.gr.regions = b.gr.regions ∧ B.work = b.work) ∧
    (s.cancel = true → e.state = .done → B = b.freeSlot slot) ∧
    (plain → e.state = .done → s.cancel = false → t.state = .done ∧
      (slot ∈ B.work.freed ↔ slot ∈ b.work.freed ∨ s.free = true ∨ (e.flags.autoFree = true ∧ (b.side slot).heldEnd = none))) ∧
    (∀ r res, calm → b.LengthsOk slot → s = {} → e.state = .prefill ∨ e.state = .decode ∨ e.state = .rebuild →
      (rows.filter fun x => x.kind == 3) = [] → (rows.find? fun x => decide (x.kind ≤ 2)) = some r → b.resultOf e.handle = some res →
      let toks := cutTokens e (res.tokens.map (·.token))
      let same := t.transcriptLen = e.transcriptLen ∧ t.genCount = e.genCount ∧ B.transcript t = b.transcript e
      let stop := toks ≠ [] ∧ bit e.stopToken 31 = true ∧ toks.getLast? = some (e.stopToken % 16777216)
      let max_ := 0 < e.maxGen ∧ e.maxGen ≤ e.genCount + toks.length
      let full := e.transcriptCap ≤ e.transcriptLen + toks.length
      (r.sample = true → res.tokens ≠ [] →
        t.committedLen = r.firstPos + r.posCount ∧ t.transcriptLen = e.transcriptLen + toks.length ∧
        t.genCount = e.genCount + toks.length ∧ B.transcript t = b.transcript e ++ toks.map (fun x => (false, x)) ∧
        (stop → t.state = .done ∧ t.endReason = 1) ∧ (¬ stop → max_ → t.state = .done ∧ t.endReason = 2) ∧
        (¬ stop → ¬ max_ → full → t.state = .done ∧ t.endReason = 3) ∧ (¬ stop → ¬ max_ → ¬ full → t.state = .decode)) ∧
      (r.sample = true → res.tokens = [] → open_ → t.committedLen = e.committedLen ∧ same ∧ t.state = e.state) ∧
      (r.sample = false → open_ → t.committedLen = r.firstPos + r.posCount ∧ same ∧ t.state = e.state)) ∧
    (∀ p, plain → b.LengthsOk slot → s = { trunc := some p } → e.state = .decode → open_ →
      let left := truncTokens p (b.transcript e)
      left.2 ≠ [] → t.state = .decode ∧ t.transcriptLen = left.1.length ∧ t.committedLen = min p e.committedLen ∧
        t.genCount = e.genCount - left.2.length ∧ B.transcript t = left.1 ∧ slot ∈ B.work.trunc) ∧
    (∀ ts close, plain → b.LengthsOk slot → s = { appends := [(ts, close)] } → e.flags.inputOpen = true → appendState e.state = true →
      let fit := ts.take (e.transcriptCap - e.transcriptLen)
      t.transcriptLen = e.transcriptLen + fit.length ∧ B.transcript t = b.transcript e ++ fit.map (fun x => (true, x % 16777216)) ∧
      t.flags.inputOpen = !close ∧
      ((e.maxGen = 0 ∨ e.genCount < e.maxGen) → 0 < e.transcriptLen → ts ≠ [] → e.transcriptCap ≤ e.transcriptLen + ts.length →
        t.state = .done ∧ t.endReason = 3)) ∧
    (∀ tier ttl, plain → s = { sides := [.pause tier ttl] } → e.state = .prefill ∨ e.state = .decode → open_ →
      t.state = .siding ∧ t.sidingExpiry = a + pauseTtl ttl ∧ (slot, tier) ∈ B.work.pause) ∧
    (∀ u, plain → s = { sides := [.resume u] } → e.state = .siding → u < e.sidingExpiry → t.state = .waking ∧ t.sidingExpiry = 0) ∧
    (plain → s = {} → e.state = .siding →
      (e.sidingExpiry ≤ a → e.sidingExpiry ≤ closed → t.state = .done ∧ t.endReason = 5 ∧ slot ∈ B.work.all) ∧
      (a < e.sidingExpiry ∨ closed < e.sidingExpiry → t.state = .siding ∧ t.sidingExpiry = e.sidingExpiry)) ∧
    (∀ p, plain → s = { samplings := [p] } → e.state = .queued ∨ e.state = .prefill ∨ e.state = .decode → open_ →
      t.state = e.state ∧ t.sampling = samplingFields p) ∧
    (plain → s = {} → e.state = .lost → slot ∉ b.work.all → t.state = .rebuild) ∧
    (s = {} → e.state = .lost ∨ e.state = .rebuild → (e.handle, 5) ∈ losses →
      t.state = .done ∧ t.endReason = 6 ∧ slot ∈ B.work.all) ∧
    (∀ h c r, b.byHandle h = some (slot, e) → c ≠ 5 → lossState e.state = true → b.region e.granule = some r →
      let L := b.applyLoss a (h, c)
      let l := L.ent slot
      l.state = .lost ∧ l.committedLen = 0 ∧ l.transcriptLen = e.transcriptLen ∧ l.genCount = e.genCount ∧
      l.lostCount = satInc 65535 e.lostCount ∧ l.handle = h ∧ slot ∈ L.work.all)

/-- What a junction does to the pages. Each tier's free pages are a stack (R99); an allocation takes the top page, evicting node
after node while it is not allowed (R104, R105); a page that no list, node or move holds goes back to the top (R103, R119). A
walk's result, a publication, an eviction, a copy on append, a release and a move out or back do what R108, R113, R115, R116, R118
and R120 say. That a page's first sharer is counted at its allocation is R100. -/
def Obligations.JunctionsMovePages : Prop :=
  (∀ (b : Block) (t : Nat), b.PagesOk →
    (b.popPage t).map (·.1) = (Runs.list (b.pg.stack t)).head?.map (pageOf t) ∧
    ∀ p c, b.popPage t = some (p, c) → Runs.list (c.pg.stack t) = (Runs.list (b.pg.stack t)).tail ∧ c.desc p = { sharers := 1 } ∧
      ∀ q ≠ p, c.desc q = b.desc q) ∧
  (∀ (b : Block) (p : Nat), let d := b.desc p
    if d.node = none ∧ d.movePending = false ∧ d.sharers ≤ 1 then
      Runs.list ((b.unshare p).pg.stack (tierOf p)) = indexOf p :: Runs.list (b.pg.stack (tierOf p))
    else (b.unshare p).desc p = { d with sharers := d.sharers - 1 } ∧ ∀ t, (b.unshare p).pg.stack t = b.pg.stack t) ∧
  (∀ (b : Block) (slot : Nat) (position : Bool), b.PagesOk → b.allocPage slot position =
    if b.allowed (b.ent slot) position then b.popPage 0 else match b.evictOne with
      | some c => c.allocPage slot position
      | none => none) ∧
  (∀ b : Block, b.PagesOk → (b.evictOne = none ↔ ∀ x ∈ b.pg.nodes, b.unreferenced x.2 = false) ∧
    ∀ c, b.evictOne = some c → ∃ i n, (i, n) ∈ b.pg.nodes ∧ b.unreferenced n = true ∧
      (∀ x ∈ b.pg.nodes, b.unreferenced x.2 = true → n.lastUse < x.2.lastUse ∨ n.lastUse = x.2.lastUse ∧ i ≤ x.1) ∧
      c.node? i = none ∧ Runs.list c.pg.freeNodes = i :: Runs.list b.pg.freeNodes ∧
      (∀ j ≠ i, c.node? j = (b.node? j).map fun q => if n.parent = some j then { q with children := q.children - 1 } else q) ∧
      (∀ k, Tab.getD k [] c.pg.buckets = if k = n.bucket then (Tab.getD k [] b.pg.buckets).filter (· ≠ i) else Tab.getD k [] b.pg.buckets) ∧
      ((b.desc n.page).movePending = false →
        Runs.list (c.pg.stack (tierOf n.page)) = indexOf n.page :: Runs.list (b.pg.stack (tierOf n.page)))) ∧
  (∀ (b : Block) (a slot : Nat) (e : Entry) (w : Walk), b.byHandle w.handle = some (slot, e) → w.nodes.Nodup →
    (w.nodes.map b.node?).all Option.isSome = true → ((w.nodes.filterMap b.node?).map (·.page)).Nodup →
    let c := b.applyWalk a w
    let m := w.nodes.length
    c.ent slot = { e with pages := (w.nodes.filterMap b.node?).map (·.page), committedLen := m * b.pageTokens, sharedPages := m } ∧
    (∀ p, c.desc p = if p ∈ (w.nodes.filterMap b.node?).map (·.page) then { b.desc p with sharers := (b.desc p).sharers + 1 } else b.desc p) ∧
    ∀ i, c.node? i = (b.node? i).map fun n => if i ∈ w.nodes then { n with lastUse := a } else n) ∧
  (∀ (b : Block) (slot a : Nat) (ts : List (Bool × Nat)), let e := b.ent slot
    let k := e.sharedPages
    let g := b.pageTokens
    let page := e.pages.getD k 0
    let blk := blockTokens g k ts
    let key := blockKey blk
    let parent := if k = 0 then none else (b.desc (e.pages.getD (k - 1) 0)).node
    let bucket := bucketOf key (if k = 0 then 0 else blockKey (blockTokens g (k - 1) ts)) b.rhizomeNodes
    (e.committedLen < (k + 1) * g ∨ e.pages.length ≤ k ∨ tierOf page ≠ 0 ∨ b.scope = 1 ∧ (∃ x ∈ blk, x.1 = false) →
      b.publishOne slot a ts = none) ∧
    ((k + 1) * g ≤ e.committedLen → k < e.pages.length → tierOf page = 0 → (b.scope = 1 → ∀ x ∈ blk, x.1 = true) →
      (∀ i n, b.findNode e parent k key bucket (blk.map (·.2)) = some i → b.node? i = some n → n.page ≠ page →
        ∃ c, b.publishOne slot a ts = some c ∧ c.ent slot = { e with pages := e.pages.set k n.page, sharedPages := k + 1 } ∧
          (c.desc n.page).sharers = (b.desc n.page).sharers + 1 ∧ c.node? i = some { n with lastUse := a } ∧
          ((b.desc page).node = none → (b.desc page).movePending = false → (b.desc page).sharers ≤ 1 →
            Runs.list (c.pg.stack 0) = indexOf page :: Runs.list (b.pg.stack 0))) ∧
      (∀ i, b.findNode e parent k key bucket (blk.map (·.2)) = none → Runs.head? b.pg.freeNodes = some i → parent ≠ some i →
        ∃ c, b.publishOne slot a ts = some c ∧ c.ent slot = { e with sharedPages := k + 1 } ∧ (c.desc page).node = some i ∧
          c.node? i = some { key, parent, page, children := 0, block := k, lastUse := a, context := nodeContext e,
                             model := e.models % 16, bucket, tokens := blk.map (·.2) } ∧
          Tab.getD bucket [] c.pg.buckets = i :: Tab.getD bucket [] b.pg.buckets ∧
          ∀ p, parent = some p → c.node? p = (b.node? p).map fun q => { q with children := q.children + 1 }) ∧
      (b.findNode e parent k key bucket (blk.map (·.2)) = none → Runs.head? b.pg.freeNodes = none → b.evictOne = none →
        b.publishOne slot a ts = none))) ∧
  (∀ (b c : Block) (slot i step p : Nat) (position : Bool), i < (b.ent slot).pages.length → b.allocPage slot position = some (p, c) →
    let e := b.ent slot
    let old := e.pages.getD i 0
    let d := b.copyOnAppend slot i step position
    let n := e.committedLen - i * c.pageTokens
    d.ent slot = { e with pages := e.pages.set i p, sharedPages := min e.sharedPages i } ∧
    ((c.desc old).sharers > 1 → (d.desc old).sharers = (c.desc old).sharers - 1) ∧
    (n = 0 → d.dsp = c.dsp) ∧
    (0 < n → ∃ r, d.dsp.runs = c.dsp.runs ++ [r] ∧ r.copy = some {
      kind := 1, src := old, dst := p, srcOffset := 0, dstOffset := 0, posCount := min n c.pageTokens, handle := e.handle, seq := none, step, epoch := c.cp.epoch })) ∧
  (∀ (b : Block) (slot n : Nat), let e := b.ent slot
    let gone := e.pages.drop n ++ e.scratch
    b.PagesOk → gone.Nodup → (∀ p ∈ gone, tierOf p = 0 ∧ (b.desc p).node = none ∧ (b.desc p).movePending = false ∧ (b.desc p).sharers ≤ 1) →
    let c := b.releaseFrom slot n true
    c.ent slot = { e with pages := e.pages.take n, scratch := [] } ∧
    Runs.list (c.pg.stack 0) = gone.map indexOf ++ Runs.list (b.pg.stack 0)) ∧
  (∀ (b c : Block) (slot t i q : Nat), i < (b.ent slot).pages.length → b.popPage t = some (q, c) → (b.ent slot).pages.getD i 0 ≠ q →
    let e := b.ent slot
    let p := e.pages.getD i 0
    let d := b.moveOut slot t i
    d.ent slot = { e with pages := e.pages.set i q } ∧ d.pg.nextMoveSeq = add32 b.pg.nextMoveSeq 1 ∧
    d.pg.moves = b.pg.moves ++ [{ seq := b.pg.nextMoveSeq, src := p, dst := q, handle := e.handle, back := false, cls := classOf e.classPrio,
                                  level := e.effectivePrio % 16 }] ∧
    d.desc p = { b.desc p with movePending := true, sharers := (b.desc p).sharers - 1 } ∧ d.desc q = { sharers := 1, movePending := true }) ∧
  (∀ (b : Block) (m : Move), b.PagesOk → m ∈ b.pg.moves → m.src ≠ m.dst → let c := b.closeMove m
    c.pg.moves = b.pg.moves.filter (fun x => x.seq ≠ m.seq) ∧
    ((∀ x ∈ b.pg.moves, x.seq = m.seq ∨ x.src ≠ m.src ∧ x.dst ≠ m.src) → (b.desc m.src).sharers = 0 → (b.desc m.src).node = none →
      tierOf m.src ≠ tierOf m.dst → (b.desc m.dst).sharers ≠ 0 →
      Runs.list (c.pg.stack (tierOf m.src)) = indexOf m.src :: Runs.list (b.pg.stack (tierOf m.src)))) ∧
  State.reset.blk.PagesOk ∧
  (∀ (b : Block), b.PagesOk → (∀ t p c, b.popPage t = some (p, c) → c.PagesOk) ∧ (∀ p, (b.unshare p).PagesOk) ∧
    (∀ c, b.evictOne = some c → c.PagesOk) ∧ (∀ s x p c, b.allocPage s x = some (p, c) → c.PagesOk) ∧ (∀ a w, (b.applyWalk a w).PagesOk) ∧
    (∀ s a ts c, b.publishOne s a ts = some c → c.PagesOk) ∧ (∀ s i n x, (b.copyOnAppend s i n x).PagesOk) ∧
    (∀ s n x, (b.releaseFrom s n x).PagesOk) ∧ (∀ s t i, (b.moveOut s t i).PagesOk) ∧ ∀ m, (b.closeMove m).PagesOk)

/-- What a junction does to priorities, deadlines, rations and shares: EFFECTIVE_PRIO is worked out from the slack (R71); a
CADENCE or an ABSOLUTE request misses its deadline, by a token written late (R73) or at the junction (R74, R75); rows and tokens
are charged to the tenant's buckets, or to the class's reserve (R85, R86), which refill; a RATIO class's share moves towards its
target (R79). That a VOICE_RESERVE request draws on the reserve in whatever state its row ran is the model's own choice (log entry
110), as is that a row which yields no token keeps its debit (log entry 125). -/
def Obligations.JunctionsChargeThePolicy : Prop :=
  (∀ (b : Block) (a slot : Nat), let e := b.ent slot
    let c := (b.cls (classOf e.classPrio)).cfg
    let base := baseLevel e.classPrio
    (activeState e.state = false → b.updatePrio a slot = b) ∧
    (activeState e.state = true → ∃ level ≤ base, b.updatePrio a slot = b.setEnt slot { e with effectivePrio := (base - level) * 16 + level } ∧
      (base ≤ c.ceiling ∨ e.deadlineMode = 0 → level = base) ∧ (c.ceiling < base → c.ceiling ≤ level) ∧
      (c.ceiling < base → e.deadlineMode ≠ 0 → e.nextDeadline < 2 ^ 62 → a + 2 * b.cp.stepEst < 2 ^ 62 → level = max c.ceiling (base -
        ((c.thresh.take c.numThresh).filter fun t => decide ((e.nextDeadline : Int) - ((a + 2 * b.cp.stepEst : Nat) : Int) < t)).length)))) ∧
  (∀ (b : Block) (a slot : Nat), let e := b.ent slot
    let t := b.checkDeadline a slot
    let misses := activeState e.state = true ∧ e.nextDeadline < a ∧ (e.deadlineMode = 2 ∨ e.deadlineMode = 1 ∧ e.deadlinesMissed = 0)
    (¬ misses → t = b) ∧
    (misses → (t.ent slot).deadlinesMissed = satInc 65535 e.deadlinesMissed ∧ (t.ent slot).state = e.state ∧
      (t.ent slot).nextDeadline = (if e.deadlineMode = 2 then a + e.cadencePeriod else e.nextDeadline) ∧
      (t.tenant e.tenant).counters.deadlineMisses = (b.tenant e.tenant).counters.deadlineMisses + 1 ∧
      ((b.side slot).ended = false → 2 ≤ freeEvents e → ∃ x, t.gr.lastEvents = b.gr.lastEvents ++ [(x, e.eventRing, e.eventProd,
        { code := 4, handle := e.handle, time := a, arg0 := e.transcriptLen, arg2 := a - e.nextDeadline })]))) ∧
  (∀ (b : Block) (slot w p pos n : Nat), let e := b.ent slot
    let t := (b.cadence slot w p pos n).ent slot
    (w ≤ e.nextDeadline → t = { e with nextDeadline := e.nextDeadline + n * p }) ∧
    (e.nextDeadline < w → 0 < n → t.nextDeadline = w + n * p ∧ t.deadlinesMissed = satInc 65535 e.deadlinesMissed)) ∧
  (∀ (b : Block) (r : RowRec) (slot : Nat) (e : Entry), b.byHandle r.handle = some (slot, e) →
    let u := b.tenant e.tenant
    let charged := r.kind = 1 ∧ r.rebuild = false ∨ r.kind = 2
    (¬ charged → b.debitRow r = b) ∧
    (charged → (∀ i ≠ e.tenant, (b.debitRow r).tenant i = b.tenant i) ∧ (b.debitRow r).tenant e.tenant = { u with
      prefill := if prefillUnlimited u.cfg then u.prefill else u.prefill - 256 * (r.posCount : Int)
      counters := { u.counters with prefillPositions := u.counters.prefillPositions + r.posCount } })) ∧
  (∀ (b : Block) (e : Entry) (n : Nat), let t := b.debitTokens (e, n)
    let u := b.tenant e.tenant
    let draws := e.flags.voiceReserve = true ∧ u.gen ≤ 0 ∧ genUnlimited u.cfg = false
    (draws → t.tenant e.tenant = { u with counters := { u.counters with reserveUsed := u.counters.reserveUsed + n } } ∧
      t.pol.classes = b.pol.classes.modify (classOf e.classPrio) fun c => { c with reserve := c.reserve - 256 * (n : Int) }) ∧
    (¬ draws → t.pol.classes = b.pol.classes ∧ t.tenant e.tenant = { u with
      gen := if genUnlimited u.cfg then u.gen else u.gen - 256 * (n : Int)
      counters := { u.counters with generatedTokens := u.counters.generatedTokens + n } })) ∧
  (∀ (b : Block) (a : Nat), let ticks : Int := if b.pol.tickValid then ((a / 1000000 : Nat) : Int) - b.pol.lastTick else 0
    (b.refill a).pol.lastTick = a / 1000000 ∧ (b.refill a).pol.tickValid = true ∧
    (∀ (i : Nat) (u : TenantState), Tab.get? i b.pol.tenants = some u → Tab.get? i (b.refill a).pol.tenants = some { u with
      prefill := min (256 * (u.cfg.prefillBurst : Int)) (u.prefill + ticks * u.cfg.prefillRate)
      gen := min (256 * (u.cfg.genBurst : Int)) (u.gen + ticks * u.cfg.genRate) }) ∧
    ∀ (i : Nat) (c : ClassState), b.pol.classes[i]? = some c → (b.refill a).pol.classes[i]? = some { c with
      reserve := min (256 * (c.cfg.reserveBurst : Int)) (c.reserve + ticks * c.cfg.reserveRate) }) ∧
  (∀ (b : Block) (a i : Nat) (c : ClassState), i < 8 → b.pol.classes[i]? = some c →
    let mine := (Tab.vals b.gr.entries).filter fun e => classOf e.classPrio == i
    let q := ((mine.filter fun e => e.state == .queued || e.state == .prefill).map fun e => e.transcriptLen - e.committedLen).sum
    let late := mine.any fun e => (e.state == .decode || e.state == .rebuild) && e.deadlineMode != 0 &&
      decide (slackOf e a b.cp.stepEst < c.cfg.slackGuard)
    let target := if late then c.cfg.shareMin
      else c.cfg.shareMin + (c.cfg.shareMax - c.cfg.shareMin) * min q c.cfg.shareQref / c.cfg.shareQref
    ∃ s, (b.updateShares a).pol.classes[i]? = some { c with share := s } ∧ (c.cfg.mode ≠ 1 → s = c.share) ∧
      (c.cfg.mode = 1 → (c.share + 16 < target → s = c.share + 16) ∧ (target + 16 < c.share → s + 16 = c.share) ∧
        (c.share ≤ target + 16 → target ≤ c.share + 16 → s = target)))

/-- LEAD_TIMER_EXPIRY queries the endpoint of a lead that has missed its junction; an answer from a live endpoint starts a
takeover, none, or that it is not, stops the instance (R235, R236, R346). TAKEOVER of a newer term from another rank: its term,
lead and barred lead are adopted, logs and READYs of the junction not agreed go with the CAP_SETs that wait (log entry 103), and
the instance answers with the copies of its verdicts; one of an older term is discarded. TAKEOVER_ACK is kept once for each rank
(log entry 101), and TAKEOVER_TIMEOUT stops a new lead whose collection is not complete after 250 µs (R237, R238, R272, R273). -/
def Obligations.MissedLeadsAreReplaced : Prop :=
  (∀ (x : State) (t : Nat), x.Serving →
     let b := x.seen t .fp
     let result := fun B => Host.Outcome.next (x.settled (x.blk.atTime t) B)
     (b.leadMissed = true → exec (.leadTimerExpiry t) x = result
       (({ b with fab := { b.fab with query := some (b.cp.leadRank, b.now) } } : Block).emit (.endpointQuery b.cp.leadRank))) ∧
     (b.leadMissed = false → exec (.leadTimerExpiry t) x = result b) ∧
     (∀ r at_, b.fab.query = some (r, at_) → b.running = true →
       let closed := { b with fab := { b.fab with query := none } }
       exec (.endpointResponse t r true) x = result (closed.send none (.takeover (b.cp.applied + 1) (b.cp.term + 1) r b.cp.applied)) ∧
       exec (.endpointResponse t r false) x = result (closed.stop .leadLost srcCoupling [r]) ∧
       exec (.endpointQueryTimeout t) x = result (closed.stop .leadLost srcCoupling [r])) ∧
     (b.fab.query = none → exec (.endpointQueryTimeout t) x = result b ∧ ∀ r a, exec (.endpointResponse t r a) x = result b)) ∧
  (∀ (x : State) (t : Nat) (rx : Rx), x.Serving → x.blk.Whole rx 1 →
     let b := x.got t rx 1
     let result := fun B => Host.Outcome.next (x.settled (x.blk.atTime t) B)
     b.running = true →
     (∀ j term old, b.cp.term < term → rx.src ≠ b.cp.rank → b.isLead = false → b.cp.collect = none → b.verdictsHeld = [] →
       let a := b.adoptTerm rx.src term old
       exec (.takeover t rx j term old) x = result
         (((({ a with pwr := { a.pwr with waiting := [] } } : Block).send (some rx.src) (.takeoverAck j term b.cp.applied 0)).sendCapReport).sendReports
           fun _ => true)) ∧
     (∀ j term old, term < b.cp.term → exec (.takeover t rx j term old) x = result (b.count 22)) ∧
     (∀ c k, b.cp.collect = some c → Tab.has rx.src c.acks = false → rx.src < b.cp.n →
       exec (.takeoverAck t rx b.cp.term k) x = result { b with cp := { b.cp with collect := some { c with acks := Tab.set rx.src k c.acks } } }) ∧
     (∀ c, x.blk.cp.collect = some c → x.blk.running = true → c.sentAt + 250000 ≤ (x.blk.atTime t).now →
       exec (.takeoverTimeout t) x = .next (x.settled (x.blk.atTime t)
         ((x.blk.atTime t).stop .takeoverTimeout srcCoupling [c.junction]))))

/-! ### Proposals, caps and losses of the group (chapters 9, 10 and 16) -/

/-- PROPOSE from the lead reads the staged images, is staged under the lead's term and answered PREPARED with what a footprint
needs, or stays open without effect and is answered REFUSED with its status (R359); content of an earlier proposal whose junction
has not been applied stays beside it (R233); PREPARED and REFUSED of the open proposal are kept by rank (R231, R232). CAP_REPORT
newer than the one held is kept by the lead, and a lower cap is set for the group at the next junction; CAP_SET for a junction
already applied falls at once, for a later one it waits, and its rank is kept with the newest (R272, R273, Table 10-5).
LOSS_REPORT of a live request, or of a bank, enters the lead's next log; LOSS_REPORT_RESEND sends a report of 20 µs ago again
(R426, R427). -/
def Obligations.ProposalsCapsAndLossesReachTheGroup : Prop :=
  (∀ (x : State) (t : Nat) (rx : Rx) (h : EpochHead), x.Serving → x.blk.Whole rx 4 →
     let b := x.got t rx 4
     let result := fun B => Host.Outcome.next (x.settled (x.blk.atTime t) B)
     let answer := { h with source := b.cp.rank, leadTerm := b.cp.term }
     b.running = true → h.leadTerm = b.cp.term →
     let first := ∀ s, b.cp.staged = some s → s.number = h.proposal ∨ s.junction ≤ b.cp.applied
     let held := fun (st : StagedProposal) (c : Block) => (first → c = { b with cp := { b.cp with staged := some st, stageLost := false } }) ∧
       (¬ first → c = { b with cp := { b.cp with stagedNext := some st } })
     (∀ c st, rx.src = b.cp.leadRank → b.stageContent x.view h.proposal h.junction h.epoch c.params = .inl st →
       ∃ k, held { st with term := h.leadTerm } k ∧
         let staged := k.readProposal c.params st
         let size := staged.preparedSizes st
         exec (.propose t rx h c) x = result (staged.send (some rx.src) (.prepared answer size.1 size.2.1 size.2.2))) ∧
     (∀ c st detail, rx.src = b.cp.leadRank → b.stageContent x.view h.proposal h.junction h.epoch c.params = .inr (st, detail) →
       let open_ : StagedProposal := { number := h.proposal, junction := h.junction, epoch := h.epoch, params := c.params, stage := none
                                       template := none, map := [], platforms := [], prepared := false, term := h.leadTerm }
       ∃ k, held open_ k ∧ exec (.propose t rx h c) x = result (k.send (some rx.src) (.refused answer st detail))) ∧
     (∀ c, rx.src ≠ b.cp.leadRank → exec (.propose t rx h c) x = result b) ∧
     (∀ p mem page fixed, b.seq.proposal = some p → p.number = h.proposal → Tab.has rx.src p.refused = false →
       exec (.prepared t rx h mem page fixed) x = result { b with seq := { b.seq with
         proposal := some { p with prepared := Tab.set rx.src (mem, page, fixed) p.prepared } } }) ∧
     (∀ p st detail, b.seq.proposal = some p → p.number = h.proposal →
       exec (.refused t rx h st detail) x = result { b with seq := { b.seq with
         proposal := some { p with refused := Tab.set rx.src (st, detail) p.refused, prepared := Tab.erase rx.src p.prepared } } })) ∧
  (∀ (x : State) (t cap rank sq : Nat) (rx : Rx) (h : EpochHead), x.Serving → x.blk.Whole rx 4 →
     let b := x.got t rx 4
     let result := fun B => Host.Outcome.next (x.settled (x.blk.atTime t) B)
     let set := GroupCap.mk cap rank
     let heard := { b with pwr := { b.pwr with
       setSeq := max b.pwr.setSeq sq, setRank := if b.pwr.setSeq ≤ sq then rank else b.pwr.setRank } }
     b.running = true → h.leadTerm = b.cp.term →
     (b.isLead = true → b.pwr.reports = [] → cap < b.pwr.setCap → b.pwr.setCap ≤ 0xFFFF → b.cp.collect = none →
      b.seq.closed = none →
       exec (.capReport t rx h cap sq) x = result
         (({ b with pwr := { b.pwr with reports := [(rx.src, sq, cap)], setSeq := b.pwr.setSeq + 1, setCap := cap, setRank := rx.src
                                        setEffective := b.cp.applied + 1 } } : Block).send none
           (.capSet { source := b.cp.rank, proposal := 0, leadTerm := b.cp.term, epoch := 0, junction := 0 } cap
             (b.pwr.setSeq + 1) (b.cp.applied + 1) rx.src))) ∧
     (∀ old, b.isLead = true → Tab.get? rx.src b.pwr.reports = some old → sq ≤ old.1 →
       exec (.capReport t rx h cap sq) x = result b) ∧
     (∀ eff, b.pwr.appliedSeq < sq → b.cp.applied < eff → (b.pwr.waiting.filter fun w => w.1 != sq) = b.pwr.waiting →
       exec (.capSet t rx h set sq eff) x = result { heard with pwr := { heard.pwr with waiting := b.pwr.waiting ++ [(sq, cap, eff)] } }) ∧
     (∀ eff, b.pwr.appliedSeq < sq → eff ≤ b.cp.applied → exec (.capSet t rx h set sq eff) x = result (heard.applyGroupCap sq cap)) ∧
     (∀ eff, sq ≤ b.pwr.appliedSeq → exec (.capSet t rx h set sq eff) x = result b)) ∧
  (∀ (x : State) (t : Nat) (rx : Rx) (h : EpochHead) (r : LossReport), x.Serving → x.blk.Whole rx 4 →
     let b := x.got t rx 4
     let result := fun B => Host.Outcome.next (x.settled (x.blk.atTime t) B)
     b.running = true → h.leadTerm = b.cp.term →
     (b.isLead = true → r.bankReport = true →
       exec (.lossReport t rx h r) x = result { b with seq := { b.seq with banks := b.seq.banks ++ [r.bank] } }) ∧
     (∀ e, b.isLead = true → r.bankReport = false → b.byHandle r.handle = some e →
       exec (.lossReport t rx h r) x = result { b with seq := { b.seq with losses := b.seq.losses ++ [(r.handle, r.cause)] } }) ∧
     (b.isLead = true → r.bankReport = false → b.byHandle r.handle = none → exec (.lossReport t rx h r) x = result b) ∧
     (∀ sent, x.blk.running = true → x.blk.flt.reports = [(r, sent)] → sent + 20000 ≤ (x.blk.atTime t).now →
       let b := x.blk.atTime t
       let again := { b with flt := { b.flt with reports := [(r, b.now)] } }
       exec (.lossReportResend t) x = .next (x.settled b (again.send (some b.cp.leadRank) (.lossReport again.epochHead r)))))

/-! ### Formation (chapter 18) -/

/-- FORM_REPORT of this formation is kept by rank and the result is worked out; one with OLD_STATE of the junction after the last
applied here first closes the lag of that junction where its log and this rank's READY are held; FORM_COMMIT is held until the
result is worked out (log entry 42), ROSTER entries join the roster; a message of another formation is counted, and an instance
whose DIAG is FAIL takes none. FORM_REPORT_REPEAT sends the report again after 20 µs, until the group's first junction has been
applied (log entry 59). FORMATION_TIMEOUT after 1 s ends the formation: an instance that held state goes back to Buffer Stop and
its RECOVER is answered 0x0601, a fresh one stays in FORMING with nothing of the formation left, and its RECOVER is answered
0x0604 (R435, R438, R441, R474, R479 to R481). -/
def Obligations.FormationCollectsReports : Prop :=
  ∀ (x : State) (t : Nat) (rx : Rx) (f : Formation), x.Serving → x.blk.Whole rx 4 → x.blk.form = some f →
    let b := x.got t rx 4
    let result := fun B => Host.Outcome.next (x.settled (x.blk.atTime t) B)
    (b.unfit = true → ∀ r c id es, exec (.formReport t rx r) x = result b ∧ exec (.formCommit t rx c) x = result b ∧
      exec (.roster t rx id es) x = result b) ∧
    (b.unfit = false →
      (∀ r, r.recoverId = f.recoverId → r.n = b.cp.n → rx.src < b.cp.n →
        let kept := fun (d : Block) => (d.setForm fun f => { f with reports := Tab.set rx.src r f.reports }).workOut x.view
        (∀ l own, b.cp.log = some l → b.cp.sent = some own → r.oldState = true → f.fresh = false → f.committed = false →
          l.junction = b.cp.applied + 1 → r.junction = l.junction →
          let readies := own :: Tab.vals b.cp.ready
          let a := readies.foldl (fun m y => max m y.doneTime) 0
          let d := b.applyLog l a ((minBy before32 (readies.map (·.moveSeq))).getD b.pg.nextMoveSeq)
          exec (.formReport t rx r) x = result (kept
            (({ d with cp := { d.cp with ready := [], sent := none, readySent := none, lastReady := some own, stepDone := none
                                         complete := false } } : Block).logEffects b l a).sendReport)) ∧
        (r.oldState = false ∨ f.fresh = true ∨ f.committed = true ∨ r.junction ≠ b.cp.applied + 1 ∨ b.cp.sent = none ∨
            (∀ l, b.cp.log = some l → l.junction ≠ r.junction) →
          exec (.formReport t rx r) x = result (kept b))) ∧
      (∀ r, r.recoverId = f.recoverId → r.n = b.cp.n → b.cp.n ≤ rx.src → exec (.formReport t rx r) x = result b) ∧
      (∀ r, r.recoverId ≠ f.recoverId ∨ r.n ≠ b.cp.n → exec (.formReport t rx r) x = result (b.count 22)) ∧
      (∀ c, c.recoverId = f.recoverId → c.n = b.cp.n → f.committed = false →
        exec (.formCommit t rx c) x = result
          (({ b with form := some { f with held := some { c with source := rx.src } } } : Block).tryCommit x.view)) ∧
      (∀ c, c.recoverId = f.recoverId → c.n = b.cp.n → f.committed = true → exec (.formCommit t rx c) x = result b) ∧
      (∀ c, c.recoverId ≠ f.recoverId ∨ c.n ≠ b.cp.n → exec (.formCommit t rx c) x = result (b.count 22)) ∧
      (∀ es, f.committed = false →
        exec (.roster t rx f.recoverId es) x = result { b with form := some { f with
          roster := (f.roster.filter fun y => !(es.any fun e => e.handle == y.handle)) ++ es } })) ∧
    (let b := x.blk.atTime t
     let result := fun B => Host.Outcome.next (x.settled b B)
     (b.firstApplied f = true ∨ b.unfit = true ∨ b.now < f.sentAt + 20000 → exec (.formReportRepeat t) x = result b) ∧
     (f.sentAt + 20000 ≤ b.now → b.firstApplied f = false → b.unfit = false →
       exec (.formReportRepeat t) x = result
         (({ b with form := some { f with sentAt := b.now } } : Block).send none (.formReport (b.ownReport f)))) ∧
     (f.since + 1000000000 ≤ b.now →
       ∃ c : Block, exec (.formationTimeout t) x = result
           (c.postDeferred (fun _ d => d.opcode == 0x0602) (if f.fresh then 0x0604 else 0x0601) []) ∧
         c.form = none ∧ c.seq.cmds = [] ∧ c.seq.tickets = [] ∧ c.gr = b.gr ∧ c.ses = b.ses ∧
         (f.fresh = true → c.cp.state = b.cp.state ∧ c.flt = b.flt ∧ c.cp.term = 0 ∧ c.cp.leadRank = 0 ∧ c.cp.barred = [] ∧
           c.cp.applied = 0 ∧ c.cp.digest = 0 ∧ c.cp.log = none ∧ c.cp.ready = [] ∧ c.cp.sent = none) ∧
         (f.fresh = false → c.cp.state = .bufferStop ∧ c.flt = b.flt.back f.former ∧ c.cp.applied = b.cp.applied ∧
           c.cp.term = b.cp.term)) ∧
     (b.now < f.since + 1000000000 → exec (.formationTimeout t) x = result b))

/-! ### The Gradient (chapter 10) -/

/-- TELEMETRY_FRAME: a frame whose CRC fails, or a second one of a tick, is discarded and counted, another one is the next tick
(R253, R363). A rail in HARD for HARD_STUCK, or an enabled one without a valid sample for 1,000 ns, stops the instance, and before
that nothing happens (R253, R260). CALIBRATION_WINDOW where one rail is enabled: its window ends; one with HARD in it, or without
a tick, corrects nothing, and one that is not under-predicted corrects the energy classes that ran; the next one begins with the
rail as it stands. The DROOP commands: the warning's rise is remembered and recorded under the rail whose L takes longest to reach
its cap (R276), its fall ends it, with K back at cap_rail from the next tick, and once it has held for DROOP_RAMP_AFTER every
rail's K is the smaller of K and L (R265, R266, R268). -/
def Obligations.TelemetryMovesTheRails : Prop :=
  (∀ (x : State) (t : Time), x.Serving →
     let b := x.seen t .pw
     let e := x.blk.atTime t
     (∀ f, f.crcOk = false ∨ (0 < b.pwr.tick ∧ tickOf b.now = tickOf b.pwr.lastFrame) →
       exec (.telemetryFrame t f) x = .next (x.settled e (b.count 28))) ∧
     (∀ f, f.crcOk = true → b.pwr.tick = 0 ∨ tickOf b.now ≠ tickOf b.pwr.lastFrame →
       exec (.telemetryFrame t f) x = .next (x.settled e (b.tick f.samples b.nextItem b.startItem))) ∧
     (∀ r, (e.rail r).hard = true → (e.rail r).hardSince + e.pwr.global.hardStuck * 1000 ≤ e.now →
       exec (.hardStuck t r) x = .next (x.settled e (e.stop .hardStuck srcGradient [r]))) ∧
     (∀ r, (e.rail r).hard = false ∨ e.now < (e.rail r).hardSince + e.pwr.global.hardStuck * 1000 →
       exec (.hardStuck t r) x = .next (x.settled e e)) ∧
     (∀ r, (e.rail r).cfg.enable = true → (e.rail r).lastValid + 1000 ≤ e.now →
       exec (.telemetryLoss t r) x = .next (x.settled e (e.stop .telemetry srcGradient [r]))) ∧
     (∀ r, (e.rail r).cfg.enable = false ∨ e.now < (e.rail r).lastValid + 1000 →
       exec (.telemetryLoss t r) x = .next (x.settled e e))) ∧
  (∀ (x : State) (t : Time), x.Serving →
     let b := x.seen t .pw
     let e := x.blk.atTime t
     let fresh := fun r => ({
       hard := (e.rail r).hard, peak := e.levelNow r
       classes := ((e.dsp.platforms.filter fun p => (e.groupsOf r).contains p.2.entry.engineGroup).filterMap fun p =>
         (e.dsp.openItems.filter fun o => o.platform == p.1 && !o.held).head?.map (·.energy)).eraseDups } : RailWindow)
     (∀ r, enabledRails e = [r] → (e.rail r).window.hard = true ∨ (e.rail r).window.ticks = 0 →
       exec (.calibrationWindow t) x = .next (x.settled e (e.modRail r fun y => { y with window := fresh r }))) ∧
     (∀ r, enabledRails e = [r] →
       let y := e.rail r
       let w := y.window
       let m : Int := (w.sample : Int) - w.ticks * (y.cfg.base : Int)
       let pg : Int := (w.level : Int) - w.ticks * (y.cfg.base : Int)
       w.hard = false → w.ticks ≠ 0 → r < e.pwr.rails.length → y.recal = false → 0 < w.raw → 0 < pg → e.pwr.global.recalWindows ≠ 0 →
       (m - pg) * 1000 ≤ (e.pwr.global.recalErr : Int) * pg →
       exec (.calibrationWindow t) x = .next (x.settled e (e.modRail r fun y => { y with
         window := fresh r, overs := 0
         energy := correctTable y.energy w.classes (m - w.fill - w.raw) (w.raw * 2 ^ e.pwr.global.onlineShift) }))) ∧
     (b.pwr.droop = none → exec (.droopWarningAssert t) x = .next (x.settled e
       (({ b with pwr := { b.pwr with droop := some b.now } } : Block).powerRecord 7 b.pwr.capBy b.worstRail b.pwr.cap b.pwr.cap))) ∧
     (b.pwr.droop ≠ none → exec (.droopWarningAssert t) x = .next (x.settled e b)) ∧
     (b.pwr.droop ≠ none → exec (.droopWarningDeassert t) x = .next (x.settled e { b with pwr := { b.pwr with
       droop := none, ramp := false, droopEnd := true } })) ∧
     (b.pwr.droop = none → exec (.droopWarningDeassert t) x = .next (x.settled e b)) ∧
     (∀ d, e.pwr.droop = some d → e.pwr.ramp = false → d + e.pwr.global.droopRampAfter ≤ e.now → e.pwr.rails.length = 16 →
       ∃ rails, exec (.droopRamp t) x = .next (x.settled e { e with pwr := { e.pwr with ramp := true, rails := rails } }) ∧
         rails.length = 16 ∧ ∀ r, r < 16 → rails[r]? = some { e.rail r with k := min (e.rail r).k (e.levelNow r) }) ∧
     (∀ d, e.pwr.droop = some d → e.now < d + e.pwr.global.droopRampAfter → exec (.droopRamp t) x = .next (x.settled e e)))

/-- What a tick does to a rail, where one is enabled and no cap, configuration or deadline waits: it takes the sample; enters HARD
where the average of 4 samples exceeds HARD_LIMIT, with phi 0, MAX at HARD_THROTTLE and every F lowered to the release level, and
leaves it at the release level with K and phi from L (R259); else K falls to the cap by SD, F rises by SU and falls by SD at most
towards dexp, U is the least limit, and phi the smallest floor that holds L - SD (R256). The grants are R254's, the forecast
carries F (R264). A changed C sets cap_rail and K of every enabled rail (R270). What F of a tick in HARD becomes is an open value. -/
def Obligations.TicksMoveTheRails : Prop :=
  (∀ (b : Block) (samples : List (Option Nat)) (next start : Nat → Nat) (r : Nat), enabledRails b = [r] → b.pwr.pendingCfg = [] →
    b.pwr.touched = [] → b.pwr.state = .normal → b.pwr.deadline = none → b.pwr.rails.length = 16 →
    let x := b.rail r
    let ss := match samples.getD r none with
      | some s => (s :: x.samples).take 40
      | none => x.samples
    let enters := x.hard = false ∧ 4 ≤ ss.length ∧ 4 * x.cfg.hardLimit < (ss.take 4).sum
    let stays := x.hard = true ∧ 4 * x.cfg.hardRelease * x.cfg.hardLimit < (ss.take 4).sum * 1000
    let l := b.levelNow r
    let t := b.tick samples next start
    let y := t.rail r
    let cr := if b.pwr.ramp then x.cfg.base else x.capRail
    let k := if x.hard then l else if b.pwr.droopEnd then cr else max cr (x.k - x.sd)
    let prev := x.fore.getLastD x.cfg.base
    let target := if x.hard then l else l - x.sd
    y.samples = ss ∧ y.cfg = x.cfg ∧ y.capRail = x.capRail ∧
    (enters → y.hard = true ∧ y.hardSince = b.now ∧ y.phi = 0 ∧ y.k = x.k ∧
      ∃ f, y.fore = (x.fore.map fun f => min f (x.cfg.hardRelease * x.cfg.hardLimit / 1000)).drop 1 ++ [f]) ∧
    (stays → y.hard = true ∧ y.hardSince = x.hardSince ∧ y.phi = x.phi ∧ y.k = x.k ∧ ∃ f, y.fore = x.fore.drop 1 ++ [f]) ∧
    (¬ enters → ¬ stays → y.hard = false ∧ y.k = k ∧ ∃ d, x.cfg.base ≤ d ∧ (b.running = false ∨ b.pwr.ramp = true → d = x.cfg.base) ∧
      let f := min (min x.cfg.hardLimit (max cr (k - b.pwr.fft * x.sd))) (min (prev + x.su) (max d (prev - x.sd)))
      y.fore = x.fore.drop 1 ++ [if b.pwr.droop.isSome then min f prev else f] ∧
      y.u = min (min (x.cfg.hardLimit : Int) ((40 * x.cfg.sustLimit : Nat) - ((ss.take 39).sum : Nat))) (min (k : Int) (y.fore.headD x.cfg.base : Nat)) ∧
      y.phi ≤ 128 ∧ (∀ q < y.phi, b.level [] r q < target) ∧ (y.phi = 128 ∨ target ≤ b.level [] r y.phi)) ∧
    (∀ g, b.pwr.configured = true → b.sb.safe = false → (b.group g).rail = r →
      t.grant g = (if y.hard then x.cfg.hardThrottle else 128, y.phi)) ∧
    (b.sb.safe = false → ∃ due crc, Out.forecast [(r, y.fore.getLastD x.cfg.base, y.hard)] due crc ∈ t.out)) ∧
  (∀ (c : RailCfg) (cap : Nat), capRailOf c cap = if cap = 0xFFFF then c.hardLimit else max c.base (4 * cap * c.capShare / max 1 c.nominalMv)) ∧
  ∀ (b : Block) (ch : CapChange) (r : Nat), b.pwr.rails.length = 16 → r < 16 →
    let x := b.rail r
    let cr := capRailOf x.cfg ch.new_
    (b.setCapRails ch).rail r = if x.cfg.enable then { x with capRail := cr, k := if cr < b.levelNow r then b.levelNow r else cr } else x

/-! ### The Management Port (chapters 13 and 14) -/

/-- A packet that comes at the Management Port: its transport header is DSP0236's. One whose CRC is not that of its bytes, and one
for another endpoint, is discarded and counted; a packet of no message being put together, and of another sender or tag than those
that are, is dropped. The first packet of a message opens it, a packet in sequence continues it, and the last completes it, up to
4,352 bytes and 4 messages at once; a fifth start, a packet out of sequence, a type that is not supported and a message with an
integrity check give the message up, and it counts (R370, R371). A complete request of a command outside the subsets is answered
ERROR_UNSUPPORTED_CMD, ERROR_UNSUPPORTED_PLDM_CMD or UnsupportedRequest, whatever row shows its last packet (R371, R396, R397;
which packet a row shows, and what counts, is log entry 62). MCTP control: Set Endpoint ID sets the EID, and its operation or EID
out of range is refused; the queries read. An answer leaves under the request's tag as packets of 64 bytes of payload, each with
the transport header and its CRC, and none under WS_SAFE (R370, R371, R372). Codes and layouts are DSP0236's (log entry 60). PLDM
queries: each answers with its completion code and its data, and changes nothing (R396, Table 14-6). Codes and layouts are
DSP0240's and DSP0267's (log entry 60). -/
def Obligations.ManagementQueriesAreAnswered : Prop :=
  ((∀ (b : Block) (m : MctpMsg),
     let at_ := fun i => (m.packet.getD i 0).toNat
     let source := at_ 2
     let flow := at_ 3 % 16
     let counted := fun (b : Block) => { b with sb := { b.sb with mctpDiscards := b.sb.mctpDiscards + 1 } }
     let others := b.sb.mctpParts.filter fun p => !(p.source == source && p.flow == flow)
     let size := m.packet.length - 4
     (m.crc ≠ crc32c m.packet → b.mctpTake m = (none, counted b)) ∧
     (m.crc = crc32c m.packet → bit (at_ 3) 7 = false → (∀ p ∈ b.sb.mctpParts, ¬ (p.source = source ∧ p.flow = flow)) →
       b.mctpTake m = (none, b)) ∧
     (m.crc = crc32c m.packet → bit (at_ 3) 7 = true → at_ 1 ≠ b.sb.eid → at_ 1 ≠ 0 ∨ at_ 4 ≠ 0 → b.mctpTake m = (none, counted b)) ∧
     (m.crc = crc32c m.packet → bit (at_ 3) 7 = true → at_ 1 = b.sb.eid → at_ 1 ≠ 0 →
       let opened := { b with sb := { b.sb with mctpParts := others } }
       (at_ 4 ∉ [0, 1, 5] → b.mctpTake m = (none, counted opened)) ∧
       (at_ 4 ∈ [0, 1, 5] → bit (at_ 3) 6 = true → 0 < size → size ≤ 64 →
         b.mctpTake m = (some { source, tag := flow % 8, bytes := (m.packet.drop 4).take 4 }, opened)) ∧
       (at_ 4 ∈ [0, 1, 5] → bit (at_ 3) 6 = false → size = 64 → others.length < 4 →
         b.mctpTake m = (none, { b with sb := { b.sb with mctpParts := others ++ [{
           source, flow, next := (at_ 3 / 16 + 1) % 4, size := 64, head := (m.packet.drop 4).take 4 }] } })) ∧
       (bit (at_ 3) 6 = false → 4 ≤ others.length → b.mctpTake m = (none, counted opened))) ∧
     (∀ p, m.crc = crc32c m.packet → bit (at_ 3) 7 = false → at_ 1 = b.sb.eid → at_ 1 ≠ 0 →
       (b.sb.mctpParts.find? fun p => p.source == source && p.flow == flow) = some p →
       let closed := { b with sb := { b.sb with mctpParts := others } }
       (at_ 3 / 16 % 4 ≠ p.next ∨ 4352 < p.size + size → b.mctpTake m = (none, counted closed)) ∧
       (at_ 3 / 16 % 4 = p.next → (p.head.getD 0 0).toNat ∈ [0, 1, 5] → p.size + size ≤ 4352 → bit (at_ 3) 6 = true → 0 < size → size ≤ 64 →
         b.mctpTake m = (some { source := p.source, tag := p.flow % 8, bytes := p.head }, closed)) ∧
       (at_ 3 / 16 % 4 = p.next → (p.head.getD 0 0).toNat ∈ [0, 1, 5] → p.size + size ≤ 4352 → bit (at_ 3) 6 = false → size = 64 →
         b.mctpTake m = (none, { b with sb := { b.sb with mctpParts := others ++ [{ p with
           next := (p.next + 1) % 4, size := p.size + 64 }] } })))) ∧
   ∀ (x : State) (t : Time) (m : MctpMsg) (i : Instr), x.Serving →
     let b := x.seen t .mg
     let e := x.blk.atTime t
     i = .getEndpointId t m ∨ i = .getTid t m ∨ i = .getStatus t m ∨ i = .getVersion t m ∨ (∃ op eid, i = .setEndpointId t m op eid) ∨
       (∃ n, i = .requestUpdate t m n) ∨ i = .cancelUpdate t m →
     b.sb.phase = .firmware ∨ b.sb.phase = .recovery →
     (∀ c, b.mctpTake m = (none, c) → exec i x = .next (x.settled e c)) ∧
     ∀ (h : MctpHead) (c : Block), b.mctpTake m = (some h, c) →
       (h.byte 0 = 0 → bit (h.byte 1) 7 = true → h.byte 2 = 0 ∨ 5 < h.byte 2 →
         exec i x = .next (x.settled e (c.mctpSend h.source 0 h.tag (le 1 (h.byte 1 % 32) ++ le 1 (h.byte 2) ++ le 1 5 ++ [])))) ∧
       (h.byte 0 = 1 → bit (h.byte 1) 7 = true → (h.byte 2 % 64 ≠ 0 ∧ h.byte 2 % 64 ≠ 5) ∨ (h.byte 2 % 64 = 0 ∧ 5 < h.byte 3) ∨ (h.byte 2 % 64 = 5 ∧ 0x1D < h.byte 3) →
         exec i x = .next (x.settled e (c.mctpSend h.source 1 h.tag
           (le 1 (h.byte 1 % 32) ++ le 1 (h.byte 2 % 64) ++ le 1 (h.byte 3) ++ (le 1 5 ++ []))))) ∧
       (h.byte 0 = 5 → 128 ≤ h.byte 2 → h.byte 2 ∉ [0x81, 0x82, 0x83, 0x84, 0xE0, 0xE1, 0xE3, 0xEE] →
         exec i x = .next (x.settled e (c.mctpSend h.source 5 h.tag (le 1 0x12 ++ le 1 0x7F ++ le 1 7 ++ le 1 (h.byte 2) ++ []))))) ∧
  (∀ (x : State) (t : Time) (m : MctpMsg), x.Serving →
     let b := x.seen t .mg
     let e := x.blk.atTime t
     let bytes := fun (type : Nat) (body : List Byte) => le 1 type ++ body
     (∀ (c : Block) dest type tag body, ∃ packets,
       c.mctpSend dest type tag body = { c with out := if c.sb.safe then c.out else c.out ++ [.mctp dest type body packets] } ∧
       packets.length = max 1 (ceilDiv (bytes type body).length 64) ∧
       ∀ i, i < packets.length → ∃ p : List Byte, packets[i]? = some (p, crc32c p) ∧ p.drop 4 = ((bytes type body).drop (64 * i)).take 64 ∧
         (p.take 4).map (·.toNat % 256) = [1, dest % 256, c.sb.eid % 256,
           (128 * b2n (i == 0) + 64 * b2n (i + 1 == packets.length) + 16 * (i % 4) + tag) % 256]) ∧
     ∀ (h : MctpHead) (c : Block), b.Hears m h c →
       let answer := fun (c : Block) (cmd code : Nat) (data : List Byte) =>
         x.settled e (c.mctpSend h.source 0 h.tag (le 1 (h.byte 1 % 32) ++ le 1 cmd ++ le 1 code ++ data))
       (∀ op eid, op ≤ 1 → 1 ≤ eid → eid < 255 → exec (.setEndpointId t m op eid) x =
         .next (answer { c with sb := { c.sb with eid := eid } } 1 0 (zeros 1 ++ le 1 eid ++ zeros 1))) ∧
       (∀ op eid, 1 < op ∨ eid = 0 ∨ 255 ≤ eid → exec (.setEndpointId t m op eid) x = .next (answer c 1 2 [])) ∧
       exec (.getEndpointId t m) x = .next (answer c 2 0 (le 1 c.sb.eid ++ zeros 2)) ∧
       exec (.getEndpointUuid t m) x = .next (answer c 3 0 ((List.range 16).map Config.uuid)) ∧
       (∀ k, k = 0 ∨ k = 255 → exec (.getMctpVersionSupport t m k) x = .next (answer c 4 0 (le 1 1 ++ [0xF1, 0xF3, 0xFF, 0x00]))) ∧
       (∀ k, k ≠ 0 → k ≠ 1 → k ≠ 5 → k ≠ 255 → exec (.getMctpVersionSupport t m k) x = .next (answer c 4 0x80 [])) ∧
       exec (.getMessageTypeSupport t m) x = .next (answer c 5 0 (le 1 2 ++ [0x01, 0x05]))) ∧
  (∀ (x : State) (t : Time) (m : MctpMsg), x.Serving →
     let b := x.seen t .mg
     let e := x.blk.atTime t
     ∀ (h : MctpHead) (c : Block), b.Hears m h c →
       let answer := fun type cmd code (data : List Byte) =>
         x.settled e (c.mctpSend h.source 1 h.tag (le 1 (h.byte 1 % 32) ++ le 1 type ++ le 1 cmd ++ (le 1 code ++ data)))
       exec (.getTid t m) x = .next (answer 0 2 0 (le 1 Config.tid)) ∧
       exec (.getPldmVersion t m 5) x = .next (answer 0 3 0
         (zeros 4 ++ le 1 5 ++ [0x00, 0xF0, 0xF1, 0xF1] ++ le 4 (crc32 [0x00, 0xF0, 0xF1, 0xF1]))) ∧
       (∀ k, k ≠ 0 → k ≠ 5 → exec (.getPldmVersion t m k) x = .next (answer 0 3 0x83 [])) ∧
       exec (.getPldmTypes t m) x = .next (answer 0 4 0 (le 8 0x21)) ∧
       exec (.getPldmCommands t m 0) x = .next (answer 0 5 0 (le 32 0x3C)) ∧
       exec (.getPldmCommands t m 5) x = .next (answer 0 5 0 (le 32 0x3C190006)) ∧
       (∀ k, k ≠ 0 → k ≠ 5 → exec (.getPldmCommands t m k) x = .next (answer 0 5 0x83 [])) ∧
       exec (.queryDeviceIdentifiers t m) x = .next (answer 5 1 0 deviceIdentifiers) ∧
       exec (.getFirmwareParameters t m) x = .next (answer 5 2 0 c.firmwareParameters) ∧
       exec (.getStatus t m) x = .next (answer 5 0x1B 0 c.updateStatus))

/-- The firmware update: RequestUpdate opens it unless PLDM_UPDATE_DIS or a running one forbids it; the component table, the
component (which erases the slot that does not run), its data (programmed a page of 256 bytes at a time, and the rest with the
last part), the activation, and the two cancels follow its states, and outside an update each is refused (R395, R396, R420). Codes
are DSP0267's (log entry 60); which slot is written where none runs is log entry 61. -/
def Obligations.UpdatesFollowTheirStates : Prop :=
  ∀ (x : State) (t : Time) (m : MctpMsg), x.Serving →
    let p := x.seen t .mg
    let e := x.blk.atTime t
    ∀ (h : MctpHead) (b : Block), p.Hears m h b →
      let answer := fun (b : Block) cmd code (data : List Byte) =>
        x.settled e (b.mctpSend h.source 1 h.tag (le 1 (h.byte 1 % 32) ++ le 1 5 ++ le 1 cmd ++ (le 1 code ++ data)))
      (∀ n, b.keys.updateDis = true → exec (.requestUpdate t m n) x = .next (answer b 0x10 0x8A [])) ∧
      (∀ n u, b.keys.updateDis = false → b.sb.update = some u → exec (.requestUpdate t m n) x = .next (answer b 0x10 0x81 [])) ∧
      (∀ n, b.keys.updateDis = false → b.sb.update = none → 64 ≤ n →
        let u : Update := ⟨h.source, .learn, min n 4096, 0, 0, 0, [], false⟩
        exec (.requestUpdate t m n) x = .next (answer (b.setUpdate (some u) 0) 0x10 0 (zeros 3))) ∧
      (b.sb.update = none →
        (∀ c i l, exec (.passComponentTable t m c i l) x = .next (answer b 0x13 0x80 [])) ∧
        (∀ c i n, exec (.updateComponent t m c i n) x = .next (answer b 0x14 0x80 [])) ∧
        (∀ f, exec (.activateFirmware t m f) x = .next (answer b 0x1A 0x80 [])) ∧
        exec (.cancelUpdateComponent t m) x = .next (answer b 0x1C 0x80 []) ∧
        exec (.cancelUpdate t m) x = .next (answer b 0x1D 0x80 []) ∧
        (∀ c d, exec (.firmwareData t m c d) x = .next (x.settled e b))) ∧
      (∀ u, b.sb.update = some u → u.phase = .learn →
        exec (.passComponentTable t m 0x000A 0xCE11 true) x =
          .next (answer (b.setUpdate (some { u with phase := .ready }) 0) 0x13 0 [0, 0]) ∧
        exec (.passComponentTable t m 0x000A 0xCE11 false) x = .next (answer b 0x13 0 [0, 0])) ∧
      (∀ u n, b.sb.update = some u → u.phase = .ready → 256 + 0x100000 ≤ n → n ≤ 256 + 0x300000 →
        let s := match b.sb.slot with
          | some r => 1 - r
          | none => 0
        let u2 := { u with phase := .erasing, slot := s, size := n, got := 0, page := [], failed := false }
        exec (.updateComponent t m 0x000A 0xCE11 n) x =
          .next (answer ((b.setUpdate (some u2) 0).flashPush (slotErases s)) 0x14 0 (zeros 8))) ∧
      (∀ u (d : List Byte), b.sb.update = some u → u.phase = .download → u.failed = false → h.source = u.agent → b.sb.queue = [] →
        d.length = min u.maxTransfer (u.size - u.got) →
        let all := u.page ++ d
        let whole := if u.size ≤ u.got + d.length then all.length else all.length / 256 * 256
        let kept := { b with sb := { b.sb with update := some { u with got := u.got + d.length, page := all.drop whole } } }
        let programs := programsOf .update (whole / 256 + 2) (slotBase u.slot + u.got - u.page.length) (all.take whole)
        exec (.firmwareData t m 0 d) x = .next (x.settled e (if programs = [] then
          kept.requestData { u with got := u.got + d.length, page := all.drop whole } else kept.flashPush programs))) ∧
      (∀ u, b.sb.update = some u → u.phase = .activate →
        exec (.activateFirmware t m false) x = .next (answer (b.endUpdate 1) 0x1A 0 (zeros 2)) ∧
        exec (.activateFirmware t m true) x = .next (answer b 0x1A 0x8C [])) ∧
      (∀ u, b.sb.update = some u → u.phase = .download → b.sb.queue = [] →
        exec (.cancelUpdateComponent t m) x = .next
          (answer (b.setUpdate (some { u with phase := .ready, failed := false, size := 0, got := 0, page := [] }) 0) 0x1C 0 [])) ∧
      (∀ u, b.sb.update = some u → u.phase = .learn ∨ u.phase = .ready ∨ u.phase = .activate →
        exec (.cancelUpdateComponent t m) x = .next (answer b 0x1C 0x84 []) ∧
        exec (.cancelUpdate t m) x = .next (answer (b.endUpdate 2) 0x1D 0 (zeros 9)))

/-- SPDM: the connection is set up in order (version, capabilities, algorithms); then slot 0's chain is given by digest and in
parts, challenges and measurements are signed with the identity key over fresh open nonces and an open transcript digest (log
entries 63 and 104), and a new chain is written to flash where certificates may be written, and answered once that has ended (log
entries 63 and 85). Out of order every request is refused (R397, R398, Tables 14-7 and 14-8). Codes and layouts are DSP0274's (log
entry 60). -/
def Obligations.SpdmRequestsAreAnswered : Prop :=
  ∀ (x : State) (t : Time) (m : MctpMsg), x.Serving →
    let q := x.seen t .mg
    let e := x.blk.atTime t
    ∀ (h : MctpHead) (b : Block), q.Hears m h b →
      let answer := fun (b : Block) code p1 p2 (body : List Byte) =>
        x.settled e (b.mctpSend h.source 5 h.tag (le 1 0x12 ++ le 1 code ++ le 1 p1 ++ le 1 p2 ++ body))
      exec (.getVersion t m) x = .next (answer { b with sb := { b.sb with spdm := .version } } 0x04 0 0 (zeros 1 ++ le 1 1 ++ le 2 0x1200)) ∧
      (b.sb.spdm = .version → exec (.getCapabilities t m) x = .next
        (answer { (b.freeNat 256).2 with sb := { (b.freeNat 256).2.sb with spdm := .capabilities } } 0x61 0 0
          (zeros 1 ++ le 1 (b.freeNat 256).1 ++ zeros 2 ++ le 4 0x80016 ++ le 4 4352 ++ le 4 4352))) ∧
      (∀ asym hash, b.sb.spdm = .capabilities → bit asym 7 = true → bit hash 1 = true →
        exec (.negotiateAlgorithms t m asym hash) x = .next (answer { b with sb := { b.sb with spdm := .negotiated } } 0x63 0 0
          (le 2 36 ++ le 1 1 ++ zeros 1 ++ le 4 0x04 ++ le 4 0x80 ++ le 4 0x02 ++ zeros 16))) ∧
      (b.sb.spdm ≠ .version → exec (.getCapabilities t m) x = .next (answer b 0x7F 4 0 [])) ∧
      (∀ asym hash, b.sb.spdm ≠ .capabilities → exec (.negotiateAlgorithms t m asym hash) x = .next (answer b 0x7F 4 0 [])) ∧
      (b.sb.spdm ≠ .negotiated →
        exec (.getDigests t m) x = .next (answer b 0x7F 4 0 []) ∧
        (∀ c s, exec (.challenge t m c s) x = .next (answer b 0x7F 4 0 [])) ∧
        (∀ c o l, exec (.getCertificate t m c o l) x = .next (answer b 0x7F 4 0 [])) ∧
        (∀ c o f, exec (.getMeasurements t m c o f) x = .next (answer b 0x7F 4 0 [])) ∧
        (∀ c d, exec (.setCertificate t m c d) x = .next (answer b 0x7F 4 0 []))) ∧
      (b.sb.spdm = .negotiated → b.sb.chain = none → exec (.getDigests t m) x = .next (answer b 0x01 0 0 [])) ∧
      (∀ c, b.sb.spdm = .negotiated → b.sb.chain = some c →
        exec (.getDigests t m) x = .next (answer b 0x01 0 1 (sha384 c)) ∧
        (∀ o n, o < c.length → n ≤ c.length - o → n ≤ 4344 →
          exec (.getCertificate t m 0 o n) x = .next (answer b 0x02 0 0
            (le 2 n ++ le 2 (c.length - o - n) ++ (c.drop o).take n))) ∧
        (exec (.challenge t m 0 0) x =
          let nonce := b.freeBytes 32
          let sig := nonce.2.identitySign
          .next (answer sig.2 0x03 0 1 (sha384 c ++ nonce.1 ++ [] ++ zeros 2 ++ sig.1)))) ∧
      (∀ i, b.sb.spdm = .negotiated → 1 ≤ i → i ≤ 4 → exec (.getMeasurements t m 0 i true) x =
        let v := b.measurement i
        let blocks := measurementBlock i v.1
        let nonce := v.2.freeBytes 32
        let sig := nonce.2.identitySign
        .next (answer sig.2 0x60 0 0 (le 1 1 ++ le 3 blocks.length ++ blocks ++ nonce.1 ++ zeros 2 ++ sig.1))) ∧
      (∀ c : List Byte, b.sb.spdm = .negotiated → b.keys.certWrite = true → c ≠ [] → c.length ≤ 65536 → b.sb.chainWrite = none →
        exec (.setCertificate t m 0 c) x = .next (x.settled e
          (({ b with sb := { b.sb with chainWrite := some (h.source, h.tag, c) } } : Block).flashPush
            ({ erase := true, addr := certBase, data := [], use := .certificate } :: programsOf .certificate 257 certBase c))))

/-! ### The flash, the census, resets and test modes (chapters 13, 15, 17 and 18) -/

/-- The running flash command leaves the queue when it ends, and the next one starts: one that ended well has its effect on the
flash and on what it was for, one that failed or overran its limit is a flash fault, whose bytes then hold open values (log entry
87) (R405, R406). Staged log records are flushed at 16, or 10 ms after the first (R411). A census interval ends with a snapshot in
its place of the rotation (R462). -/
def Obligations.FlashAndCensusEventsTakeEffect : Prop :=
  ∀ (x : State) (t : Time), x.Serving →
    let p := x.seen t .mp
    let b := x.blk.atTime t
    (∀ c rest, p.sb.queue = c :: rest →
      let next := { p with sb := { p.sb with queue := rest, flashBusy := false, startedAt := p.now } }
      (c.use = .log → c.erase = false → exec (.flashCommandDone t true) x = .next (x.settled b
        (let F := next.flashProgram c.addr c.data
         { F with sb := { F.sb with plog := F.sb.plog ++ c.records } }))) ∧
      (c.use = .boot → c.erase = false →
        exec (.flashCommandDone t true) x = .next (x.settled b (next.flashProgram c.addr c.data).raiseCounter)) ∧
      (c.use = .boot → exec (.flashCommandDone t false) x = .next (x.settled b
        ((next.flashSpoil c).logRec srcSignalBox 0x0150 2 [if c.erase then 1 else 2, c.addr])))) ∧
    (∀ ok, p.sb.queue = [] → exec (.flashCommandDone t ok) x = .next (x.settled b p)) ∧
    (∀ c rest, b.sb.queue = c :: rest → b.sb.startedAt + (if c.erase then 2000000000 else 5000000) ≤ b.now →
      exec (.flashCommandTimeout t) x = .next (x.settled b
        (({ b with sb := { b.sb with queue := rest, flashBusy := false, startedAt := b.now } } : Block).flashFault c))) ∧
    (∀ c rest, b.sb.queue = c :: rest → b.now < b.sb.startedAt + (if c.erase then 2000000000 else 5000000) →
      exec (.flashCommandTimeout t) x = .next (x.settled b b)) ∧
    (b.sb.phase = .firmware → b.sb.stage ≠ [] → 16 ≤ b.sb.stage.length ∨ b.sb.stagedAt + 10000000 ≤ b.now →
      exec (.persistentLogFlush t) x = .next (x.settled b b.flushLog)) ∧
    (b.sb.stage = [] → exec (.persistentLogFlush t) x = .next (x.settled b b)) ∧
    (b.obs.censusOn = true → b.obs.censusAt + b.obs.censusInterval ≤ b.now → 0 < b.obs.censusCap →
      exec (.censusSnapshot t) x = .next (x.settled b
        (let W := b.write (b.obs.censusAddr + b.obs.censusWrite % b.obs.censusCap * 34880) b.censusSnapshotBytes
         { W with obs := { W.obs with
             censusWrite := add32 b.obs.censusWrite 1, censusAt := b.now, waits := [], busy := [] } }))) ∧
    (b.obs.censusOn = false ∨ b.now < b.obs.censusAt + b.obs.censusInterval →
      exec (.censusSnapshot t) x = .next (x.settled b b))

/-- PORESET clears everything but the OTP, the flash and the persistent log (R375, R409). WRESET keeps the keys, the volatile log
and the EID too, and of a running instance sends HALT first (R376, R382); that ATTEMPTS and LOCKED of the key bootstrap and the
test entries outlive it is log entry 88; the records of the ring that the persistent log lacks are staged for it (log entry 105).
RESET_RELEASE returns the receive credits, draws DEVICE_SECRET once and runs the boot ROM: where a slot starts, its payload is
copied to local memory, and firmware runs with the self-tests running where the hash of that copy is the header's; ROM recovery
where it is not, where no slot starts or local memory fails (R340, R403, R473). What the release reads and shows at once is log
entry 86, that DIAG is 1 in firmware alone log entry 89, that the time base is valid log entry 121. SELF_TEST_COMPLETE marks the
slot that runs where the firmware's part passes, whatever else has failed, and gives DIAG the result of both parts, the first FAIL
standing (R394, R474; log entry 89). TEST_MODE_ENTRY sends HALT, zeroes every key and closes every session, and the block serves
nothing until a reset; a further entry is counted alone (R373). WS_SAFE_ENTRY stops every port transfer and drives the outputs at
their reset values (R372). -/
def Obligations.ResetsAndTestModesTakeEffect : Prop :=
  (∀ (x : State) (t : Time), x.Inv →
     let b := x.blk.atTime t
     let kept := { Block.reset.sb with phase := .held, plog := b.sb.plog, plogNext := b.plogEnd, flash := b.sb.flash
                                       chain := b.sb.chain }
     let otp := { Keys.reset with deviceSecret := b.keys.deviceSecret, bootWrap := b.keys.bootWrap, rollback := b.keys.rollback
                                  revoke := b.keys.revoke }
     (exec (.poreset t) x = .next { x with blk := { Block.reset with
       now := b.now, out := b.out, fresh := b.fresh, keys := otp, sb := kept } }) ∧
     (let s := ((b.stop .warmReset srcSignalBox).orderRecords b.vlog.length).pumpAll
      let h := if b.dead || b.ap.lostClocks.contains .fp then b else s
      h.keys = b.keys ∧
      exec (.wreset t) x = .next { x with blk := Block.restage { Block.reset with
        now := h.now, out := h.out, fresh := h.fresh, vlog := h.vlog
        keys := { otp with channel := b.keys.channel, tenant := b.keys.tenant, attempts := b.keys.attempts, locked := b.keys.locked
                           testEntries := b.keys.testEntries }
        sb := { Block.reset.sb with phase := .held, plog := h.sb.plog, plogNext := h.plogEnd, flash := h.sb.flash
                                    chain := h.sb.chain, eid := h.sb.eid, seen := h.vlog.length, dropped := h.sb.dropped } } }) ∧
     (∀ c : Block, c.sb.stage = [] → c.sb.dropped = [] → c.vlog.length ≤ 256 → ∀ r ∈ c.vlog, 2 ≤ r.sev → (∀ y ∈ c.sb.plog, y.2 ≠ r) →
       r ∈ c.restage.sb.stage) ∧
     (∀ f, b.sb.phase = .firmware ∨ b.sb.phase = .recovery ∨ b.sb.phase = .test → exec (.resetRelease t f) x = .next (x.commit b.memPump)) ∧
     (b.sb.phase = .held ∨ b.sb.phase = .released →
       let credits : List (Nat × Nat) := [(1, 64), (2, 64), (3, 256), (4, 32), (5, 8), (6, 16)]
       let c := { b with out := if b.sb.safe then b.out else b.out ++ credits.map fun k => .credit k.1 k.2
                         fab := { b.fab with given := credits.foldl (fun g k => g.set k.1 k.2) b.fab.given } }
       let d := if b.keys.deviceSecret = [] then
           { (c.freeBytes 32).2 with keys := { (c.freeBytes 32).2.keys with deviceSecret := (c.freeBytes 32).1 } }
         else c
       let start := fun (d : Block) phase slot payload => { d with
         sb := { d.sb with phase := phase, slot := slot, localMem := payload }
         flt := { d.flt with diag := if phase = BootPhase.firmware then 1 else 0 }
         ap := { d.ap with tb := { d.ap.tb with valid := true, seen := true } } }
       (∀ a, exec (.resetRelease t (some a)) x = .next (x.commit ((start d .recovery none []).logRec srcSignalBox 0 2 [a]).memPump)) ∧
       exec (.resetRelease t none) x = .next (x.commit (match d.bootSelect 4 with
         | (f, some s) => if sha384 (f.slotPayload s) = (f.slotHeader s).payloadHash then start f .firmware (some s) (f.slotPayload s)
             else start f .recovery none (f.slotPayload s)
         | (f, none) => start f .recovery none []).memPump))) ∧
  (∀ (x : State) (t : Time),
     let b := x.blk.atTime t
     (x.Live → b.sb.phase = .firmware → b.sb.tested = false →
       let T := { b with sb := { b.sb with tested := true } }
       let failed := fun (B : Block) u => if B.flt.diag = 3 then B else { B with flt := { B.flt with diag := 3, diagUnit := u } }
       let result := fun (B : Block) unit => match unit with
         | some u => failed B u
         | none => if B.flt.diag = 1 ∧ B.cp.state = .forming then { B with flt := { B.flt with diag := 2 } } else B
       (∀ s unit, b.sb.slot = some s → b.flashWord (bootMarkAddr s) ≠ 0 →
         exec (.selfTestComplete t true unit) x = .next (x.settled b
           (result (T.flashPush [{ erase := false, addr := bootMarkAddr s, data := le 8 0, use := .boot }]) unit))) ∧
       (∀ s unit, b.sb.slot = some s → b.flashWord (bootMarkAddr s) = 0 →
         exec (.selfTestComplete t true unit) x = .next (x.settled b (result T.raiseCounter unit))) ∧
       (∀ unit, exec (.selfTestComplete t false unit) x = .next (x.settled b (failed T srcSignalBox)))) ∧
     (x.Live → ∀ ok unit, b.sb.tested = true → exec (.selfTestComplete t ok unit) x = .next (x.settled b b)) ∧
     (∀ mode, x.Live →
       let i := { b with sb := { b.sb with ir := testInstr mode } }
       let s := (i.stop .testMode srcSecurity [testCode mode]).pumpAll
       exec (.testModeEntry t mode) x = .next (x.settled b { s with
         keys := { s.keys with channel := [], tenant := [], testEntries := s.keys.testEntries + 1 }
         ses := s.ses.map fun y => (y.1, { y.2 with state := .closed, ks := [], current := none, deferred := [] })
         sb := { s.sb with phase := .test } })) ∧
     (∀ mode, b.sb.phase = .test → exec (.testModeEntry t mode) x = .next (x.settled b { b with
       sb := { b.sb with ir := testInstr mode }, keys := { b.keys with testEntries := b.keys.testEntries + 1 } })) ∧
     (x.Live →
       let safe := { b with sb := { b.sb with safe := true, ir := 0x02 } }
       exec (.wsSafeEntry t) x = .next (x.settled b safe) ∧ safe.haIrq = [false, false, false, false] ∧
         (∀ g, safe.grant g = (0, 0)) ∧ ∀ c, safe.retReq c = false))

/-- The state at reset meets the invariant. After reset an instance stands in FORMING, has never run in a group, holds no model
and no session, has every rail disabled and every slot free in ascending order, and holds no lock (R29, R278, R417, R473); its
identity and capability registers read the values of Table 19-2 in every state, PART 0xCE11 among them (R490); and until the first
POWER_CONFIG every grant is MAX 0, FLOOR 0 (R278). -/
def Obligations.ResetLeavesAnEmptyInstance : Prop :=
  (State.reset.Inv) ∧
  ((let b := State.reset.blk
    b.cp.state = .forming ∧ b.cp.fresh = true ∧ b.mdl.active = [] ∧ b.mdl.staged = [] ∧ b.ses = [] ∧ b.dsp.openItems = [] ∧
    (∀ r, (b.rail r).cfg.enable = false) ∧ b.gr.entries = [] ∧ b.gr.freeList = [(0, 32768)] ∧ b.ap.locks = []) ∧
   ∀ b : Block,
     (b.readRegister 0 = 0xCE11 * 2 ^ 32 + Config.mfrId % 2048 ∧ b.readRegister 0x08 = 0x01000100 ∧
      b.readRegister 0x10 = 0x1000010000008000 ∧ b.readRegister 0x18 = 0x0200100000402000 ∧
      b.readRegister 0x20 = 0x4010402001000000 ∧ b.readRegister 0x28 = 0x0004104008001000) ∧
     ∀ g, b.pwr.configured = false → b.grant g = (0, 0))
end

