-- ==== Sys2Proof/Laws/Exec.lean ====
section
/-! SUPPORT. Every command as the event, the transfer or the reset input that its meaning is. -/

namespace Sys2Proof.Machine
open Sys2Proof

theorem exec_cmdTailWrite (t : Time) (a : HAccess) (s : Nat) (value : Nat) (x : State) : exec (.cmdTailWrite t a s value) x =
  .next (x.host t a fun _ b => b.registerWrite a (page s) value) := rfl

theorem exec_commandFetch (t : Time) (s : Nat) (entry : CmdEntry) (pkt : Option Packet) (x : State) : exec (.commandFetch t s entry pkt) x =
  .next (x.port t (some .mp) fun m b => b.fetchWritten m s entry pkt) := rfl

theorem exec_cplHeadWrite (t : Time) (a : HAccess) (s : Nat) (value : Nat) (x : State) : exec (.cplHeadWrite t a s value) x =
  .next (x.host t a fun _ b => b.registerWrite a (page s + 0x10) value) := rfl

theorem exec_queueConfigWrite (t : Time) (a : HAccess) (s : Nat) (reg : QueueReg) (value : Nat) (x : State) : exec (.queueConfigWrite t a s reg value) x =
  .next (x.host t a fun _ b => b.registerWrite a (page s + queueReg reg) value) := rfl

theorem exec_tokenConsReport (t : Time) (a : HAccess) (s : Nat) (value : Nat) (x : State) : exec (.tokenConsReport t a s value) x =
  .next (x.host t a fun _ b => b.registerWrite a (page s + 0x40) value) := rfl

theorem exec_eventConsReport (t : Time) (a : HAccess) (s : Nat) (value : Nat) (x : State) : exec (.eventConsReport t a s value) x =
  .next (x.host t a fun _ b => b.registerWrite a (page s + 0x48) value) := rfl

theorem exec_sessionOpen (t : Time) (s : Nat) (x : State) : exec (.sessionOpen t s) x =
  .next (x.command t s fun _ p => match p.params with
    | .sessionOpen tenant _ minor nonce => some fun b => b.sessionOpen s tenant minor nonce
    | _ => none) := rfl

theorem exec_sessionConfirm (t : Time) (s : Nat) (x : State) : exec (.sessionConfirm t s) x =
  .next (x.command t s fun _ p => match p.params with
    | .sessionConfirm proof => some fun b => b.sessionConfirm s proof
    | _ => none) := rfl

theorem exec_sessionClose (t : Time) (s : Nat) (x : State) : exec (.sessionClose t s) x =
  .next (x.command t s fun _ p => match p.params with
    | .sessionClose => some fun b => b.sessionClose s
    | _ => none) := rfl

theorem exec_sessionOpeningTimeout (t : Time) (s : Nat) (x : State) : exec (.sessionOpeningTimeout t s) x =
  .next (x.event t fun _ b => b.openingTimeout s) := rfl

theorem exec_sessionLockoutEnd (t : Time) (s : Nat) (x : State) : exec (.sessionLockoutEnd t s) x =
  .next (x.event t fun _ b => b.lockoutEnd s) := rfl

theorem exec_capQuery (t : Time) (s : Nat) (x : State) : exec (.capQuery t s) x =
  .next (x.command t s fun _ p => match p.params with
    | .capQuery => some fun b => b.capQuery s
    | _ => none) := rfl

theorem exec_groupQuery (t : Time) (s : Nat) (x : State) : exec (.groupQuery t s) x =
  .next (x.command t s fun _ p => match p.params with
    | .groupQuery => some fun b => b.groupQuery s
    | _ => none) := rfl

theorem exec_keyProvision (t : Time) (s : Nat) (x : State) : exec (.keyProvision t s) x =
  .next (x.command t s fun _ p => match p.params with
    | .keyProvision kind index wrapped flags => some fun b => b.keyProvision s kind index wrapped flags p.seq
    | _ => none) := rfl

theorem exec_modelStage (t : Time) (s : Nat) (x : State) : exec (.modelStage t s) x =
  .next (x.command t s fun m p => match p.params with
    | .modelStage p => some fun b => b.modelStage m s p
    | _ => none) := rfl

theorem exec_modelLoad (t : Time) (s : Nat) (x : State) : exec (.modelLoad t s) x =
  .next (x.command t s fun _ p => match p.params with
    | .modelLoad p => some fun b => b.modelLoad s p
    | _ => none) := rfl

theorem exec_modelUnload (t : Time) (s : Nat) (x : State) : exec (.modelUnload t s) x =
  .next (x.command t s fun _ p => match p.params with
    | .modelUnload j d => some fun b => b.modelUnload s j d
    | _ => none) := rfl

theorem exec_modelQuery (t : Time) (s : Nat) (x : State) : exec (.modelQuery t s) x =
  .next (x.command t s fun _ p => match p.params with
    | .modelQuery d => some fun b => b.modelQuery s d
    | _ => none) := rfl

theorem exec_strainLoad (t : Time) (s : Nat) (x : State) : exec (.strainLoad t s) x =
  .next (x.command t s fun m p => match p.params with
    | .strainLoad d x size crc off => some fun b => b.strainLoad m s d x size crc off
    | _ => none) := rfl

theorem exec_strainDrop (t : Time) (s : Nat) (x : State) : exec (.strainDrop t s) x =
  .next (x.command t s fun _ p => match p.params with
    | .strainDrop d x v => some fun b => b.strainDrop s d x v
    | _ => none) := rfl

theorem exec_tenantConfig (t : Time) (s : Nat) (x : State) : exec (.tenantConfig t s) x =
  .next (x.command t s fun _ p => match p.params with
    | .tenantConfig i c => some fun b => b.tenantConfig s i c
    | _ => none) := rfl

theorem exec_classConfig (t : Time) (s : Nat) (x : State) : exec (.classConfig t s) x =
  .next (x.command t s fun _ p => match p.params with
    | .classConfig i c => some fun b => b.classConfig s i c
    | _ => none) := rfl

theorem exec_reqAdmit (t : Time) (s : Nat) (x : State) : exec (.reqAdmit t s) x =
  .next (x.command t s fun _ p => match p.params with
    | .reqAdmit p => some fun b => b.reqAdmit s p
    | _ => none) := rfl

theorem exec_reqAppend (t : Time) (s : Nat) (x : State) : exec (.reqAppend t s) x =
  .next (x.command t s fun _ p => match p.params with
    | .reqAppend h f n ts => some fun b => b.reqAppend s h f n ts
    | _ => none) := rfl

theorem exec_reqTruncate (t : Time) (s : Nat) (x : State) : exec (.reqTruncate t s) x =
  .next (x.command t s fun _ p => match p.params with
    | .reqTruncate h p => some fun b => b.reqTruncate s h p
    | _ => none) := rfl

theorem exec_reqCancel (t : Time) (s : Nat) (x : State) : exec (.reqCancel t s) x =
  .next (x.command t s fun _ p => match p.params with
    | .reqCancel h => some fun b => b.reqCancel s h
    | _ => none) := rfl

theorem exec_reqPause (t : Time) (s : Nat) (x : State) : exec (.reqPause t s) x =
  .next (x.command t s fun _ p => match p.params with
    | .reqPause h tier ttl => some fun b => b.reqPause s h tier ttl
    | _ => none) := rfl

theorem exec_reqResume (t : Time) (s : Nat) (x : State) : exec (.reqResume t s) x =
  .next (x.command t s fun _ p => match p.params with
    | .reqResume h => some fun b => b.reqResume s h
    | _ => none) := rfl

theorem exec_reqFree (t : Time) (s : Nat) (x : State) : exec (.reqFree t s) x =
  .next (x.command t s fun _ p => match p.params with
    | .reqFree h => some fun b => b.reqFree s h
    | _ => none) := rfl

theorem exec_reqSetSampling (t : Time) (s : Nat) (x : State) : exec (.reqSetSampling t s) x =
  .next (x.command t s fun _ p => match p.params with
    | .reqSetSampling h p => some fun b => b.reqSetSampling s h p
    | _ => none) := rfl

theorem exec_reqQuery (t : Time) (s : Nat) (x : State) : exec (.reqQuery t s) x =
  .next (x.command t s fun _ p => match p.params with
    | .reqQuery h => some fun b => b.reqQuery s h
    | _ => none) := rfl

theorem exec_powerConfig (t : Time) (s : Nat) (x : State) : exec (.powerConfig t s) x =
  .next (x.command t s fun _ p => match p.params with
    | .powerConfig p => some fun b => b.powerConfig s p
    | _ => none) := rfl

theorem exec_powerCalibrate (t : Time) (s : Nat) (x : State) : exec (.powerCalibrate t s) x =
  .next (x.command t s fun _ p => match p.params with
    | .powerCalibrate r hi es => some fun b => b.powerCalibrate s r hi es
    | _ => none) := rfl

theorem exec_powerCap (t : Time) (s : Nat) (x : State) : exec (.powerCap t s) x =
  .next (x.command t s fun _ p => match p.params with
    | .powerCap c => some fun b => b.powerCap s c
    | _ => none) := rfl

theorem exec_modeSet (t : Time) (s : Nat) (x : State) : exec (.modeSet t s) x =
  .next (x.command t s fun _ p => match p.params with
    | .modeSet p => some fun b => b.modeSet s p
    | _ => none) := rfl

theorem exec_linkMap (t : Time) (s : Nat) (x : State) : exec (.linkMap t s) x =
  .next (x.command t s fun _ p => match p.params with
    | .linkMap n rs => some fun b => b.linkMap s n rs
    | _ => none) := rfl

theorem exec_maintWindow (t : Time) (s : Nat) (x : State) : exec (.maintWindow t s) x =
  .next (x.command t s fun _ p => match p.params with
    | .maintWindow n ls => some fun b => b.maintWindow s n ls
    | _ => none) := rfl

theorem exec_platformMap (t : Time) (s : Nat) (x : State) : exec (.platformMap t s) x =
  .next (x.command t s fun _ p => match p.params with
    | .platformMap f n rd es => some fun b => b.platformMap s f n rd es
    | _ => none) := rfl

theorem exec_counterRead (t : Time) (s : Nat) (x : State) : exec (.counterRead t s) x =
  .next (x.command t s fun _ p => match p.params with
    | .counterRead sp f n => some fun b => b.counterRead s sp f n
    | _ => none) := rfl

theorem exec_traceConfig (t : Time) (s : Nat) (x : State) : exec (.traceConfig t s) x =
  .next (x.command t s fun _ p => match p.params with
    | .traceConfig mask addr n => some fun b => b.traceConfig s mask addr n
    | _ => none) := rfl

theorem exec_censusConfig (t : Time) (s : Nat) (x : State) : exec (.censusConfig t s) x =
  .next (x.command t s fun _ p => match p.params with
    | .censusConfig e i addr n => some fun b => b.censusConfig s e i addr n
    | _ => none) := rfl

theorem exec_tensorDump (t : Time) (s : Nat) (x : State) : exec (.tensorDump t s) x =
  .next (x.command t s fun _ p => match p.params with
    | .tensorDump l o h st addr n => some fun b => b.tensorDump s l o h st addr n
    | _ => none) := rfl

theorem exec_hangDump (t : Time) (s : Nat) (x : State) : exec (.hangDump t s) x =
  .next (x.command t s fun _ p => match p.params with
    | .hangDump addr n w => some fun b => b.hangDump s addr n w
    | _ => none) := rfl

theorem exec_logRead (t : Time) (s : Nat) (x : State) : exec (.logRead t s) x =
  .next (x.command t s fun _ p => match p.params with
    | .logRead l f n => some fun b => b.logRead s l f n
    | _ => none) := rfl

theorem exec_bufferStop (t : Time) (s : Nat) (x : State) : exec (.bufferStop t s) x =
  .next (x.command t s fun _ p => match p.params with
    | .bufferStop x => some fun b => b.bufferStopCmd s x
    | _ => none) := rfl

theorem exec_recover (t : Time) (s : Nat) (x : State) : exec (.recover t s) x =
  .next (x.command t s fun _ p => match p.params with
    | .recover i rb cb => some fun b => b.recover s i rb cb
    | _ => none) := rfl

theorem exec_faultQuery (t : Time) (s : Nat) (x : State) : exec (.faultQuery t s) x =
  .next (x.command t s fun _ p => match p.params with
    | .faultQuery => some fun b => b.faultQuery s
    | _ => none) := rfl

theorem exec_registerWrite (t : Time) (a : HAccess) (off : Nat) (value : Nat) (x : State) : exec (.registerWrite t a off value) x =
  .next (x.host t a fun _ b => b.registerWrite a off value) := rfl

theorem exec_dpCtlWrite (t : Time) (a : HAccess) (secure : Bool) (value : Nat) (x : State) : exec (.dpCtlWrite t a secure value) x =
  .next (x.host t a fun _ b => b.registerWrite a (if secure then 0x46000 else 0x6000) value) := rfl

theorem exec_dataWindowAccess (t : Time) (a : HAccess) (off : Nat) (write : Bool) (data : List Nat) (bad : List Nat) (x : State) : exec (.dataWindowAccess t a off write data bad) x =
  .next (x.host t a fun m b => b.window m a off write data bad) := rfl

theorem exec_stageBaseWrite (t : Time) (a : HAccess) (value : Nat) (x : State) : exec (.stageBaseWrite t a value) x =
  .next (x.host t a fun _ b => b.registerWrite a 0x46020 value) := rfl

theorem exec_kbUnwrap (t : Time) (a : HAccess) (value : Nat) (x : State) : exec (.kbUnwrap t a value) x =
  .next (x.host t a fun _ b => b.registerWrite a 0x47000 (value / 4 * 4 + 1)) := rfl

theorem exec_kbProgramWrapKey (t : Time) (a : HAccess) (value : Nat) (x : State) : exec (.kbProgramWrapKey t a value) x =
  .next (x.host t a fun _ b => b.registerWrite a 0x47000 (value / 4 * 4 + 2)) := rfl

theorem exec_mailboxDoorbell (t : Time) (a : HAccess) (ch : Nat) (value : Nat) (x : State) : exec (.mailboxDoorbell t a ch value) x =
  .next (x.host t a fun _ b => b.registerWrite a (mailOffset ch + 8) value) := rfl

theorem exec_ping (t : Time) (ch : Nat) (type : Nat) (msg : InMail) (x : State) : exec (.ping t ch type msg) x =
  .next (x.port t (some .mp) fun _ b => b.firmware fun b => b.mailPing ch type msg) := rfl

theorem exec_sensorSnapshot (t : Time) (ch : Nat) (msg : InMail) (x : State) : exec (.sensorSnapshot t ch msg) x =
  .next (x.port t (some .mp) fun _ b => b.firmware fun b => b.mailSensors ch msg) := rfl

theorem exec_logMark (t : Time) (ch : Nat) (msg : InMail) (x : State) : exec (.logMark t ch msg) x =
  .next (x.port t (some .mp) fun _ b => b.firmware fun b => b.mailMark ch msg) := rfl

theorem exec_outPendingClear (t : Time) (a : HAccess) (ch : Nat) (value : Nat) (x : State) : exec (.outPendingClear t a ch value) x =
  .next (x.host t a fun _ b => b.registerWrite a (mailOffset ch + 0x20) value) := rfl

theorem exec_lockRead (t : Time) (a : HAccess) (n : Nat) (x : State) : exec (.lockRead t a n) x =
  .next (x.host t a fun _ b => b.readAccess a (lockOffset n) fun b => b.readLock a n) := rfl

theorem exec_lockRelease (t : Time) (a : HAccess) (n : Nat) (value : Nat) (x : State) : exec (.lockRelease t a n value) x =
  .next (x.host t a fun _ b => b.registerWrite a (lockOffset n) value) := rfl

theorem exec_lockBreak (t : Time) (a : HAccess) (value : Nat) (x : State) : exec (.lockBreak t a value) x =
  .next (x.host t a fun _ b => b.registerWrite a 0x4A100 value) := rfl

theorem exec_groupEventClear (t : Time) (a : HAccess) (value : Nat) (x : State) : exec (.groupEventClear t a value) x =
  .next (x.host t a fun _ b => b.registerWrite a 0x40000 value) := rfl

theorem exec_counterSnap (t : Time) (a : HAccess) (value : Nat) (x : State) : exec (.counterSnap t a value) x =
  .next (x.host t a fun _ b => b.registerWrite a 0x4C100 value) := rfl

theorem exec_groupSetupWrite (t : Time) (a : HAccess) (value : Nat) (x : State) : exec (.groupSetupWrite t a value) x =
  .next (x.host t a fun _ b => b.registerWrite a 0x4D000 value) := rfl

theorem exec_obsBaseWrite (t : Time) (a : HAccess) (value : Nat) (x : State) : exec (.obsBaseWrite t a value) x =
  .next (x.host t a fun _ b => b.registerWrite a 0x4C008 value) := rfl

theorem exec_logitSegment (t : Time) (lsport : Nat) (seg : Segment) (x : State) : exec (.logitSegment t lsport seg) x =
  .next (x.port t (if lsport = 0 then some .ls0 else some .ls1) fun _ b => b.segment lsport seg) := rfl

theorem exec_gleanData (t : Time) (rx : Rx) (row : Nat) (step : Nat) (format : Nat) (result : PartialResult) (x : State) : exec (.gleanData t rx row step format result) x =
  .next (x.port t (some .fp) fun _ b => b.rx rx 3 (fun b => b.gleanData rx.src row step format result) (some step)) := rfl

theorem exec_gleanVerdict (t : Time) (rx : Rx) (row : Nat) (step : Nat) (verdict : Verdict) (x : State) : exec (.gleanVerdict t rx row step verdict) x =
  .next (x.port t (some .fp) fun _ b => b.rx rx 3 (fun b => b.gleanVerdict rx.src row step verdict) (some step)) := rfl

theorem exec_gleanResendReq (t : Time) (rx : Rx) (row : Nat) (step : Nat) (x : State) : exec (.gleanResendReq t rx row step) x =
  .next (x.port t (some .fp) fun _ b => b.rx rx 3 (fun b => b.gleanResend rx.src row step) (some step)) := rfl

theorem exec_gleanResendTimer (t : Time) (row : Nat) (x : State) : exec (.gleanResendTimer t row) x =
  .next (x.event t fun _ b => b.gleanResendTimer row) := rfl

theorem exec_gleanTimeout (t : Time) (row : Nat) (x : State) : exec (.gleanTimeout t row) x =
  .next (x.event t fun _ b => b.gleanTimeout row) := rfl

theorem exec_gleanVerdictWaitTimeout (t : Time) (row : Nat) (x : State) : exec (.gleanVerdictWaitTimeout t row) x =
  .next (x.event t fun _ b => b.gleanWait row) := rfl

theorem exec_gleanMismatchWindow (t : Time) (x : State) : exec (.gleanMismatchWindow t) x =
  .next (x.event t fun _ b => b.mismatchWindow) := rfl

theorem exec_drawWaitCompletion (t : Time) (tag : Nat) (x : State) : exec (.drawWaitCompletion t tag) x =
  .next (x.event t fun _ b => b.drawWait tag b.drawn) := rfl

theorem exec_timetableInstantiation (t : Time) (x : State) : exec (.timetableInstantiation t) x =
  .next (x.event t fun _ b => b.instantiate) := rfl

theorem exec_nodeInsert (t : Time) (x : State) : exec (.nodeInsert t) x =
  .next (x.event t fun _ b => b.insertNode) := rfl

theorem exec_dispatchStage (t : Time) (x : State) : exec (.dispatchStage t) x =
  .next (x.port t (some .dp) fun _ b => b.dispatchStage) := rfl

theorem exec_waveRelease (t : Time) (x : State) : exec (.waveRelease t) x =
  .next (x.port t (some .dp) fun _ b => b.waveRelease) := rfl

theorem exec_completionRecord (t : Time) (rec : CompletionRec) (crc : Nat) (x : State) : exec (.completionRecord t rec crc) x =
  .next (x.port t (some .cp) fun _ b => b.completion rec crc b.drawn) := rfl

theorem exec_itemTimeout (t : Time) (tag : Nat) (x : State) : exec (.itemTimeout t tag) x =
  .next (x.event t fun _ b => b.itemTimeout tag) := rfl

theorem exec_memoryReadResponse (t : Time) (beat : ReadBeat) (status : Nat) (crc : Nat) (x : State) : exec (.memoryReadResponse t beat status crc) x =
  .next (x.port t (some .mp) fun _ b => b.memRead beat status crc) := rfl

theorem exec_memoryWriteResponse (t : Time) (channel : Nat) (status : Nat) (x : State) : exec (.memoryWriteResponse t channel status) x =
  .next (x.port t (some .mp) fun _ b => b.memWritten channel status) := rfl

theorem exec_prefixWalk (t : Time) (handle : Nat) (x : State) : exec (.prefixWalk t handle) x =
  .next (x.event t fun _ b => b.prefixWalk handle) := rfl

theorem exec_readySend (t : Time) (x : State) : exec (.readySend t) x =
  .next (x.event t fun _ b => b.readySend) := rfl

theorem exec_junctionReady (t : Time) (rx : Rx) (junction : Nat) (term : Nat) (doneTime : Nat) (logCrc : Nat) (moveSeq : Nat) (reserved : Bool) (x : State) : exec (.junctionReady t rx junction term doneTime logCrc moveSeq reserved) x =
  .next (x.port t (some .fp) fun _ b => b.rx rx 1 fun b => b.junctionPacket rx.src junction term { doneTime, logCrc, moveSeq } reserved) := rfl

theorem exec_junctionDigest (t : Time) (rx : Rx) (junction : Nat) (term : Nat) (digest : Nat) (x : State) : exec (.junctionDigest t rx junction term digest) x =
  .next (x.port t (some .fp) fun _ b => b.rx rx 1 fun b => b.digestIn rx.src junction term digest) := rfl

theorem exec_digestResendTimer (t : Time) (x : State) : exec (.digestResendTimer t) x =
  .next (x.event t fun _ b => b.digestResend) := rfl

theorem exec_readyResendTimer (t : Time) (x : State) : exec (.readyResendTimer t) x =
  .next (x.event t fun _ b => b.readyResend) := rfl

theorem exec_junctionWatchdog (t : Time) (x : State) : exec (.junctionWatchdog t) x =
  .next (x.event t fun _ b => b.junctionWatchdog) := rfl

theorem exec_idleInterval (t : Time) (x : State) : exec (.idleInterval t) x =
  .next (x.event t fun _ b => b.idleInterval) := rfl

theorem exec_yardFinalisation (t : Time) (x : State) : exec (.yardFinalisation t) x =
  .next (x.event t fun _ b => b.yardFinalisation) := rfl

theorem exec_logReceived (t : Time) (rx : Rx) (frag : Nat) (count : Nat) (log : JLog) (reserved : Bool) (x : State) : exec (.logReceived t rx frag count log reserved) x =
  .next (x.port t (some .fp) fun _ b => b.rx rx 2 fun b => b.logIn rx.src frag count log reserved) := rfl

theorem exec_logResendRequest (t : Time) (rx : Rx) (id : Nat) (first : Nat) (count : Nat) (x : State) : exec (.logResendRequest t rx id first count) x =
  .next (x.port t (some .fp) fun _ b => b.rx rx 2 fun b => b.logResend rx.src id first count) := rfl

theorem exec_logResendTimer (t : Time) (x : State) : exec (.logResendTimer t) x =
  .next (x.event t fun _ b => b.logResendTimer) := rfl

theorem exec_leadTimerExpiry (t : Time) (x : State) : exec (.leadTimerExpiry t) x =
  .next (x.port t (some .fp) fun _ b => b.leadTimerExpiry) := rfl

theorem exec_takeover (t : Time) (rx : Rx) (junction : Nat) (term : Nat) (oldLead : Nat) (x : State) : exec (.takeover t rx junction term oldLead) x =
  .next (x.port t (some .fp) fun _ b => b.rx rx 1 fun b => b.takeoverIn rx.src junction term oldLead) := rfl

theorem exec_takeoverAck (t : Time) (rx : Rx) (term : Nat) (copies : Nat) (x : State) : exec (.takeoverAck t rx term copies) x =
  .next (x.port t (some .fp) fun _ b => b.rx rx 1 fun b => b.takeoverAckIn rx.src term copies) := rfl

theorem exec_takeoverTimeout (t : Time) (x : State) : exec (.takeoverTimeout t) x =
  .next (x.event t fun _ b => b.takeoverTimeout) := rfl

theorem exec_propose (t : Time) (rx : Rx) (head : EpochHead) (cmd : CmdRecord) (x : State) : exec (.propose t rx head cmd) x =
  .next (x.port t (some .fp) fun m b => b.rx rx 4 fun b => b.proposeIn m rx.src head cmd) := rfl

theorem exec_prepared (t : Time) (rx : Rx) (head : EpochHead) (mem : Nat) (page : Nat) (fixed : Nat) (x : State) : exec (.prepared t rx head mem page fixed) x =
  .next (x.port t (some .fp) fun _ b => b.rx rx 4 fun b => b.preparedIn rx.src head (mem, page, fixed)) := rfl

theorem exec_refused (t : Time) (rx : Rx) (head : EpochHead) (status : Nat) (detail : Nat) (x : State) : exec (.refused t rx head status detail) x =
  .next (x.port t (some .fp) fun _ b => b.rx rx 4 fun b => b.refusedIn rx.src head status detail) := rfl

theorem exec_capReport (t : Time) (rx : Rx) (head : EpochHead) (cap : Nat) (seq : Nat) (x : State) : exec (.capReport t rx head cap seq) x =
  .next (x.port t (some .fp) fun _ b => b.rx rx 4 fun b => b.epochIn head fun b => b.capReport rx.src cap seq) := rfl

theorem exec_capSet (t : Time) (rx : Rx) (head : EpochHead) (cap : GroupCap) (seq : Nat) (effective : Nat) (x : State) : exec (.capSet t rx head cap seq effective) x =
  .next (x.port t (some .fp) fun _ b => b.rx rx 4 fun b => b.epochIn head fun b => b.capSet cap.cap cap.rank seq effective) := rfl

theorem exec_lossReport (t : Time) (rx : Rx) (head : EpochHead) (report : LossReport) (x : State) : exec (.lossReport t rx head report) x =
  .next (x.port t (some .fp) fun _ b => b.rx rx 4 fun b => b.lossReportIn head report) := rfl

theorem exec_lossReportResend (t : Time) (x : State) : exec (.lossReportResend t) x =
  .next (x.event t fun _ b => b.lossReportResend) := rfl

theorem exec_formReport (t : Time) (rx : Rx) (report : FormReport) (x : State) : exec (.formReport t rx report) x =
  .next (x.port t (some .fp) fun m b => b.rx rx 4 fun b => b.formReportIn m rx.src report) := rfl

theorem exec_formReportRepeat (t : Time) (x : State) : exec (.formReportRepeat t) x =
  .next (x.event t fun _ b => b.formReportRepeat) := rfl

theorem exec_formCommit (t : Time) (rx : Rx) (commit : FormCommit) (x : State) : exec (.formCommit t rx commit) x =
  .next (x.port t (some .fp) fun m b => b.rx rx 4 fun b => b.formCommitIn m rx.src commit) := rfl

theorem exec_roster (t : Time) (rx : Rx) (recoverId : Nat) (entries : List RosterEntry) (x : State) : exec (.roster t rx recoverId entries) x =
  .next (x.port t (some .fp) fun _ b => b.rx rx 4 fun b => b.rosterIn recoverId entries) := rfl

theorem exec_formationTimeout (t : Time) (x : State) : exec (.formationTimeout t) x =
  .next (x.event t fun _ b => b.formationTimeout) := rfl

theorem exec_haltReceived (t : Time) (rx : Rx) (reason : Nat) (rank : Nat) (time : Nat) (x : State) : exec (.haltReceived t rx reason rank time) x =
  .next (x.port t (some .fp) fun _ b => b.rx rx 5 fun b => b.haltReceived reason rank time) := rfl

theorem exec_linkmap (t : Time) (rx : Rx) (report : LinkReport) (x : State) : exec (.linkmap t rx report) x =
  .next (x.port t (some .fp) fun _ b => b.rx rx 6 fun b => b.linkFails report.link report.time) := rfl

theorem exec_linkFailReport (t : Time) (link : Nat) (x : State) : exec (.linkFailReport t link) x =
  .next (x.port t (some .fp) fun _ b => b.linkFails link b.now) := rfl

theorem exec_txCreditReturn (t : Time) (cls : Nat) (x : State) : exec (.txCreditReturn t cls) x =
  .next (x.port t (some .fp) fun _ b => b.returnCredit cls) := rfl

theorem exec_endpointResponse (t : Time) (rank : Nat) (alive : Bool) (x : State) : exec (.endpointResponse t rank alive) x =
  .next (x.port t (some .fp) fun _ b => b.endpointResponse rank alive) := rfl

theorem exec_endpointQueryTimeout (t : Time) (x : State) : exec (.endpointQueryTimeout t) x =
  .next (x.port t (some .fp) fun _ b => b.endpointAnswer false) := rfl

theorem exec_telemetryFrame (t : Time) (frame : TelemetryFrame) (x : State) : exec (.telemetryFrame t frame) x =
  .next (x.port t (some .pw) fun _ b => b.telemetry frame) := rfl

theorem exec_hardStuck (t : Time) (rail : Nat) (x : State) : exec (.hardStuck t rail) x =
  .next (x.event t fun _ b => b.hardStuck rail) := rfl

theorem exec_telemetryLoss (t : Time) (rail : Nat) (x : State) : exec (.telemetryLoss t rail) x =
  .next (x.event t fun _ b => b.telemetryLoss rail) := rfl

theorem exec_calibrationWindow (t : Time) (x : State) : exec (.calibrationWindow t) x =
  .next (x.event t fun _ b => b.calibrate) := rfl

theorem exec_capStrobe (t : Time) (cap : Nat) (urgent : Bool) (x : State) : exec (.capStrobe t cap urgent) x =
  .next (x.port t (some .pw) fun _ b => b.capStrobe cap urgent) := rfl

theorem exec_capDeadline (t : Time) (x : State) : exec (.capDeadline t) x =
  .next (x.event t fun _ b => b.capDeadline) := rfl

theorem exec_droopWarningAssert (t : Time) (x : State) : exec (.droopWarningAssert t) x =
  .next (x.port t (some .pw) fun _ b => b.droopAssert) := rfl

theorem exec_droopWarningDeassert (t : Time) (x : State) : exec (.droopWarningDeassert t) x =
  .next (x.port t (some .pw) fun _ b => b.droopDeassert) := rfl

theorem exec_droopRamp (t : Time) (x : State) : exec (.droopRamp t) x =
  .next (x.event t fun _ b => b.droopRamp) := rfl

theorem exec_timeBaseLost (t : Time) (fault : TimeBaseFault) (x : State) : exec (.timeBaseLost t fault) x =
  .next (x.event t fun _ b => b.timeBaseLost fault) := rfl

theorem exec_pclkLost (t : Time) (clock : PortClock) (x : State) : exec (.pclkLost t clock) x =
  .next (x.event t fun _ b => b.pclkLost clock) := rfl

theorem exec_setEndpointId (t : Time) (msg : MctpMsg) (op : Nat) (eid : Nat) (x : State) : exec (.setEndpointId t msg op eid) x =
  .next (x.port t (some .mg) fun _ b => b.setEndpointId msg op eid) := rfl

theorem exec_getEndpointId (t : Time) (msg : MctpMsg) (x : State) : exec (.getEndpointId t msg) x =
  .next (x.port t (some .mg) fun _ b => b.getEndpointId msg) := rfl

theorem exec_getEndpointUuid (t : Time) (msg : MctpMsg) (x : State) : exec (.getEndpointUuid t msg) x =
  .next (x.port t (some .mg) fun _ b => b.getEndpointUuid msg) := rfl

theorem exec_getMctpVersionSupport (t : Time) (msg : MctpMsg) (type : Nat) (x : State) : exec (.getMctpVersionSupport t msg type) x =
  .next (x.port t (some .mg) fun _ b => b.getMctpVersion msg type) := rfl

theorem exec_getMessageTypeSupport (t : Time) (msg : MctpMsg) (x : State) : exec (.getMessageTypeSupport t msg) x =
  .next (x.port t (some .mg) fun _ b => b.getMessageTypes msg) := rfl

theorem exec_getTid (t : Time) (msg : MctpMsg) (x : State) : exec (.getTid t msg) x =
  .next (x.port t (some .mg) fun _ b => b.pldmQuery msg 0 2 (le 1 Config.tid)) := rfl

theorem exec_getPldmVersion (t : Time) (msg : MctpMsg) (type : Nat) (x : State) : exec (.getPldmVersion t msg type) x =
  .next (x.port t (some .mg) fun _ b => b.getPldmVersion msg type) := rfl

theorem exec_getPldmTypes (t : Time) (msg : MctpMsg) (x : State) : exec (.getPldmTypes t msg) x =
  .next (x.port t (some .mg) fun _ b => b.pldmQuery msg 0 4 (le 8 0x21)) := rfl

theorem exec_getPldmCommands (t : Time) (msg : MctpMsg) (type : Nat) (x : State) : exec (.getPldmCommands t msg type) x =
  .next (x.port t (some .mg) fun _ b => b.getPldmCommands msg type) := rfl

theorem exec_queryDeviceIdentifiers (t : Time) (msg : MctpMsg) (x : State) : exec (.queryDeviceIdentifiers t msg) x =
  .next (x.port t (some .mg) fun _ b => b.pldmQuery msg 5 1 deviceIdentifiers) := rfl

theorem exec_getFirmwareParameters (t : Time) (msg : MctpMsg) (x : State) : exec (.getFirmwareParameters t msg) x =
  .next (x.port t (some .mg) fun _ b => b.pldmQuery msg 5 2 b.firmwareParameters) := rfl

theorem exec_requestUpdate (t : Time) (msg : MctpMsg) (maxTransfer : Nat) (x : State) : exec (.requestUpdate t msg maxTransfer) x =
  .next (x.port t (some .mg) fun _ b => b.requestUpdate msg maxTransfer) := rfl

theorem exec_passComponentTable (t : Time) (msg : MctpMsg) (classification : Nat) (identifier : Nat) (last : Bool) (x : State) : exec (.passComponentTable t msg classification identifier last) x =
  .next (x.port t (some .mg) fun _ b => b.passComponent msg classification identifier last) := rfl

theorem exec_updateComponent (t : Time) (msg : MctpMsg) (classification : Nat) (identifier : Nat) (size : Nat) (x : State) : exec (.updateComponent t msg classification identifier size) x =
  .next (x.port t (some .mg) fun _ b => b.updateComponent msg classification identifier size) := rfl

theorem exec_firmwareData (t : Time) (msg : MctpMsg) (code : Nat) (data : List Byte) (x : State) : exec (.firmwareData t msg code data) x =
  .next (x.port t (some .mg) fun _ b => b.firmwareData msg code data) := rfl

theorem exec_activateFirmware (t : Time) (msg : MctpMsg) (selfContained : Bool) (x : State) : exec (.activateFirmware t msg selfContained) x =
  .next (x.port t (some .mg) fun _ b => b.activateFirmware msg selfContained) := rfl

theorem exec_getStatus (t : Time) (msg : MctpMsg) (x : State) : exec (.getStatus t msg) x =
  .next (x.port t (some .mg) fun _ b => b.pldmQuery msg 5 0x1B b.updateStatus) := rfl

theorem exec_cancelUpdateComponent (t : Time) (msg : MctpMsg) (x : State) : exec (.cancelUpdateComponent t msg) x =
  .next (x.port t (some .mg) fun _ b => b.cancelComponent msg) := rfl

theorem exec_cancelUpdate (t : Time) (msg : MctpMsg) (x : State) : exec (.cancelUpdate t msg) x =
  .next (x.port t (some .mg) fun _ b => b.cancelUpdate msg) := rfl

theorem exec_getVersion (t : Time) (msg : MctpMsg) (x : State) : exec (.getVersion t msg) x =
  .next (x.port t (some .mg) fun _ b => b.spdmVersion msg) := rfl

theorem exec_getCapabilities (t : Time) (msg : MctpMsg) (x : State) : exec (.getCapabilities t msg) x =
  .next (x.port t (some .mg) fun _ b => b.spdmCapabilities msg) := rfl

theorem exec_negotiateAlgorithms (t : Time) (msg : MctpMsg) (asym : Nat) (hash : Nat) (x : State) : exec (.negotiateAlgorithms t msg asym hash) x =
  .next (x.port t (some .mg) fun _ b => b.spdmAlgorithms msg asym hash) := rfl

theorem exec_getDigests (t : Time) (msg : MctpMsg) (x : State) : exec (.getDigests t msg) x =
  .next (x.port t (some .mg) fun _ b => b.spdmDigests msg) := rfl

theorem exec_getCertificate (t : Time) (msg : MctpMsg) (certSlot : Nat) (offset : Nat) (length : Nat) (x : State) : exec (.getCertificate t msg certSlot offset length) x =
  .next (x.port t (some .mg) fun _ b => b.spdmCertificate msg certSlot offset length) := rfl

theorem exec_challenge (t : Time) (msg : MctpMsg) (certSlot : Nat) (summary : Nat) (x : State) : exec (.challenge t msg certSlot summary) x =
  .next (x.port t (some .mg) fun _ b => b.spdmChallenge msg certSlot summary) := rfl

theorem exec_getMeasurements (t : Time) (msg : MctpMsg) (certSlot : Nat) (operation : Nat) (signed : Bool) (x : State) : exec (.getMeasurements t msg certSlot operation signed) x =
  .next (x.port t (some .mg) fun _ b => b.spdmMeasurements msg certSlot operation signed) := rfl

theorem exec_setCertificate (t : Time) (msg : MctpMsg) (certSlot : Nat) (chain : List Byte) (x : State) : exec (.setCertificate t msg certSlot chain) x =
  .next (x.port t (some .mg) fun _ b => b.spdmSetCertificate msg certSlot chain) := rfl

theorem exec_flashCommandDone (t : Time) (ok : Bool) (x : State) : exec (.flashCommandDone t ok) x =
  .next (x.port t (some .mp) fun _ b => b.flashDone ok) := rfl

theorem exec_flashCommandTimeout (t : Time) (x : State) : exec (.flashCommandTimeout t) x =
  .next (x.event t fun _ b => b.flashTimeout) := rfl

theorem exec_persistentLogFlush (t : Time) (x : State) : exec (.persistentLogFlush t) x =
  .next (x.event t fun _ b => b.flushDue) := rfl

theorem exec_coreWatchdog (t : Time) (core : Nat) (pc : Nat) (x : State) : exec (.coreWatchdog t core pc) x =
  .next (x.event t fun _ b => b.coreWatchdog core pc) := rfl

theorem exec_retentionAck (t : Time) (core : Nat) (level : Bool) (x : State) : exec (.retentionAck t core level) x =
  .next (x.event t fun _ b => b.retentionAck core level) := rfl

theorem exec_sensorSample (t : Time) (sensor : Nat) (value : Nat) (x : State) : exec (.sensorSample t sensor value) x =
  .next (x.event t fun _ b => b.firmware fun b => b.sensorSample sensor value) := rfl

theorem exec_censusSnapshot (t : Time) (x : State) : exec (.censusSnapshot t) x =
  .next (x.event t fun _ b => b.censusSnapshot) := rfl

theorem exec_sramUncorrectable (t : Time) (storage : Storage) (newPass : Bool) (x : State) : exec (.sramUncorrectable t storage newPass) x =
  .next (x.event t fun _ b => b.uncorrectable storage newPass) := rfl

theorem exec_drbgHealthFail (t : Time) (x : State) : exec (.drbgHealthFail t) x =
  .next (x.event t fun _ b => b.drbgFail) := rfl

theorem exec_diagSweepComplete (t : Time) (unit : Option Nat) (x : State) : exec (.diagSweepComplete t unit) x =
  .next (x.event t fun _ b => b.sweepDone unit) := rfl

theorem exec_quiescence (t : Time) (x : State) : exec (.quiescence t) x =
  .next (x.event t fun _ b => b.quiescence) := rfl

theorem exec_poreset (t : Time) (x : State) : exec (.poreset t) x =
  .next (x.resetInput t Block.poreset) := rfl

theorem exec_wreset (t : Time) (x : State) : exec (.wreset t) x =
  .next (x.resetInput t Block.wreset) := rfl

theorem exec_resetRelease (t : Time) (memFail : Option Nat) (x : State) : exec (.resetRelease t memFail) x =
  .next (x.resetInput t fun b => b.release memFail) := rfl

theorem exec_selfTestComplete (t : Time) (firmwareOk : Bool) (unit : Option Nat) (x : State) : exec (.selfTestComplete t firmwareOk unit) x =
  .next (x.event t fun _ b => b.selfTestDone firmwareOk unit) := rfl

theorem exec_testModeEntry (t : Time) (mode : TestMode) (x : State) : exec (.testModeEntry t mode) x =
  .next (x.testEvent t fun b => b.testMode mode) := rfl

theorem exec_drbgReseed (t : Time) (x : State) : exec (.drbgReseed t) x =
  .next (x.event t fun _ b => b.drbgReseed) := rfl

theorem exec_kbActionComplete (t : Time) (x : State) : exec (.kbActionComplete t) x =
  .next (x.event t fun _ b => b.firmware Block.kbComplete) := rfl

theorem exec_tbSyncPulse (t : Time) (x : State) : exec (.tbSyncPulse t) x =
  .next (x.port t (some .tb) fun _ b => b.tbSync) := rfl

theorem exec_scrubSymbolCorrected (t : Time) (unit : Nat) (addr : Nat) (bank : Option Nat) (newPass : Bool) (x : State) : exec (.scrubSymbolCorrected t unit addr bank newPass) x =
  .next (x.event t fun _ b => b.corrected unit addr bank newPass) := rfl

theorem exec_outDroppedRead (t : Time) (a : HAccess) (ch : Nat) (x : State) : exec (.outDroppedRead t a ch) x =
  .next (x.host t a fun _ b => b.readAccess a (mailOffset ch + 0x18) fun b => b.readOutCtl a ch) := rfl

theorem exec_wsSafeEntry (t : Time) (x : State) : exec (.wsSafeEntry t) x =
  .next (x.event t fun _ b => b.wsSafe) := rfl

end Sys2Proof.Machine
end

