-- ==== Sys2Proof/Laws/Mem.lean ====
section
/-! SUPPORT. Device memory: every operation keeps the canonical form, and a byte written is the byte read. -/

namespace Sys2Proof.Machine
open Sys2Proof

/-- Every key of a table lies above k. -/
def memAbove (k : Nat) (m : Memory) : Prop := ∀ p ∈ m, k < p.1

theorem memRising_cons {p : Host.Cell} {m : Memory} : memRising (p :: m) = true ↔ memAbove p.1 m ∧ memRising m = true := by
  induction m generalizing p with
  | nil => simp [memRising, memAbove]
  | cons q r ih =>
    simp only [memRising, Bool.and_eq_true, decide_eq_true_eq, memAbove]
    constructor
    · rintro ⟨h, h2⟩
      refine ⟨?_, h2⟩
      intro x hx
      rcases List.mem_cons.mp hx with rfl | hx
      · exact h
      · exact Nat.lt_trans h ((ih.mp h2).1 x hx)
    · rintro ⟨h, h2⟩
      exact ⟨h q (List.mem_cons_self ..), h2⟩

theorem memAbove_set {k a : Nat} {b : Byte} {m : Memory} (h : memAbove k m) (ha : k < a) : memAbove k (Tab.set a b m) := by
  induction m with
  | nil => intro p hp; simp [Tab.set] at hp; subst hp; exact ha
  | cons q r ih =>
    have hr : memAbove k r := fun p hp => h p (List.mem_cons_of_mem _ hp)
    intro p hp
    simp only [Tab.set] at hp
    split at hp
    · rcases List.mem_cons.mp hp with rfl | hp
      · exact ha
      · exact h p hp
    · split at hp
      · rcases List.mem_cons.mp hp with rfl | hp
        · exact ha
        · exact hr p hp
      · rcases List.mem_cons.mp hp with rfl | hp
        · exact h _ (List.mem_cons_self ..)
        · exact ih hr p hp

theorem memRising_set {a : Nat} {b : Byte} {m : Memory} (h : memRising m = true) : memRising (Tab.set a b m) = true := by
  induction m with
  | nil => rfl
  | cons q r ih =>
    obtain ⟨h1, h2⟩ := memRising_cons.mp h
    simp only [Tab.set]
    split
    · rename_i hq
      exact memRising_cons.mpr ⟨fun p hp => (List.mem_cons.mp hp).elim (· ▸ hq) fun hp => Nat.lt_trans hq (h1 p hp), h⟩
    · split
      · rename_i hq
        exact memRising_cons.mpr ⟨hq ▸ h1, h2⟩
      · exact memRising_cons.mpr ⟨memAbove_set h1 (by omega), ih h2⟩

theorem memRising_filter {f : Host.Cell → Bool} {m : Memory} (h : memRising m = true) : memRising (m.filter f) = true := by
  induction m with
  | nil => rfl
  | cons q r ih =>
    obtain ⟨h1, h2⟩ := memRising_cons.mp h
    simp only [List.filter]
    split
    · exact memRising_cons.mpr ⟨fun p hp => h1 p (List.mem_filter.mp hp).1, ih h2⟩
    · exact ih h2

theorem mem_set {a : Nat} {b : Byte} {m : Memory} {p : Host.Cell} (h : p ∈ Tab.set a b m) : p = (a, b) ∨ p ∈ m := by
  induction m with
  | nil => simpa [Tab.set] using h
  | cons q r ih =>
    simp only [Tab.set] at h
    split at h
    · simpa using h
    · split at h
      · rcases List.mem_cons.mp h with h | h
        · exact .inl h
        · exact .inr (List.mem_cons_of_mem _ h)
      · rcases List.mem_cons.mp h with h | h
        · exact .inr (h ▸ List.mem_cons_self ..)
        · exact (ih h).imp_right (List.mem_cons_of_mem _)

theorem memWrite_wf {m : Memory} {a : Nat} {b : Byte} (h : Memory.wf m = true) : Memory.wf (memWrite m a b) = true := by
  obtain ⟨h1, h2⟩ := Bool.and_eq_true_iff.mp h
  rw [List.all_eq_true] at h2
  refine Bool.and_eq_true_iff.mpr ?_
  unfold memWrite
  split
  · exact ⟨memRising_filter h1, List.all_eq_true.mpr fun p hp => h2 p (List.mem_filter.mp hp).1⟩
  · rename_i hb
    exact ⟨memRising_set h1, List.all_eq_true.mpr fun p hp => (mem_set hp).elim (fun e => by simpa [e] using hb) (h2 p)⟩

theorem memWriteN_wf {m : Memory} {a : Nat} {bs : List Byte} (h : Memory.wf m = true) : Memory.wf (memWriteN m a bs) = true := by
  induction bs generalizing m a with
  | nil => exact h
  | cons b bs ih => exact ih (memWrite_wf h)

theorem memWriteAll_wf {m : Memory} {ws : List (Nat × List Byte)} (h : Memory.wf m = true) : Memory.wf (memWriteAll m ws) = true := by
  unfold memWriteAll
  induction ws generalizing m with
  | nil => exact h
  | cons w ws ih => exact ih (memWriteN_wf h)

theorem tabGet_above {m : Memory} {c : Nat} (h : memAbove c m) : Tab.get? c m = none := by
  cases m with
  | nil => rfl
  | cons q r =>
    have := h q (List.mem_cons_self ..)
    simp [Tab.get?, this, Nat.ne_of_gt this]

theorem tabGet_set {m : Memory} {a c : Nat} {b : Byte} (h : memRising m = true) :
    Tab.get? c (Tab.set a b m) = if c = a then some b else Tab.get? c m := by
  induction m with
  | nil => by_cases e : c = a <;> simp [Tab.set, Tab.get?, e, eq_comm]; omega
  | cons q r ih =>
    obtain ⟨h1, h2⟩ := memRising_cons.mp h
    have hr := ih h2
    simp only [Tab.set]
    split
    · simp only [Tab.get?]
      by_cases e : c = a
      · simp [e]
      · by_cases g : c < a
        · have : ¬ q.1 = c := by omega
          simp [e, Ne.symm e, g, this]; omega
        · simp [e, Ne.symm e, g]
    · split
      · rename_i e
        simp only [Tab.get?, e]
        by_cases g : c = q.1
        · simp [g]
        · simp [g, Ne.symm g]
      · rename_i e1 e2
        simp only [Tab.get?]
        by_cases g : q.1 = c
        · have : ¬ c = a := by omega
          simp [g, this]
        · by_cases k : c < q.1
          · have : ¬ c = a := by omega
            simp [g, k, this]
          · simp [g, k, hr]

theorem tabGet_erase {m : Memory} {a c : Nat} (h : memRising m = true) :
    Tab.get? c (Tab.erase a m) = if c = a then none else Tab.get? c m := by
  induction m with
  | nil => simp [Tab.erase, Tab.get?]
  | cons q r ih =>
    obtain ⟨h1, h2⟩ := memRising_cons.mp h
    have hr := ih h2
    simp only [Tab.erase, List.filter] at hr ⊢
    split
    · rename_i e
      simp only [bne_iff_ne, ne_eq] at e
      simp only [Tab.get?]
      by_cases g : q.1 = c
      · have : ¬ c = a := by omega
        simp [g, this]
      · by_cases k : c < q.1
        · simp [g, k]
        · simp [g, k, hr]
    · rename_i e
      have e : q.1 = a := by simpa using e
      by_cases g : c = a
      · simpa [g] using hr
      · rw [hr]
        have : ¬ q.1 = c := by omega
        by_cases k : c < q.1
        · have hc : memAbove c r := fun p hp => Nat.lt_trans k (h1 p hp)
          simp [Tab.get?, g, this, k, tabGet_above hc]
        · simp [Tab.get?, g, this, k]

theorem memRead_memWrite {m : Memory} {a c : Nat} {b : Byte} (h : Memory.wf m = true) :
    memRead (memWrite m a b) c = if c = a then b else memRead m c := by
  have h1 := (Bool.and_eq_true_iff.mp h).1
  unfold memRead memWrite Tab.getD
  split
  · rename_i e
    rw [tabGet_erase h1]
    split <;> simp [e]
  · rw [tabGet_set h1]
    split <;> simp

end Sys2Proof.Machine
end

