-- ==== Sys2Proof/Laws/Run.lean ====
section
/-! SUPPORT. What the frame of a command does: time, the ports, a session's current command, packets, messages, and the end. -/

namespace Sys2Proof.Machine
open Sys2Proof

theorem commit_inv {s : State} {b : Block} (h : Memory.wf (memWriteAll s.mem b.posted.reverse) = true) : (s.commit b).Inv := ⟨h, rfl, rfl⟩

theorem commit_pending (s : State) (b : Block) : (s.commit b).pending = s.pending := rfl

/-- A block for which nothing follows settles as it is. -/
theorem settle_done {m : Memory} {b : Block} (h : b.followUp = b) (h2 : b.fab.selfIn = []) (n : Nat) : Block.settle m (n + 1) b = b := by
  have : b.round m = (b, false) := by
    unfold Block.round
    rw [h]
    dsimp only
    split
    · rfl
    · rename_i h3; rw [h2] at h3; cases h3
  rw [Block.settle.eq_2, this]
  rfl

theorem settled_queue (s : State) (q : List Instr) (b c : Block) :
    ({ s with pending := q } : State).settled b c = { s.settled b c with pending := q } := by
  simp only [State.settled, State.commit, State.view]

theorem settled_pending (s : State) (b c : Block) : (s.settled b c).pending = s.pending := by
  simp only [State.settled, State.commit]

theorem settled_inv {s : State} (b c : Block) (h : Memory.wf s.mem = true) : (s.settled b c).Inv := by
  unfold State.settled
  exact commit_inv (memWriteAll_wf h)

theorem event_live {x : State} {t : Nat} {f : Memory → Block → Block} (h : x.blk.dead = false) :
    x.event t f = x.settled (x.blk.atTime t) (f x.view (x.blk.atTime t)) := by
  have : (x.blk.atTime t).dead = false := h
  simp [State.event, this]

theorem event_dead {x : State} {t : Nat} {f : Memory → Block → Block} (h : x.blk.dead = true) :
    x.event t f = x.commit (x.blk.atTime t) := by
  have : (x.blk.atTime t).dead = true := h
  simp [State.event, this]

theorem port_serving {x : State} {t : Nat} {c : PortClock} {f : Memory → Block → Block} (h : x.blk.dead = false)
    (hs : x.blk.sb.safe = false) : x.port t (some c) f = x.settled (x.blk.atTime t) (f x.view (x.seen t c)) := by
  have : (x.blk.atTime t).sb.safe = false := hs
  simp [State.port, event_live h, this, State.seen]

theorem port_safe {x : State} {t : Nat} {c : Option PortClock} {f : Memory → Block → Block} (h : x.blk.dead = false)
    (hs : x.blk.sb.safe = true) : x.port t c f = x.settled (x.blk.atTime t) (x.blk.atTime t) := by
  have : (x.blk.atTime t).sb.safe = true := hs
  simp [State.port, event_live h, this]

/-- A request of the aperture is a transfer at its port. -/
theorem host_port {x : State} {t : Nat} {a : HAccess} {f : Memory → Block → Block} (h : (!a.core) = true) :
    x.host t a f = x.port t (some .ha) fun m b => b.host a (f m) := by
  have : a.core = false := by simpa using h
  simp [State.host, this]

/-- Any access is an event. -/
theorem host_event (t : Nat) (a : HAccess) (f : Memory → Block → Block) :
    ∃ g, ∀ x : State, x.host t a f = x.event t g := by
  cases h : a.core
  · exact ⟨_, fun x => by rw [host_port (by simp [h])]; rfl⟩
  · exact ⟨_, fun x => by simp only [State.host, h, if_true]; rfl⟩

/-- What an access at the port does to a block that serves it. -/
theorem host_serving {x : State} {t : Nat} {a : HAccess} {f : Memory → Block → Block} (h : x.blk.dead = false)
    (hs : x.blk.sb.safe = false) (hc : a.core = false) :
    x.host t a f = x.settled (x.blk.atTime t) (f x.view (x.asked t a)) := by
  rw [host_port (by simp [hc]), port_serving h hs]; rfl

/-- What the access of a running core does. -/
theorem host_core {x : State} {t : Nat} {a : HAccess} {n : Nat} {f : Memory → Block → Block} (h : x.CoreAccess t a n) :
    x.host t a f = x.settled (x.blk.atTime t) (f x.view { x.blk.atTime t with agent := a.agent }) := by
  obtain ⟨h1, h2, _, h4, h5⟩ := h
  simp [State.host, h2, event_live h1, h4, h5]

theorem command_carries {x : State} {t s : Nat} {c : Current} {k : Memory → Packet → Option (Block → Block)} {f : Block → Block}
    (h : x.Carries t s c) (hk : k x.view c.pkt = some f) : x.command t s k = x.settled (x.blk.atTime t) (f (x.blk.atTime t)) := by
  obtain ⟨h1, h2, h3⟩ := h
  have : ((x.blk.atTime t).session s).current = some c := h2
  simp [State.command, event_live h1, Block.command, this, hk, h3]

theorem taken_parts {b : Block} {r : Rx} {c : Nat} {st : Option Nat} (h : c ≠ 2) :
    ((b.taken r c st).partsOf r c st).got = (b.partsOf r c st).got ++ [r.frag] := by
  have hs : (b.partsOf r c st).src = r.src ∧ (b.partsOf r c st).cls = c ∧ (b.partsOf r c st).msgId = r.msgId := by
    unfold Block.partsOf
    cases hf : b.fab.parts.find? fun p => p.src == r.src && p.cls == c && p.msgId == r.msgId with
    | none => exact ⟨rfl, rfl, rfl⟩
    | some p => simpa [and_assoc] using List.find?_some hf
  have hp : ((b.emit (.credit c 1)).viewed r.src c).partsOf r c st = b.partsOf r c st := rfl
  simp only [Block.taken, h, if_false, hp]
  unfold Block.partsOf at hs ⊢
  simp [hs]

/-- A packet that completes its message is taken, and the message acts. -/
theorem rx_whole {b : Block} {r : Rx} {c : Nat} {k : Block → Block} {st : Option Nat} (h : b.Whole r c st) :
    b.rx r c k st = k (b.taken r c st) := by
  obtain ⟨h1, h2, hg, h3, h4⟩ := h
  by_cases hc : c = 2
  · subst hc; simp [Block.rx, h1, h2, h3]; exact fun e => absurd e (by simpa using hg)
  · obtain ⟨h5, h6⟩ := h4.resolve_left hc
    have : (List.range r.count).all (fun i => ((b.taken r c st).partsOf r c st).got.contains i) = true := by
      simp only [List.all_eq_true, List.mem_range, taken_parts hc, List.contains_eq_mem, List.mem_append, List.mem_singleton,
        decide_eq_true_eq]
      exact fun i hi => (h6 i hi).symm
    have h7 : (b.partsOf r c st).got.contains r.frag = false := by simpa using h5
    simp only [Block.rx, h1, h2, h3, hg, hc, this, h7, Bool.false_eq_true, if_false, Bool.not_true, decide_false, Bool.and_false,
      Bool.or_true, Bool.or_false, if_true]

theorem inTerm_now {b : Block} {k : Block → Block} (h : b.running = true) : b.inTerm b.cp.term k = k b := by
  simp [Block.inTerm, h]

theorem hears {b c : Block} {m : MctpMsg} {h : MctpHead} {k : MctpHead → Block → Block} (hh : b.Hears m h c) :
    b.mctpIn m k = k h c := by
  obtain ⟨hp, ht, hs⟩ := hh
  have : (b.sb.phase != .firmware && b.sb.phase != .recovery) = false := by rcases hp with h | h <;> simp [h]
  simp [Block.mctpIn, this, ht, hs]

end Sys2Proof.Machine
end

