-- ==== Sys2Proof/Laws/Aperture.lean ====
section
/-! SUPPORT. Register accesses that Table 13-3 answers with OKAY: the register's own write or read, and the answer. -/

namespace Sys2Proof.Machine
open Sys2Proof

theorem registerWrite_ok {x : State} {t : Nat} {a : HAccess} {off v : Nat} (h : x.Writes t a off) (hw : windowOffset off = false)
    (ho : off < 0x200000) : (x.host t a fun _ b => b.registerWrite a off v) =
      x.settled (x.blk.atTime t) (((x.asked t a).writeAt a off v).answered (writeBeat 0)) := by
  obtain ⟨h1, h2, hc, h3, h4⟩ := h
  rw [host_serving h1 h2 hc]
  have : ¬ off ≥ 0x200000 := by omega
  simp only [Block.registerWrite, hw, this, decide_false, Bool.or_self, Block.writeAccess, Nat.not_le.2 h3, hc, Bool.not_false, Bool.true_and, if_false, h4,
    Block.answered, if_true, Bool.false_eq_true]

theorem readAccess_ok {x : State} {t : Nat} {a : HAccess} {off : Nat} {k : Block → Nat × Block} (h : x.Reads t a off)
    (ha : a.size8 = true) : (x.host t a fun _ b => b.readAccess a off k) =
      x.settled (x.blk.atTime t) ((k (x.asked t a)).2.answered (readBeat 0 (k (x.asked t a)).1 true)) := by
  obtain ⟨h1, h2, hc, h3, h4⟩ := h
  rw [host_serving h1 h2 hc]
  simp only [Block.readAccess, Nat.not_le.2 h3, decide_false, hc, Bool.not_false, Bool.true_and, Bool.false_eq_true, if_false, h4,
    Block.answered, if_true, ha, List.range_one, List.map_cons, List.map_nil, Nat.zero_add, BEq.rfl]

theorem writeAt_page {s r : Nat} (hr : r < 4096) (b : Block) (a : HAccess) (v : Nat) :
    b.writeAt a (page s + r) v = b.writePage a s r v := by
  have h1 : page s + r ≥ 0x100000 := by unfold page; omega
  have h2 : (page s + r - 0x100000) / 0x1000 = s := by unfold page; omega
  have h3 : (page s + r) % 0x1000 = r := by unfold page; omega
  simp only [Block.writeAt, h1, if_true, h2, h3]

theorem page_write {x : State} {t : Nat} {a : HAccess} {s r v : Nat} (hs : s < 256) (hr : r < 4096) (h : x.Writes t a (page s + r)) :
    (x.host t a fun _ b => b.registerWrite a (page s + r) v) =
      x.settled (x.blk.atTime t) (((x.asked t a).writePage a s r v).answered (writeBeat 0)) := by
  have hn : ¬ (page s + r < 0x100000) := by unfold page; omega
  have hw : windowOffset (page s + r) = false := by simp only [windowOffset, hn, decide_false, Bool.and_false]
  rw [registerWrite_ok h hw (by unfold page; omega), writeAt_page hr]

theorem page_write_tail {x : State} {t : Nat} {a : HAccess} {s v : Nat} (hs : s < 256) (h : x.Writes t a (page s)) :
    (x.host t a fun _ b => b.registerWrite a (page s) v) =
      x.settled (x.blk.atTime t) (((x.asked t a).writePage a s 0 v).answered (writeBeat 0)) := page_write (r := 0) hs (by decide) h

end Sys2Proof.Machine
end

