-- ==== Sys2Proof/Laws/Forms.lean ====
section
/-! SUPPORT. The forms of the commands: an event, of which a transfer at a port is one, the entry to a test mode, a reset input; what
each does to the block depends on the block and on device memory alone. -/

namespace Sys2Proof.Machine
open Sys2Proof

theorem exec_transfer {i : Instr} (h : isTransfer i = true) : ∃ t c f, ∀ s, exec i s = .next (s.port t c f) := by
  cases i
  all_goals first
    | exact absurd h Bool.false_ne_true
    | exact ⟨_, _, _, fun _ => congrArg _ (host_port h)⟩
    | exact ⟨_, _, _, fun _ => rfl⟩

theorem next_event {i : Instr} {t : Nat} {a : HAccess} {f : Memory → Block → Block} (h : ∀ s, exec i s = .next (s.host t a f)) :
    ∃ t f, ∀ s, exec i s = .next (s.event t f) := by
  obtain ⟨g, hg⟩ := host_event t a f
  exact ⟨t, g, fun s => by rw [h s, hg s]⟩

theorem exec_event {i : Instr} (h : isReset i = false) (ht : isTestEntry i = false) : ∃ t f, ∀ s, exec i s = .next (s.event t f) := by
  cases i
  all_goals first
    | exact absurd h.symm Bool.false_ne_true
    | exact absurd ht.symm Bool.false_ne_true
    | exact next_event fun _ => rfl
    | exact ⟨_, _, fun _ => rfl⟩

theorem exec_test {i : Instr} (h : isTestEntry i = true) : ∃ t f, ∀ s, exec i s = .next (s.testEvent t f) := by
  cases i
  all_goals first
    | exact absurd h Bool.false_ne_true
    | exact ⟨_, _, fun _ => rfl⟩

theorem exec_reset {i : Instr} (h : isReset i = true) : ∃ t f, ∀ s, exec i s = .next (s.resetInput t f) := by
  cases i
  all_goals first
    | exact absurd h Bool.false_ne_true
    | exact ⟨_, _, fun _ => rfl⟩

end Sys2Proof.Machine
end

