-- ==== Sys2Proof/Laws/State.lean ====
section
/-! SUPPORT. What each update of the block leaves as it was, field by field, and the few fields it sets. -/

namespace Sys2Proof.Machine
open Sys2Proof

@[simp] theorem Block.write_now (b : Block) (a : Nat) (bs : List Byte) (o : Nat) (f : Option (Nat × Nat)) (r : Bool) : (b.write a bs o f r).now = b.now := rfl
@[simp] theorem Block.write_gr (b : Block) (a : Nat) (bs : List Byte) (o : Nat) (f : Option (Nat × Nat)) (r : Bool) : (b.write a bs o f r).gr = b.gr := rfl
@[simp] theorem Block.write_pol (b : Block) (a : Nat) (bs : List Byte) (o : Nat) (f : Option (Nat × Nat)) (r : Bool) : (b.write a bs o f r).pol = b.pol := rfl
@[simp] theorem Block.write_pg (b : Block) (a : Nat) (bs : List Byte) (o : Nat) (f : Option (Nat × Nat)) (r : Bool) : (b.write a bs o f r).pg = b.pg := rfl
@[simp] theorem Block.write_mdl (b : Block) (a : Nat) (bs : List Byte) (o : Nat) (f : Option (Nat × Nat)) (r : Bool) : (b.write a bs o f r).mdl = b.mdl := rfl
@[simp] theorem Block.write_dsp (b : Block) (a : Nat) (bs : List Byte) (o : Nat) (f : Option (Nat × Nat)) (r : Bool) : (b.write a bs o f r).dsp = b.dsp := rfl
@[simp] theorem Block.write_thr (b : Block) (a : Nat) (bs : List Byte) (o : Nat) (f : Option (Nat × Nat)) (r : Bool) : (b.write a bs o f r).thr = b.thr := rfl
@[simp] theorem Block.write_gln (b : Block) (a : Nat) (bs : List Byte) (o : Nat) (f : Option (Nat × Nat)) (r : Bool) : (b.write a bs o f r).gln = b.gln := rfl
@[simp] theorem Block.write_trees (b : Block) (a : Nat) (bs : List Byte) (o : Nat) (f : Option (Nat × Nat)) (r : Bool) : (b.write a bs o f r).trees = b.trees := rfl
@[simp] theorem Block.write_fab (b : Block) (a : Nat) (bs : List Byte) (o : Nat) (f : Option (Nat × Nat)) (r : Bool) : (b.write a bs o f r).fab = b.fab := rfl
@[simp] theorem Block.write_flt (b : Block) (a : Nat) (bs : List Byte) (o : Nat) (f : Option (Nat × Nat)) (r : Bool) : (b.write a bs o f r).flt = b.flt := rfl
@[simp] theorem Block.write_pwr (b : Block) (a : Nat) (bs : List Byte) (o : Nat) (f : Option (Nat × Nat)) (r : Bool) : (b.write a bs o f r).pwr = b.pwr := rfl
@[simp] theorem Block.write_obs (b : Block) (a : Nat) (bs : List Byte) (o : Nat) (f : Option (Nat × Nat)) (r : Bool) : (b.write a bs o f r).obs = b.obs := rfl
@[simp] theorem Block.write_ses (b : Block) (a : Nat) (bs : List Byte) (o : Nat) (f : Option (Nat × Nat)) (r : Bool) : (b.write a bs o f r).ses = b.ses := rfl
@[simp] theorem Block.write_keys (b : Block) (a : Nat) (bs : List Byte) (o : Nat) (f : Option (Nat × Nat)) (r : Bool) : (b.write a bs o f r).keys = b.keys := rfl
@[simp] theorem Block.write_ap (b : Block) (a : Nat) (bs : List Byte) (o : Nat) (f : Option (Nat × Nat)) (r : Bool) : (b.write a bs o f r).ap = b.ap := rfl
@[simp] theorem Block.write_sb (b : Block) (a : Nat) (bs : List Byte) (o : Nat) (f : Option (Nat × Nat)) (r : Bool) : (b.write a bs o f r).sb = b.sb := rfl
@[simp] theorem Block.write_form (b : Block) (a : Nat) (bs : List Byte) (o : Nat) (f : Option (Nat × Nat)) (r : Bool) : (b.write a bs o f r).form = b.form := rfl
@[simp] theorem Block.write_cp (b : Block) (a : Nat) (bs : List Byte) (o : Nat) (f : Option (Nat × Nat)) (r : Bool) : (b.write a bs o f r).cp = b.cp := rfl
@[simp] theorem Block.write_seq (b : Block) (a : Nat) (bs : List Byte) (o : Nat) (f : Option (Nat × Nat)) (r : Bool) : (b.write a bs o f r).seq = b.seq := rfl
@[simp] theorem Block.write_fresh (b : Block) (a : Nat) (bs : List Byte) (o : Nat) (f : Option (Nat × Nat)) (r : Bool) : (b.write a bs o f r).fresh = b.fresh := rfl
@[simp] theorem Block.write_vlog (b : Block) (a : Nat) (bs : List Byte) (o : Nat) (f : Option (Nat × Nat)) (r : Bool) : (b.write a bs o f r).vlog = b.vlog := rfl
@[simp] theorem Block.write_out (b : Block) (a : Nat) (bs : List Byte) (o : Nat) (f : Option (Nat × Nat)) (r : Bool) : (b.write a bs o f r).out = b.out := rfl
@[simp] theorem Block.write_agent (b : Block) (a : Nat) (bs : List Byte) (o : Nat) (f : Option (Nat × Nat)) (r : Bool) : (b.write a bs o f r).agent = b.agent := rfl
@[simp] theorem Block.write_work (b : Block) (a : Nat) (bs : List Byte) (o : Nat) (f : Option (Nat × Nat)) (r : Bool) : (b.write a bs o f r).work = b.work := rfl
@[simp] theorem Block.write_posted (b : Block) (a : Nat) (bs : List Byte) (o : Nat) (f : Option (Nat × Nat)) (r : Bool) : (b.write a bs o f r).posted = b.posted := rfl
@[simp] theorem Block.write_setAt (b : Block) (a : Nat) (bs : List Byte) (o : Nat) (f : Option (Nat × Nat)) (r : Bool) : (b.write a bs o f r).setAt = b.setAt := rfl

@[simp] theorem Block.ask_now (b : Block) (s a n : Nat) (u : MemRead) : (b.ask s a n u).now = b.now := rfl
@[simp] theorem Block.ask_gr (b : Block) (s a n : Nat) (u : MemRead) : (b.ask s a n u).gr = b.gr := rfl
@[simp] theorem Block.ask_pol (b : Block) (s a n : Nat) (u : MemRead) : (b.ask s a n u).pol = b.pol := rfl
@[simp] theorem Block.ask_pg (b : Block) (s a n : Nat) (u : MemRead) : (b.ask s a n u).pg = b.pg := rfl
@[simp] theorem Block.ask_mdl (b : Block) (s a n : Nat) (u : MemRead) : (b.ask s a n u).mdl = b.mdl := rfl
@[simp] theorem Block.ask_dsp (b : Block) (s a n : Nat) (u : MemRead) : (b.ask s a n u).dsp = b.dsp := rfl
@[simp] theorem Block.ask_thr (b : Block) (s a n : Nat) (u : MemRead) : (b.ask s a n u).thr = b.thr := rfl
@[simp] theorem Block.ask_gln (b : Block) (s a n : Nat) (u : MemRead) : (b.ask s a n u).gln = b.gln := rfl
@[simp] theorem Block.ask_trees (b : Block) (s a n : Nat) (u : MemRead) : (b.ask s a n u).trees = b.trees := rfl
@[simp] theorem Block.ask_fab (b : Block) (s a n : Nat) (u : MemRead) : (b.ask s a n u).fab = b.fab := rfl
@[simp] theorem Block.ask_flt (b : Block) (s a n : Nat) (u : MemRead) : (b.ask s a n u).flt = b.flt := rfl
@[simp] theorem Block.ask_pwr (b : Block) (s a n : Nat) (u : MemRead) : (b.ask s a n u).pwr = b.pwr := rfl
@[simp] theorem Block.ask_obs (b : Block) (s a n : Nat) (u : MemRead) : (b.ask s a n u).obs = b.obs := rfl
@[simp] theorem Block.ask_ses (b : Block) (s a n : Nat) (u : MemRead) : (b.ask s a n u).ses = b.ses := rfl
@[simp] theorem Block.ask_keys (b : Block) (s a n : Nat) (u : MemRead) : (b.ask s a n u).keys = b.keys := rfl
@[simp] theorem Block.ask_ap (b : Block) (s a n : Nat) (u : MemRead) : (b.ask s a n u).ap = b.ap := rfl
@[simp] theorem Block.ask_sb (b : Block) (s a n : Nat) (u : MemRead) : (b.ask s a n u).sb = b.sb := rfl
@[simp] theorem Block.ask_form (b : Block) (s a n : Nat) (u : MemRead) : (b.ask s a n u).form = b.form := rfl
@[simp] theorem Block.ask_cp (b : Block) (s a n : Nat) (u : MemRead) : (b.ask s a n u).cp = b.cp := rfl
@[simp] theorem Block.ask_seq (b : Block) (s a n : Nat) (u : MemRead) : (b.ask s a n u).seq = b.seq := rfl
@[simp] theorem Block.ask_fresh (b : Block) (s a n : Nat) (u : MemRead) : (b.ask s a n u).fresh = b.fresh := rfl
@[simp] theorem Block.ask_vlog (b : Block) (s a n : Nat) (u : MemRead) : (b.ask s a n u).vlog = b.vlog := rfl
@[simp] theorem Block.ask_out (b : Block) (s a n : Nat) (u : MemRead) : (b.ask s a n u).out = b.out := rfl
@[simp] theorem Block.ask_agent (b : Block) (s a n : Nat) (u : MemRead) : (b.ask s a n u).agent = b.agent := rfl
@[simp] theorem Block.ask_work (b : Block) (s a n : Nat) (u : MemRead) : (b.ask s a n u).work = b.work := rfl
@[simp] theorem Block.ask_posted (b : Block) (s a n : Nat) (u : MemRead) : (b.ask s a n u).posted = b.posted := rfl
@[simp] theorem Block.ask_setAt (b : Block) (s a n : Nat) (u : MemRead) : (b.ask s a n u).setAt = b.setAt := rfl

@[simp] theorem Block.noteSet_now (b : Block) (k : Nat) : (b.noteSet k).now = b.now := rfl
@[simp] theorem Block.noteSet_gr (b : Block) (k : Nat) : (b.noteSet k).gr = b.gr := rfl
@[simp] theorem Block.noteSet_pol (b : Block) (k : Nat) : (b.noteSet k).pol = b.pol := rfl
@[simp] theorem Block.noteSet_pg (b : Block) (k : Nat) : (b.noteSet k).pg = b.pg := rfl
@[simp] theorem Block.noteSet_mdl (b : Block) (k : Nat) : (b.noteSet k).mdl = b.mdl := rfl
@[simp] theorem Block.noteSet_dsp (b : Block) (k : Nat) : (b.noteSet k).dsp = b.dsp := rfl
@[simp] theorem Block.noteSet_thr (b : Block) (k : Nat) : (b.noteSet k).thr = b.thr := rfl
@[simp] theorem Block.noteSet_gln (b : Block) (k : Nat) : (b.noteSet k).gln = b.gln := rfl
@[simp] theorem Block.noteSet_trees (b : Block) (k : Nat) : (b.noteSet k).trees = b.trees := rfl
@[simp] theorem Block.noteSet_fab (b : Block) (k : Nat) : (b.noteSet k).fab = b.fab := rfl
@[simp] theorem Block.noteSet_mp (b : Block) (k : Nat) : (b.noteSet k).mp = b.mp := rfl
@[simp] theorem Block.noteSet_flt (b : Block) (k : Nat) : (b.noteSet k).flt = b.flt := rfl
@[simp] theorem Block.noteSet_pwr (b : Block) (k : Nat) : (b.noteSet k).pwr = b.pwr := rfl
@[simp] theorem Block.noteSet_obs (b : Block) (k : Nat) : (b.noteSet k).obs = b.obs := rfl
@[simp] theorem Block.noteSet_ses (b : Block) (k : Nat) : (b.noteSet k).ses = b.ses := rfl
@[simp] theorem Block.noteSet_keys (b : Block) (k : Nat) : (b.noteSet k).keys = b.keys := rfl
@[simp] theorem Block.noteSet_ap (b : Block) (k : Nat) : (b.noteSet k).ap = b.ap := rfl
@[simp] theorem Block.noteSet_sb (b : Block) (k : Nat) : (b.noteSet k).sb = b.sb := rfl
@[simp] theorem Block.noteSet_form (b : Block) (k : Nat) : (b.noteSet k).form = b.form := rfl
@[simp] theorem Block.noteSet_cp (b : Block) (k : Nat) : (b.noteSet k).cp = b.cp := rfl
@[simp] theorem Block.noteSet_seq (b : Block) (k : Nat) : (b.noteSet k).seq = b.seq := rfl
@[simp] theorem Block.noteSet_fresh (b : Block) (k : Nat) : (b.noteSet k).fresh = b.fresh := rfl
@[simp] theorem Block.noteSet_vlog (b : Block) (k : Nat) : (b.noteSet k).vlog = b.vlog := rfl
@[simp] theorem Block.noteSet_out (b : Block) (k : Nat) : (b.noteSet k).out = b.out := rfl
@[simp] theorem Block.noteSet_agent (b : Block) (k : Nat) : (b.noteSet k).agent = b.agent := rfl
@[simp] theorem Block.noteSet_work (b : Block) (k : Nat) : (b.noteSet k).work = b.work := rfl
@[simp] theorem Block.noteSet_posted (b : Block) (k : Nat) : (b.noteSet k).posted = b.posted := rfl
@[simp] theorem Block.noteSet_setAt (b : Block) (k : Nat) : (b.noteSet k).setAt = Tab.set k b.now b.setAt := rfl

@[simp] theorem Block.emit_now (b : Block) (o : Out) : (b.emit o).now = b.now := rfl
@[simp] theorem Block.emit_gr (b : Block) (o : Out) : (b.emit o).gr = b.gr := rfl
@[simp] theorem Block.emit_pol (b : Block) (o : Out) : (b.emit o).pol = b.pol := rfl
@[simp] theorem Block.emit_pg (b : Block) (o : Out) : (b.emit o).pg = b.pg := rfl
@[simp] theorem Block.emit_mdl (b : Block) (o : Out) : (b.emit o).mdl = b.mdl := rfl
@[simp] theorem Block.emit_dsp (b : Block) (o : Out) : (b.emit o).dsp = b.dsp := rfl
@[simp] theorem Block.emit_thr (b : Block) (o : Out) : (b.emit o).thr = b.thr := rfl
@[simp] theorem Block.emit_gln (b : Block) (o : Out) : (b.emit o).gln = b.gln := rfl
@[simp] theorem Block.emit_trees (b : Block) (o : Out) : (b.emit o).trees = b.trees := rfl
@[simp] theorem Block.emit_fab (b : Block) (o : Out) : (b.emit o).fab = b.fab := rfl
@[simp] theorem Block.emit_mp (b : Block) (o : Out) : (b.emit o).mp = b.mp := rfl
@[simp] theorem Block.emit_flt (b : Block) (o : Out) : (b.emit o).flt = b.flt := rfl
@[simp] theorem Block.emit_pwr (b : Block) (o : Out) : (b.emit o).pwr = b.pwr := rfl
@[simp] theorem Block.emit_obs (b : Block) (o : Out) : (b.emit o).obs = b.obs := rfl
@[simp] theorem Block.emit_ses (b : Block) (o : Out) : (b.emit o).ses = b.ses := rfl
@[simp] theorem Block.emit_keys (b : Block) (o : Out) : (b.emit o).keys = b.keys := rfl
@[simp] theorem Block.emit_ap (b : Block) (o : Out) : (b.emit o).ap = b.ap := rfl
@[simp] theorem Block.emit_sb (b : Block) (o : Out) : (b.emit o).sb = b.sb := rfl
@[simp] theorem Block.emit_form (b : Block) (o : Out) : (b.emit o).form = b.form := rfl
@[simp] theorem Block.emit_cp (b : Block) (o : Out) : (b.emit o).cp = b.cp := rfl
@[simp] theorem Block.emit_seq (b : Block) (o : Out) : (b.emit o).seq = b.seq := rfl
@[simp] theorem Block.emit_fresh (b : Block) (o : Out) : (b.emit o).fresh = b.fresh := rfl
@[simp] theorem Block.emit_vlog (b : Block) (o : Out) : (b.emit o).vlog = b.vlog := rfl
@[simp] theorem Block.emit_out (b : Block) (o : Out) : (b.emit o).out = if b.sb.safe then b.out else b.out ++ [o] := rfl
@[simp] theorem Block.emit_agent (b : Block) (o : Out) : (b.emit o).agent = b.agent := rfl
@[simp] theorem Block.emit_work (b : Block) (o : Out) : (b.emit o).work = b.work := rfl
@[simp] theorem Block.emit_posted (b : Block) (o : Out) : (b.emit o).posted = b.posted := rfl
@[simp] theorem Block.emit_setAt (b : Block) (o : Out) : (b.emit o).setAt = b.setAt := rfl

@[simp] theorem Block.logRec_now (b : Block) (s c v : Nat) (l : List Nat) : (b.logRec s c v l).now = b.now := rfl
@[simp] theorem Block.logRec_gr (b : Block) (s c v : Nat) (l : List Nat) : (b.logRec s c v l).gr = b.gr := rfl
@[simp] theorem Block.logRec_pol (b : Block) (s c v : Nat) (l : List Nat) : (b.logRec s c v l).pol = b.pol := rfl
@[simp] theorem Block.logRec_pg (b : Block) (s c v : Nat) (l : List Nat) : (b.logRec s c v l).pg = b.pg := rfl
@[simp] theorem Block.logRec_mdl (b : Block) (s c v : Nat) (l : List Nat) : (b.logRec s c v l).mdl = b.mdl := rfl
@[simp] theorem Block.logRec_dsp (b : Block) (s c v : Nat) (l : List Nat) : (b.logRec s c v l).dsp = b.dsp := rfl
@[simp] theorem Block.logRec_thr (b : Block) (s c v : Nat) (l : List Nat) : (b.logRec s c v l).thr = b.thr := rfl
@[simp] theorem Block.logRec_gln (b : Block) (s c v : Nat) (l : List Nat) : (b.logRec s c v l).gln = b.gln := rfl
@[simp] theorem Block.logRec_trees (b : Block) (s c v : Nat) (l : List Nat) : (b.logRec s c v l).trees = b.trees := rfl
@[simp] theorem Block.logRec_fab (b : Block) (s c v : Nat) (l : List Nat) : (b.logRec s c v l).fab = b.fab := rfl
@[simp] theorem Block.logRec_mp (b : Block) (s c v : Nat) (l : List Nat) : (b.logRec s c v l).mp = b.mp := rfl
@[simp] theorem Block.logRec_pwr (b : Block) (s c v : Nat) (l : List Nat) : (b.logRec s c v l).pwr = b.pwr := rfl
@[simp] theorem Block.logRec_obs (b : Block) (s c v : Nat) (l : List Nat) : (b.logRec s c v l).obs = b.obs := rfl
@[simp] theorem Block.logRec_ses (b : Block) (s c v : Nat) (l : List Nat) : (b.logRec s c v l).ses = b.ses := rfl
@[simp] theorem Block.logRec_keys (b : Block) (s c v : Nat) (l : List Nat) : (b.logRec s c v l).keys = b.keys := rfl
@[simp] theorem Block.logRec_ap (b : Block) (s c v : Nat) (l : List Nat) : (b.logRec s c v l).ap = b.ap := rfl
@[simp] theorem Block.logRec_sb (b : Block) (s c v : Nat) (l : List Nat) : (b.logRec s c v l).sb = b.sb := rfl
@[simp] theorem Block.logRec_form (b : Block) (s c v : Nat) (l : List Nat) : (b.logRec s c v l).form = b.form := rfl
@[simp] theorem Block.logRec_cp (b : Block) (s c v : Nat) (l : List Nat) : (b.logRec s c v l).cp = b.cp := rfl
@[simp] theorem Block.logRec_seq (b : Block) (s c v : Nat) (l : List Nat) : (b.logRec s c v l).seq = b.seq := rfl
@[simp] theorem Block.logRec_fresh (b : Block) (s c v : Nat) (l : List Nat) : (b.logRec s c v l).fresh = b.fresh := rfl
@[simp] theorem Block.logRec_vlog (b : Block) (s c v : Nat) (l : List Nat) : (b.logRec s c v l).vlog = b.vlog ++ [{ time := b.now, source := s, code := c, sev := v, args := l, agent := b.agent, rank := b.cp.rank }] := rfl
@[simp] theorem Block.logRec_out (b : Block) (s c v : Nat) (l : List Nat) : (b.logRec s c v l).out = b.out := rfl
@[simp] theorem Block.logRec_agent (b : Block) (s c v : Nat) (l : List Nat) : (b.logRec s c v l).agent = b.agent := rfl
@[simp] theorem Block.logRec_work (b : Block) (s c v : Nat) (l : List Nat) : (b.logRec s c v l).work = b.work := rfl
@[simp] theorem Block.logRec_posted (b : Block) (s c v : Nat) (l : List Nat) : (b.logRec s c v l).posted = b.posted := rfl

@[simp] theorem Block.count_now (b : Block) (i n : Nat) : (b.count i n).now = b.now := rfl
@[simp] theorem Block.count_gr (b : Block) (i n : Nat) : (b.count i n).gr = b.gr := rfl
@[simp] theorem Block.count_pol (b : Block) (i n : Nat) : (b.count i n).pol = b.pol := rfl
@[simp] theorem Block.count_pg (b : Block) (i n : Nat) : (b.count i n).pg = b.pg := rfl
@[simp] theorem Block.count_mdl (b : Block) (i n : Nat) : (b.count i n).mdl = b.mdl := rfl
@[simp] theorem Block.count_dsp (b : Block) (i n : Nat) : (b.count i n).dsp = b.dsp := rfl
@[simp] theorem Block.count_thr (b : Block) (i n : Nat) : (b.count i n).thr = b.thr := rfl
@[simp] theorem Block.count_gln (b : Block) (i n : Nat) : (b.count i n).gln = b.gln := rfl
@[simp] theorem Block.count_trees (b : Block) (i n : Nat) : (b.count i n).trees = b.trees := rfl
@[simp] theorem Block.count_fab (b : Block) (i n : Nat) : (b.count i n).fab = b.fab := rfl
@[simp] theorem Block.count_mp (b : Block) (i n : Nat) : (b.count i n).mp = b.mp := rfl
@[simp] theorem Block.count_flt (b : Block) (i n : Nat) : (b.count i n).flt = b.flt := rfl
@[simp] theorem Block.count_pwr (b : Block) (i n : Nat) : (b.count i n).pwr = b.pwr := rfl
@[simp] theorem Block.count_ses (b : Block) (i n : Nat) : (b.count i n).ses = b.ses := rfl
@[simp] theorem Block.count_keys (b : Block) (i n : Nat) : (b.count i n).keys = b.keys := rfl
@[simp] theorem Block.count_ap (b : Block) (i n : Nat) : (b.count i n).ap = b.ap := rfl
@[simp] theorem Block.count_sb (b : Block) (i n : Nat) : (b.count i n).sb = b.sb := rfl
@[simp] theorem Block.count_form (b : Block) (i n : Nat) : (b.count i n).form = b.form := rfl
@[simp] theorem Block.count_cp (b : Block) (i n : Nat) : (b.count i n).cp = b.cp := rfl
@[simp] theorem Block.count_seq (b : Block) (i n : Nat) : (b.count i n).seq = b.seq := rfl
@[simp] theorem Block.count_fresh (b : Block) (i n : Nat) : (b.count i n).fresh = b.fresh := rfl
@[simp] theorem Block.count_vlog (b : Block) (i n : Nat) : (b.count i n).vlog = b.vlog := rfl
@[simp] theorem Block.count_out (b : Block) (i n : Nat) : (b.count i n).out = b.out := rfl
@[simp] theorem Block.count_agent (b : Block) (i n : Nat) : (b.count i n).agent = b.agent := rfl
@[simp] theorem Block.count_work (b : Block) (i n : Nat) : (b.count i n).work = b.work := rfl
@[simp] theorem Block.count_posted (b : Block) (i n : Nat) : (b.count i n).posted = b.posted := rfl
@[simp] theorem Block.count_setAt (b : Block) (i n : Nat) : (b.count i n).setAt = b.setAt := rfl

@[simp] theorem Block.setEnt_now (b : Block) (i : Nat) (e : Entry) : (b.setEnt i e).now = b.now := rfl
@[simp] theorem Block.setEnt_pol (b : Block) (i : Nat) (e : Entry) : (b.setEnt i e).pol = b.pol := rfl
@[simp] theorem Block.setEnt_pg (b : Block) (i : Nat) (e : Entry) : (b.setEnt i e).pg = b.pg := rfl
@[simp] theorem Block.setEnt_mdl (b : Block) (i : Nat) (e : Entry) : (b.setEnt i e).mdl = b.mdl := rfl
@[simp] theorem Block.setEnt_dsp (b : Block) (i : Nat) (e : Entry) : (b.setEnt i e).dsp = b.dsp := rfl
@[simp] theorem Block.setEnt_thr (b : Block) (i : Nat) (e : Entry) : (b.setEnt i e).thr = b.thr := rfl
@[simp] theorem Block.setEnt_gln (b : Block) (i : Nat) (e : Entry) : (b.setEnt i e).gln = b.gln := rfl
@[simp] theorem Block.setEnt_trees (b : Block) (i : Nat) (e : Entry) : (b.setEnt i e).trees = b.trees := rfl
@[simp] theorem Block.setEnt_fab (b : Block) (i : Nat) (e : Entry) : (b.setEnt i e).fab = b.fab := rfl
@[simp] theorem Block.setEnt_mp (b : Block) (i : Nat) (e : Entry) : (b.setEnt i e).mp = b.mp := rfl
@[simp] theorem Block.setEnt_flt (b : Block) (i : Nat) (e : Entry) : (b.setEnt i e).flt = b.flt := rfl
@[simp] theorem Block.setEnt_pwr (b : Block) (i : Nat) (e : Entry) : (b.setEnt i e).pwr = b.pwr := rfl
@[simp] theorem Block.setEnt_obs (b : Block) (i : Nat) (e : Entry) : (b.setEnt i e).obs = b.obs := rfl
@[simp] theorem Block.setEnt_ses (b : Block) (i : Nat) (e : Entry) : (b.setEnt i e).ses = b.ses := rfl
@[simp] theorem Block.setEnt_keys (b : Block) (i : Nat) (e : Entry) : (b.setEnt i e).keys = b.keys := rfl
@[simp] theorem Block.setEnt_ap (b : Block) (i : Nat) (e : Entry) : (b.setEnt i e).ap = b.ap := rfl
@[simp] theorem Block.setEnt_sb (b : Block) (i : Nat) (e : Entry) : (b.setEnt i e).sb = b.sb := rfl
@[simp] theorem Block.setEnt_form (b : Block) (i : Nat) (e : Entry) : (b.setEnt i e).form = b.form := rfl
@[simp] theorem Block.setEnt_cp (b : Block) (i : Nat) (e : Entry) : (b.setEnt i e).cp = b.cp := rfl
@[simp] theorem Block.setEnt_seq (b : Block) (i : Nat) (e : Entry) : (b.setEnt i e).seq = b.seq := rfl
@[simp] theorem Block.setEnt_fresh (b : Block) (i : Nat) (e : Entry) : (b.setEnt i e).fresh = b.fresh := rfl
@[simp] theorem Block.setEnt_vlog (b : Block) (i : Nat) (e : Entry) : (b.setEnt i e).vlog = b.vlog := rfl
@[simp] theorem Block.setEnt_out (b : Block) (i : Nat) (e : Entry) : (b.setEnt i e).out = b.out := rfl
@[simp] theorem Block.setEnt_agent (b : Block) (i : Nat) (e : Entry) : (b.setEnt i e).agent = b.agent := rfl
@[simp] theorem Block.setEnt_work (b : Block) (i : Nat) (e : Entry) : (b.setEnt i e).work = b.work := rfl
@[simp] theorem Block.setEnt_posted (b : Block) (i : Nat) (e : Entry) : (b.setEnt i e).posted = b.posted := rfl
@[simp] theorem Block.setEnt_setAt (b : Block) (i : Nat) (e : Entry) : (b.setEnt i e).setAt = b.setAt := rfl

@[simp] theorem Block.modSide_now (b : Block) (i : Nat) (f : ReqSide → ReqSide) : (b.modSide i f).now = b.now := rfl
@[simp] theorem Block.modSide_pol (b : Block) (i : Nat) (f : ReqSide → ReqSide) : (b.modSide i f).pol = b.pol := rfl
@[simp] theorem Block.modSide_pg (b : Block) (i : Nat) (f : ReqSide → ReqSide) : (b.modSide i f).pg = b.pg := rfl
@[simp] theorem Block.modSide_mdl (b : Block) (i : Nat) (f : ReqSide → ReqSide) : (b.modSide i f).mdl = b.mdl := rfl
@[simp] theorem Block.modSide_dsp (b : Block) (i : Nat) (f : ReqSide → ReqSide) : (b.modSide i f).dsp = b.dsp := rfl
@[simp] theorem Block.modSide_thr (b : Block) (i : Nat) (f : ReqSide → ReqSide) : (b.modSide i f).thr = b.thr := rfl
@[simp] theorem Block.modSide_gln (b : Block) (i : Nat) (f : ReqSide → ReqSide) : (b.modSide i f).gln = b.gln := rfl
@[simp] theorem Block.modSide_trees (b : Block) (i : Nat) (f : ReqSide → ReqSide) : (b.modSide i f).trees = b.trees := rfl
@[simp] theorem Block.modSide_fab (b : Block) (i : Nat) (f : ReqSide → ReqSide) : (b.modSide i f).fab = b.fab := rfl
@[simp] theorem Block.modSide_mp (b : Block) (i : Nat) (f : ReqSide → ReqSide) : (b.modSide i f).mp = b.mp := rfl
@[simp] theorem Block.modSide_flt (b : Block) (i : Nat) (f : ReqSide → ReqSide) : (b.modSide i f).flt = b.flt := rfl
@[simp] theorem Block.modSide_pwr (b : Block) (i : Nat) (f : ReqSide → ReqSide) : (b.modSide i f).pwr = b.pwr := rfl
@[simp] theorem Block.modSide_obs (b : Block) (i : Nat) (f : ReqSide → ReqSide) : (b.modSide i f).obs = b.obs := rfl
@[simp] theorem Block.modSide_ses (b : Block) (i : Nat) (f : ReqSide → ReqSide) : (b.modSide i f).ses = b.ses := rfl
@[simp] theorem Block.modSide_keys (b : Block) (i : Nat) (f : ReqSide → ReqSide) : (b.modSide i f).keys = b.keys := rfl
@[simp] theorem Block.modSide_ap (b : Block) (i : Nat) (f : ReqSide → ReqSide) : (b.modSide i f).ap = b.ap := rfl
@[simp] theorem Block.modSide_sb (b : Block) (i : Nat) (f : ReqSide → ReqSide) : (b.modSide i f).sb = b.sb := rfl
@[simp] theorem Block.modSide_form (b : Block) (i : Nat) (f : ReqSide → ReqSide) : (b.modSide i f).form = b.form := rfl
@[simp] theorem Block.modSide_cp (b : Block) (i : Nat) (f : ReqSide → ReqSide) : (b.modSide i f).cp = b.cp := rfl
@[simp] theorem Block.modSide_seq (b : Block) (i : Nat) (f : ReqSide → ReqSide) : (b.modSide i f).seq = b.seq := rfl
@[simp] theorem Block.modSide_fresh (b : Block) (i : Nat) (f : ReqSide → ReqSide) : (b.modSide i f).fresh = b.fresh := rfl
@[simp] theorem Block.modSide_vlog (b : Block) (i : Nat) (f : ReqSide → ReqSide) : (b.modSide i f).vlog = b.vlog := rfl
@[simp] theorem Block.modSide_out (b : Block) (i : Nat) (f : ReqSide → ReqSide) : (b.modSide i f).out = b.out := rfl
@[simp] theorem Block.modSide_agent (b : Block) (i : Nat) (f : ReqSide → ReqSide) : (b.modSide i f).agent = b.agent := rfl
@[simp] theorem Block.modSide_work (b : Block) (i : Nat) (f : ReqSide → ReqSide) : (b.modSide i f).work = b.work := rfl
@[simp] theorem Block.modSide_posted (b : Block) (i : Nat) (f : ReqSide → ReqSide) : (b.modSide i f).posted = b.posted := rfl
@[simp] theorem Block.modSide_setAt (b : Block) (i : Nat) (f : ReqSide → ReqSide) : (b.modSide i f).setAt = b.setAt := rfl

@[simp] theorem Block.modTenant_now (b : Block) (i : Nat) (f : TenantState → TenantState) : (b.modTenant i f).now = b.now := rfl
@[simp] theorem Block.modTenant_gr (b : Block) (i : Nat) (f : TenantState → TenantState) : (b.modTenant i f).gr = b.gr := rfl
@[simp] theorem Block.modTenant_pg (b : Block) (i : Nat) (f : TenantState → TenantState) : (b.modTenant i f).pg = b.pg := rfl
@[simp] theorem Block.modTenant_mdl (b : Block) (i : Nat) (f : TenantState → TenantState) : (b.modTenant i f).mdl = b.mdl := rfl
@[simp] theorem Block.modTenant_dsp (b : Block) (i : Nat) (f : TenantState → TenantState) : (b.modTenant i f).dsp = b.dsp := rfl
@[simp] theorem Block.modTenant_thr (b : Block) (i : Nat) (f : TenantState → TenantState) : (b.modTenant i f).thr = b.thr := rfl
@[simp] theorem Block.modTenant_gln (b : Block) (i : Nat) (f : TenantState → TenantState) : (b.modTenant i f).gln = b.gln := rfl
@[simp] theorem Block.modTenant_trees (b : Block) (i : Nat) (f : TenantState → TenantState) : (b.modTenant i f).trees = b.trees := rfl
@[simp] theorem Block.modTenant_fab (b : Block) (i : Nat) (f : TenantState → TenantState) : (b.modTenant i f).fab = b.fab := rfl
@[simp] theorem Block.modTenant_mp (b : Block) (i : Nat) (f : TenantState → TenantState) : (b.modTenant i f).mp = b.mp := rfl
@[simp] theorem Block.modTenant_flt (b : Block) (i : Nat) (f : TenantState → TenantState) : (b.modTenant i f).flt = b.flt := rfl
@[simp] theorem Block.modTenant_pwr (b : Block) (i : Nat) (f : TenantState → TenantState) : (b.modTenant i f).pwr = b.pwr := rfl
@[simp] theorem Block.modTenant_obs (b : Block) (i : Nat) (f : TenantState → TenantState) : (b.modTenant i f).obs = b.obs := rfl
@[simp] theorem Block.modTenant_ses (b : Block) (i : Nat) (f : TenantState → TenantState) : (b.modTenant i f).ses = b.ses := rfl
@[simp] theorem Block.modTenant_keys (b : Block) (i : Nat) (f : TenantState → TenantState) : (b.modTenant i f).keys = b.keys := rfl
@[simp] theorem Block.modTenant_ap (b : Block) (i : Nat) (f : TenantState → TenantState) : (b.modTenant i f).ap = b.ap := rfl
@[simp] theorem Block.modTenant_sb (b : Block) (i : Nat) (f : TenantState → TenantState) : (b.modTenant i f).sb = b.sb := rfl
@[simp] theorem Block.modTenant_form (b : Block) (i : Nat) (f : TenantState → TenantState) : (b.modTenant i f).form = b.form := rfl
@[simp] theorem Block.modTenant_cp (b : Block) (i : Nat) (f : TenantState → TenantState) : (b.modTenant i f).cp = b.cp := rfl
@[simp] theorem Block.modTenant_seq (b : Block) (i : Nat) (f : TenantState → TenantState) : (b.modTenant i f).seq = b.seq := rfl
@[simp] theorem Block.modTenant_fresh (b : Block) (i : Nat) (f : TenantState → TenantState) : (b.modTenant i f).fresh = b.fresh := rfl
@[simp] theorem Block.modTenant_vlog (b : Block) (i : Nat) (f : TenantState → TenantState) : (b.modTenant i f).vlog = b.vlog := rfl
@[simp] theorem Block.modTenant_out (b : Block) (i : Nat) (f : TenantState → TenantState) : (b.modTenant i f).out = b.out := rfl
@[simp] theorem Block.modTenant_agent (b : Block) (i : Nat) (f : TenantState → TenantState) : (b.modTenant i f).agent = b.agent := rfl
@[simp] theorem Block.modTenant_work (b : Block) (i : Nat) (f : TenantState → TenantState) : (b.modTenant i f).work = b.work := rfl
@[simp] theorem Block.modTenant_posted (b : Block) (i : Nat) (f : TenantState → TenantState) : (b.modTenant i f).posted = b.posted := rfl
@[simp] theorem Block.modTenant_setAt (b : Block) (i : Nat) (f : TenantState → TenantState) : (b.modTenant i f).setAt = b.setAt := rfl

@[simp] theorem Block.modRail_now (b : Block) (i : Nat) (f : Rail → Rail) : (b.modRail i f).now = b.now := rfl
@[simp] theorem Block.modRail_gr (b : Block) (i : Nat) (f : Rail → Rail) : (b.modRail i f).gr = b.gr := rfl
@[simp] theorem Block.modRail_pol (b : Block) (i : Nat) (f : Rail → Rail) : (b.modRail i f).pol = b.pol := rfl
@[simp] theorem Block.modRail_pg (b : Block) (i : Nat) (f : Rail → Rail) : (b.modRail i f).pg = b.pg := rfl
@[simp] theorem Block.modRail_mdl (b : Block) (i : Nat) (f : Rail → Rail) : (b.modRail i f).mdl = b.mdl := rfl
@[simp] theorem Block.modRail_dsp (b : Block) (i : Nat) (f : Rail → Rail) : (b.modRail i f).dsp = b.dsp := rfl
@[simp] theorem Block.modRail_thr (b : Block) (i : Nat) (f : Rail → Rail) : (b.modRail i f).thr = b.thr := rfl
@[simp] theorem Block.modRail_gln (b : Block) (i : Nat) (f : Rail → Rail) : (b.modRail i f).gln = b.gln := rfl
@[simp] theorem Block.modRail_trees (b : Block) (i : Nat) (f : Rail → Rail) : (b.modRail i f).trees = b.trees := rfl
@[simp] theorem Block.modRail_fab (b : Block) (i : Nat) (f : Rail → Rail) : (b.modRail i f).fab = b.fab := rfl
@[simp] theorem Block.modRail_mp (b : Block) (i : Nat) (f : Rail → Rail) : (b.modRail i f).mp = b.mp := rfl
@[simp] theorem Block.modRail_flt (b : Block) (i : Nat) (f : Rail → Rail) : (b.modRail i f).flt = b.flt := rfl
@[simp] theorem Block.modRail_obs (b : Block) (i : Nat) (f : Rail → Rail) : (b.modRail i f).obs = b.obs := rfl
@[simp] theorem Block.modRail_ses (b : Block) (i : Nat) (f : Rail → Rail) : (b.modRail i f).ses = b.ses := rfl
@[simp] theorem Block.modRail_keys (b : Block) (i : Nat) (f : Rail → Rail) : (b.modRail i f).keys = b.keys := rfl
@[simp] theorem Block.modRail_ap (b : Block) (i : Nat) (f : Rail → Rail) : (b.modRail i f).ap = b.ap := rfl
@[simp] theorem Block.modRail_sb (b : Block) (i : Nat) (f : Rail → Rail) : (b.modRail i f).sb = b.sb := rfl
@[simp] theorem Block.modRail_form (b : Block) (i : Nat) (f : Rail → Rail) : (b.modRail i f).form = b.form := rfl
@[simp] theorem Block.modRail_cp (b : Block) (i : Nat) (f : Rail → Rail) : (b.modRail i f).cp = b.cp := rfl
@[simp] theorem Block.modRail_seq (b : Block) (i : Nat) (f : Rail → Rail) : (b.modRail i f).seq = b.seq := rfl
@[simp] theorem Block.modRail_fresh (b : Block) (i : Nat) (f : Rail → Rail) : (b.modRail i f).fresh = b.fresh := rfl
@[simp] theorem Block.modRail_vlog (b : Block) (i : Nat) (f : Rail → Rail) : (b.modRail i f).vlog = b.vlog := rfl
@[simp] theorem Block.modRail_out (b : Block) (i : Nat) (f : Rail → Rail) : (b.modRail i f).out = b.out := rfl
@[simp] theorem Block.modRail_agent (b : Block) (i : Nat) (f : Rail → Rail) : (b.modRail i f).agent = b.agent := rfl
@[simp] theorem Block.modRail_work (b : Block) (i : Nat) (f : Rail → Rail) : (b.modRail i f).work = b.work := rfl
@[simp] theorem Block.modRail_posted (b : Block) (i : Nat) (f : Rail → Rail) : (b.modRail i f).posted = b.posted := rfl
@[simp] theorem Block.modRail_setAt (b : Block) (i : Nat) (f : Rail → Rail) : (b.modRail i f).setAt = b.setAt := rfl

@[simp] theorem Block.modSession_now (b : Block) (i : Nat) (f : Session → Session) : (b.modSession i f).now = b.now := rfl
@[simp] theorem Block.modSession_gr (b : Block) (i : Nat) (f : Session → Session) : (b.modSession i f).gr = b.gr := rfl
@[simp] theorem Block.modSession_pol (b : Block) (i : Nat) (f : Session → Session) : (b.modSession i f).pol = b.pol := rfl
@[simp] theorem Block.modSession_pg (b : Block) (i : Nat) (f : Session → Session) : (b.modSession i f).pg = b.pg := rfl
@[simp] theorem Block.modSession_mdl (b : Block) (i : Nat) (f : Session → Session) : (b.modSession i f).mdl = b.mdl := rfl
@[simp] theorem Block.modSession_dsp (b : Block) (i : Nat) (f : Session → Session) : (b.modSession i f).dsp = b.dsp := rfl
@[simp] theorem Block.modSession_thr (b : Block) (i : Nat) (f : Session → Session) : (b.modSession i f).thr = b.thr := rfl
@[simp] theorem Block.modSession_gln (b : Block) (i : Nat) (f : Session → Session) : (b.modSession i f).gln = b.gln := rfl
@[simp] theorem Block.modSession_trees (b : Block) (i : Nat) (f : Session → Session) : (b.modSession i f).trees = b.trees := rfl
@[simp] theorem Block.modSession_fab (b : Block) (i : Nat) (f : Session → Session) : (b.modSession i f).fab = b.fab := rfl
@[simp] theorem Block.modSession_mp (b : Block) (i : Nat) (f : Session → Session) : (b.modSession i f).mp = b.mp := rfl
@[simp] theorem Block.modSession_flt (b : Block) (i : Nat) (f : Session → Session) : (b.modSession i f).flt = b.flt := rfl
@[simp] theorem Block.modSession_pwr (b : Block) (i : Nat) (f : Session → Session) : (b.modSession i f).pwr = b.pwr := rfl
@[simp] theorem Block.modSession_obs (b : Block) (i : Nat) (f : Session → Session) : (b.modSession i f).obs = b.obs := rfl
@[simp] theorem Block.modSession_ses (b : Block) (i : Nat) (f : Session → Session) : (b.modSession i f).ses = Tab.set i (f (b.session i)) b.ses := rfl
@[simp] theorem Block.modSession_keys (b : Block) (i : Nat) (f : Session → Session) : (b.modSession i f).keys = b.keys := rfl
@[simp] theorem Block.modSession_ap (b : Block) (i : Nat) (f : Session → Session) : (b.modSession i f).ap = b.ap := rfl
@[simp] theorem Block.modSession_sb (b : Block) (i : Nat) (f : Session → Session) : (b.modSession i f).sb = b.sb := rfl
@[simp] theorem Block.modSession_form (b : Block) (i : Nat) (f : Session → Session) : (b.modSession i f).form = b.form := rfl
@[simp] theorem Block.modSession_cp (b : Block) (i : Nat) (f : Session → Session) : (b.modSession i f).cp = b.cp := rfl
@[simp] theorem Block.modSession_seq (b : Block) (i : Nat) (f : Session → Session) : (b.modSession i f).seq = b.seq := rfl
@[simp] theorem Block.modSession_fresh (b : Block) (i : Nat) (f : Session → Session) : (b.modSession i f).fresh = b.fresh := rfl
@[simp] theorem Block.modSession_vlog (b : Block) (i : Nat) (f : Session → Session) : (b.modSession i f).vlog = b.vlog := rfl
@[simp] theorem Block.modSession_out (b : Block) (i : Nat) (f : Session → Session) : (b.modSession i f).out = b.out := rfl
@[simp] theorem Block.modSession_agent (b : Block) (i : Nat) (f : Session → Session) : (b.modSession i f).agent = b.agent := rfl
@[simp] theorem Block.modSession_work (b : Block) (i : Nat) (f : Session → Session) : (b.modSession i f).work = b.work := rfl
@[simp] theorem Block.modSession_posted (b : Block) (i : Nat) (f : Session → Session) : (b.modSession i f).posted = b.posted := rfl
@[simp] theorem Block.modSession_setAt (b : Block) (i : Nat) (f : Session → Session) : (b.modSession i f).setAt = b.setAt := rfl

@[simp] theorem Block.modMail_now (b : Block) (i : Nat) (f : Mailbox → Mailbox) : (b.modMail i f).now = b.now := rfl
@[simp] theorem Block.modMail_gr (b : Block) (i : Nat) (f : Mailbox → Mailbox) : (b.modMail i f).gr = b.gr := rfl
@[simp] theorem Block.modMail_pol (b : Block) (i : Nat) (f : Mailbox → Mailbox) : (b.modMail i f).pol = b.pol := rfl
@[simp] theorem Block.modMail_pg (b : Block) (i : Nat) (f : Mailbox → Mailbox) : (b.modMail i f).pg = b.pg := rfl
@[simp] theorem Block.modMail_mdl (b : Block) (i : Nat) (f : Mailbox → Mailbox) : (b.modMail i f).mdl = b.mdl := rfl
@[simp] theorem Block.modMail_dsp (b : Block) (i : Nat) (f : Mailbox → Mailbox) : (b.modMail i f).dsp = b.dsp := rfl
@[simp] theorem Block.modMail_thr (b : Block) (i : Nat) (f : Mailbox → Mailbox) : (b.modMail i f).thr = b.thr := rfl
@[simp] theorem Block.modMail_gln (b : Block) (i : Nat) (f : Mailbox → Mailbox) : (b.modMail i f).gln = b.gln := rfl
@[simp] theorem Block.modMail_trees (b : Block) (i : Nat) (f : Mailbox → Mailbox) : (b.modMail i f).trees = b.trees := rfl
@[simp] theorem Block.modMail_fab (b : Block) (i : Nat) (f : Mailbox → Mailbox) : (b.modMail i f).fab = b.fab := rfl
@[simp] theorem Block.modMail_mp (b : Block) (i : Nat) (f : Mailbox → Mailbox) : (b.modMail i f).mp = b.mp := rfl
@[simp] theorem Block.modMail_flt (b : Block) (i : Nat) (f : Mailbox → Mailbox) : (b.modMail i f).flt = b.flt := rfl
@[simp] theorem Block.modMail_pwr (b : Block) (i : Nat) (f : Mailbox → Mailbox) : (b.modMail i f).pwr = b.pwr := rfl
@[simp] theorem Block.modMail_obs (b : Block) (i : Nat) (f : Mailbox → Mailbox) : (b.modMail i f).obs = b.obs := rfl
@[simp] theorem Block.modMail_ses (b : Block) (i : Nat) (f : Mailbox → Mailbox) : (b.modMail i f).ses = b.ses := rfl
@[simp] theorem Block.modMail_keys (b : Block) (i : Nat) (f : Mailbox → Mailbox) : (b.modMail i f).keys = b.keys := rfl
@[simp] theorem Block.modMail_sb (b : Block) (i : Nat) (f : Mailbox → Mailbox) : (b.modMail i f).sb = b.sb := rfl
@[simp] theorem Block.modMail_form (b : Block) (i : Nat) (f : Mailbox → Mailbox) : (b.modMail i f).form = b.form := rfl
@[simp] theorem Block.modMail_cp (b : Block) (i : Nat) (f : Mailbox → Mailbox) : (b.modMail i f).cp = b.cp := rfl
@[simp] theorem Block.modMail_seq (b : Block) (i : Nat) (f : Mailbox → Mailbox) : (b.modMail i f).seq = b.seq := rfl
@[simp] theorem Block.modMail_fresh (b : Block) (i : Nat) (f : Mailbox → Mailbox) : (b.modMail i f).fresh = b.fresh := rfl
@[simp] theorem Block.modMail_vlog (b : Block) (i : Nat) (f : Mailbox → Mailbox) : (b.modMail i f).vlog = b.vlog := rfl
@[simp] theorem Block.modMail_out (b : Block) (i : Nat) (f : Mailbox → Mailbox) : (b.modMail i f).out = b.out := rfl
@[simp] theorem Block.modMail_agent (b : Block) (i : Nat) (f : Mailbox → Mailbox) : (b.modMail i f).agent = b.agent := rfl
@[simp] theorem Block.modMail_work (b : Block) (i : Nat) (f : Mailbox → Mailbox) : (b.modMail i f).work = b.work := rfl
@[simp] theorem Block.modMail_posted (b : Block) (i : Nat) (f : Mailbox → Mailbox) : (b.modMail i f).posted = b.posted := rfl
@[simp] theorem Block.modMail_setAt (b : Block) (i : Nat) (f : Mailbox → Mailbox) : (b.modMail i f).setAt = b.setAt := rfl

@[simp] theorem Block.modGlean_now (b : Block) (i : Nat) (f : GleanRow → GleanRow) : (b.modGlean i f).now = b.now := rfl
@[simp] theorem Block.modGlean_gr (b : Block) (i : Nat) (f : GleanRow → GleanRow) : (b.modGlean i f).gr = b.gr := rfl
@[simp] theorem Block.modGlean_pol (b : Block) (i : Nat) (f : GleanRow → GleanRow) : (b.modGlean i f).pol = b.pol := rfl
@[simp] theorem Block.modGlean_pg (b : Block) (i : Nat) (f : GleanRow → GleanRow) : (b.modGlean i f).pg = b.pg := rfl
@[simp] theorem Block.modGlean_mdl (b : Block) (i : Nat) (f : GleanRow → GleanRow) : (b.modGlean i f).mdl = b.mdl := rfl
@[simp] theorem Block.modGlean_dsp (b : Block) (i : Nat) (f : GleanRow → GleanRow) : (b.modGlean i f).dsp = b.dsp := rfl
@[simp] theorem Block.modGlean_thr (b : Block) (i : Nat) (f : GleanRow → GleanRow) : (b.modGlean i f).thr = b.thr := rfl
@[simp] theorem Block.modGlean_trees (b : Block) (i : Nat) (f : GleanRow → GleanRow) : (b.modGlean i f).trees = b.trees := rfl
@[simp] theorem Block.modGlean_fab (b : Block) (i : Nat) (f : GleanRow → GleanRow) : (b.modGlean i f).fab = b.fab := rfl
@[simp] theorem Block.modGlean_mp (b : Block) (i : Nat) (f : GleanRow → GleanRow) : (b.modGlean i f).mp = b.mp := rfl
@[simp] theorem Block.modGlean_flt (b : Block) (i : Nat) (f : GleanRow → GleanRow) : (b.modGlean i f).flt = b.flt := rfl
@[simp] theorem Block.modGlean_pwr (b : Block) (i : Nat) (f : GleanRow → GleanRow) : (b.modGlean i f).pwr = b.pwr := rfl
@[simp] theorem Block.modGlean_obs (b : Block) (i : Nat) (f : GleanRow → GleanRow) : (b.modGlean i f).obs = b.obs := rfl
@[simp] theorem Block.modGlean_ses (b : Block) (i : Nat) (f : GleanRow → GleanRow) : (b.modGlean i f).ses = b.ses := rfl
@[simp] theorem Block.modGlean_keys (b : Block) (i : Nat) (f : GleanRow → GleanRow) : (b.modGlean i f).keys = b.keys := rfl
@[simp] theorem Block.modGlean_ap (b : Block) (i : Nat) (f : GleanRow → GleanRow) : (b.modGlean i f).ap = b.ap := rfl
@[simp] theorem Block.modGlean_sb (b : Block) (i : Nat) (f : GleanRow → GleanRow) : (b.modGlean i f).sb = b.sb := rfl
@[simp] theorem Block.modGlean_form (b : Block) (i : Nat) (f : GleanRow → GleanRow) : (b.modGlean i f).form = b.form := rfl
@[simp] theorem Block.modGlean_cp (b : Block) (i : Nat) (f : GleanRow → GleanRow) : (b.modGlean i f).cp = b.cp := rfl
@[simp] theorem Block.modGlean_seq (b : Block) (i : Nat) (f : GleanRow → GleanRow) : (b.modGlean i f).seq = b.seq := rfl
@[simp] theorem Block.modGlean_fresh (b : Block) (i : Nat) (f : GleanRow → GleanRow) : (b.modGlean i f).fresh = b.fresh := rfl
@[simp] theorem Block.modGlean_vlog (b : Block) (i : Nat) (f : GleanRow → GleanRow) : (b.modGlean i f).vlog = b.vlog := rfl
@[simp] theorem Block.modGlean_out (b : Block) (i : Nat) (f : GleanRow → GleanRow) : (b.modGlean i f).out = b.out := rfl
@[simp] theorem Block.modGlean_agent (b : Block) (i : Nat) (f : GleanRow → GleanRow) : (b.modGlean i f).agent = b.agent := rfl
@[simp] theorem Block.modGlean_work (b : Block) (i : Nat) (f : GleanRow → GleanRow) : (b.modGlean i f).work = b.work := rfl
@[simp] theorem Block.modGlean_posted (b : Block) (i : Nat) (f : GleanRow → GleanRow) : (b.modGlean i f).posted = b.posted := rfl
@[simp] theorem Block.modGlean_setAt (b : Block) (i : Nat) (f : GleanRow → GleanRow) : (b.modGlean i f).setAt = b.setAt := rfl

@[simp] theorem Block.setLock_now (b : Block) (n o : Nat) : (b.setLock n o).now = b.now := rfl
@[simp] theorem Block.setLock_gr (b : Block) (n o : Nat) : (b.setLock n o).gr = b.gr := rfl
@[simp] theorem Block.setLock_pol (b : Block) (n o : Nat) : (b.setLock n o).pol = b.pol := rfl
@[simp] theorem Block.setLock_pg (b : Block) (n o : Nat) : (b.setLock n o).pg = b.pg := rfl
@[simp] theorem Block.setLock_mdl (b : Block) (n o : Nat) : (b.setLock n o).mdl = b.mdl := rfl
@[simp] theorem Block.setLock_dsp (b : Block) (n o : Nat) : (b.setLock n o).dsp = b.dsp := rfl
@[simp] theorem Block.setLock_thr (b : Block) (n o : Nat) : (b.setLock n o).thr = b.thr := rfl
@[simp] theorem Block.setLock_gln (b : Block) (n o : Nat) : (b.setLock n o).gln = b.gln := rfl
@[simp] theorem Block.setLock_trees (b : Block) (n o : Nat) : (b.setLock n o).trees = b.trees := rfl
@[simp] theorem Block.setLock_fab (b : Block) (n o : Nat) : (b.setLock n o).fab = b.fab := rfl
@[simp] theorem Block.setLock_mp (b : Block) (n o : Nat) : (b.setLock n o).mp = b.mp := rfl
@[simp] theorem Block.setLock_flt (b : Block) (n o : Nat) : (b.setLock n o).flt = b.flt := rfl
@[simp] theorem Block.setLock_pwr (b : Block) (n o : Nat) : (b.setLock n o).pwr = b.pwr := rfl
@[simp] theorem Block.setLock_obs (b : Block) (n o : Nat) : (b.setLock n o).obs = b.obs := rfl
@[simp] theorem Block.setLock_ses (b : Block) (n o : Nat) : (b.setLock n o).ses = b.ses := rfl
@[simp] theorem Block.setLock_keys (b : Block) (n o : Nat) : (b.setLock n o).keys = b.keys := rfl
@[simp] theorem Block.setLock_sb (b : Block) (n o : Nat) : (b.setLock n o).sb = b.sb := rfl
@[simp] theorem Block.setLock_form (b : Block) (n o : Nat) : (b.setLock n o).form = b.form := rfl
@[simp] theorem Block.setLock_cp (b : Block) (n o : Nat) : (b.setLock n o).cp = b.cp := rfl
@[simp] theorem Block.setLock_seq (b : Block) (n o : Nat) : (b.setLock n o).seq = b.seq := rfl
@[simp] theorem Block.setLock_fresh (b : Block) (n o : Nat) : (b.setLock n o).fresh = b.fresh := rfl
@[simp] theorem Block.setLock_vlog (b : Block) (n o : Nat) : (b.setLock n o).vlog = b.vlog := rfl
@[simp] theorem Block.setLock_out (b : Block) (n o : Nat) : (b.setLock n o).out = b.out := rfl
@[simp] theorem Block.setLock_agent (b : Block) (n o : Nat) : (b.setLock n o).agent = b.agent := rfl
@[simp] theorem Block.setLock_work (b : Block) (n o : Nat) : (b.setLock n o).work = b.work := rfl
@[simp] theorem Block.setLock_posted (b : Block) (n o : Nat) : (b.setLock n o).posted = b.posted := rfl
@[simp] theorem Block.setLock_setAt (b : Block) (n o : Nat) : (b.setLock n o).setAt = b.setAt := rfl

@[simp] theorem Block.atTime_now (b : Block) (t : Nat) : (b.atTime t).now = max b.now t := rfl
@[simp] theorem Block.atTime_gr (b : Block) (t : Nat) : (b.atTime t).gr = b.gr := rfl
@[simp] theorem Block.atTime_pol (b : Block) (t : Nat) : (b.atTime t).pol = b.pol := rfl
@[simp] theorem Block.atTime_pg (b : Block) (t : Nat) : (b.atTime t).pg = b.pg := rfl
@[simp] theorem Block.atTime_mdl (b : Block) (t : Nat) : (b.atTime t).mdl = b.mdl := rfl
@[simp] theorem Block.atTime_dsp (b : Block) (t : Nat) : (b.atTime t).dsp = b.dsp := rfl
@[simp] theorem Block.atTime_thr (b : Block) (t : Nat) : (b.atTime t).thr = b.thr := rfl
@[simp] theorem Block.atTime_gln (b : Block) (t : Nat) : (b.atTime t).gln = b.gln := rfl
@[simp] theorem Block.atTime_trees (b : Block) (t : Nat) : (b.atTime t).trees = b.trees := rfl
@[simp] theorem Block.atTime_fab (b : Block) (t : Nat) : (b.atTime t).fab = b.fab := rfl
@[simp] theorem Block.atTime_mp (b : Block) (t : Nat) : (b.atTime t).mp = b.mp := rfl
@[simp] theorem Block.atTime_flt (b : Block) (t : Nat) : (b.atTime t).flt = b.flt := rfl
@[simp] theorem Block.atTime_pwr (b : Block) (t : Nat) : (b.atTime t).pwr = b.pwr := rfl
@[simp] theorem Block.atTime_obs (b : Block) (t : Nat) : (b.atTime t).obs = b.obs := rfl
@[simp] theorem Block.atTime_ses (b : Block) (t : Nat) : (b.atTime t).ses = b.ses := rfl
@[simp] theorem Block.atTime_keys (b : Block) (t : Nat) : (b.atTime t).keys = b.keys := rfl
@[simp] theorem Block.atTime_ap (b : Block) (t : Nat) : (b.atTime t).ap = b.ap := rfl
@[simp] theorem Block.atTime_sb (b : Block) (t : Nat) : (b.atTime t).sb = b.sb := rfl
@[simp] theorem Block.atTime_form (b : Block) (t : Nat) : (b.atTime t).form = b.form := rfl
@[simp] theorem Block.atTime_cp (b : Block) (t : Nat) : (b.atTime t).cp = b.cp := rfl
@[simp] theorem Block.atTime_seq (b : Block) (t : Nat) : (b.atTime t).seq = b.seq := rfl
@[simp] theorem Block.atTime_fresh (b : Block) (t : Nat) : (b.atTime t).fresh = b.fresh := rfl
@[simp] theorem Block.atTime_vlog (b : Block) (t : Nat) : (b.atTime t).vlog = b.vlog := rfl
@[simp] theorem Block.atTime_out (b : Block) (t : Nat) : (b.atTime t).out = b.out := rfl
@[simp] theorem Block.atTime_agent (b : Block) (t : Nat) : (b.atTime t).agent = b.agent := rfl
@[simp] theorem Block.atTime_work (b : Block) (t : Nat) : (b.atTime t).work = b.work := rfl
@[simp] theorem Block.atTime_posted (b : Block) (t : Nat) : (b.atTime t).posted = b.posted := rfl
@[simp] theorem Block.atTime_setAt (b : Block) (t : Nat) : (b.atTime t).setAt = b.setAt := rfl

@[simp] theorem Block.viewed_now (b : Block) (r c : Nat) : (b.viewed r c).now = b.now := rfl
@[simp] theorem Block.viewed_gr (b : Block) (r c : Nat) : (b.viewed r c).gr = b.gr := rfl
@[simp] theorem Block.viewed_pol (b : Block) (r c : Nat) : (b.viewed r c).pol = b.pol := rfl
@[simp] theorem Block.viewed_pg (b : Block) (r c : Nat) : (b.viewed r c).pg = b.pg := rfl
@[simp] theorem Block.viewed_mdl (b : Block) (r c : Nat) : (b.viewed r c).mdl = b.mdl := rfl
@[simp] theorem Block.viewed_dsp (b : Block) (r c : Nat) : (b.viewed r c).dsp = b.dsp := rfl
@[simp] theorem Block.viewed_thr (b : Block) (r c : Nat) : (b.viewed r c).thr = b.thr := rfl
@[simp] theorem Block.viewed_gln (b : Block) (r c : Nat) : (b.viewed r c).gln = b.gln := rfl
@[simp] theorem Block.viewed_trees (b : Block) (r c : Nat) : (b.viewed r c).trees = b.trees := rfl
@[simp] theorem Block.viewed_mp (b : Block) (r c : Nat) : (b.viewed r c).mp = b.mp := rfl
@[simp] theorem Block.viewed_flt (b : Block) (r c : Nat) : (b.viewed r c).flt = b.flt := rfl
@[simp] theorem Block.viewed_pwr (b : Block) (r c : Nat) : (b.viewed r c).pwr = b.pwr := rfl
@[simp] theorem Block.viewed_obs (b : Block) (r c : Nat) : (b.viewed r c).obs = b.obs := rfl
@[simp] theorem Block.viewed_ses (b : Block) (r c : Nat) : (b.viewed r c).ses = b.ses := rfl
@[simp] theorem Block.viewed_keys (b : Block) (r c : Nat) : (b.viewed r c).keys = b.keys := rfl
@[simp] theorem Block.viewed_ap (b : Block) (r c : Nat) : (b.viewed r c).ap = b.ap := rfl
@[simp] theorem Block.viewed_sb (b : Block) (r c : Nat) : (b.viewed r c).sb = b.sb := rfl
@[simp] theorem Block.viewed_form (b : Block) (r c : Nat) : (b.viewed r c).form = b.form := rfl
@[simp] theorem Block.viewed_cp (b : Block) (r c : Nat) : (b.viewed r c).cp = b.cp := rfl
@[simp] theorem Block.viewed_seq (b : Block) (r c : Nat) : (b.viewed r c).seq = b.seq := rfl
@[simp] theorem Block.viewed_fresh (b : Block) (r c : Nat) : (b.viewed r c).fresh = b.fresh := rfl
@[simp] theorem Block.viewed_vlog (b : Block) (r c : Nat) : (b.viewed r c).vlog = b.vlog := rfl
@[simp] theorem Block.viewed_out (b : Block) (r c : Nat) : (b.viewed r c).out = b.out := rfl
@[simp] theorem Block.viewed_agent (b : Block) (r c : Nat) : (b.viewed r c).agent = b.agent := rfl
@[simp] theorem Block.viewed_work (b : Block) (r c : Nat) : (b.viewed r c).work = b.work := rfl
@[simp] theorem Block.viewed_posted (b : Block) (r c : Nat) : (b.viewed r c).posted = b.posted := rfl
@[simp] theorem Block.viewed_setAt (b : Block) (r c : Nat) : (b.viewed r c).setAt = b.setAt := rfl

@[simp] theorem Block.send_now (b : Block) (d : Option Nat) (m : Msg) : (b.send d m).now = b.now := rfl
@[simp] theorem Block.send_gr (b : Block) (d : Option Nat) (m : Msg) : (b.send d m).gr = b.gr := rfl
@[simp] theorem Block.send_pol (b : Block) (d : Option Nat) (m : Msg) : (b.send d m).pol = b.pol := rfl
@[simp] theorem Block.send_pg (b : Block) (d : Option Nat) (m : Msg) : (b.send d m).pg = b.pg := rfl
@[simp] theorem Block.send_mdl (b : Block) (d : Option Nat) (m : Msg) : (b.send d m).mdl = b.mdl := rfl
@[simp] theorem Block.send_dsp (b : Block) (d : Option Nat) (m : Msg) : (b.send d m).dsp = b.dsp := rfl
@[simp] theorem Block.send_thr (b : Block) (d : Option Nat) (m : Msg) : (b.send d m).thr = b.thr := rfl
@[simp] theorem Block.send_gln (b : Block) (d : Option Nat) (m : Msg) : (b.send d m).gln = b.gln := rfl
@[simp] theorem Block.send_trees (b : Block) (d : Option Nat) (m : Msg) : (b.send d m).trees = b.trees := rfl
@[simp] theorem Block.send_mp (b : Block) (d : Option Nat) (m : Msg) : (b.send d m).mp = b.mp := rfl
@[simp] theorem Block.send_flt (b : Block) (d : Option Nat) (m : Msg) : (b.send d m).flt = b.flt := rfl
@[simp] theorem Block.send_pwr (b : Block) (d : Option Nat) (m : Msg) : (b.send d m).pwr = b.pwr := rfl
@[simp] theorem Block.send_obs (b : Block) (d : Option Nat) (m : Msg) : (b.send d m).obs = b.obs := rfl
@[simp] theorem Block.send_ses (b : Block) (d : Option Nat) (m : Msg) : (b.send d m).ses = b.ses := rfl
@[simp] theorem Block.send_keys (b : Block) (d : Option Nat) (m : Msg) : (b.send d m).keys = b.keys := rfl
@[simp] theorem Block.send_ap (b : Block) (d : Option Nat) (m : Msg) : (b.send d m).ap = b.ap := rfl
@[simp] theorem Block.send_sb (b : Block) (d : Option Nat) (m : Msg) : (b.send d m).sb = b.sb := rfl
@[simp] theorem Block.send_form (b : Block) (d : Option Nat) (m : Msg) : (b.send d m).form = b.form := rfl
@[simp] theorem Block.send_cp (b : Block) (d : Option Nat) (m : Msg) : (b.send d m).cp = b.cp := rfl
@[simp] theorem Block.send_seq (b : Block) (d : Option Nat) (m : Msg) : (b.send d m).seq = b.seq := rfl
@[simp] theorem Block.send_fresh (b : Block) (d : Option Nat) (m : Msg) : (b.send d m).fresh = b.fresh := rfl
@[simp] theorem Block.send_vlog (b : Block) (d : Option Nat) (m : Msg) : (b.send d m).vlog = b.vlog := rfl
@[simp] theorem Block.send_out (b : Block) (d : Option Nat) (m : Msg) : (b.send d m).out = b.out := rfl
@[simp] theorem Block.send_agent (b : Block) (d : Option Nat) (m : Msg) : (b.send d m).agent = b.agent := rfl
@[simp] theorem Block.send_work (b : Block) (d : Option Nat) (m : Msg) : (b.send d m).work = b.work := rfl
@[simp] theorem Block.send_posted (b : Block) (d : Option Nat) (m : Msg) : (b.send d m).posted = b.posted := rfl
@[simp] theorem Block.send_setAt (b : Block) (d : Option Nat) (m : Msg) : (b.send d m).setAt = b.setAt := rfl

@[simp] theorem Block.modRail_rails (b : Block) (i : Nat) (f : Rail → Rail) : (b.modRail i f).pwr.rails = b.pwr.rails.modify i f := rfl
@[simp] theorem Block.setEnt_entries (b : Block) (i : Nat) (e : Entry) : (b.setEnt i e).gr.entries = Tab.set i e b.gr.entries := rfl
@[simp] theorem Block.setEnt_side (b : Block) (i : Nat) (e : Entry) : (b.setEnt i e).gr.side = b.gr.side := rfl
@[simp] theorem Block.modSide_entries (b : Block) (i : Nat) (f : ReqSide → ReqSide) : (b.modSide i f).gr.entries = b.gr.entries := rfl

end Sys2Proof.Machine
end

