-- ==== Sys2Proof/Laws/Tab.lean ====
section
/-! SUPPORT. Tables: what a key reads after another is set, and the entries kept in tables. -/

namespace Sys2Proof.Machine
open Sys2Proof

@[simp] theorem Tab.get?_set_self {α : Type} (k : Nat) (v : α) (t : Table α) : Tab.get? k (Tab.set k v t) = some v := by
  induction t with
  | nil => simp [Tab.set, Tab.get?]
  | cons p r ih =>
    obtain ⟨i, w⟩ := p
    simp only [Tab.set]
    split
    · simp [Tab.get?]
    · split
      · simp [Tab.get?]
      · rename_i h1 h2
        simp [Tab.get?, ih, show ¬ i = k by omega, show ¬ k < i by omega]

theorem Tab.get?_set_ne {α : Type} {k j : Nat} (h : k ≠ j) (v : α) (t : Table α) : Tab.get? j (Tab.set k v t) = Tab.get? j t := by
  induction t with
  | nil => simp only [Tab.set, Tab.get?, h, if_false]; split <;> rfl
  | cons p r ih =>
    obtain ⟨i, w⟩ := p
    simp only [Tab.set]
    split
    · rename_i h1
      simp only [Tab.get?, h, if_false]
      by_cases h2 : j < k
      · simp [h2, show ¬ i = j by omega, show j < i by omega]
      · simp [h2]
    · split
      · rename_i h1 h2
        subst h2
        simp [Tab.get?, h]
      · simp only [Tab.get?, ih]

@[simp] theorem Tab.getD_set_self {α : Type} (k : Nat) (v d : α) (t : Table α) : Tab.getD k d (Tab.set k v t) = v := by
  simp [Tab.getD]

theorem Tab.getD_set_ne {α : Type} {k j : Nat} (h : k ≠ j) (v d : α) (t : Table α) :
    Tab.getD j d (Tab.set k v t) = Tab.getD j d t := by
  simp [Tab.getD, Tab.get?_set_ne h]

@[simp] theorem Tab.set_set {α : Type} (k : Nat) (v w : α) (t : Table α) : Tab.set k v (Tab.set k w t) = Tab.set k v t := by
  induction t with
  | nil => simp [Tab.set]
  | cons p r ih =>
    obtain ⟨i, u⟩ := p
    by_cases h : k < i
    · simp [Tab.set, h]
    · by_cases h2 : k = i
      · simp [Tab.set, h2]
      · simp [Tab.set, h, h2, ih]

@[simp] theorem session_modSession (b : Block) (s : Nat) (f : Session → Session) : (b.modSession s f).session s = f (b.session s) := by
  simp [Block.session]

@[simp] theorem modSession_modSession (b : Block) (s : Nat) (f g : Session → Session) :
    (b.modSession s f).modSession s g = b.modSession s fun q => g (f q) := by
  simp [Block.modSession, Block.session]

@[simp] theorem session_write (b : Block) (a s o : Nat) (bs : List Byte) (f : Option (Nat × Nat)) :
    (b.write a bs o f).session s = b.session s := rfl

@[simp] theorem session_noteSet (b : Block) (k s : Nat) : (b.noteSet k).session s = b.session s := rfl

theorem modSession_write (b : Block) (s a o : Nat) (bs : List Byte) (w : Option (Nat × Nat)) (f : Session → Session) :
    (b.write a bs o w).modSession s f = (b.modSession s f).write a bs o w := rfl

@[simp] theorem mailbox_modMail (b : Block) (c : Nat) (f : Mailbox → Mailbox) : (b.modMail c f).mailbox c = f (b.mailbox c) := by
  simp [Block.mailbox, Block.modMail]

@[simp] theorem modMail_modMail (b : Block) (c : Nat) (f g : Mailbox → Mailbox) :
    (b.modMail c f).modMail c g = b.modMail c fun m => g (f m) := by
  simp [Block.modMail, Block.mailbox]

theorem modMail_write (b : Block) (c a o : Nat) (bs : List Byte) (w : Option (Nat × Nat)) (f : Mailbox → Mailbox) :
    (b.write a bs o w).modMail c f = (b.modMail c f).write a bs o w := rfl

@[simp] theorem ent_setEnt (b : Block) (i : Nat) (e : Entry) : (b.setEnt i e).ent i = e := by
  simp [Block.ent]

@[simp] theorem setEnt_setEnt (b : Block) (i : Nat) (e f : Entry) : (b.setEnt i e).setEnt i f = b.setEnt i f := by
  simp [Block.setEnt]

@[simp] theorem side_modSide (b : Block) (i : Nat) (f : ReqSide → ReqSide) : (b.modSide i f).side i = f (b.side i) := by
  simp [Block.side, Block.modSide]

@[simp] theorem ent_modSide (b : Block) (i j : Nat) (f : ReqSide → ReqSide) : (b.modSide i f).ent j = b.ent j := rfl

@[simp] theorem side_setEnt (b : Block) (i j : Nat) (e : Entry) : (b.setEnt i e).side j = b.side j := rfl

end Sys2Proof.Machine
end

