-- ==== Sys2Proof/Laws/Granary.lean ====
section
/-! SUPPORT. Requests at a junction: what posting an event, the statistics of speculation and the slab leave as it was, what APPEND, an end
and SET_SAMPLING do, and that each operation keeps the lengths of R36. -/

namespace Sys2Proof.Machine
open Sys2Proof

/-- An entry without its event counts, its limits of speculation and their statistics. -/
def requestOf (e : Entry) : Entry := { e with
  eventProd := 0, eventsDropped := 0, flags := { e.flags with penaltyOvf := false, specPlain := false }, treeDepth := 0, treeWidth := 0
  probeCountdown := 0, zeroAcceptRun := 0, acceptEma := 0, stepsVerified := 0, tokensAccepted := 0 }

/-- The work of a junction without what only a later log asks for. -/
def workOf (w : Work) : Work := { w with rebuilt := [], survivors := [] }

/-- The request of a slot, its transcript, its work and its models stand as they were. -/
structure SameRequest (slot : Nat) (b c : Block) : Prop where
  ent : requestOf (c.ent slot) = requestOf (b.ent slot)
  regions : c.gr.regions = b.gr.regions
  work : workOf c.work = workOf b.work
  side : c.side slot = b.side slot
  cp : c.cp = b.cp
  results : c.gr.results = b.gr.results
  slabE : c.gr.slabErrors = b.gr.slabErrors
  mdl : c.mdl = b.mdl

theorem SameRequest.refl (slot b) : SameRequest slot b b := ⟨rfl, rfl, rfl, rfl, rfl, rfl, rfl, rfl⟩

theorem SameRequest.trans {slot : Nat} {b c d : Block} (h : SameRequest slot b c) (k : SameRequest slot c d) : SameRequest slot b d :=
  ⟨k.ent.trans h.ent, k.regions.trans h.regions, k.work.trans h.work, k.side.trans h.side, k.cp.trans h.cp, k.results.trans h.results,
   k.slabE.trans h.slabE, k.mdl.trans h.mdl⟩

theorem sameRequest_setEnt (b : Block) (slot : Nat) (e : Entry) (h : requestOf e = requestOf (b.ent slot)) : SameRequest slot b (b.setEnt slot e) :=
  ⟨by rw [ent_setEnt]; exact h, rfl, rfl, rfl, rfl, rfl, rfl, rfl⟩

theorem requestOf_events (e : Entry) (x y : Nat) : requestOf { e with eventProd := x, eventsDropped := y } = requestOf e := rfl

theorem requestOf_eventProd (e : Entry) (x : Nat) : requestOf { e with eventProd := x } = requestOf e := rfl

theorem requestOf_dropped (e : Entry) (x : Nat) : requestOf { e with eventsDropped := x } = requestOf e := rfl

/-- An event enters its ring: only the entry's producer index, the events of the junction and the Memory Port change. -/
theorem putEvent_spec (b : Block) (e : Entry) (ev : Event) :
    ∃ le mp x, b.putEvent e ev = ({ b with gr := { b.gr with lastEvents := le }, mp := mp }, { e with eventProd := x }) := by
  unfold Block.putEvent
  dsimp only
  generalize add32 e.eventProd 1 = x
  by_cases hc : (b.isLead && b.running) = true
  · rw [if_pos hc]; exact ⟨_, (b.write (ringBase e.eventRing + e.eventProd % ringSize e.eventRing * 32)
      (eventBytes e.eventRing e.eventProd ev) 0 none true).mp, x, rfl⟩
  · rw [if_neg hc]; exact ⟨_, b.mp, x, rfl⟩

theorem postTo_room (b : Block) (e : Entry) (ev : Event) (c1 : freeEvents e ≥ 2) : b.postTo e ev = b.putEvent e ev := by
  unfold Block.postTo; rw [if_pos c1]

theorem postTo_last (b : Block) (e : Entry) (ev : Event) (c1 : ¬ freeEvents e ≥ 2) (c2 : freeEvents e = 1) : b.postTo e ev = ((b.putEvent e { code := 6, handle := ev.handle, time := ev.time }).1,
          { (b.putEvent e { code := 6, handle := ev.handle, time := ev.time }).2 with
            eventsDropped := satInc 65535 (b.putEvent e { code := 6, handle := ev.handle, time := ev.time }).2.eventsDropped }) := by
        unfold Block.postTo
        rw [if_neg c1, if_pos c2]

theorem postTo_full (b : Block) (e : Entry) (ev : Event) (c1 : ¬ freeEvents e ≥ 2) (c2 : ¬ freeEvents e = 1) :b.postTo e ev = (b, { e with eventsDropped := satInc 65535 e.eventsDropped }) := by
        unfold Block.postTo
        rw [if_neg c1, if_neg c2]

theorem postTo_spec (b : Block) (e : Entry) (ev : Event) :
    ∃ le mp x y, b.postTo e ev = ({ b with gr := { b.gr with lastEvents := le }, mp := mp }, { e with eventProd := x, eventsDropped := y }) := by
  obtain ⟨l1, m1, x1, h1⟩ := putEvent_spec b e ev
  obtain ⟨l2, m2, x2, h2⟩ := putEvent_spec b e { code := 6, handle := ev.handle, time := ev.time }
  by_cases c1 : freeEvents e ≥ 2
  · rw [postTo_room _ _ _ c1, h1]; exact ⟨_, _, _, e.eventsDropped, rfl⟩
  · by_cases c2 : freeEvents e = 1
    · rw [postTo_last _ _ _ c1 c2, h2]
      exact ⟨_, _, _, _, rfl⟩
    · rw [postTo_full _ _ _ c1 c2]
      exact ⟨b.gr.lastEvents, b.mp, e.eventProd, _, rfl⟩

/-- Posting changes the events of the junction, the Memory Port and the entry's event counts alone. -/
theorem post_spec (b : Block) (slot : Nat) (ev : Event) :
    b.post slot ev = b ∨ ∃ le mp x y, b.post slot ev =
      ({ b with gr := { b.gr with lastEvents := le }, mp := mp } : Block).setEnt slot { b.ent slot with eventProd := x, eventsDropped := y } := by
  unfold Block.post
  obtain ⟨l1, m1, x1, y1, h1⟩ := postTo_spec b (b.ent slot) ev
  rw [h1]
  split
  · exact .inl rfl
  · exact .inr ⟨_, _, _, _, rfl⟩

theorem sameRequest_post (b : Block) (slot : Nat) (ev : Event) : SameRequest slot b (b.post slot ev) := by
  rcases post_spec b slot ev with h | ⟨le, mp, x, y, h⟩
  · rw [h]; exact SameRequest.refl _ _
  · rw [h]; exact ⟨by rw [ent_setEnt]; exact requestOf_events _ _ _, rfl, rfl, rfl, rfl, rfl, rfl, rfl⟩

/-- The same after END has been posted. -/
structure SameButEnd (slot : Nat) (b c : Block) : Prop where
  ent : requestOf (c.ent slot) = requestOf (b.ent slot)
  regions : c.gr.regions = b.gr.regions
  work : workOf c.work = workOf b.work
  w2 : c.work = b.work

theorem sameButEnd_postEnd (b : Block) (slot : Nat) (ev : Event) : SameButEnd slot b (b.postEnd slot ev) := by
  unfold Block.postEnd
  obtain ⟨l1, m1, x1, h1⟩ := putEvent_spec (b.modSide slot fun x => { x with ended := true }) (b.ent slot) ev
  simp only [h1]
  split
  · exact ⟨by rw [ent_setEnt]; exact requestOf_eventProd _ _, rfl, rfl, rfl⟩
  · exact ⟨rfl, rfl, rfl, rfl⟩

theorem requestOf_keepLimits (sp : SpecBlock) (e : Entry) : requestOf (keepLimits sp e) = requestOf e := by
  unfold keepLimits limits; split <;> rfl

theorem sameRequest_suspend (b : Block) (slot a : Nat) : SameRequest slot b (b.suspend slot a) := by
  unfold Block.suspend
  refine SameRequest.trans (c := b.setEnt slot _) (sameRequest_setEnt b slot _ ?_) (sameRequest_post _ _ _)
  rfl

theorem sameRequest_verifyStats (b : Block) (slot n a : Nat) : SameRequest slot b (b.verifyStats slot n a) := by
  have h : ∀ x1 x2 x3 x4, SameRequest slot b (b.setEnt slot { b.ent slot with stepsVerified := x1, tokensAccepted := x2, acceptEma := x3, zeroAcceptRun := x4 }) :=
    fun _ _ _ _ => sameRequest_setEnt b slot _ rfl
  unfold Block.verifyStats
  extract_lets e f c
  have h : SameRequest slot b c := h _ _ _ _
  clear_value c
  split
  · exact h.trans (sameRequest_suspend _ _ _)
  · refine h.trans ?_
    unfold Block.modEnt
    exact sameRequest_setEnt _ _ _ (requestOf_keepLimits _ _)

theorem sameRequest_probe (b : Block) (slot a : Nat) : SameRequest slot b (b.probe slot a) := by
  unfold Block.probe
  dsimp only
  split
  · exact SameRequest.refl _ _
  · split
    · refine SameRequest.trans (c := b.setEnt slot _) (sameRequest_setEnt b slot _ ?_) (sameRequest_post _ _ _)
      rw [requestOf_keepLimits]; rfl
    · exact sameRequest_setEnt b slot _ rfl

theorem sameRequest_setSlab (b : Block) (slot i : Nat) (s : Table SlabEntry) : SameRequest slot b (b.setSlab i s) := ⟨rfl, rfl, rfl, rfl, rfl, rfl, rfl, rfl⟩

theorem sameRequest_recordTokens (slot a : Nat) (ts : List Nat) : ∀ (g : Nat) (b : Block), SameRequest slot b (b.recordTokens slot a g ts) := by
  induction ts with
  | nil => intro g b; exact SameRequest.refl _ _
  | cons t ts ih =>
    intro g b
    unfold Block.recordTokens
    dsimp only
    refine SameRequest.trans ?_ (ih _ _)
    have h : SameRequest slot b (b.setSlab slot (slabRecord (b.slab slot) t g).1) := sameRequest_setSlab _ _ _ _
    generalize b.setSlab slot (slabRecord (b.slab slot) t g).1 = c at h ⊢
    split
    · refine h.trans (SameRequest.trans (c := c.setEnt slot _) (sameRequest_setEnt _ _ _ ?_) (sameRequest_post _ _ _))
      rfl
    · exact h

theorem sameRequest_rebuildSlab (b : Block) (slot a : Nat) : SameRequest slot b (b.rebuildSlab slot a) := by
  unfold Block.rebuildSlab
  dsimp only
  refine SameRequest.trans ?_ (sameRequest_recordTokens _ _ _ _ _)
  exact ⟨rfl, rfl, rfl, rfl, rfl, rfl, rfl, rfl⟩

theorem sameRequest_postNoToken (b : Block) (slot a : Nat) (x : Nat × Nat) : SameRequest slot b (b.postNoToken slot a x) := sameRequest_post _ _ _

/-- The fields that two entries with one request have alike. -/
theorem fields_of_requestOf {e f : Entry} (h : requestOf e = requestOf f) :
    e.handle = f.handle ∧ e.state = f.state ∧ e.endReason = f.endReason ∧ e.committedLen = f.committedLen ∧ e.transcriptLen = f.transcriptLen ∧
    e.transcriptCap = f.transcriptCap ∧ e.granule = f.granule ∧ e.genCount = f.genCount ∧ e.maxGen = f.maxGen ∧ e.stopToken = f.stopToken ∧
    e.sidingExpiry = f.sidingExpiry ∧ e.sampling = f.sampling ∧ e.flags.inputOpen = f.flags.inputOpen ∧ e.flags.autoFree = f.flags.autoFree ∧
    e.lostCount = f.lostCount ∧ e.deadlineMode = f.deadlineMode :=
  ⟨congrArg (·.handle) h, congrArg (·.state) h, congrArg (·.endReason) h, congrArg (·.committedLen) h, congrArg (·.transcriptLen) h,
   congrArg (·.transcriptCap) h, congrArg (·.granule) h, congrArg (·.genCount) h, congrArg (·.maxGen) h, congrArg (·.stopToken) h,
   congrArg (·.sidingExpiry) h, congrArg (·.sampling) h, congrArg (·.flags.inputOpen) h, congrArg (·.flags.autoFree) h,
   congrArg (·.lostCount) h, congrArg (·.deadlineMode) h⟩

theorem Tab.get?_modify {α} (k : Nat) (f : α → α) (t : Table α) : Tab.get? k (Tab.modify k f t) = (Tab.get? k t).map f := by
  induction t with
  | nil => rfl
  | cons p r ih =>
    obtain ⟨i, v⟩ := p
    by_cases h : i = k
    · subst h; simp [Tab.modify, Tab.get?]
    · simp only [Tab.modify, List.map_cons, h, if_false, Tab.get?] at ih ⊢
      split
      · rfl
      · exact ih

@[simp] theorem region_setEnt (b : Block) (s : Nat) (e : Entry) (g : Nat) : (b.setEnt s e).region g = b.region g := rfl

@[simp] theorem region_setSlab (b : Block) (s : Nat) (e) (g : Nat) : (b.setSlab s e).region g = b.region g := rfl

theorem region_modRegion (b : Block) (g : Nat) (f : Region → Region) : (b.modRegion g f).region g = (b.region g).map f := Tab.get?_modify _ _ _

/-- The request of a slot, and the tokens of its region. -/
structure Holds (slot : Nat) (b : Block) (e : Entry) (ts : List (Bool × Nat)) : Prop where
  ent : requestOf (b.ent slot) = requestOf e
  reg : ∃ r, b.region e.granule = some r ∧ r.tokens = ts

theorem Holds.same {slot : Nat} {b c : Block} {e : Entry} {ts : List (Bool × Nat)} (h : Holds slot b e ts) (k : SameRequest slot b c) : Holds slot c e ts :=
  ⟨k.ent.trans h.ent, by obtain ⟨r, h1, h2⟩ := h.reg; exact ⟨r, by unfold Block.region; rw [k.regions]; exact h1, h2⟩⟩

theorem Holds.lengths {slot : Nat} {b : Block} {e : Entry} {ts : List (Bool × Nat)} (h : Holds slot b e ts) : b.LengthsOk slot ↔
    e.committedLen ≤ e.transcriptLen ∧ e.transcriptLen ≤ e.transcriptCap ∧ ts.length = e.transcriptLen := by
  obtain ⟨_, _, _, h1, h2, h3, h4, _⟩ := fields_of_requestOf h.ent
  obtain ⟨r, h5, h6⟩ := h.reg
  unfold Block.LengthsOk
  dsimp only
  rw [h1, h2, h3, h4]
  constructor
  · rintro ⟨a, b, x, c, d⟩; rw [h5] at c; cases c; exact ⟨a, b, h6 ▸ d⟩
  · rintro ⟨a, b, c⟩; exact ⟨a, b, r, h5, h6 ▸ c⟩

theorem Holds.transcript {slot : Nat} {b : Block} {e : Entry} {ts : List (Bool × Nat)} (h : Holds slot b e ts) : b.transcript (b.ent slot) = ts := by
  obtain ⟨r, h5, h6⟩ := h.reg
  unfold Block.transcript
  rw [(fields_of_requestOf h.ent).2.2.2.2.2.2.1, h5]; exact h6

theorem Holds.transcript' {slot : Nat} {b : Block} {e : Entry} {ts : List (Bool × Nat)} (h : Holds slot b e ts) (f : Entry) (hf : requestOf f = requestOf e) : b.transcript f = ts := by
  obtain ⟨r, h5, h6⟩ := h.reg
  unfold Block.transcript
  rw [(fields_of_requestOf hf).2.2.2.2.2.2.1, h5]; exact h6

theorem holds_of_lengthsOk (b : Block) (slot : Nat) (h : b.LengthsOk slot) : Holds slot b (b.ent slot) (b.transcript (b.ent slot)) := by
  obtain ⟨_, _, r, h1, h2⟩ := h
  exact ⟨rfl, r, h1, by unfold Block.transcript; rw [h1]⟩

theorem Holds.setEnt {slot : Nat} {b : Block} {e : Entry} {ts : List (Bool × Nat)} (h : Holds slot b e ts) (f : Entry) (hf : f.granule = e.granule) : Holds slot (b.setEnt slot f) f ts :=
  ⟨by rw [ent_setEnt], by rw [hf]; exact h.reg⟩

theorem Holds.place {slot : Nat} {b : Block} {e : Entry} {ts : List (Bool × Nat)} (h : Holds slot b e ts) (l : List Nat) :
    Holds slot (b.place slot l) { e with transcriptLen := e.transcriptLen + l.length, genCount := e.genCount + l.length } (ts ++ l.map fun t => (false, t)) := by
  obtain ⟨r, h5, h6⟩ := h.reg
  have c := fields_of_requestOf h.ent
  refine ⟨?_, ?_⟩
  · unfold Block.place; rw [ent_setEnt]
    show requestOf _ = requestOf _
    have := h.ent
    simp only [requestOf] at this ⊢
    simp only [Entry.mk.injEq] at this ⊢
    simp only [c.2.2.2.2.1, c.2.2.2.2.2.2.2.1]
    simp_all
  · refine ⟨{ r with tokens := r.tokens ++ l.map fun t => (false, t) }, ?_, by simp [h6]⟩
    unfold Block.place
    dsimp only
    rw [region_setEnt, c.2.2.2.2.2.2.1]
    rw [region_modRegion, h5]; rfl

theorem cutTokens_go_length (e : Entry) : ∀ (ts : List Nat) (g l : Nat), (cutTokens.go e g l ts).length ≤ e.transcriptCap - l ∧ (cutTokens.go e g l ts).length ≤ ts.length := by
  intro ts
  induction ts with
  | nil => intro g l; simp [cutTokens.go]
  | cons t ts ih =>
    intro g l
    unfold cutTokens.go
    split
    · simp
    · split
      · simp; omega
      · have := ih (g+1) (l+1); simp only [List.length_cons]; omega

theorem cutTokens_length (e : Entry) (ts : List Nat) : (cutTokens e ts).length ≤ e.transcriptCap - e.transcriptLen := (cutTokens_go_length e ts _ _).1

/-- An update of the entry that keeps its granule. -/

theorem Holds.mod {slot : Nat} {b : Block} {e : Entry} {ts : List (Bool × Nat)} (h : Holds slot b e ts) (f : Entry → Entry) (hf : ∀ x, (f x).granule = x.granule) :
    Holds slot (b.modEnt slot f) (f (b.ent slot)) ts := by
  obtain ⟨r, h5, h6⟩ := h.reg
  exact ⟨by unfold Block.modEnt; rw [ent_setEnt], r, by rw [hf, (fields_of_requestOf h.ent).2.2.2.2.2.2.1]; exact h5, h6⟩

theorem Holds.cast {slot : Nat} {b : Block} {e f : Entry} {ts : List (Bool × Nat)} (h : Holds slot b e ts) (k : requestOf e = requestOf f) : Holds slot b f ts :=
  ⟨h.ent.trans k, by rw [← (fields_of_requestOf k).2.2.2.2.2.2.1]; exact h.reg⟩

theorem lengthsOk_same {slot : Nat} {b c : Block} (h : SameRequest slot b c) (l : b.LengthsOk slot) : c.LengthsOk slot := by
  have v := holds_of_lengthsOk b slot l
  exact ((v.same h).lengths).mpr (v.lengths.mp l)

/-- An update of the entry keeps the lengths of R36 where COMMITTED_LEN stays within. -/

theorem lengthsOk_modEnt {slot : Nat} {b : Block} (l : b.LengthsOk slot) (f : Entry → Entry) (hf : ∀ x, (f x).granule = x.granule ∧ (f x).transcriptLen = x.transcriptLen ∧ (f x).transcriptCap = x.transcriptCap)
    (hc : (f (b.ent slot)).committedLen ≤ (b.ent slot).transcriptLen) : (b.modEnt slot f).LengthsOk slot := by
  obtain ⟨h1, h2, r, h3, h4⟩ := l
  unfold Block.LengthsOk Block.modEnt
  dsimp only
  simp only [ent_setEnt]
  rw [(hf _).1, (hf _).2.1, (hf _).2.2]
  exact ⟨hc, h2, r, h3, h4⟩

theorem lengthsOk_place {slot : Nat} {b : Block} (l : b.LengthsOk slot) (ts : List Nat) (h : ts.length ≤ (b.ent slot).transcriptCap - (b.ent slot).transcriptLen) :
    (b.place slot ts).LengthsOk slot ∧ (b.place slot ts).ent slot = { b.ent slot with transcriptLen := (b.ent slot).transcriptLen + ts.length, genCount := (b.ent slot).genCount + ts.length } := by
  have v := holds_of_lengthsOk b slot l
  have w := v.place ts
  refine ⟨w.lengths.mpr ?_, by unfold Block.place; rw [ent_setEnt]⟩
  have := v.lengths.mp l
  simp only [List.length_append, List.length_map]
  omega

theorem sameRequest_postCause (b : Block) (slot a : Nat) (x) : SameRequest slot b (b.postCause slot a x) := by
  unfold Block.postCause; split
  · exact sameRequest_postNoToken _ _ _ _
  · exact SameRequest.refl _ _

/-- What a step's rows commit keeps the lengths of R36. -/
theorem lengthsOk_applyResult (b : Block) (slot a : Nat) (l : b.LengthsOk slot)
    (hr : ∀ r ∈ b.rowsOf (b.ent slot).handle, r.firstPos + r.posCount ≤ (b.ent slot).transcriptLen) : (b.applyResult slot a).LengthsOk slot := by
  unfold Block.applyResult
  extract_lets e rows res toks
  have ht : toks.length ≤ (b.ent slot).transcriptCap - (b.ent slot).transcriptLen := cutTokens_length _ _
  clear_value toks
  split
  · unfold Block.applyTree Block.countVerify
    obtain ⟨pl, pe⟩ := lengthsOk_place l toks ht
    have cl := lengthsOk_same (sameRequest_postCause _ slot a res.noToken) pl
    have ce := (fields_of_requestOf (sameRequest_postCause (b.place slot toks) slot a res.noToken).ent).2.2.2.2.1
    generalize (b.place slot toks).postCause slot a res.noToken = c at cl ce ⊢
    rw [pe] at ce
    dsimp only at ce
    have q : ((c.modEnt slot (treeEntry res (b.ent slot).committedLen toks.length)).cutTail slot).LengthsOk slot := by
      show (c.modEnt slot (treeEntry res (b.ent slot).committedLen toks.length)).LengthsOk slot
      refine lengthsOk_modEnt cl _ (fun _ => ⟨rfl, rfl, rfl⟩) ?_
      unfold treeEntry
      dsimp only
      have := l.1
      cases res.committedAt <;> simp <;> omega
    split
    · exact lengthsOk_same (sameRequest_verifyStats _ _ _ _) q
    · exact q
  · split
    · exact l
    · rename_i r hf
      have hm := List.mem_of_find?_eq_some hf
      unfold Block.applyRow
      split
      · exact lengthsOk_same (sameRequest_postCause _ _ _ _) l
      · have lm : (b.modEnt slot fun e => { e with committedLen := r.firstPos + r.posCount }).LengthsOk slot :=
          lengthsOk_modEnt l _ (fun _ => ⟨rfl, rfl, rfl⟩) (hr r hm)
        have em : ((b.modEnt slot fun e => { e with committedLen := r.firstPos + r.posCount }).ent slot) = { e with committedLen := r.firstPos + r.posCount } := by
          unfold Block.modEnt; rw [ent_setEnt]
        dsimp only
        generalize (b.modEnt slot fun e => { e with committedLen := r.firstPos + r.posCount }) = c at lm em ⊢
        by_cases h3 : (!r.sample) = true
        · rw [if_pos h3]; exact lm
        · rw [if_neg h3]
          obtain ⟨ql, qe⟩ := lengthsOk_place lm toks (by rw [em]; exact ht)
          generalize c.place slot toks = d at ql ⊢
          have q2 : (if r.kind = 0 then d.probe slot a else d).LengthsOk slot := by
            split
            · exact lengthsOk_same (sameRequest_probe _ _ _) ql
            · exact ql
          generalize (if r.kind = 0 then d.probe slot a else d) = g at q2 ⊢
          have lg : (g.modEnt slot fun e => { e with state := .decode }).LengthsOk slot := lengthsOk_modEnt q2 _ (fun _ => ⟨rfl, rfl, rfl⟩) q2.1
          unfold Block.toDecode
          split
          · exact lg
          · split
            · exact lengthsOk_same (sameRequest_post _ _ _) lg
            · exact q2

theorem truncTokens_length (p : Nat) (ts : List (Bool × Nat)) : (truncTokens p ts).1.length ≤ ts.length ∧ min p ts.length ≤ (truncTokens p ts).1.length := by
  unfold truncTokens
  have : ((ts.drop p).filter (·.1)).length ≤ (ts.drop p).length := List.length_filter_le _ _
  simp only [List.length_append, List.length_take, List.length_drop] at this ⊢
  omega

theorem lengthsOk_truncate (b : Block) (slot p a k u : Nat) (l : b.LengthsOk slot) : (b.truncate slot p a k u).LengthsOk slot := by
  have v := holds_of_lengthsOk b slot l
  have h0 := v.lengths.mp l
  unfold Block.truncate
  extract_lets e
  dsimp only
  split
  · exact l
  · refine lengthsOk_same (sameRequest_post _ _ _) ?_
    obtain ⟨r, h5, h6⟩ := v.reg
    have := truncTokens_length p (b.transcript e)
    change b.region e.granule = some r at h5
    change e.committedLen ≤ e.transcriptLen ∧ e.transcriptLen ≤ e.transcriptCap ∧ (b.transcript e).length = e.transcriptLen at h0
    have key : ∀ (S : Table SlabEntry) (f : Entry), f.granule = e.granule → f.committedLen = min p e.committedLen → f.transcriptLen = (truncTokens p (b.transcript e)).1.length →
        f.transcriptCap = e.transcriptCap →
        (((b.setSlab slot S).modRegion e.granule fun r => { r with tokens := (truncTokens p (b.transcript e)).1 }).setEnt slot f).LengthsOk slot := by
      intro S f f1 f2 f3 f4
      unfold Block.LengthsOk
      simp only [ent_setEnt, f1, f2, f3, f4]
      refine ⟨by omega, by omega, { r with tokens := (truncTokens p (b.transcript e)).1 }, ?_, rfl⟩
      rw [region_setEnt, region_modRegion, region_setSlab, h5]; rfl
    exact key _ _ rfl rfl rfl rfl

/-- An APPEND has no effect, or its tokens that fit join the transcript. -/
theorem append_spec (b : Block) (slot : Nat) (ts : List Nat) (close : Bool) :
    b.append slot ts close = (b, 0) ∧ (((b.ent slot).flags.inputOpen = false) ∨ appendState (b.ent slot).state = false) ∨
    (b.ent slot).flags.inputOpen = true ∧ appendState (b.ent slot).state = true ∧
    ∃ fl F, fl.inputOpen = !close ∧ fl.autoFree = (b.ent slot).flags.autoFree ∧ (∀ r : Region, (F r).tokens = r.tokens ++ (ts.take ((b.ent slot).transcriptCap - (b.ent slot).transcriptLen)).map fun t => (true, t % 16777216)) ∧
    b.append slot ts close = ((b.modRegion (b.ent slot).granule F).setEnt slot
      { b.ent slot with flags := fl, transcriptLen := (b.ent slot).transcriptLen + (ts.take ((b.ent slot).transcriptCap - (b.ent slot).transcriptLen)).length },
      ts.length - (ts.take ((b.ent slot).transcriptCap - (b.ent slot).transcriptLen)).length) := by
  by_cases h : (!(b.ent slot).flags.inputOpen || !appendState (b.ent slot).state) = true
  · left; refine ⟨if_pos h, by simpa using h⟩
  · right
    have h' : (b.ent slot).flags.inputOpen = true ∧ appendState (b.ent slot).state = true := by simpa using h
    exact ⟨h'.1, h'.2, { (b.ent slot).flags with inputOpen := !close }, fun r => { r with
      tokens := r.tokens ++ (ts.take ((b.ent slot).transcriptCap - (b.ent slot).transcriptLen)).map fun t => (true, t % 16777216)
      inputClosed := r.inputClosed || close }, rfl, rfl, fun _ => rfl, if_neg h⟩

theorem lengthsOk_append (b : Block) (slot : Nat) (ts : List Nat) (close : Bool) (l : b.LengthsOk slot) : (b.append slot ts close).1.LengthsOk slot := by
  have v := holds_of_lengthsOk b slot l
  have h0 := v.lengths.mp l
  rcases append_spec b slot ts close with ⟨h, _⟩ | ⟨_, _, fl, F, _, _, hF, h⟩
  · rw [h]; exact l
  · rw [h]
    obtain ⟨r, h5, h6⟩ := v.reg
    unfold Block.LengthsOk
    simp only [ent_setEnt]
    have hl : (ts.take ((b.ent slot).transcriptCap - (b.ent slot).transcriptLen)).length ≤ (b.ent slot).transcriptCap - (b.ent slot).transcriptLen := List.length_take_le _ _
    refine ⟨by omega, by omega, F r, ?_, ?_⟩
    · rw [region_setEnt, region_modRegion, h5]; rfl
    · rw [hF, List.length_append, List.length_map, h6]; omega

theorem lengthsOk_setEnt {slot : Nat} {b : Block} (l : b.LengthsOk slot) (f : Entry → Entry) (hf : ∀ x, (f x).granule = x.granule ∧ (f x).transcriptLen = x.transcriptLen ∧ (f x).transcriptCap = x.transcriptCap ∧ (f x).committedLen = x.committedLen) :
    (b.setEnt slot (f (b.ent slot))).LengthsOk slot :=
  lengthsOk_modEnt l f (fun x => ⟨(hf x).1, (hf x).2.1, (hf x).2.2.1⟩) (by rw [(hf _).2.2.2]; exact l.1)

theorem lengthsOk_sameButEnd {slot : Nat} {b c : Block} (h : SameButEnd slot b c) (l : b.LengthsOk slot) : c.LengthsOk slot := by
  obtain ⟨h1, h2, r, h3, h4⟩ := l
  obtain ⟨_, _, _, c1, c2, c3, c4, _⟩ := fields_of_requestOf h.ent
  refine ⟨by omega, by omega, r, ?_, by omega⟩
  rw [c4]; unfold Block.region; rw [h.regions]; exact h3

/-- An end moves the request to DONE, and its pages go in phase 1. -/
theorem finish_spec (b : Block) (slot r x a : Nat) : ∃ f, requestOf f = requestOf { b.ent slot with state := .done, endReason := r, sidingExpiry := 0, specTailLen := 0 } ∧
    ((b.finish slot r x a).ent slot) = f ∧ (b.finish slot r x a).gr.regions = b.gr.regions ∧ (b.finish slot r x a).work = { b.work with all := slot :: b.work.all } := by
  have key : ∀ (f : Entry) (c : Block), SameButEnd slot (b.setEnt slot f) c → ∃ g, requestOf g = requestOf f ∧
      ({ c with work := { c.work with all := slot :: c.work.all } } : Block).ent slot = g ∧
      ({ c with work := { c.work with all := slot :: c.work.all } } : Block).gr.regions = b.gr.regions ∧
      ({ c with work := { c.work with all := slot :: c.work.all } } : Block).work = { b.work with all := slot :: b.work.all } := by
    intro f c h
    have h1 := h.ent
    rw [ent_setEnt] at h1
    exact ⟨c.ent slot, h1, rfl, h.regions, by show ({ c.work with all := slot :: c.work.all } : Work) = _; rw [h.w2]; rfl⟩
  exact key _ _ (sameButEnd_postEnd (b.setEnt slot { b.ent slot with state := .done, endReason := r, sidingExpiry := 0, specTailLen := 0 }) slot
    { code := 2, handle := (b.ent slot).handle, time := a, arg0 := r, arg1 := x, arg2 := (b.ent slot).genCount })

theorem lengthsOk_finish {slot : Nat} {b : Block} (l : b.LengthsOk slot) (r x a : Nat) : (b.finish slot r x a).LengthsOk slot := by
  obtain ⟨f, h1, h2, h3, h4⟩ := finish_spec b slot r x a
  obtain ⟨_, _, _, c1, c2, c3, c4, _⟩ := fields_of_requestOf h1
  obtain ⟨k1, k2, q, k3, k4⟩ := l
  unfold Block.LengthsOk
  dsimp only
  rw [h2, c1, c2, c3, c4]
  exact ⟨k1, k2, q, by unfold Block.region; rw [h3]; exact k3, k4⟩

theorem lengthsOk_endConditions {slot : Nat} {b : Block} (l : b.LengthsOk slot) (a c p d : Nat) (ap : Bool) (s : Staging) : (b.endConditions slot a c p d ap s).LengthsOk slot := by
  unfold Block.endConditions
  dsimp only
  repeat' split
  all_goals first | exact lengthsOk_finish l _ _ _ | exact l

theorem lengthsOk_sideOp {slot : Nat} {b : Block} (l : b.LengthsOk slot) (a : Nat) (o : SideOp) : (b.sideOp slot a o).LengthsOk slot := by
  unfold Block.sideOp
  dsimp only
  split
  · split
    · exact lengthsOk_setEnt l (fun e => { e with state := .siding, sidingExpiry := _, specTailLen := 0 }) fun _ => ⟨rfl, rfl, rfl, rfl⟩
    · exact l
  · split
    · exact lengthsOk_setEnt l (fun e => { e with state := .waking, sidingExpiry := 0 }) fun _ => ⟨rfl, rfl, rfl, rfl⟩
    · exact l

/-- SET_SAMPLING has no effect, or sets the sampling block. -/
theorem setSampling_spec (b : Block) (slot : Nat) (p : Sampling) :
    b.setSampling slot p = b ∧ ((b.ent slot).state = .done ∨ (b.ent slot).state = .draining ∨ (b.ent slot).state = .free) ∨
    ∃ F, (∀ r : Region, (F r).tokens = r.tokens) ∧ b.setSampling slot p = (b.modRegion (b.ent slot).granule F).setEnt slot
      (keepLimits b.mdl.spec { b.ent slot with sampling := samplingFields p }) := by
  by_cases h : ((b.ent slot).state == .done || (b.ent slot).state == .draining || (b.ent slot).state == .free) = true
  · left; exact ⟨if_pos h, by simpa [or_assoc] using h⟩
  · right; exact ⟨fun r => { r with setCount := add32 r.setCount 1, setSampling := p }, fun _ => rfl, if_neg h⟩

theorem lengthsOk_setSampling {slot : Nat} {b : Block} (l : b.LengthsOk slot) (p : Sampling) : (b.setSampling slot p).LengthsOk slot := by
  rcases setSampling_spec b slot p with ⟨h, _⟩ | ⟨F, hF, h⟩
  · rw [h]; exact l
  · rw [h]
    obtain ⟨h1, h2, r, h3, h4⟩ := l
    obtain ⟨_, _, _, c1, c2, c3, c4, _⟩ := fields_of_requestOf (requestOf_keepLimits b.mdl.spec { b.ent slot with sampling := samplingFields p })
    unfold Block.LengthsOk
    simp only [ent_setEnt, c1, c2, c3, c4]
    exact ⟨h1, h2, F r, by rw [region_setEnt, region_modRegion, h3]; rfl, by rw [hF]; exact h4⟩

theorem lengthsOk_foldl {α : Type} {slot : Nat} (f : Block → α → Block) (hf : ∀ b x, b.LengthsOk slot → (f b x).LengthsOk slot) (l : List α) :
    ∀ b : Block, b.LengthsOk slot → (l.foldl f b).LengthsOk slot := by
  induction l with
  | nil => intro b h; exact h
  | cons x l ih => intro b h; exact ih _ (hf _ _ h)

theorem lengthsOk_appendAll {slot : Nat} (ls : List (List Nat × Bool)) : ∀ b : Block, b.LengthsOk slot → (b.appendAll slot ls).1.LengthsOk slot := by
  induction ls with
  | nil => intro b h; exact h
  | cons p ls ih => intro b h; exact ih _ (lengthsOk_append _ _ _ _ h)

theorem lengthsOk_requestResults {slot : Nat} {b : Block} (l : b.LengthsOk slot) (tr lo wr a)
    (hr : ∀ r ∈ b.rowsOf (b.ent slot).handle, r.firstPos + r.posCount ≤ (b.ent slot).transcriptLen) : (b.requestResults tr lo wr a slot).LengthsOk slot := by
  unfold Block.requestResults
  extract_lets e0 b1 placed b2 survive e ts b3 b4
  have l1 : b1.LengthsOk slot := by
    show Block.LengthsOk (if _ then _ else _) slot
    split
    · exact l
    · exact lengthsOk_applyResult b slot a l hr
  have l2 : b2.LengthsOk slot := by
    show Block.LengthsOk (match tr with | some p => _ | none => _) slot
    split
    · split
      · exact lengthsOk_truncate _ _ _ _ _ _ l1
      · exact l1
    · exact l1
  have l3 : b3.LengthsOk slot := lengthsOk_same (sameRequest_recordTokens _ _ _ _ _) l2
  show Block.LengthsOk (if _ then _ else _) slot
  split
  · exact lengthsOk_same (sameRequest_rebuildSlab _ _ _) l3
  · exact l3

theorem lengthsOk_endFatal {slot : Nat} {c : Block} (l6 : c.LengthsOk slot) (a fa) : (c.endFatal slot a fa).LengthsOk slot := by
    unfold Block.endFatal; split
    · exact lengthsOk_finish l6 _ _ _
    · exact l6

theorem lengthsOk_toRebuild {slot : Nat} {d : Block} (l7 : d.LengthsOk slot) (wl) : (d.toRebuild slot wl).LengthsOk slot := by
    unfold Block.toRebuild; split
    · exact lengthsOk_setEnt l7 (fun e => { e with state := .rebuild }) fun _ => ⟨rfl, rfl, rfl, rfl⟩
    · exact l7

/-- What COMMANDS stages for a request keeps the lengths of R36. -/
theorem lengthsOk_requestOps {slot : Nat} {b : Block} (l : b.LengthsOk slot) (s fa wl a cl su) : (b.requestOps s fa wl a cl su slot).LengthsOk slot := by
  unfold Block.requestOps
  extract_lets app appended b1
  have l8 : b1.LengthsOk slot := lengthsOk_toRebuild (lengthsOk_endFatal (lengthsOk_endConditions (lengthsOk_appendAll _ _ l) _ _ _ _ _ _) _ _) _
  exact lengthsOk_foldl _ (fun b o h => lengthsOk_setSampling h o) s.samplings _ (lengthsOk_foldl _ (fun b o h => lengthsOk_sideOp h a o) s.sides _ l8)

end Sys2Proof.Machine
end

