-- ==== Sys2Proof/Laws/Runs.lean ====
section
/-! SUPPORT. Runs of numbers (the free lists and stacks): the list that they stand for, and what the operations on them do to it; the keys
of a table; sorted lists without repeats. -/

namespace Sys2Proof.Machine
open Sys2Proof

theorem Runs.list_cons (p : Nat × Nat) (r : Runs) : Runs.list (p :: r) = (List.range p.2).map (p.1 + ·) ++ Runs.list r := by simp [Runs.list]

@[simp] theorem Runs.list_nil : Runs.list [] = [] := rfl

theorem Runs.list_append (a b : Runs) : Runs.list (a ++ b) = Runs.list a ++ Runs.list b := by simp [Runs.list]

/-- A number joins the tail. -/
theorem Runs.list_pushTail (x : Nat) (r : Runs) : Runs.list (Runs.pushTail x r) = Runs.list r ++ [x] := by
  induction r with
  | nil => simp [Runs.pushTail, Runs.list]
  | cons p r ih =>
    obtain ⟨a, n⟩ := p
    cases r with
    | nil =>
      simp only [Runs.pushTail]
      split
      · rename_i h; subst h; simp [Runs.list, List.range_succ]
      · simp [Runs.list]
    | cons q r => simp only [Runs.pushTail]; rw [Runs.list_cons, ih, Runs.list_cons (a, n)]; simp

/-- Numbers join the tail, one after the other. -/
theorem Runs.list_foldTail (l : List Nat) (r : Runs) : Runs.list (l.foldl (fun r s => Runs.pushTail s r) r) = Runs.list r ++ l := by
  induction l generalizing r with
  | nil => simp
  | cons x l ih => simp [ih, Runs.list_pushTail]

/-- One run without a range of numbers. -/
theorem Runs.list_filter_run (a n lo hi : Nat) (h : lo ≤ hi) : ((List.range n).map (a + ·)).filter (fun x => decide (¬ (lo ≤ x ∧ x < hi))) =
    Runs.list ((if a < lo then [(a, min n (lo - a))] else []) ++ (if hi < a + n then [(max a hi, a + n - max a hi)] else [])) := by
  have sorted : ∀ (c k : Nat), ((List.range k).map (c + ·)).Pairwise (· < ·) := by
    intro c k; rw [List.pairwise_map]; exact (List.pairwise_lt_range).imp (by intro x y h; omega)
  have e : Runs.list ((if a < lo then [(a, min n (lo - a))] else []) ++ (if hi < a + n then [(max a hi, a + n - max a hi)] else [])) =
    (List.range (if a < lo then min n (lo - a) else 0)).map (a + ·) ++ (List.range (if hi < a + n then a + n - max a hi else 0)).map (max a hi + ·) := by
    split <;> split <;> simp [Runs.list]
  rw [e]
  apply List.Pairwise.eq_of_mem_iff (r := (· < · : Nat → Nat → Prop))
  · exact (sorted a n).filter _
  · rw [List.pairwise_append]
    refine ⟨sorted _ _, sorted _ _, ?_⟩
    intro x hx y hy
    simp only [List.mem_map, List.mem_range] at hx hy
    obtain ⟨i, hx, rfl⟩ := hx; obtain ⟨k, hk, rfl⟩ := hy
    split at hx <;> omega
  · intro x
    simp only [List.mem_filter, List.mem_append, List.mem_map, List.mem_range, decide_eq_true_eq]
    constructor
    · rintro ⟨⟨i, h1, rfl⟩, h2⟩
      by_cases g : a + i < lo
      · left; exact ⟨i, by rw [if_pos (by omega)]; omega, rfl⟩
      · right; refine ⟨a + i - max a hi, ?_, by omega⟩; rw [if_pos (by omega)]; omega
    · rintro (⟨i, h1, rfl⟩ | ⟨i, h1, rfl⟩)
      · split at h1
        · exact ⟨⟨i, by omega, rfl⟩, by omega⟩
        · omega
      · split at h1
        · exact ⟨⟨max a hi + i - a, by omega, by omega⟩, by omega⟩
        · omega

/-- A range leaves the runs. -/
theorem Runs.list_removeRange (lo hi : Nat) (h : lo ≤ hi) (r : Runs) :
    Runs.list (Runs.removeRange lo hi r) = (Runs.list r).filter (fun x => decide (¬ (lo ≤ x ∧ x < hi))) := by
  induction r with
  | nil => rfl
  | cons p r ih =>
    have : Runs.removeRange lo hi (p :: r) = ((if p.1 < lo then [(p.1, min p.2 (lo - p.1))] else []) ++
      (if hi < p.1 + p.2 then [(max p.1 hi, p.1 + p.2 - max p.1 hi)] else [])) ++ Runs.removeRange lo hi r := by
      simp [Runs.removeRange]
    rw [this, Runs.list_append, ih, Runs.list_cons, List.filter_append, Runs.list_filter_run _ _ _ _ h]

/-- A number leaves the runs. -/
theorem Runs.list_remove (x : Nat) (r : Runs) : Runs.list (Runs.remove x r) = (Runs.list r).filter (· ≠ x) := by
  rw [Runs.remove, Runs.list_removeRange _ _ (by omega)]
  congr 1; funext y; simp only [decide_eq_decide]; omega

/-- One run: it is enough to look at one more number than are taken. -/
theorem Runs.find_run (l : List Nat) (a n : Nat) :
    ((List.range (min n (l.length + 1))).findSome? fun i => if l.contains (a + i) then none else some (a + i)) =
    ((List.range n).map (a + ·)).find? fun s => decide (s ∉ l) := by
  have gen : ∀ k, ((List.range k).findSome? fun i => if l.contains (a + i) then none else some (a + i)) =
    ((List.range k).map (a + ·)).find? fun s => decide (s ∉ l) := by
    intro k
    induction k with
    | zero => rfl
    | succ k ih => rw [List.range_succ, List.findSome?_append, List.map_append, List.find?_append, ih]; congr 1; simp [List.find?]; by_cases h : a + k ∈ l <;> simp [h]
  rw [gen]
  by_cases h : n ≤ l.length + 1
  · rw [Nat.min_eq_left h]
  · rw [Nat.min_eq_right (by omega)]
    have ex : ∃ i < l.length + 1, a + i ∉ l := by
      by_contra hc
      push Not at hc
      have sub : ((List.range (l.length+1)).map (a + ·)) ⊆ l := by
        intro x hx; simp only [List.mem_map, List.mem_range] at hx; obtain ⟨i, hi, rfl⟩ := hx; exact hc i hi
      have nd : ((List.range (l.length+1)).map (a + ·)).Nodup := List.Nodup.map (fun x y h => by simpa using h) List.nodup_range
      have := (List.Nodup.subperm nd sub).length_le
      simp at this
    have split : List.range n = List.range (l.length + 1) ++ (List.range (n - (l.length+1))).map (l.length + 1 + ·) := by
      rw [← List.range_add]; congr 1; omega
    rw [split, List.map_append, List.find?_append]
    obtain ⟨i, hi, hn⟩ := ex
    have : (((List.range (l.length + 1)).map (a + ·)).find? fun s => decide (s ∉ l)).isSome = true := by
      rw [List.find?_isSome]; exact ⟨a + i, by simp; omega, by simpa using hn⟩
    rw [Option.isSome_iff_exists] at this
    obtain ⟨v, hv⟩ := this
    rw [hv]; rfl

/-- The first number that is not taken. -/
theorem Runs.firstNotIn_eq (l : List Nat) (r : Runs) : Runs.firstNotIn l r = (Runs.list r).find? fun s => decide (s ∉ l) := by
  induction r with
  | nil => rfl
  | cons p r ih =>
    rw [Runs.list_cons, List.find?_append, ← ih, ← Runs.find_run]
    simp only [Runs.firstNotIn, List.findSome?_cons]
    split <;> rename_i h <;> rw [h] <;> rfl

theorem mem_sortNat (l : List Nat) (s : Nat) : s ∈ sortNat l ↔ s ∈ l := by
  have ins : ∀ (x : Nat) (l : List Nat), s ∈ sortBy.ins (fun x y : Nat => decide (x < y)) x l ↔ s = x ∨ s ∈ l := by
    intro x l; induction l with
    | nil => simp [sortBy.ins]
    | cons y l ih => simp only [sortBy.ins]; split <;> simp [ih]; tauto
  have srt : s ∈ sortBy (fun (x y : Nat) => decide (x < y)) l ↔ s ∈ l := by
    induction l with
    | nil => simp [sortBy]
    | cons x l ih => simp [sortBy, ins, ih]
  simp [sortNat, List.mem_eraseDups, srt]

theorem nodup_eraseDups (l : List Nat) : l.eraseDups.Nodup := by
  induction hn : l.length using Nat.strong_induction_on generalizing l with
  | _ n ih =>
  cases l with
  | nil => simp
  | cons a l =>
    rw [List.eraseDups_cons, List.nodup_cons]
    refine ⟨by simp [List.mem_eraseDups], ih _ ?_ _ rfl⟩
    have := List.length_filter_le (fun b => !b == a) l
    simp at hn; omega

theorem nodup_sortNat (l : List Nat) : (sortNat l).Nodup := nodup_eraseDups _

/-- The keys after one is set. -/
theorem Tab.mem_keys_set {α} (k s : Nat) (v : α) (t : Table α) : s ∈ Tab.keys (Tab.set k v t) ↔ s = k ∨ s ∈ Tab.keys t := by
  induction t with
  | nil => simp [Tab.set, Tab.keys]
  | cons p r ih =>
    obtain ⟨i, w⟩ := p
    simp only [Tab.set]
    split
    · simp [Tab.keys]
    · split
      · rename_i h; subst h; simp [Tab.keys]
      · simp only [Tab.keys, List.map_cons, List.mem_cons] at ih ⊢; rw [ih]; tauto

/-- Setting a key keeps the keys rising. -/
theorem Tab.keys_set_sorted {α} (k : Nat) (v : α) (t : Table α) (h : (Tab.keys t).Pairwise (· < ·)) : (Tab.keys (Tab.set k v t)).Pairwise (· < ·) := by
  induction t with
  | nil => simp [Tab.set, Tab.keys]
  | cons p r ih =>
    obtain ⟨i, w⟩ := p
    have h' := h
    simp only [Tab.keys, List.map_cons, List.pairwise_cons] at h
    simp only [Tab.set]
    split
    · rename_i hk
      simp only [Tab.keys, List.map_cons, List.pairwise_cons]
      refine ⟨?_, h⟩
      intro x hx; rcases List.mem_cons.mp hx with rfl | hx
      · exact hk
      · exact Nat.lt_trans hk (h.1 x hx)
    · split
      · rename_i e; subst e; exact h'
      · simp only [Tab.keys, List.map_cons, List.pairwise_cons]
        refine ⟨?_, ih h.2⟩
        intro x hx
        rcases (Tab.mem_keys_set _ _ _ _).mp hx with rfl | hx
        · omega
        · exact h.1 x hx

theorem Tab.mem_set {α} (k : Nat) (v : α) (t : Table α) (p : Nat × α) (h : p ∈ Tab.set k v t) : p = (k, v) ∨ p ∈ t := by
  induction t with
  | nil => simpa [Tab.set] using h
  | cons q r ih =>
    simp only [Tab.set] at h
    split at h
    · simpa using h
    · split at h
      · rcases List.mem_cons.mp h with h | h
        · exact .inl h
        · exact .inr (List.mem_cons_of_mem _ h)
      · rcases List.mem_cons.mp h with h | h
        · exact .inr (h ▸ List.mem_cons_self ..)
        · exact (ih h).imp_right (List.mem_cons_of_mem _)

/-- The keys after one is erased. -/
theorem Tab.mem_keys_erase {α} (k s : Nat) (t : Table α) : s ∈ Tab.keys (Tab.erase k t) ↔ s ≠ k ∧ s ∈ Tab.keys t := by
  simp only [Tab.keys, Tab.erase, List.mem_map, List.mem_filter]
  constructor
  · rintro ⟨⟨i, v⟩, ⟨h1, h2⟩, rfl⟩; exact ⟨by simpa using h2, ⟨i, v⟩, h1, rfl⟩
  · rintro ⟨h, ⟨i, v⟩, h1, rfl⟩; exact ⟨⟨i, v⟩, ⟨h1, by simpa using h⟩, rfl⟩

theorem Tab.keys_erase_sorted {α} (k : Nat) (t : Table α) (h : (Tab.keys t).Pairwise (· < ·)) : (Tab.keys (Tab.erase k t)).Pairwise (· < ·) :=
  h.sublist ((List.filter_sublist).map _)

/-- A table with rising keys holds the keys that it lists. -/
theorem Tab.has_iff {α} (s : Nat) (t : Table α) (h : (Tab.keys t).Pairwise (· < ·)) : Tab.has s t = true ↔ s ∈ Tab.keys t := by
  induction t with
  | nil => simp [Tab.has, Tab.get?, Tab.keys]
  | cons p r ih =>
    obtain ⟨i, v⟩ := p
    simp only [Tab.keys, List.map_cons, List.pairwise_cons] at h
    have ih := ih h.2
    simp only [Tab.has, Tab.get?, Tab.keys, List.map_cons, List.mem_cons] at ih ⊢
    by_cases e : i = s
    · simp [e]
    · by_cases g : s < i
      · simp only [e, g, if_true, if_false, Option.isSome_none, Bool.false_eq_true, false_iff, not_or]
        exact ⟨Ne.symm e, fun hx => absurd (h.1 s hx) (by omega)⟩
      · simp [e, g, Ne.symm e] at ih ⊢; exact ih

end Sys2Proof.Machine
end

