-- ==== Sys2Proof/Tests/Slice0.lean ====
section
/-! SUPPORT. Tests of our own: an ill-formed operand for each check of well-formedness; a few values that the manual gives; and for
each statement of Certificates/Slice0/Obligations.lean a theorem test_meets_<statement> that shows states and operands which meet
the hypotheses of its clauses, one after the other. -/

namespace Sys2Proof.Tests
open Sys2Proof Sys2Proof.Machine

set_option maxRecDepth 20000

/-- A state around a block. -/
def st (b : Block) : State := { State.reset with blk := b }

/-! ### Well-formedness: for each check an operand outside its field, which the check refuses -/

def okPacket : Packet := { (default : Packet) with mac := List.replicate 16 0 }

def goodFrame : TelemetryFrame := { (default : TelemetryFrame) with samples := List.replicate 16 (some 0) }

def okRx : Rx := { (default : Rx) with bytes := zeros 64, count := 1 }

def okBeat : ReadBeat := { (default : ReadBeat) with data := zeros 64 }

def okMctp : MctpMsg := ⟨[1, 8, 9, 0xC0, 0], 0⟩

def badCmdEntry : CmdEntry := { (default : CmdEntry) with pktAddr := 2 ^ 64 }
def badCmdRecord : CmdRecord := { (default : CmdRecord) with session := 256 }
def badCompletionRec : CompletionRec := { (default : CompletionRec) with itemTag := 2 ^ 32 }
def badEpochHead : EpochHead := { (default : EpochHead) with source := 512 }
def badFormCommit : FormCommit := { (default : FormCommit) with recoverId := 2 ^ 32 }
def badFormReport : FormReport := { (default : FormReport) with highestTerm := 2 ^ 32 }
def badGroupCap : GroupCap := { (default : GroupCap) with cap := 2 ^ 16 }
def badHAccess : HAccess := { (default : HAccess) with agent := 64 }
def badInMail : InMail := { (default : InMail) with bodyLen := 2 ^ 16 }
def badJLog : JLog := { (default : JLog) with junction := 2 ^ 64 }
def badLinkReport : LinkReport := { (default : LinkReport) with link := 2 ^ 16 }
def badLossReport : LossReport := { (default : LossReport) with handle := 2 ^ 32 }
def badMctpMsg : MctpMsg := { (okMctp : MctpMsg) with packet := [1, 8, 9, 0xC0] }
def badPacket : Packet := { (okPacket : Packet) with version := 2 ^ 8 }
def badPartialResult : PartialResult := { (default : PartialResult) with row := 2 ^ 12 }
def badReadBeat : ReadBeat := { (okBeat : ReadBeat) with channel := 2 }
def badRosterEntry : RosterEntry := { (default : RosterEntry) with handle := 2 ^ 32 }
def badRx : Rx := { (okRx : Rx) with src := 512 }
def badSegment : Segment := { (default : Segment) with header := some { (default : RowHeader) with row := 4096 } }
def badStorage : Storage := Storage.granaryEntry 32768
def badTelemetryFrame : TelemetryFrame := { (goodFrame : TelemetryFrame) with samples := [] }
def badVerdict : Verdict := { (default : Verdict) with outcome := 2 }

theorem test_wellFormedBases : (okPacket.wf && goodFrame.wf && okRx.wf && okBeat.wf && okMctp.wf && (default : HAccess).wf && (default : CmdEntry).wf && (default : Segment).wf && (default : PartialResult).wf && (default : CompletionRec).wf && (default : JLog).wf && (default : FormReport).wf && (default : FormCommit).wf) = true := by decide

theorem test_illFormedHAccess : ([{ (default : HAccess) with agent := 64 },
     { (default : HAccess) with beats := 2 ^ 16 },
     { (default : HAccess) with core := true },
     { (default : HAccess) with before := [{ (default : RegRead) with agent := 64 }] },
     { (default : HAccess) with before := [{ (default : RegRead) with beats := 2 ^ 16 }] },
     { (default : HAccess) with before := [{ (default : RegRead) with off := 0x200000 }] }] : List HAccess).all (fun x => !HAccess.wf x) = true := by decide

theorem test_illFormedCmdEntry : ([{ (default : CmdEntry) with pktAddr := 2 ^ 64 },
     { (default : CmdEntry) with pktLen := 2 ^ 32 },
     { (default : CmdEntry) with replyMax := 2 ^ 32 },
     { (default : CmdEntry) with replyAddr := 2 ^ 64 }] : List CmdEntry).all (fun x => !CmdEntry.wf x) = true := by decide

theorem test_illFormedPacket : ([{ (okPacket : Packet) with version := 2 ^ 8 },
     { (okPacket : Packet) with session := 2 ^ 16 },
     { (okPacket : Packet) with seq := 2 ^ 64 },
     { (okPacket : Packet) with paramLen := 2 ^ 32 },
     { (okPacket : Packet) with mac := [] }] : List Packet).all (fun x => !Packet.wf x) = true := by decide

theorem test_illFormedRx : ([{ (okRx : Rx) with src := 512 },
     { (okRx : Rx) with msgId := 2 ^ 32 },
     { (okRx : Rx) with frag := 2 ^ 16 },
     { (okRx : Rx) with count := 2 ^ 16 },
     { (okRx : Rx) with frag := 7 },
     { (okRx : Rx) with bytes := [] }] : List Rx).all (fun x => !Rx.wf x) = true := by decide

theorem test_longIllFormedInMail (b : List Byte) (h : 4064 < b.length) : InMail.wf { (default : InMail) with body := b } = false := by
  have h2 : ¬ b.length ≤ 4064 := by omega
  simp [InMail.wf, h2]

theorem test_illFormedInMail : ([{ (default : InMail) with bodyLen := 2 ^ 16 },
     { (default : InMail) with seq := 2 ^ 32 }] : List InMail).all (fun x => !InMail.wf x) = true := by decide

theorem test_illFormedMctpMsg : ([{ (okMctp : MctpMsg) with packet := [1, 8, 9, 0xC0] },
     { (okMctp : MctpMsg) with crc := 2 ^ 32 }] : List MctpMsg).all (fun x => !MctpMsg.wf x) = true := by decide

theorem test_illFormedRowHeader : ([{ (default : RowHeader) with itemTag := 2 ^ 32 },
     { (default : RowHeader) with step16 := 2 ^ 16 },
     { (default : RowHeader) with format := 4 },
     { (default : RowHeader) with row := 2 ^ 12 },
     { (default : RowHeader) with baseIndex := 2 ^ 32 },
     { (default : RowHeader) with count := 2 ^ 32 }] : List RowHeader).all (fun x => !RowHeader.wf x) = true := by decide

theorem test_illFormedSegment : ([{ (default : Segment) with header := some { (default : RowHeader) with row := 4096 } },
     { (default : Segment) with beats := [[]] },
     { (default : Segment) with crc := 2 ^ 32 }] : List Segment).all (fun x => !Segment.wf x) = true := by decide

theorem test_illFormedPartialResult : ([{ (default : PartialResult) with row := 2 ^ 12 },
     { (default : PartialResult) with step16 := 2 ^ 16 },
     { (default : PartialResult) with k := 65 },
     { (default : PartialResult) with returned := 1 },
     { (default : PartialResult) with k := 1 },
     { (default : PartialResult) with shardRank := 512 }] : List PartialResult).all (fun x => !PartialResult.wf x) = true := by decide

theorem test_illFormedVerdict : ([{ (default : Verdict) with outcome := 2 },
     { (default : Verdict) with used := 2 ^ 64 },
     { (default : Verdict) with missing := 2 ^ 64 },
     { (default : Verdict) with digest := 2 ^ 64 }] : List Verdict).all (fun x => !Verdict.wf x) = true := by decide

theorem test_illFormedCompletionRec : ([{ (default : CompletionRec) with itemTag := 2 ^ 32 },
     { (default : CompletionRec) with platform := 2 ^ 12 },
     { (default : CompletionRec) with slot := 4 },
     { (default : CompletionRec) with status := 2 ^ 4 },
     { (default : CompletionRec) with stallReason := 2 ^ 4 },
     { (default : CompletionRec) with busyStart := 2 ^ 32 },
     { (default : CompletionRec) with stallStart := 2 ^ 32 },
     { (default : CompletionRec) with idleStart := 2 ^ 32 },
     { (default : CompletionRec) with endA := 2 ^ 32 },
     { (default : CompletionRec) with endB := 2 ^ 32 },
     { (default : CompletionRec) with endC := 2 ^ 32 },
     { (default : CompletionRec) with rsvd := 2 ^ 9 }] : List CompletionRec).all (fun x => !CompletionRec.wf x) = true := by decide

theorem test_illFormedEpochHead : ([{ (default : EpochHead) with source := 512 },
     { (default : EpochHead) with proposal := 2 ^ 24 },
     { (default : EpochHead) with leadTerm := 2 ^ 32 },
     { (default : EpochHead) with epoch := 2 ^ 32 },
     { (default : EpochHead) with junction := 2 ^ 64 }] : List EpochHead).all (fun x => !EpochHead.wf x) = true := by decide

theorem test_illFormedCmdRecord : ([{ (default : CmdRecord) with session := 256 },
     { (default : CmdRecord) with acceptTime := 2 ^ 64 },
     { (default : CmdRecord) with assigned := 2 ^ 32 }] : List CmdRecord).all (fun x => !CmdRecord.wf x) = true := by decide

theorem test_illFormedRowRec : ([{ (default : RowRec) with handle := 2 ^ 32 },
     { (default : RowRec) with kind := 5 },
     { (default : RowRec) with model := 4 },
     { (default : RowRec) with cls := 8 }] : List RowRec).all (fun x => !RowRec.wf x) = true := by decide

theorem test_longIllFormedJLog (r : List RowRec) (h : 4096 < r.length) :
    JLog.wf { (default : JLog) with consist := { (default : Consist) with rows := r } } = false := by
  have h2 : ¬ r.length ≤ 4096 := by omega
  simp [JLog.wf, h2]

theorem test_illFormedJLog : ([{ (default : JLog) with junction := 2 ^ 64 },
     { (default : JLog) with leadTerm := 2 ^ 32 },
     { (default : JLog) with leadRank := 512 },
     { (default : JLog) with epoch := 2 ^ 32 },
     { (default : JLog) with closeTime := 2 ^ 64 },
     { (default : JLog) with commands := [{ (default : CmdRecord) with session := 256 }] },
     { (default : JLog) with banks := [16] },
     { (default : JLog) with consist := { (default : Consist) with rows := [{ (default : RowRec) with kind := 5 }] } }] : List JLog).all (fun x => !JLog.wf x) = true := by decide

theorem test_illFormedLossReport : ([{ (default : LossReport) with handle := 2 ^ 32 },
     { (default : LossReport) with cause := 6 },
     { (default : LossReport) with bank := 16 }] : List LossReport).all (fun x => !LossReport.wf x) = true := by decide

theorem test_illFormedFormReport : ([{ (default : FormReport) with highestTerm := 2 ^ 32 },
     { (default : FormReport) with epoch := 2 ^ 32 },
     { (default : FormReport) with junction := 2 ^ 64 },
     { (default : FormReport) with recoverId := 2 ^ 32 },
     { (default : FormReport) with n := 2 ^ 16 },
     { (default : FormReport) with resumeHint := 3 },
     { (default : FormReport) with lastDigest := 2 ^ 64 },
     { (default : FormReport) with barred := [512] }] : List FormReport).all (fun x => !FormReport.wf x) = true := by decide

theorem test_illFormedFormCommit : ([{ (default : FormCommit) with recoverId := 2 ^ 32 },
     { (default : FormCommit) with n := 2 ^ 16 },
     { (default : FormCommit) with resumeKind := 3 },
     { (default : FormCommit) with firstJunction := 2 ^ 64 },
     { (default : FormCommit) with leadTerm := 2 ^ 32 },
     { (default : FormCommit) with leadRank := 512 }] : List FormCommit).all (fun x => !FormCommit.wf x) = true := by decide

theorem test_illFormedRosterEntry : ([{ (default : RosterEntry) with handle := 2 ^ 32 },
     { (default : RosterEntry) with state := 2 ^ 8 },
     { (default : RosterEntry) with endReason := 2 ^ 8 },
     { (default : RosterEntry) with flags := 2 ^ 16 },
     { (default : RosterEntry) with granule := 2 ^ 32 },
     { (default : RosterEntry) with transcriptLen := 2 ^ 32 }] : List RosterEntry).all (fun x => !RosterEntry.wf x) = true := by decide

theorem test_illFormedReadBeat : ([{ (okBeat : ReadBeat) with channel := 2 },
     { (okBeat : ReadBeat) with tag := 2 ^ 10 },
     { (okBeat : ReadBeat) with beat := 4 },
     { (okBeat : ReadBeat) with data := [0] }] : List ReadBeat).all (fun x => !ReadBeat.wf x) = true := by decide

theorem test_illFormedLinkReport : ([{ (default : LinkReport) with link := 2 ^ 16 },
     { (default : LinkReport) with time := 2 ^ 64 }] : List LinkReport).all (fun x => !LinkReport.wf x) = true := by decide

theorem test_illFormedGroupCap : ([{ (default : GroupCap) with cap := 2 ^ 16 },
     { (default : GroupCap) with rank := 512 }] : List GroupCap).all (fun x => !GroupCap.wf x) = true := by decide

theorem test_illFormedTelemetryFrame : ([{ (goodFrame : TelemetryFrame) with samples := [] },
     { (goodFrame : TelemetryFrame) with samples := List.replicate 16 (some 65536) }] : List TelemetryFrame).all (fun x => !TelemetryFrame.wf x) = true := by decide

theorem test_illFormedStorage : ([Storage.granaryEntry 32768,
     Storage.stagedSlab 32768,
     Storage.rowContext 2 0,
     Storage.rowContext 0 4096,
     Storage.gleanBuffer 4096 0,
     Storage.gleanBuffer 0 512,
     Storage.bankLogic 16,
     Storage.control 0,
     Storage.control 17,
     Storage.handshake 0,
     Storage.handshake 17] : List Storage).all (fun x => !Storage.wf x) = true := by decide

theorem test_illFormedCommands1 :
    ([.cmdTailWrite (2 ^ 64) default default default, .cmdTailWrite default badHAccess default default,
      .cmdTailWrite default default 256 default, .cmdTailWrite default default default (2 ^ 64),
      .commandFetch (2 ^ 64) default default default, .commandFetch default 256 default default,
      .commandFetch default default badCmdEntry default, .commandFetch default default default (some badPacket),
      .cplHeadWrite (2 ^ 64) default default default, .cplHeadWrite default badHAccess default default,
      .cplHeadWrite default default 256 default, .cplHeadWrite default default default (2 ^ 64),
      .queueConfigWrite (2 ^ 64) default default default default, .queueConfigWrite default badHAccess default default default,
      .queueConfigWrite default default 256 default default, .queueConfigWrite default default default default (2 ^ 64),
      .tokenConsReport (2 ^ 64) default default default, .tokenConsReport default badHAccess default default,
      .tokenConsReport default default 256 default, .tokenConsReport default default default (2 ^ 64),
      .eventConsReport (2 ^ 64) default default default, .eventConsReport default badHAccess default default,
      .eventConsReport default default 256 default, .eventConsReport default default default (2 ^ 64),
      .sessionOpen (2 ^ 64) default, .sessionOpen default 256,
      .sessionConfirm (2 ^ 64) default, .sessionConfirm default 256,
      .sessionClose (2 ^ 64) default, .sessionClose default 256,
      .sessionOpeningTimeout (2 ^ 64) default, .sessionOpeningTimeout default 256,
      .sessionLockoutEnd (2 ^ 64) default, .sessionLockoutEnd default 256,
      .capQuery (2 ^ 64) default, .capQuery default 256,
      .groupQuery (2 ^ 64) default, .groupQuery default 256,
      .keyProvision (2 ^ 64) default, .keyProvision default 256] : List Instr).all (fun i => !i.wf) = true := by decide

theorem test_illFormedCommands2 :
    ([.modelStage (2 ^ 64) default, .modelStage default 256,
      .modelLoad (2 ^ 64) default, .modelLoad default 256,
      .modelUnload (2 ^ 64) default, .modelUnload default 256,
      .modelQuery (2 ^ 64) default, .modelQuery default 256,
      .strainLoad (2 ^ 64) default, .strainLoad default 256,
      .strainDrop (2 ^ 64) default, .strainDrop default 256,
      .tenantConfig (2 ^ 64) default, .tenantConfig default 256,
      .classConfig (2 ^ 64) default, .classConfig default 256,
      .reqAdmit (2 ^ 64) default, .reqAdmit default 256,
      .reqAppend (2 ^ 64) default, .reqAppend default 256,
      .reqTruncate (2 ^ 64) default, .reqTruncate default 256,
      .reqCancel (2 ^ 64) default, .reqCancel default 256,
      .reqPause (2 ^ 64) default, .reqPause default 256,
      .reqResume (2 ^ 64) default, .reqResume default 256,
      .reqFree (2 ^ 64) default, .reqFree default 256,
      .reqSetSampling (2 ^ 64) default, .reqSetSampling default 256,
      .reqQuery (2 ^ 64) default, .reqQuery default 256,
      .powerConfig (2 ^ 64) default, .powerConfig default 256,
      .powerCalibrate (2 ^ 64) default, .powerCalibrate default 256,
      .powerCap (2 ^ 64) default, .powerCap default 256] : List Instr).all (fun i => !i.wf) = true := by decide

theorem test_illFormedCommands3 :
    ([.modeSet (2 ^ 64) default, .modeSet default 256,
      .linkMap (2 ^ 64) default, .linkMap default 256,
      .maintWindow (2 ^ 64) default, .maintWindow default 256,
      .platformMap (2 ^ 64) default, .platformMap default 256,
      .counterRead (2 ^ 64) default, .counterRead default 256,
      .traceConfig (2 ^ 64) default, .traceConfig default 256,
      .censusConfig (2 ^ 64) default, .censusConfig default 256,
      .tensorDump (2 ^ 64) default, .tensorDump default 256,
      .hangDump (2 ^ 64) default, .hangDump default 256,
      .logRead (2 ^ 64) default, .logRead default 256,
      .bufferStop (2 ^ 64) default, .bufferStop default 256,
      .recover (2 ^ 64) default, .recover default 256,
      .faultQuery (2 ^ 64) default, .faultQuery default 256,
      .registerWrite (2 ^ 64) default default default, .registerWrite default badHAccess default default,
      .registerWrite default default 0x200000 default, .registerWrite default default default (2 ^ 64),
      .dpCtlWrite (2 ^ 64) default default default, .dpCtlWrite default badHAccess default default,
      .dpCtlWrite default default default (2 ^ 64), .dataWindowAccess (2 ^ 64) default default default default default,
      .dataWindowAccess default badHAccess default default default default, .dataWindowAccess default default 0x200000 default default default,
      .dataWindowAccess default default default default [2 ^ 64] default, .stageBaseWrite (2 ^ 64) default default,
      .stageBaseWrite default badHAccess default, .stageBaseWrite default default (2 ^ 64)] : List Instr).all (fun i => !i.wf) = true := by decide

theorem test_illFormedCommands4 :
    ([.kbUnwrap (2 ^ 64) default default, .kbUnwrap default badHAccess default,
      .kbUnwrap default default (2 ^ 64), .kbProgramWrapKey (2 ^ 64) default default,
      .kbProgramWrapKey default badHAccess default, .kbProgramWrapKey default default (2 ^ 64),
      .mailboxDoorbell (2 ^ 64) default default default, .mailboxDoorbell default badHAccess default default,
      .mailboxDoorbell default default 32 default, .mailboxDoorbell default default default (2 ^ 64),
      .ping (2 ^ 64) default default default, .ping default 32 default default,
      .ping default default (2 ^ 16) default, .ping default default default badInMail,
      .sensorSnapshot (2 ^ 64) default default, .sensorSnapshot default 32 default,
      .sensorSnapshot default default badInMail, .logMark (2 ^ 64) default default,
      .logMark default 32 default, .logMark default default badInMail,
      .outPendingClear (2 ^ 64) default default default, .outPendingClear default badHAccess default default,
      .outPendingClear default default 32 default, .outPendingClear default default default (2 ^ 64),
      .lockRead (2 ^ 64) default default, .lockRead default badHAccess default,
      .lockRead default default 64, .lockRelease (2 ^ 64) default default default,
      .lockRelease default badHAccess default default, .lockRelease default default 64 default,
      .lockRelease default default default (2 ^ 64), .lockBreak (2 ^ 64) default default,
      .lockBreak default badHAccess default, .lockBreak default default (2 ^ 64),
      .groupEventClear (2 ^ 64) default default, .groupEventClear default badHAccess default,
      .groupEventClear default default (2 ^ 64), .counterSnap (2 ^ 64) default default,
      .counterSnap default badHAccess default, .counterSnap default default (2 ^ 64)] : List Instr).all (fun i => !i.wf) = true := by decide

theorem test_illFormedCommands5 :
    ([.groupSetupWrite (2 ^ 64) default default, .groupSetupWrite default badHAccess default,
      .groupSetupWrite default default (2 ^ 64), .obsBaseWrite (2 ^ 64) default default,
      .obsBaseWrite default badHAccess default, .obsBaseWrite default default (2 ^ 64),
      .logitSegment (2 ^ 64) default default, .logitSegment default 2 default,
      .logitSegment default default badSegment, .gleanData (2 ^ 64) default default default default default,
      .gleanData default badRx default default default default, .gleanData default default 4096 default default default,
      .gleanData default default default (2 ^ 64) default default, .gleanData default default default default 4 default,
      .gleanData default default default default default badPartialResult, .gleanVerdict (2 ^ 64) default default default default,
      .gleanVerdict default badRx default default default, .gleanVerdict default default 4096 default default,
      .gleanVerdict default default default (2 ^ 64) default, .gleanVerdict default default default default badVerdict,
      .gleanResendReq (2 ^ 64) default default default, .gleanResendReq default badRx default default,
      .gleanResendReq default default 4096 default, .gleanResendReq default default default (2 ^ 64),
      .gleanResendTimer (2 ^ 64) default, .gleanResendTimer default 4096,
      .gleanTimeout (2 ^ 64) default, .gleanTimeout default 4096,
      .gleanVerdictWaitTimeout (2 ^ 64) default, .gleanVerdictWaitTimeout default 4096,
      .gleanMismatchWindow (2 ^ 64), .drawWaitCompletion (2 ^ 64) default,
      .drawWaitCompletion default (2 ^ 32), .timetableInstantiation (2 ^ 64),
      .nodeInsert (2 ^ 64), .dispatchStage (2 ^ 64),
      .waveRelease (2 ^ 64), .completionRecord (2 ^ 64) default default,
      .completionRecord default badCompletionRec default, .completionRecord default default (2 ^ 32)] : List Instr).all (fun i => !i.wf) = true := by decide

theorem test_illFormedCommands6 :
    ([.itemTimeout (2 ^ 64) default, .itemTimeout default (2 ^ 32),
      .memoryReadResponse (2 ^ 64) default default default, .memoryReadResponse default badReadBeat default default,
      .memoryReadResponse default default 4 default, .memoryReadResponse default default default (2 ^ 32),
      .memoryWriteResponse (2 ^ 64) default default, .memoryWriteResponse default 2 default,
      .memoryWriteResponse default default 4, .prefixWalk (2 ^ 64) default,
      .prefixWalk default (2 ^ 32), .readySend (2 ^ 64),
      .junctionReady (2 ^ 64) default default default default default default default, .junctionReady default badRx default default default default default default,
      .junctionReady default default (2 ^ 64) default default default default default, .junctionReady default default default (2 ^ 32) default default default default,
      .junctionReady default default default default (2 ^ 64) default default default, .junctionReady default default default default default (2 ^ 64) default default,
      .junctionReady default default default default default default (2 ^ 32) default, .junctionDigest (2 ^ 64) default default default default,
      .junctionDigest default badRx default default default, .junctionDigest default default (2 ^ 64) default default,
      .junctionDigest default default default (2 ^ 32) default, .junctionDigest default default default default (2 ^ 64),
      .digestResendTimer (2 ^ 64), .readyResendTimer (2 ^ 64),
      .junctionWatchdog (2 ^ 64), .idleInterval (2 ^ 64),
      .yardFinalisation (2 ^ 64), .logReceived (2 ^ 64) default default default default default,
      .logReceived default badRx default default default default, .logReceived default default (2 ^ 16) default default default,
      .logReceived default default default (2 ^ 16) default default, .logReceived default default default default badJLog default,
      .logResendRequest (2 ^ 64) default default default default, .logResendRequest default badRx default default default,
      .logResendRequest default default (2 ^ 32) default default, .logResendRequest default default default (2 ^ 16) default,
      .logResendRequest default default default default (2 ^ 16), .logResendTimer (2 ^ 64)] : List Instr).all (fun i => !i.wf) = true := by decide

theorem test_illFormedCommands7 :
    ([.leadTimerExpiry (2 ^ 64), .takeover (2 ^ 64) default default default default,
      .takeover default badRx default default default, .takeover default default (2 ^ 64) default default,
      .takeover default default default (2 ^ 32) default, .takeover default default default default 512,
      .takeoverAck (2 ^ 64) default default default, .takeoverAck default badRx default default,
      .takeoverAck default default (2 ^ 32) default, .takeoverAck default default default (2 ^ 16),
      .takeoverTimeout (2 ^ 64), .propose (2 ^ 64) default default default,
      .propose default badRx default default, .propose default default badEpochHead default,
      .propose default default default badCmdRecord, .prepared (2 ^ 64) default default default default default,
      .prepared default badRx default default default default, .prepared default default badEpochHead default default default,
      .prepared default default default (2 ^ 64) default default, .prepared default default default default (2 ^ 64) default,
      .prepared default default default default default (2 ^ 64), .refused (2 ^ 64) default default default default,
      .refused default badRx default default default, .refused default default badEpochHead default default,
      .refused default default default (2 ^ 16) default, .refused default default default default (2 ^ 32),
      .capReport (2 ^ 64) default default default default, .capReport default badRx default default default,
      .capReport default default badEpochHead default default, .capReport default default default (2 ^ 16) default,
      .capReport default default default default (2 ^ 32), .capSet (2 ^ 64) default default default default default,
      .capSet default badRx default default default default, .capSet default default badEpochHead default default default,
      .capSet default default default badGroupCap default default, .capSet default default default default (2 ^ 32) default,
      .capSet default default default default default (2 ^ 64), .lossReport (2 ^ 64) default default default,
      .lossReport default badRx default default, .lossReport default default badEpochHead default] : List Instr).all (fun i => !i.wf) = true := by decide

theorem test_illFormedCommands8 :
    ([.lossReport default default default badLossReport, .lossReportResend (2 ^ 64),
      .formReport (2 ^ 64) default default, .formReport default badRx default,
      .formReport default default badFormReport, .formReportRepeat (2 ^ 64),
      .formCommit (2 ^ 64) default default, .formCommit default badRx default,
      .formCommit default default badFormCommit, .roster (2 ^ 64) default default default,
      .roster default badRx default default, .roster default default (2 ^ 32) default,
      .roster default default default (List.replicate 65 default), .roster default default default [badRosterEntry],
      .formationTimeout (2 ^ 64), .haltReceived (2 ^ 64) default default default default,
      .haltReceived default badRx default default default, .haltReceived default default (2 ^ 16) default default,
      .haltReceived default default default 512 default, .haltReceived default default default default (2 ^ 64),
      .linkmap (2 ^ 64) default default, .linkmap default badRx default,
      .linkmap default default badLinkReport, .linkFailReport (2 ^ 64) default,
      .linkFailReport default (2 ^ 16), .txCreditReturn (2 ^ 64) default,
      .txCreditReturn default 8, .endpointResponse (2 ^ 64) default default,
      .endpointResponse default 512 default, .endpointQueryTimeout (2 ^ 64),
      .telemetryFrame (2 ^ 64) default, .telemetryFrame default badTelemetryFrame,
      .hardStuck (2 ^ 64) default, .hardStuck default 16,
      .telemetryLoss (2 ^ 64) default, .telemetryLoss default 16,
      .calibrationWindow (2 ^ 64), .capStrobe (2 ^ 64) default default,
      .capStrobe default (2 ^ 16) default, .capDeadline (2 ^ 64)] : List Instr).all (fun i => !i.wf) = true := by decide

theorem test_illFormedCommands9 :
    ([.droopWarningAssert (2 ^ 64), .droopWarningDeassert (2 ^ 64),
      .droopRamp (2 ^ 64), .timeBaseLost (2 ^ 64) default,
      .pclkLost (2 ^ 64) default, .setEndpointId (2 ^ 64) default default default,
      .setEndpointId default badMctpMsg default default, .setEndpointId default default 4 default,
      .setEndpointId default default default 256, .getEndpointId (2 ^ 64) default,
      .getEndpointId default badMctpMsg, .getEndpointUuid (2 ^ 64) default,
      .getEndpointUuid default badMctpMsg, .getMctpVersionSupport (2 ^ 64) default default,
      .getMctpVersionSupport default badMctpMsg default, .getMctpVersionSupport default default (2 ^ 16),
      .getMessageTypeSupport (2 ^ 64) default, .getMessageTypeSupport default badMctpMsg,
      .getTid (2 ^ 64) default, .getTid default badMctpMsg,
      .getPldmVersion (2 ^ 64) default default, .getPldmVersion default badMctpMsg default,
      .getPldmVersion default default (2 ^ 16), .getPldmTypes (2 ^ 64) default,
      .getPldmTypes default badMctpMsg, .getPldmCommands (2 ^ 64) default default,
      .getPldmCommands default badMctpMsg default, .getPldmCommands default default (2 ^ 16),
      .queryDeviceIdentifiers (2 ^ 64) default, .queryDeviceIdentifiers default badMctpMsg,
      .getFirmwareParameters (2 ^ 64) default, .getFirmwareParameters default badMctpMsg,
      .requestUpdate (2 ^ 64) default default, .requestUpdate default badMctpMsg default,
      .requestUpdate default default (2 ^ 32), .passComponentTable (2 ^ 64) default default default default,
      .passComponentTable default badMctpMsg default default default, .passComponentTable default default (2 ^ 16) default default,
      .passComponentTable default default default (2 ^ 16) default, .updateComponent (2 ^ 64) default default default default] : List Instr).all (fun i => !i.wf) = true := by decide

theorem test_illFormedCommands10 :
    ([.updateComponent default badMctpMsg default default default, .updateComponent default default (2 ^ 16) default default,
      .updateComponent default default default (2 ^ 16) default, .updateComponent default default default default (2 ^ 32),
      .firmwareData (2 ^ 64) default default default, .firmwareData default badMctpMsg default default,
      .firmwareData default default 256 default, .activateFirmware (2 ^ 64) default default,
      .activateFirmware default badMctpMsg default, .getStatus (2 ^ 64) default,
      .getStatus default badMctpMsg, .cancelUpdateComponent (2 ^ 64) default,
      .cancelUpdateComponent default badMctpMsg, .cancelUpdate (2 ^ 64) default,
      .cancelUpdate default badMctpMsg, .getVersion (2 ^ 64) default,
      .getVersion default badMctpMsg, .getCapabilities (2 ^ 64) default,
      .getCapabilities default badMctpMsg, .negotiateAlgorithms (2 ^ 64) default default default,
      .negotiateAlgorithms default badMctpMsg default default, .negotiateAlgorithms default default (2 ^ 32) default,
      .negotiateAlgorithms default default default (2 ^ 32), .getDigests (2 ^ 64) default,
      .getDigests default badMctpMsg, .getCertificate (2 ^ 64) default default default default,
      .getCertificate default badMctpMsg default default default, .getCertificate default default 16 default default,
      .getCertificate default default default (2 ^ 16) default, .getCertificate default default default default (2 ^ 16),
      .challenge (2 ^ 64) default default default, .challenge default badMctpMsg default default,
      .challenge default default 16 default, .challenge default default default 256,
      .getMeasurements (2 ^ 64) default default default default, .getMeasurements default badMctpMsg default default default,
      .getMeasurements default default 16 default default, .getMeasurements default default default 256 default,
      .setCertificate (2 ^ 64) default default default, .setCertificate default badMctpMsg default default] : List Instr).all (fun i => !i.wf) = true := by decide

theorem test_illFormedCommands11 :
    ([.setCertificate default default 16 default, .flashCommandDone (2 ^ 64) default,
      .flashCommandTimeout (2 ^ 64), .persistentLogFlush (2 ^ 64),
      .coreWatchdog (2 ^ 64) default default, .coreWatchdog default 4 default,
      .coreWatchdog default default (2 ^ 64), .retentionAck (2 ^ 64) default default,
      .retentionAck default 4 default, .sensorSample (2 ^ 64) default default,
      .sensorSample default 36 default, .sensorSample default default (2 ^ 64),
      .censusSnapshot (2 ^ 64), .sramUncorrectable (2 ^ 64) default default,
      .sramUncorrectable default badStorage default, .drbgHealthFail (2 ^ 64),
      .diagSweepComplete (2 ^ 64) default, .diagSweepComplete default (some 17),
      .quiescence (2 ^ 64), .poreset (2 ^ 64),
      .wreset (2 ^ 64), .resetRelease (2 ^ 64) default,
      .selfTestComplete (2 ^ 64) default default, .selfTestComplete default default (some 17),
      .testModeEntry (2 ^ 64) default, .drbgReseed (2 ^ 64),
      .kbActionComplete (2 ^ 64), .tbSyncPulse (2 ^ 64),
      .scrubSymbolCorrected (2 ^ 64) default default default default, .scrubSymbolCorrected default (2 ^ 16) default default default,
      .scrubSymbolCorrected default default (2 ^ 64) default default, .scrubSymbolCorrected default default default (some 16) default,
      .outDroppedRead (2 ^ 64) default default, .outDroppedRead default badHAccess default,
      .outDroppedRead default default 32, .wsSafeEntry (2 ^ 64)] : List Instr).all (fun i => !i.wf) = true := by decide

/-! ### States and operands that meet the statements' hypotheses -/

def b0 : Block := Block.reset

/-- The block once its firmware runs. -/
def fw : Block :=
  { b0 with sb := { b0.sb with phase := .firmware }, fab := { b0.fab with given := [0, 64, 64, 256, 32, 8, 16] }
            ap := { b0.ap with tb := { b0.ap.tb with valid := true } } }

def held : Block := { b0 with sb := { b0.sb with phase := .held } }

def tested : Block := { b0 with sb := { b0.sb with phase := .test } }

def safe : Block := { b0 with sb := { b0.sb with safe := true } }

/-- A secure access by agent n, of 8 bytes and one beat. -/
def acc (n : Nat) : HAccess := { agent := n, secure := true, size8 := true, high := false, beats := 1, aligned := true, crcOk := true }

/-- An access of Signal Box core n by its internal path. -/
def coreAcc (n : Nat) : HAccess := { acc (3 + n) with core := true }

theorem test_meets_StepTakesFrontCommand :
    ({ State.reset with pending := [Instr.idleInterval 1] } : State).pending = .idleInterval 1 :: [] ∧ State.reset.pending = [] := by
  decide

theorem test_meets_CommandsLeaveTheQueue : ∃ t, exec (.idleInterval 0) (st fw) = .next t := ⟨_, rfl⟩

theorem test_meets_StepKeepsInvariant : State.reset.Inv ∧ step State.reset = .next State.reset :=
  ⟨by unfold State.Inv; decide, rfl⟩

theorem test_meets_HeldAndSafeBlocksStandStill :
    ((st held).Inv ∧ (st held).blk.dead = true ∧ isReset (.testModeEntry 0 default) = false ∧ (st held).blk.sb.phase = .held) ∧
    ((st tested).Inv ∧ (st tested).blk.dead = true ∧ isReset (.idleInterval 0) = false ∧ isTestEntry (.idleInterval 0) = false) ∧
    ((st safe).Live ∧ (st safe).blk.sb.safe = true ∧ isTransfer (.droopWarningAssert 0) = true) := by
  unfold State.Inv State.Live; decide

theorem test_meets_QuietCommandLeavesItsOwnEffect : b0.Quiet ∧ b0.Plain b0 := by
  unfold Block.Quiet Block.Plain; decide

theorem test_meets_MemoryBytesReadBack : Memory.wf [] = true ∧ Memory.wf (memWriteN [] 5 [1, 0, 2]) = true := by decide

theorem test_meets_OrderKeysRankTheValues : 2 ^ 32 - 1 < 2 ^ 32 ∧ F.isNaN 0x7F800000#32 = false ∧ (0x7F800000#32 : F32) ≠ F.negInf ∧
    F.isNaN 0x80000000#32 = false ∧ (0x80000000#32 : F32) ≠ F.negInf := by decide
/-- Session 0 of a page with a command queue of 16 entries and a completion queue of 16. -/
def ses0 : Session := { cmdLog := 4, cplLog := 4, cmdBase := 0x1000, cplBase := 0x2000 }

def withSes (b : Block) (s : Nat) (q : Session) : Block := { b with ses := [(s, q)] }

def pageSt : State := st (withSes fw 0 ses0)

theorem test_meets_QueueRegistersMoveIndices :
    (lowHalf (acc 2) = true ∧ pageSt.Writes 0 (acc 2) (page 0) ∧
      sub32 (16 % 4294967296) ((pageSt.asked 0 (acc 2)).session 0).fetch ≤ ((pageSt.asked 0 (acc 2)).session 0).cmdSize ∧
      ((pageSt.asked 0 (acc 2)).session 0).cmdSize < sub32 (17 % 4294967296) ((pageSt.asked 0 (acc 2)).session 0).fetch ∧
      pageSt.Writes 0 (acc 2) (page 0 + 0x10) ∧
      sub32 ((pageSt.asked 0 (acc 2)).session 0).cplTail (0 % 4294967296) ≤ ((pageSt.asked 0 (acc 2)).session 0).cplSize ∧
      ((pageSt.asked 0 (acc 2)).session 0).cplSize < sub32 ((pageSt.asked 0 (acc 2)).session 0).cplTail (1 % 4294967296)) ∧
    ((acc 2).size8 = true ∧ pageSt.Writes 0 (acc 2) (page 0 + queueReg .cmdBase) ∧ pageSt.Writes 0 (acc 2) (page 0 + queueReg .cplBase) ∧
      pageSt.Writes 0 (acc 2) (page 0 + queueReg .cfg) ∧ logOk (bits 0x404 3 0) = true ∧ logOk (bits 0x404 11 8) = true) ∧
    ((st (withSes fw 0 { ses0 with state := .opened })).Writes 0 (acc 2) (page 0 + queueReg .cfg)) := by
  unfold State.Writes; decide

/-- A request that decodes, in slot 0 under tag 1. -/
def live : Entry := { handle := 0x100000, state := .decode, pages := [7], transcriptLen := 3, committedLen := 2 }

def withLive (b : Block) : Block := { b with gr := { b.gr with entries := [(0, live)], tags := [(0, 1)], freeList := [(1, 32768)] } }

/-- A group of one instance, its lead, running. -/
def lead : Block := { fw with cp := { fw.cp with state := .running, n := 1, term := 1 } }

def leadSt : State := st (withLive lead)

/-- A report of index 4,096 for a handle. -/
def report (h : Nat) : Nat := h + 4096 * 4294967296

theorem test_meets_ConsumerReportsEnterTheSequencer :
    ((acc 2).size8 = true ∧ report 0x100000 < 18446744073709551616 ∧ leadSt.blk.isLead = true ∧ leadSt.blk.cp.state = .running ∧
      secureSession 0 = true ∧ leadSt.Writes 0 (acc 2) (page 0 + 0x40) ∧ leadSt.Writes 0 (acc 2) (page 0 + 0x48) ∧
      (leadSt.asked 0 (acc 2)).handleTarget 0 (report 0x100000 % 4294967296) = .entry live ∧
      (leadSt.asked 0 (acc 2)).handleTarget 0 0x200000 = .stale) ∧
    ((st fw).Writes 0 (acc 2) (page 0 + 0x40) ∧ ((st fw).asked 0 (acc 2)).cp.state ≠ .running ∧
      ({ lead with cp := { lead.cp with rank := 1 } } : Block).isLead = false) ∧
    (leadSt.Writes 0 (acc 2) (page 255 + 0x48) ∧ secureSession 255 = false ∧ ((leadSt.asked 0 (acc 2)).session 255).state = .closed) ∧
    (ringSize live.tokenRing < sub32 (add32 live.tokenProd ((leadSt.asked 0 (acc 2)).writtenTokens live)) (report 0x100000 / 4294967296) ∧
      ringSize live.eventRing < sub32 live.eventProd (report 0x100000 / 4294967296) ∧
      sub32 (add32 live.tokenProd ((leadSt.asked 0 (acc 2)).writtenTokens live)) 0 ≤ ringSize live.tokenRing ∧
      0 ≤ toInt32 (sub32 0 ((leadSt.asked 0 (acc 2)).lastReport live).1) ∧
      sub32 live.eventProd 0 ≤ ringSize live.eventRing ∧ 0 ≤ toInt32 (sub32 0 ((leadSt.asked 0 (acc 2)).lastReport live).2)) ∧
    (toInt32 (sub32 0 (lead.lastReport { live with tokenCons := 1 }).1) < 0 ∧ toInt32 (sub32 0 (lead.lastReport { live with eventCons := 1 }).2) < 0) ∧
    (Tab.has 0x100000 lead.seq.consumerWait = false ∧
      lead.logNeed lead.openJ (lead.cmdsFor lead.openJ) (lead.ticketsFor lead.openJ) [(0x100000, 1, 0)] ≤ lead.logLimit) ∧
    ¬ ({ lead with cp := { lead.cp with n := 0 } } : Block).logNeed 1 [] [] [(0x100000, 1, 0)] ≤ 0 ∧
    leadSt.blk.byHandle 0x100000 = some (0, live) := by
  unfold State.Writes
  and_intros <;> first | rfl | decide

def lockSt : State := st (fw.setLock 31 2)

theorem test_meets_LocksAreTakenAndFreed :
    ({ acc 1 with secure := false } : HAccess).secure = false ∧
    (st fw).Reads 0 (acc 2) (lockOffset 63) ∧ ((st fw).asked 0 (acc 2)).lockOwner 63 = 0 ∧
    lockSt.Reads 0 (acc 8) (lockOffset 31) ∧ (lockSt.asked 0 (acc 2)).lockOwner 31 ≠ 0 ∧
    lockSt.Writes 0 (acc 2) (lockOffset 31) ∧ lowHalf (acc 2) = true ∧ (lockSt.asked 0 (acc 2)).lockOwner 31 = (acc 2).agent ∧
    2 % 64 = (acc 2).agent ∧ (acc 2).agent ≠ 0 ∧
    lockSt.Writes 0 (acc 8) (lockOffset 31) ∧ (lockSt.asked 0 (acc 2)).lockOwner 31 ≠ (acc 8).agent ∧
    (st fw).CoreAccess 0 (coreAcc 3) 3 ∧ shapeBroken (coreAcc 3) (lockOffset 63) = false ∧ lowHalf (coreAcc 3) = true ∧
    (fw.atTime 0).lockOwner 63 = 0 ∧ ((fw.setLock 63 6).atTime 0).lockOwner 63 = 3 + 3 ∧ (lockSt.blk.atTime 0).lockOwner 31 ≠ 0 := by
  unfold State.Writes State.Reads State.CoreAccess; decide

theorem test_meets_LocksAreTakenAndFreed_break : lockSt.Writes 0 (acc 2) 0x4A100 ∧ lowHalf (acc 2) = true ∧ lockSt.Live := by
  unfold State.Writes State.Live; decide

/-- The secure data channel of an owner with a target. -/
def chan (target owner cursor : Nat) : State :=
  st { fw with ap := { fw.ap with sec := { target, owner, cursor }, ns := { target, owner, cursor } } }

def proposing : State := st { lead with cp := { lead.cp with staged := some { (default : StagedProposal) with params := .modelLoad default } } }

/-- A transcript region of two positions, in a channel of session 16 bound to it. -/
def region0 : Region := { (default : Region) with cap := 2 }

def transcript (cursor : Nat) : Block :=
  { withLive fw with gr := { (withLive fw).gr with regions := [(live.granule, region0)] }
                     ap := { fw.ap with sec := { target := 5, owner := 2, select := 0x100000, cursor } } }

theorem test_meets_DataChannelsMoveBytes :
    ((chan 0 0 0).Writes 0 (acc 2) 0x46000 ∧ ((chan 0 0 0).asked 0 (acc 2)).ap.sec.target = 0 ∧ bits 4 3 0 = 4 ∧ bits 0 3 0 = 0 ∧
      bits 2 3 0 = 2 ∧ bits 6 3 0 = 6 ∧ bits (2 + 4 * 4294967296) 3 0 = 2 ∧ 3 < (2 + 4 * 4294967296) / 4294967296 ∧ 2 / 4294967296 ≤ 3) ∧
    ((chan 4 2 0).Writes 0 (acc 2) 0x46000 ∧ ((chan 4 2 0).asked 0 (acc 2)).ap.sec.owner = (acc 2).agent) ∧
    ((chan 4 2 0).Writes 0 (acc 8) 0x46000 ∧ ((chan 4 2 0).asked 0 (acc 2)).ap.sec.target ≠ 0 ∧
      ((chan 4 2 0).asked 0 (acc 2)).ap.sec.owner ≠ (acc 8).agent) ∧
    ((chan 0 0 0).Writes 0 (acc 8) 0x6000 ∧ ((chan 0 0 0).asked 0 (acc 2)).ap.ns.target = 0) ∧
    (bits (5 + 16 * 65536 + 0x100000 * 4294967296) 3 0 = 5 ∧ 16 ≤ bits (5 + 16 * 65536 + 0x100000 * 4294967296) 23 16 ∧
      ((withSes fw 16 { ses0 with state := .opened }).session 16).state = .opened ∧
      (withLive fw).handleTarget 0 0x100000 = .entry live ∧ (withSes (withLive fw) 16 { ses0 with state := .opened }).handleTarget 16 0x100000 = .entry live ∧
      (withLive fw).handleTarget 0 0x200000 = .stale ∧ (fw.session 16).state ≠ .opened) ∧
    ((chan 5 2 0).Writes 0 (acc 2) 0x46020 ∧ ((chan 5 2 0).asked 0 (acc 2)).proposalOpen = false ∧ ((chan 5 2 0).asked 0 (acc 2)).ap.sec.target = 5 ∧
      1 ≤ ((chan 4 2 0).asked 0 (acc 2)).ap.sec.target ∧ ((chan 4 2 0).asked 0 (acc 2)).ap.sec.target ≤ 4) ∧
    (proposing.Writes 0 (acc 2) 0x46020 ∧ (proposing.asked 0 (acc 2)).proposalOpen = true) ∧
    ((chan 4 2 1048568).Serving ∧ (acc 2).core = false ∧ ((chan 4 2 0).asked 0 (acc 2)).ap.answers.length < 16 ∧ 0x80000 ≤ 0xBFFF8 ∧ 0xBFFF8 < 0x100000 ∧
      accessStatus (acc 2) 0xBFFF8 true = 0 ∧ accessStatus (acc 2) 0x80000 false = 0 ∧ accessStatus (acc 8) 0xFFFF8 false = 0) ∧
    (((chan 4 2 0).blk.channel true).target ≠ 0 ∧ ((chan 4 2 0).blk.channel true).owner ≠ 8 ∧ ((chan 0 0 0).blk.channel false).target = 0 ∧
      ((chan 4 2 1048568).blk.channel true).cursor < (stageTarget 4 0).2 ∧ (stageTarget 4 0).2 ≤ ((chan 4 2 1048576).blk.channel true).cursor ∧
      (chan 1 2 0).blk.stagingLocked = false ∧ proposing.blk.stagingLocked = true) ∧
    (((transcript 0).channel true).target = 5 ∧ ((transcript 0).channel true).owner = 2 ∧ fw.regionOf 0x100000 = none ∧
      (transcript 0).regionOf 0x100000 = some region0 ∧ 256 + 4 * region0.cap ≤ ((transcript 264).channel true).cursor ∧
      ((transcript 256).channel true).cursor < 256 + 4 * region0.cap) := by
  unfold State.Writes State.Serving
  and_intros <;> decide

def loaded : State := st { fw with mdl := { fw.mdl with active := [(0, default)] } }

theorem test_meets_StatusRegistersTakeWrites :
    (st fw).Writes 0 (acc 2) 0x40000 ∧ (st fw).Writes 0 (acc 2) 0x41030 ∧ (st fw).Writes 0 (acc 2) 0x4C100 ∧ bit 1 0 = true ∧
    (st fw).Writes 0 (acc 2) 0x4D000 ∧ (acc 2).agent = 2 ∧ ((st fw).asked 0 (acc 2)).cp.fresh = true ∧ ((st fw).asked 0 (acc 2)).cp.state = .forming ∧
    (st fw).Writes 0 (acc 8) 0x4D000 ∧ (acc 8).agent ≠ 2 ∧ (leadSt.asked 0 (acc 2)).cp.state ≠ .forming ∧
    (st fw).Writes 0 (acc 2) 0x4C008 ∧ ((st fw).asked 0 (acc 2)).mdl.active = [] ∧
    loaded.Writes 0 (acc 2) 0x4C008 ∧ (loaded.asked 0 (acc 2)).mdl.active ≠ [] := by
  unfold State.Writes; decide

def keyed (k : Keys) : State := st { fw with keys := k }

def wrapKey : List Byte := List.replicate 32 0

theorem test_meets_RegistersReadNoKey :
    Tab.has 0 [(0, [1])] = Tab.has 0 ({ b0 with keys := { b0.keys with channel := [(0, [2])] } } : Block).keys.channel ∧
    (some [1] : Option (List Byte)).isSome = ({ b0 with keys := { b0.keys with bootWrap := some [2] } } : Block).keys.bootWrap.isSome := by
  decide

/-! Commands: a session that carries one, and its packet. -/

/-- A packet of session 0 with its MAC. -/
def pkt (p : Params) (ks : List Byte) (seq : Nat) : Packet :=
  let q : Packet := { params := p, version := 0x10, session := 0, seq, paramLen := (paramBytes p).length, mac := [] }
  { q with mac := macOf ks q }

theorem pkt_mac (p : Params) (ks : List Byte) (seq : Nat) : macOf ks (pkt p ks seq) = (pkt p ks seq).mac := rfl

/-- A packet like that with another MAC. -/
def badPkt (p : Params) (ks : List Byte) (seq : Nat) : Packet :=
  let q : Packet := { params := p, version := 0x10, session := 0, seq, paramLen := (paramBytes p).length, mac := [] }
  { q with mac := if macOf ks q = [] then [0] else [] }

theorem badPkt_mac (p : Params) (ks : List Byte) (seq : Nat) : macOf ks (badPkt p ks seq) ≠ (badPkt p ks seq).mac := by
  show macOf ks { params := p, version := 0x10, session := 0, seq, paramLen := (paramBytes p).length, mac := [] } ≠
    if macOf ks { params := p, version := 0x10, session := 0, seq, paramLen := (paramBytes p).length, mac := [] } = [] then [0] else []
  split <;> simp_all

def ent (p : Params) : CmdEntry := { pktAddr := 0x4000, pktLen := 48 + (paramBytes p).length, replyMax := 64, replyAddr := 0x5000 }

/-- The command that a session carries. -/
def cmd (p : Params) : Current := { entry := ent p, pkt := { params := p, version := 0x10, session := 0, seq := 1, paramLen := (paramBytes p).length, mac := [] } }

/-- A block whose session 0 is OPEN and carries a command. -/
def carrying (b : Block) (p : Params) : State :=
  st (withSes b 0 { ses0 with state := .opened, current := some (cmd p), expected := 2, major := 1, reserved := 1, fetch := 1, tail := 1 })

/-- The wrapping of no key at all: the integrity value alone. -/
def noKey : List Byte := List.replicate 8 0xA6

theorem test_meets_KeysAreInstalledByBootstrapAndProvision :
    ((keyed { b0.keys with bootWrap := some wrapKey, attempts := 16 }).Writes 0 (acc 2) 0x47000 ∧
      (keyed { b0.keys with bootWrap := some wrapKey }).blk.keys.action = none ∧ b0.keys.locked = false ∧ Tab.has 0 b0.keys.channel = false ∧
      0 < (keyed { b0.keys with bootWrap := some wrapKey, attempts := 16 }).blk.keys.attempts ∧ b0.keys.bootWrap = none ∧
      (keyed { b0.keys with locked := true }).blk.keys.locked = true) ∧
    ((st fw).Live ∧ fw.sb.phase = .firmware ∧ (keyed { b0.keys with action := some (1, some wrapKey) }).blk.keys.action = some (1, some wrapKey) ∧
      (keyed { b0.keys with action := some (1, none) }).blk.keys.action = some (1, none) ∧
      (keyed { b0.keys with action := some (2, none) }).blk.keys.action = some (2, none)) ∧
    ((carrying fw (.keyProvision 1 15 [] 0)).Carries 0 0 (cmd (.keyProvision 1 15 [] 0)) ∧ bit 0 0 = false ∧ Tab.has 15 fw.keys.channel = false) ∧
    ((carrying { fw with keys := { fw.keys with tenant := [(4095, wrapKey)] } } (.keyProvision 2 4095 [] 1)).Carries 0 0
        (cmd (.keyProvision 2 4095 [] 1)) ∧ bit 1 0 = true ∧ Tab.has 4095 [(4095, wrapKey)] = true ∧
      ∀ k, Aes.unwrap k [] = none) ∧
    ((carrying fw (.keyProvision 1 15 noKey 0)).Carries 0 0 (cmd (.keyProvision 1 15 noKey 0)) ∧
      Tab.has 15 ({ fw.keys with channel := [(15, wrapKey)] } : Keys).channel = true ∧ Tab.has 4095 fw.keys.tenant = false ∧
      ∀ k, Aes.unwrap k noKey = some []) ∧
    ((carrying fw (.keyProvision 1 0 [] 1)).Carries 0 0 (cmd (.keyProvision 1 0 [] 1)) ∧ bit 1 0 = true) := by
  unfold State.Writes State.Live State.Carries
  and_intros
  all_goals first | decide | (intro k; rfl)

def mailSt (m : Mailbox) : State := st { fw with ap := { fw.ap with mail := [(31, m)] } }

def msg : MailMsg := { type := 1, flags := 1, status := 0, seq := 1, body := [] }

theorem test_meets_MailboxRegistersPostAndClear :
    (mailSt {}).Writes 0 (acc 2) (mailOffset 31 + 8) ∧ bit 1 0 = true ∧ bit 1 1 = false ∧ (((mailSt {}).asked 0 (acc 2)).mailbox 31).inPending = false ∧
    (((mailSt { inPending := true }).asked 0 (acc 2)).mailbox 31).inPending = true ∧ bit 2 0 = false ∧ bit 2 1 = true ∧
    (mailSt {}).Writes 0 (acc 2) (mailOffset 31 + 0x20) ∧ (((mailSt {}).asked 0 (acc 2)).mailbox 31).waiting = [] ∧
    (((mailSt { waiting := [msg], outBase := 0x1000 }).asked 0 (acc 2)).mailbox 31).waiting = msg :: [] ∧
    (((mailSt { waiting := [msg], outBase := 0x1000 }).asked 0 (acc 2)).mailbox 31).writing = none ∧
    (((mailSt { waiting := [msg], outBase := 0x1000 }).asked 0 (acc 2)).mailbox 31).outBase ≠ 0 ∧ bit 3 0 = true ∧ bit 3 1 = true ∧
    Tab.get? (w1cMailOut 31) ((mailSt {}).asked 0 (acc 2)).setAt ≠ some ((mailSt {}).asked 0 (acc 2)).now ∧
    (mailSt {}).Reads 0 (acc 2) (mailOffset 31 + 0x18) := by
  unfold State.Writes State.Reads; decide

def mailIn (n : Nat) (b : List Byte) : InMail := { readOk := true, bodyLen := n, seq := 5, body := b }

theorem test_meets_MailboxMessagesTakeTheirTurn :
    ((mailSt { inPending := true }).Serving ∧ (mailSt {}).blk.sb.phase = .firmware ∧
      (((mailSt { inPending := true }).seen 0 .mp).mailbox 31).inPending = true ∧ (mailIn 0 []).readOk = true ∧ (mailIn 0 []).bodyLen = 0 ∧
      1 ≤ (mailIn 40 []).bodyLen ∧ (mailIn 40 []).bodyLen ≤ 40 ∧ 3 < 0x8001) ∧
    ((({ outEnable := true, outBase := 64, outPending := true } : Mailbox).waiting.length < 64) ∧
      ({ outEnable := true, outBase := 64 } : Mailbox).waiting = [] ∧ ({ outEnable := true, outBase := 64 } : Mailbox).writing = none ∧
      ({ outEnable := true, outBase := 64 } : Mailbox).outPending = false ∧ ({} : Mailbox).outEnable = false ∧
      Tab.keys (mailSt {}).blk.ap.mail = [] ++ 31 :: [] ∧
      (bit ({ outEnable := true, outBase := 64, subscribe := 2 } : Mailbox).subscribe (0x8002 - 0x8001) &&
        ({ outEnable := true, outBase := 64, subscribe := 2 } : Mailbox).posts && (decide (31 < 16) || 0x8002 == 0x8002)) = true ∧
      (bit ({ outEnable := true, outBase := 64, subscribe := 1 } : Mailbox).subscribe (0x8001 - 0x8001) &&
        ({ outEnable := true, outBase := 64, subscribe := 1 } : Mailbox).posts && (decide (31 < 16) || 0x8001 == 0x8002)) = false ∧
      (List.replicate 64 msg).length = 64 ∧ List.replicate 64 msg = [] ++ msg :: List.replicate 63 msg ∧ msg.fatal = false) := by
  unfold State.Serving; decide

theorem test_meets_MailboxMessagesTakeTheirTurn_sensors :
    (st fw).Live ∧ (st fw).blk.sb.phase = .firmware ∧ alarmOf 35 0 = (((st fw).blk.atTime 0).sensor 35).alarm ∧
    (∃ v, alarmOf 0 v ≠ (((st fw).blk.atTime 0).sensor 0).alarm ∧ alarmOf 0 v ≠ 3) ∧
    (∃ v, alarmOf 0 v = 3 ∧ (((st fw).blk.atTime 0).sensor 0).alarm ≠ 3) := by
  unfold State.Live
  refine ⟨by decide, by decide, by decide, ⟨1681, by decide⟩, ⟨1841, by decide⟩⟩

/-- A session that is open with one entry to fetch. -/
def fetching (b : Block) (q : Session) : State := st (withSes b 0 { q with tail := 1 })

def openSes : Session := { ses0 with state := .opened, ks := [9], expected := 4, major := 1 }

def keyedFw : Block := { fw with keys := { fw.keys with channel := [(0, [9])], drbgOk := true } }

theorem test_meets_FetchChecksCommandsInOrder :
    ((fetching fw openSes).Serving ∧ Memory.wf (fetching fw openSes).mem = true ∧ (ent .capQuery).wf = true ∧
      ({ ent .capQuery with pktLen := 47 } : CmdEntry).wf = true ∧ (ent (.sessionOpen 0 1 0 [])).wf = true ∧ ((fetching fw openSes).seen 0 .mp).CanFetch 0 ∧
      ¬ goodEntry { ent .capQuery with pktLen := 47 } ∧ goodEntry (ent .capQuery)) ∧
    ((pkt .capQuery [9] 4).session = 0 ∧ opcodeOf (pkt .capQuery [9] 4).params ≠ 1 ∧ openSes.state = .opened ∧
      macOf openSes.ks (pkt .capQuery [9] 4) = (pkt .capQuery [9] 4).mac ∧ (pkt .capQuery [9] 4).seq = openSes.expected ∧
      (pkt .capQuery [9] 4).seq < 2 ^ 48 ∧ (pkt .capQuery [9] 4).version / 16 = openSes.major ∧
      (pkt .capQuery [9] 4).version % 16 ≤ openSes.minor ∧
      ((fetching fw openSes).seen 0 .mp).scopeRefusal 0 (ent .capQuery) (pkt .capQuery [9] 4) = none) ∧
    (((fetching keyedFw ses0).seen 0 .mp).lockedOut 0 = false ∧ ((fetching keyedFw ses0).seen 0 .mp).keys.drbgOk = true ∧
      ((fetching keyedFw ses0).seen 0 .mp).keyFor 0 0 = some [9] ∧ ses0.state = .closed ∧
      macOf [9] (pkt (.sessionOpen 0 1 0 []) [9] 0) = (pkt (.sessionOpen 0 1 0 []) [9] 0).mac ∧
      ((fetching keyedFw ses0).seen 0 .mp).scopeRefusal 0 (ent (.sessionOpen 0 1 0 [])) (pkt (.sessionOpen 0 1 0 []) [9] 0) = none) ∧
    (({ pkt .capQuery [9] 4 with session := 1 } : Packet).session ≠ 0 ∧ macOf openSes.ks (badPkt .capQuery [9] 4) ≠ (badPkt .capQuery [9] 4).mac ∧
      (pkt .capQuery [9] 3).seq ≠ openSes.expected ∧ (pkt .capQuery [9] 4).version / 16 ≠ ({ openSes with major := 2 } : Session).major ∧
      openSes.minor < 0x11 % 16 ∧
      ((fetching lead openSes).seen 0 .mp).scopeRefusal 0 (ent .capQuery) (pkt (.other 77 []) [9] 4) = some 0x0101) := by
  unfold State.Serving Block.CanFetch goodEntry
  and_intros
  all_goals first | exact badPkt_mac _ _ _ | exact pkt_mac _ _ _ | rfl | decide

theorem test_meets_RepliesUseTheirCompletionEntry :
    ((carrying fw .capQuery).blk.session 0).current = some (cmd .capQuery) ∧ 32 ≤ (cmd .capQuery).entry.replyMax ∧
    (carrying fw .capQuery).blk.cp.state = .forming ∧ leadSt.blk.cp.state ≠ .forming := by decide

/-- A session OPENING that carries SESSION_CONFIRM. -/
def confirming (fails : Nat) (proof : List Byte) : State :=
  st (withSes fw 0 { ses0 with state := .opening, ks := [9], fails, current := some (cmd (.sessionConfirm proof)) })

def goodProof : List Byte := hmac256 [9] (ascii "HOST PROOF" ++ ctxOf 0 0 0 0 0)

theorem confirming_proof (fails : Nat) (proof : List Byte) :
    hmac256 (((confirming fails proof).blk.atTime 0).session 0).ks (ascii "HOST PROOF" ++ ((confirming fails proof).blk.atTime 0).ctx 0) = goodProof := by
  have h1 : (((confirming fails proof).blk.atTime 0).session 0).ks = [9] := rfl
  have h2 : ((confirming fails proof).blk.atTime 0).ctx 0 = ctxOf 0 0 0 0 0 := rfl
  rw [h1, h2, goodProof]

theorem confirming_carries (fails : Nat) (proof : List Byte) :
    (confirming fails proof).Carries 0 0 (cmd (.sessionConfirm proof)) := by
  refine ⟨rfl, rfl, ?_⟩
  simp [Block.scopeRefusal, cmd, ent, knownOpcode, opcodeOf, secureOnly, groupScope, secureSession, stopAccepts, countsOk]

/-- A proof that is not the host's. -/
theorem confirming_other (fails : Nat) : ∃ p, (confirming fails p).Carries 0 0 (cmd (.sessionConfirm p)) ∧
    p ≠ hmac256 (((confirming fails p).blk.atTime 0).session 0).ks (ascii "HOST PROOF" ++ ((confirming fails p).blk.atTime 0).ctx 0) := by
  by_cases h : goodProof = []
  · exact ⟨[0], confirming_carries _ _, fun e => by rw [confirming_proof, h] at e; simp at e⟩
  · exact ⟨[], confirming_carries _ _, fun e => h (by rw [confirming_proof] at e; exact e.symm)⟩

/-- A session that carries a command, in another state. -/
def carryingIn (b : Block) (state : SessState) (deferred : List Deferred) (p : Params) : State :=
  st (withSes b 0 { ses0 with state, deferred, current := some (cmd p), expected := 2, major := 1, reserved := 1, fetch := 1, tail := 1 })

def opening0 : State := st (withSes fw 0 { ses0 with state := .opening })

/-- A session whose current command is a packet. -/
def carryingPkt (b : Block) (state : SessState) (p : Packet) : State :=
  st (withSes b 0 { ses0 with state, current := some { entry := ent p.params, pkt := p }, expected := 2, major := 1, reserved := 1, fetch := 1, tail := 1 })

theorem test_meets_SessionsOpenAndExpire_mac :
    (carryingPkt keyedFw .closed (pkt (.sessionOpen 0 1 0 []) [9] 0)).Carries 0 0 ⟨ent (.sessionOpen 0 1 0 []), pkt (.sessionOpen 0 1 0 []) [9] 0⟩ ∧
    macOf [9] (pkt (.sessionOpen 0 1 0 []) [9] 0) = (pkt (.sessionOpen 0 1 0 []) [9] 0).mac ∧
    (carryingPkt keyedFw .closed (badPkt (.sessionOpen 0 1 0 []) [9] 0)).Carries 0 0
      ⟨ent (.sessionOpen 0 1 0 []), badPkt (.sessionOpen 0 1 0 []) [9] 0⟩ ∧
    macOf [9] (badPkt (.sessionOpen 0 1 0 []) [9] 0) ≠ (badPkt (.sessionOpen 0 1 0 []) [9] 0).mac := by
  unfold State.Carries
  and_intros
  all_goals first | exact badPkt_mac _ _ _ | exact pkt_mac _ _ _ | rfl | decide

theorem test_meets_SessionsOpenAndExpire :
    ((carryingIn keyedFw .closed [] (.sessionOpen 0 1 0 [])).Carries 0 0 (cmd (.sessionOpen 0 1 0 [])) ∧
      (((carryingIn keyedFw .closed [] (.sessionOpen 0 1 0 [])).blk.atTime 0).session 0).state = .closed ∧
      ((carryingIn keyedFw .closed [] (.sessionOpen 0 1 0 [])).blk.atTime 0).keyFor 0 0 = some [9] ∧
      ((carryingIn keyedFw .closed [] (.sessionOpen 0 1 0 [])).blk.atTime 0).lockedOut 0 = false ∧ keyedFw.keys.drbgOk = true ∧
      (((carryingIn keyedFw .opening [] (.sessionOpen 0 1 0 [])).blk.atTime 0).session 0).state = .opening) ∧
    (({ keyedFw with keys := { keyedFw.keys with drbgOk := false } } : Block).keys.drbgOk = false ∧
      ((withSes fw 0 { ses0 with lockedAt := some 0 }).atTime 0).lockedOut 0 = true) ∧
    ((confirming 0 goodProof).Carries 0 0 (cmd (.sessionConfirm goodProof)) ∧ (((confirming 0 goodProof).blk.atTime 0).session 0).state = .opening ∧
      goodProof = hmac256 (((confirming 0 goodProof).blk.atTime 0).session 0).ks (ascii "HOST PROOF" ++ ((confirming 0 goodProof).blk.atTime 0).ctx 0)) ∧
    (∃ p, (confirming 14 p).Carries 0 0 (cmd (.sessionConfirm p)) ∧
      p ≠ hmac256 (((confirming 14 p).blk.atTime 0).session 0).ks (ascii "HOST PROOF" ++ ((confirming 14 p).blk.atTime 0).ctx 0)) ∧
    (∃ p, (confirming 15 p).Carries 0 0 (cmd (.sessionConfirm p)) ∧
      p ≠ hmac256 (((confirming 15 p).blk.atTime 0).session 0).ks (ascii "HOST PROOF" ++ ((confirming 15 p).blk.atTime 0).ctx 0)) ∧
    ((carryingIn fw .opened [] (.sessionConfirm [])).Carries 0 0 (cmd (.sessionConfirm [])) ∧
      (((carryingIn fw .opened [] (.sessionConfirm [])).blk.atTime 0).session 0).state = .opened) ∧
    ((carryingIn fw .closed [] (.sessionConfirm [])).Carries 0 0 (cmd (.sessionConfirm [])) ∧
      (((carryingIn fw .closed [] (.sessionConfirm [])).blk.atTime 0).session 0).state = .closed) ∧
    ((carryingIn fw .opened [] .sessionClose).Carries 0 0 (cmd .sessionClose) ∧
      (((carryingIn fw .opened [] .sessionClose).blk.atTime 0).session 0).state = .opened ∧
      (((carryingIn fw .opened [] .sessionClose).blk.atTime 0).session 0).deferred = []) ∧
    ((carryingIn fw .opened [default] .sessionClose).Carries 0 0 (cmd .sessionClose) ∧
      ∃ d ∈ (((carryingIn fw .opened [default] .sessionClose).blk.atTime 0).session 0).deferred, d.opcode ≠ 3) ∧
    (opening0.Live ∧ ((opening0.blk.atTime 100000000).session 0).state = .opening ∧
      ((opening0.blk.atTime 100000000).session 0).openedAt + 100000000 ≤ (opening0.blk.atTime 100000000).now ∧
      (opening0.blk.atTime 99999999).now < ((opening0.blk.atTime 99999999).session 0).openedAt + 100000000 ∧
      ((fw.atTime 0).session 0).state ≠ .opening) ∧
    (((withSes fw 0 { ses0 with lockedAt := some 0 }).atTime 1000000000).session 0).lockedAt = some 0 ∧
    0 + 1000000000 ≤ (fw.atTime 1000000000).now ∧ (fw.atTime 999999999).now < 0 + 1000000000 ∧ ((fw.atTime 0).session 0).lockedAt = none := by
  refine ⟨?_, by decide, ⟨confirming_carries _ _, rfl, (confirming_proof _ _).symm⟩, confirming_other 14, confirming_other 15, ?_⟩
  all_goals unfold State.Carries
  · decide
  · unfold State.Live; decide

/-! Commands of scope GROUP: a lead whose group runs, with a main model and a template of one node. -/

def load0 : LoadParams :=
  { junction := 3, descriptor := 0, loadFlags := 4, shardCount := 1, kvMinPages := 1, vocabSize := 1000, stepPositions := 256
    pageTokens := 256, maxContext := 4096, maxLive := 16, strainPool := 65536, tier1Pages := 0, tier2Pages := 0, rhizomeNodes := 65536
    fwQueueDepth := 8, idleInterval := 0, junctionWatchdog := 0, templateCrc := 0, mapCrc := 0, spec := default, glean := default
    transcriptExtra := 0 }

def desc0 : Descriptor := { load := load0, stage := default, map := [{ rank := 0, replicaSet := 0, lo := 0, hi := 1000 }], epoch := 0 }

def template0 : Template := { (default : Template) with nodes := [default] }

/-- The lead of a running group of one, a model ACTIVE. -/
def serving : Block :=
  { lead with mdl := { lead.mdl with active := [(0, desc0)], template := some template0, maxLive := 16, maxContext := 4096, n0 := 100 } }

def head0 : ReqHead := { handle := 0x100000, ticket := 0 }

def req (b : Block) (p : Params) : State := carrying (withLive b) p

def admit0 : AdmitParams :=
  { (default : AdmitParams) with maxContext := 64, inputCount := 1, input := [5], tokenRing := 5, eventRing := 4
                                 sampling := { (default : Sampling) with topK := 1, sampleMode := 1, topP := 0x3F800000#32, repetition := 0x3F800000#32 } }

theorem test_meets_AcceptedCommandsEnterTheSequencer :
    lead.tooLong 0 (.reqFree head0) = false ∧
    ({ lead with cp := { lead.cp with n := 0 } } : Block).tooLong 0 (.reqFree head0) = false := by decide

theorem test_meets_AcceptedCommandsEnterTheSequencer_handles :
    (withLive lead).gr.fwQueue = [] ∧ (withLive lead).gr.banksOut = [] ∧
    Tab.get? (0x100000 % 1048576) (withLive lead).gr.entries = some live ∧ live.handle = 0x100000 ∧ (0 < 16) ∧
    ((withSes (withLive lead) 16 { tenant := 1 }).session 16).tenant ≠ live.tenant ∧ live.handle ≠ 0x200000 ∧
    Tab.get? (0x200000 % 1048576) (withLive lead).gr.entries = some live ∧ (withLive lead).seq.cmds = [] ∧
    Tab.get? (0x107FFF % 1048576) (withLive lead).gr.entries = none ∧
    (req lead (.reqCancel ⟨0x107FFF, 0⟩)).Carries 0 0 (cmd (.reqCancel ⟨0x107FFF, 0⟩)) ∧ 0x107FFF ≠ 0xFFFFFFFF ∧
    0x107FFF % 1048576 < 32768 ∧ ((req lead (.reqCancel ⟨0x107FFF, 0⟩)).blk.atTime 0).target 0 ⟨0x107FFF, 0⟩ = .stale ∧
    (req lead (.reqCancel ⟨0x108000, 0⟩)).Carries 0 0 (cmd (.reqCancel ⟨0x108000, 0⟩)) ∧ 32768 ≤ 0x108000 % 1048576 := by
  unfold State.Carries
  and_intros <;> decide

/-- Bank 1 is out: its request, with its old handle, and a ticket wait in the firmware queue. -/
def moved0 : FwEntry := ⟨0, 0, 0, 0, 0, some { live with handle := 0x100800 }, [], {}⟩

def ticket9 : FwEntry := { ticket := 9, session := 0, acceptTime := 0, granule := 3, strainVersion := 0 }

def queued : Block := { serving with gr := { serving.gr with banksOut := [1], fwQueue := [moved0, ticket9] } }

theorem test_meets_AcceptedCommandsEnterTheSequencer_queue :
    (0x100000 % 1048576 / 2048 ∉ queued.gr.banksOut ∧ 0x100801 % 1048576 / 2048 ∈ queued.gr.banksOut ∧
      (∀ f ∈ queued.gr.fwQueue, ∀ e, f.moved = some e → e.handle ≠ 0x100801)) ∧
    ((∃ f ∈ queued.gr.fwQueue, ∃ e, f.moved = some e ∧ e.handle = 0x100800) ∧
      queued.queueViews.findIdx? (fun v => v.moved && v.oldHandle == 0x100800) = some 0 ∧ queued.queueViews[0]? = some (queued.viewOf moved0)) ∧
    (queued.queueViews.findIdx? (fun v => !v.moved && v.ticket == 8) = none ∧
      queued.queueViews.findIdx? (fun v => !v.moved && v.ticket == 9) = some 1 ∧ queued.queueViews[1]? = some (queued.viewOf ticket9)) ∧
    queued.seq.tickets = [] := by
  refine ⟨⟨by decide, by decide, ?_⟩, ⟨⟨moved0, by decide, _, rfl, rfl⟩, by decide, by decide⟩, by decide, by decide⟩
  intro f hf e he
  simp [queued] at hf
  rcases hf with rfl | rfl <;> simp [moved0, ticket9] at he
  subst he; decide

/-- The lead with an admission of slot 5 that awaits its junction. -/
def admitting : Block :=
  { serving with seq := { serving.seq with cmds := [{ junction := 2, size := 128, cmd := {
      session := 0, acceptTime := 0, assigned := 0x100005, params := .reqAdmit admit0, result := .none } }] } }

theorem test_meets_RequestCommandsFollowTheirStates_queue :
    (carrying queued (.reqFree ⟨0xFFFFFFFF, 9⟩)).Carries 0 0 (cmd (.reqFree ⟨0xFFFFFFFF, 9⟩)) ∧ badHead ⟨0xFFFFFFFF, 9⟩ = false ∧
    ((carrying queued (.reqFree ⟨0xFFFFFFFF, 9⟩)).blk.atTime 0).target 0 ⟨0xFFFFFFFF, 9⟩ = .queued (queued.viewOf ticket9) 1 ∧
    (carrying queued (.reqQuery ⟨0x100800, 0⟩)).Carries 0 0 (cmd (.reqQuery ⟨0x100800, 0⟩)) ∧ badHead ⟨0x100800, 0⟩ = false ∧
    ((carrying queued (.reqQuery ⟨0x100800, 0⟩)).blk.atTime 0).target 0 ⟨0x100800, 0⟩ = .queued (queued.viewOf moved0) 0 ∧
    (carrying admitting (.reqCancel ⟨0x100005, 0⟩)).Carries 0 0 (cmd (.reqCancel ⟨0x100005, 0⟩)) ∧ badHead ⟨0x100005, 0⟩ = false ∧
    ∃ e, ((carrying admitting (.reqCancel ⟨0x100005, 0⟩)).blk.atTime 0).target 0 ⟨0x100005, 0⟩ = .pending e := by
  unfold State.Carries
  refine ⟨by decide, by decide, by decide, by decide, by decide, by decide, by decide, by decide, ?_⟩
  exact ⟨_, rfl⟩

/-- A request command that a session carries on the live request. -/
def OnLive (p : Params) : Prop :=
  (req serving p).Carries 0 0 (cmd p) ∧ ((req serving p).blk.atTime 0).target 0 head0 = .entry live

theorem test_meets_RequestCommandsFollowTheirStates :
    OnLive (.reqAppend head0 2 1 [5]) ∧ 1 < 2 ∧ ((req serving .capQuery).blk.atTime 0).tooLong 0 (.reqAppend head0 1 1 [5]) = false ∧
    ((req serving .capQuery).blk.atTime 0).tooLong 0 (.reqAppend head0 2 1 [5]) = false ∧ OnLive (.reqAppend head0 1 1 [5]) ∧ 1 ≤ 1 ∧ 0x100000 % 1048576 < 32768 ∧ 0x100000 ≠ 0xFFFFFFFF ∧
    (∀ k ∈ [5], k % 16777216 < ((req serving .capQuery).blk.atTime 0).inputVocab) ∧
    OnLive (.reqTruncate head0 1) ∧ OnLive (.reqCancel head0) ∧ ((req serving (.reqCancel head0)).blk.atTime 0).cancelPending 0x100000 = false ∧
    OnLive (.reqPause head0 2 86400000000000) ∧ ((req serving (.reqPause head0 2 86400000000000)).blk.atTime 0).pausePending 0x100000 = false ∧
    OnLive (.reqResume head0) ∧ OnLive (.reqFree head0) ∧ OnLive (.reqSetSampling head0 admit0.sampling) ∧
    samplingOk admit0.sampling = true ∧ topKOk admit0.sampling.topK = true ∧ verifyMode admit0.sampling ≠ 3 ∧ OnLive (.reqQuery head0) := by
  unfold OnLive State.Carries
  and_intros <;> decide

theorem test_meets_ConfigurationAndStrainCommandsAreChecked_tooLong : serving.fitsEmpty (serving.recordOf 0 (.strainLoad 0 8191 16384 0 983040) 0
    (.strainData (memReadN (carrying serving (.strainLoad 0 8191 16384 0 983040)).view (serving.mdl.stageBase + 0x110000 + 983040) 16384))) =
      false := by decide +kernel

def long : Params := .reqAppend head0 1 4096 (List.replicate 4096 5)

theorem test_meets_RequestCommandsFollowTheirStates_tooLong : OnLive long ∧ ((req serving long).blk.atTime 0).tooLong 0 (cmd long).pkt.params = true := by
  unfold OnLive State.Carries
  decide +kernel

def noSlot : Block := withLive { serving with mdl := { serving.mdl with maxLive := 1 } }

theorem test_meets_AdmissionTakesASlotOrATicket :
    (carrying serving (.reqAdmit admit0)).Carries 0 0 (cmd (.reqAdmit admit0)) ∧
    serving.tooLong 0 (.reqAdmit admit0) = false ∧ serving.admitRange admit0 = none ∧ serving.admitPolicy admit0 = none ∧
    serving.slotFor = some 0 ∧
    (carrying noSlot (.reqAdmit admit0)).Carries 0 0 (cmd (.reqAdmit admit0)) ∧ noSlot.admitPolicy admit0 = none ∧
    noSlot.slotFor = none ∧ noSlot.queueLength < noSlot.fwDepth ∧ noSlot.seq.nextTicket < 4294967295 ∧
    ({ noSlot with mdl := { noSlot.mdl with active := [(0, { desc0 with load := { load0 with fwQueueDepth := 0 } })] } } : Block).fwDepth ≤
      noSlot.queueLength := by
  unfold State.Carries
  and_intros <;> decide

def mode0 : ModeParams := { (default : ModeParams) with junction := 3 }

theorem test_meets_ChangesAreProposedToTheGroup :
    (carrying lead (.modelLoad load0)).Carries 0 0 (cmd (.modelLoad load0)) ∧ lead.cp.applied + 3 ≤ load0.junction ∧
    load0.descriptor % 16 ≤ 3 ∧ loadBad load0 = false ∧ isDraftLoad load0 = false ∧ bit load0.loadFlags 2 = true ∧
    lead.mdl.active = [] ∧ lead.seq.proposal = none ∧
    (carrying lead (.modelLoad { load0 with junction := 2 })).Carries 0 0 (cmd (.modelLoad { load0 with junction := 2 })) ∧
    2 < lead.cp.applied + 3 ∧
    (carrying serving (.modelUnload 3 0)).Carries 0 0 (cmd (.modelUnload 3 0)) ∧ serving.cp.applied + 3 ≤ 3 ∧
    Tab.has 0 serving.mdl.active = true ∧ serving.modelUsed 0 = false ∧ serving.draftModel = none ∧ serving.seq.proposal = none ∧
    (req serving (.modelUnload 3 0)).Carries 0 0 (cmd (.modelUnload 3 0)) ∧ ((req serving (.modelUnload 3 0)).blk.atTime 0).modelUsed 0 = true ∧
    (carrying serving (.modeSet mode0)).Carries 0 0 (cmd (.modeSet mode0)) ∧ mode0.descriptor ≤ 3 ∧ mode0.flags = 0 ∧
    mode0.shardCount = 0 ∧ serving.mainModel.isSome = true ∧
    ({ serving with seq := { serving.seq with proposal := some default } } : Block).seq.proposal.isSome = true := by
  unfold State.Carries
  and_intros <;> decide

def stage1 : StageParams := { (default : StageParams) with shardCount := 1 }

def strain0 : StrainVersion := { descriptor := 3, strain := 8191, version := 1, state := .ready, granule := 0, granules := 1, data := [], crc := 0 }

theorem test_meets_ConfigurationAndStrainCommandsAreChecked :
    (carrying serving (.modelStage default)).Carries 0 0 (cmd (.modelStage default)) ∧
    (default : StageParams).descriptor % 16 ≤ 3 ∧ (default : StageParams).shardCount = 0 ∧
    (carrying serving (.modelStage stage1)).Carries 0 0 (cmd (.modelStage stage1)) ∧ stage1.descriptor % 16 ≤ 3 ∧
    0 < stage1.shardCount ∧ stage1.shardCount ≤ 64 ∧ stage1.treeBase % 64 = 0 ∧
    (carrying serving (.modelQuery 3)).Carries 0 0 (cmd (.modelQuery 3)) ∧ Tab.get? 3 serving.mdl.active = none ∧
    Tab.get? 0 serving.mdl.active = some desc0 ∧
    (carrying serving (.tenantConfig 4095 default)).Carries 0 0 (cmd (.tenantConfig 4095 default)) ∧
    (carrying serving (.classConfig 7 classReset)).Carries 0 0 (cmd (.classConfig 7 classReset)) ∧
    (carrying serving (.maintWindow 0 [])).Carries 0 0 (cmd (.maintWindow 0 [])) ∧
    (carrying serving (.tensorDump 0 0 0 9 0 0)).Carries 0 0 (cmd (.tensorDump 0 0 0 9 0 0)) ∧
    (carrying serving (.strainLoad 0 8191 65536 0 983040)).Carries 0 0 (cmd (.strainLoad 0 8191 65536 0 983040)) ∧
    983040 + 65536 ≤ 1048576 ∧
    serving.fitsEmpty (serving.recordOf 0 (.strainLoad 0 8191 2 0 983040) 0 (.strainData [0, 0])) = true ∧ Tab.has 0 serving.mdl.active = true ∧ serving.pol.strains = [] ∧ serving.openLoads = [] ∧
    (lowestFit serving.strainGranules (ceilDiv 65536 4096) []).isSome = true ∧
    (carrying serving (.strainLoad 3 8191 65537 0 0)).Carries 0 0 (cmd (.strainLoad 3 8191 65537 0 0)) ∧
    (carrying serving (.strainDrop 3 8191 1)).Carries 0 0 (cmd (.strainDrop 3 8191 1)) ∧ strain0 ∈ [strain0] ∧ strain0.state = .ready ∧
    serving.seq.cmds = [] := by
  unfold State.Carries
  and_intros <;> decide

/-! Local commands. -/

def stopped : Block := { serving with cp := { serving.cp with state := .bufferStop } }

def rail0 : RailCfg := { railReset.cfg with enable := true, hardLimit := 100, sustLimit := 90, base := 1, nominalMv := 700, capShare := 1000 }

def power0 : PowerConfigParams := { globalBlock := none, rails := [(0, rail0)], groups := none }

theorem test_meets_QueriesReadState :
    (carrying fw .capQuery).Carries 0 0 (cmd .capQuery) ∧ (carrying fw .groupQuery).Carries 0 0 (cmd .groupQuery) ∧
    (carrying stopped .faultQuery).Carries 0 0 (cmd .faultQuery) ∧ stopped.cp.state = .bufferStop ∧
    (carrying fw .faultQuery).Carries 0 0 (cmd .faultQuery) ∧ fw.cp.state ≠ .bufferStop ∧
    (carrying fw (.logRead 0 0 9)).Carries 0 0 (cmd (.logRead 0 0 9)) ∧ (carrying fw (.logRead 1 0 9)).Carries 0 0 (cmd (.logRead 1 0 9)) ∧
    (carrying fw (.counterRead 0 255 1)).Carries 0 0 (cmd (.counterRead 0 255 1)) ∧ 255 + 1 ≤ 256 ∧
    (st (withSes fw 16 { ses0 with state := .opened, current := some (cmd (.counterRead 0 0 1)) })).Carries 0 16 (cmd (.counterRead 0 0 1)) ∧
    0 + 1 ≤ (spaceSize 0).1 := by
  unfold State.Carries; decide

/-- Rail 0 is enabled with a BASE. -/
def railAt (base : Nat) (b : Block) : Block :=
  { b with pwr := { b.pwr with rails := { railReset with cfg := { rail0 with base } } :: b.pwr.rails.drop 1 } }

def cells : List EnergyEntry := List.replicate 64 default

theorem test_meets_PowerCommandsConfigureRails :
    (carrying fw (.powerConfig power0)).Carries 0 0 (cmd (.powerConfig power0)) ∧ (∀ r ∈ power0.rails, railCfgOk r.2 = true) ∧
    fw.shareSum power0 ≤ 1000 ∧ power0.groups = none ∧
    (∀ r ∈ power0.rails, fw.levelNow r.1 ≤ r.2.hardLimit ∧ (r.2.enable = true ∨ fw.railBusy r.1 = false)) ∧
    1000 < fw.shareSum { power0 with rails := [(0, { rail0 with capShare := 1001 })] } ∧
    (0, rail0) ∈ power0.rails ∧ rail0.hardLimit < (railAt 101 fw).levelNow 0 ∧ fw.shareSum power0 ≤ 1000 ∧
    (carrying fw (.powerCalibrate 15 0 cells)).Carries 0 0 (cmd (.powerCalibrate 15 0 cells)) ∧
    (carrying fw (.powerCap 0xFFFF)).Carries 0 0 (cmd (.powerCap 0xFFFF)) := by
  unfold State.Carries; decide

def entry0 : PlatformEntry := { (default : PlatformEntry) with kind := 1, inService := true, setMask := 1 }

/-- Platform 5 runs an item on a member of a running group. -/
def busy : Block :=
  { lead with dsp := { lead.dsp with
      platforms := [(5, { entry := entry0, inService := true, joining := false, items := [7], counters := {} })]
      openItems := [{ (default : OpenItem) with tag := 7, platform := 5 }] } }

theorem test_meets_MapAndObservationCommandsAct_maps :
    (carrying fw (.linkMap 1 [[[0]]])).Carries 0 0 (cmd (.linkMap 1 [[[0]]])) ∧
    (carrying fw (.platformMap 4095 1 true [])).Carries 0 0 (cmd (.platformMap 4095 1 true [])) ∧ 4095 + 1 ≤ 4096 ∧
    (carrying fw (.platformMap 4095 1 false [entry0])).Carries 0 0 (cmd (.platformMap 4095 1 false [entry0])) ∧
    [entry0].any platformBad = false ∧ (∀ e ∈ [entry0], e.kind < 4) ∧ [{ entry0 with setMask := 0 }].any platformBad = true ∧
    (carrying busy (.platformMap 5 2 false [{ entry0 with inService := false }, entry0])).Carries 0 0
      (cmd (.platformMap 5 2 false [{ entry0 with inService := false }, entry0])) ∧
    busy.platform? 5 = some { entry := entry0, inService := true, joining := false, items := [7], counters := {} } ∧
    [{ entry0 with inService := false }, entry0][0]? = some { entry0 with inService := false } ∧
    (busy.dsp.openItems.map (·.tag)).Nodup ∧ { (default : OpenItem) with tag := 7, platform := 5 } ∈ busy.dsp.openItems ∧ busy.running = true := by
  unfold State.Carries
  and_intros <;> decide

theorem test_meets_MapAndObservationCommandsAct :
    (carrying fw (.traceConfig 1 4096 65536)).Carries 0 0 (cmd (.traceConfig 1 4096 65536)) ∧ 65536 % 4096 = 0 ∧ 4096 % 4096 = 0 ∧
    (carrying fw (.censusConfig 1 10000 0 34880)).Carries 0 0 (cmd (.censusConfig 1 10000 0 34880)) ∧ fw.cp.state ≠ .running ∧
    (carrying fw (.censusConfig 0 0 0 0)).Carries 0 0 (cmd (.censusConfig 0 0 0 0)) ∧
    (carrying lead (.censusConfig 1 1000000000 0 34880)).Carries 0 0 (cmd (.censusConfig 1 1000000000 0 34880)) ∧ lead.cp.state = .running ∧
    (carrying lead (.hangDump 0 64 false)).Carries 0 0 (cmd (.hangDump 0 64 false)) ∧
    (carrying stopped (.hangDump 0 64 true)).Carries 0 0 (cmd (.hangDump 0 64 true)) ∧ stopped.flt.cutTime = none ∧ stopped.flt.diag = 0 ∧
    (carrying stopped (.hangDump 0 64 true)).blk.ses = [(0, (carrying stopped (.hangDump 0 64 true)).blk.session 0)] ∧
    ({ stopped with flt := { stopped.flt with cutTime := some 7 } } : Block).flt.cutTime = some 7 := by
  unfold State.Carries; decide

/-- A fresh instance whose setup and keys let a RECOVER begin. -/
def setUp : Block :=
  { fw with cp := { fw.cp with n := 1 }, fab := { fw.fab with routes := [[[0]]] }, ap := { fw.ap with routesLoaded := some 1 }
            flt := { fw.flt with diag := 2 } }

theorem test_meets_StopsAndRecoveriesChangeTheGroupState :
    (carrying lead (.bufferStop 7)).Carries 0 0 (cmd (.bufferStop 7)) ∧
    (carrying setUp (.recover 1 false false)).Carries 0 0 (cmd (.recover 1 false false)) ∧ setUp.recoverWrongState = false ∧
    setUp.diagIncomplete = false ∧ setUp.notSetUp = false ∧
    (carrying lead (.recover 1 false false)).Carries 0 0 (cmd (.recover 1 false false)) ∧ lead.cp.state = .running ∧
    (carrying stopped (.recover 1 false false)).Carries 0 0 (cmd (.recover 1 false false)) ∧ stopped.flt.diag ≠ 2 ∧
    stopped.flt.queried = false ∧ ({ stopped with ap := { stopped.ap with tb := { stopped.ap.tb with valid := false } } } : Block).timeBaseAbsent = true ∧
    lead.cp.roleLost = none ∧ ({ lead with cp := { lead.cp with roleLost := some (1, 2) } } : Block).cp.roleLost = some (1, 2) ∧
    lead.form = none ∧ stopped.cp.state = .bufferStop ∧ fw.cp.state = .forming ∧ fw.cp.fresh = true := by
  unfold State.Carries; decide

/-! Selection and the Glean: step 5 in flight, with one sampled row of the live request. -/

def row0 : RowRec := { (default : RowRec) with handle := 0x100000, kind := 2, sample := true, model := 0, posCount := 1, firstPos := 2 }

def log5 : JLog := { (default : JLog) with junction := 5, leadTerm := 1, consist := { step := 5, epoch := 0, stepEst := 0, rows := [row0] } }

def item0 : OpenItem := { (default : OpenItem) with tag := 16384, platform := 0, slot := 0, step := 5, oldestAt := some 0 }

def node0 : NodeInst := { (default : NodeInst) with state := .matching, count := 1 }

def buf0 : Buffer :=
  { (default : Buffer) with junction := 5, template := { template0 with timeouts := List.replicate 64 100 }, consist := log5.consist
                            made := 1, nodes := [(0, node0)] }

def plat0 : Platform := { entry := entry0, inService := true, joining := false, items := [16384], counters := {} }

/-- Step 5 in flight on the lead of a group of one. -/
def inStep : Block :=
  { withLive serving with
    cp := { serving.cp with applied := 5, epoch := 1, log := some { log5 with junction := 6 }, prevLog := some log5 }
    dsp := { serving.dsp with current := some buf0, openItems := [item0], platforms := [(0, plat0)] } }

def hdr0 : RowHeader :=
  { itemTag := 16384, step16 := 5, format := 0, segFirst := false, segLast := false, row := 0, baseIndex := 64, count := 64 }

def ctx0 : RowContext := { port := 0, row := 0, tag := 16384, format := 0, nextIndex := 64, acc := {}, portError := false, slabError := false }

def withCtx (c : RowContext) : Block := { inStep with thr := { inStep.thr with contexts := [c] } }

/-- A segment of a row other than row 0 holds each of the port's contexts. -/
def fullPort : Block := { inStep with thr := { inStep.thr with contexts := List.replicate 16 { ctx0 with row := 1 } } }

/-- The slab of row 0's request is still being read. -/
def fetchingSlab : Block := { inStep with mp := { inStep.mp with reads := [{ (default : ReadReq) with use := .slab 0x100000 }] } }

def first0 : RowHeader := { hdr0 with segFirst := true, baseIndex := 0 }

theorem test_meets_SegmentsBecomePartialResults :
    ((st (withCtx ctx0)).Serving ∧ (st (withCtx ctx0)).blk.thr.skid = [] ∧ ((st (withCtx ctx0)).seen 0 .ls0).slabStaged row0.handle = true ∧
      ({ hdr0 with segLast := true } : RowHeader).segLast = true ∧
      ((st (withCtx ctx0)).seen 0 .ls0).Streams { hdr0 with segLast := true } row0 ∧
      ((st (withCtx ctx0)).seen 0 .ls0).segmentFault 0 { hdr0 with segLast := true } (some ctx0) = false) ∧
    (((st inStep).seen 0 .ls0).Streams first0 row0 ∧ (((st inStep).seen 0 .ls0).thr.contexts.find? fun k => k.row == first0.row) = none ∧
      ((st inStep).seen 0 .ls0).segmentFault 0 first0 none = false ∧ ((st inStep).seen 0 .ls0).slabStaged row0.handle = true ∧
      (((st inStep).seen 0 .ls0).thr.contexts.filter fun c => c.port == 0).length < 16) ∧
    (((st fullPort).seen 0 .ls0).Streams first0 row0 ∧ (((st fullPort).seen 0 .ls0).thr.contexts.find? fun k => k.row == first0.row) = none ∧
      ((st fullPort).seen 0 .ls0).segmentFault 0 first0 none = false ∧
      16 ≤ (((st fullPort).seen 0 .ls0).thr.contexts.filter fun c => c.port == 0).length) ∧
    (((st fetchingSlab).seen 0 .ls0).Streams first0 row0 ∧ ((st fetchingSlab).seen 0 .ls0).segmentFault 0 first0 none = false ∧
      ((st fetchingSlab).seen 0 .ls0).slabStaged row0.handle = false) ∧
    ((st (withCtx ctx0)).Serving ∧ ((st (withCtx ctx0)).seen 0 .ls0).Streams hdr0 row0 ∧
      (((st (withCtx ctx0)).seen 0 .ls0).thr.contexts.find? fun k => k.row == hdr0.row) = some ctx0 ∧
      ((st (withCtx ctx0)).seen 0 .ls0).segmentFault 0 hdr0 (some ctx0) = false ∧ hdr0.segLast = false) ∧
    (((st (withCtx ctx0)).seen 0 .ls1).Streams { hdr0 with segFirst := true } row0 ∧ ctx0.port ≠ 1) ∧
    (hdr0.step16 = inStep.consistNow.step % 65536 ∧ inStep.rowAt hdr0.row = some row0 ∧ row0.sample = true ∧
      (shardOf (inStep.mapOf row0) inStep.cp.rank).isSome = true ∧
      ({ inStep with dsp := { inStep.dsp with oldTags := [16384] } } : Block).dsp.oldTags.contains hdr0.itemTag = true) ∧
    (inStep.mainModel = some (0, desc0) ∧ inStep.gln.asked = []) := by
  unfold State.Serving Block.Streams
  and_intros <;> decide

def rx0 : Rx := { (default : Rx) with src := 0, credit := true, bytes := zeros 12 ++ le 4 (crc32c (zeros 60)) ++ zeros 48 }

def part0 : PartialResult := { (default : PartialResult) with row := 0, step16 := 5, k := 1, entries := [(0, 0)] }

/-- The row with the contribution of its one shard. -/
def gleaned (g : GleanRow) : Block := { inStep with gln := { inStep.gln with rows := [(0, g)] } }

/-- The same on an instance that does not lead. -/
def follower (b : Block) : Block := { b with cp := { b.cp with rank := 1, n := 2 } }

def contrib : GleanRow := { first := some 0, resendAt := some 3, contribs := [(0, (0, part0))] }

def lost0 : Verdict := { outcome := 1, used := 0, missing := 1, digest := 0 }

theorem test_meets_ContributionsSettleRows :
    ((st (follower inStep)).Serving ∧ (st (follower inStep)).blk.Whole rx0 3 (some 5) ∧ (st inStep).blk.Whole rx0 3 (some 5) ∧ ((st (follower inStep)).got 0 rx0 3 (some 5)).running = true ∧
      ((st (follower inStep)).got 0 rx0 3 (some 5)).rowAt 0 = some row0 ∧ shardOf (((st (follower inStep)).got 0 rx0 3 (some 5)).mapOf row0) rx0.src = some 0 ∧
      ((st (follower inStep)).got 0 rx0 3 (some 5)).gleanRow 0 = {} ∧ ((st (follower inStep)).got 0 rx0 3 (some 5)).isLead = false) ∧
    (((st inStep).got 0 rx0 3 (some 5)).isLead = true ∧ ((st inStep).got 0 rx0 3 (some 5)).cp.collect = none ∧
      usedNow (replicaSets (((st inStep).got 0 rx0 3 (some 5)).mapOf row0)) ((gleaned contrib).gleanRow 0) = some 1) ∧
    (4 % 4294967296 ≠ inStep.consistNow.step % 4294967296 ∧ ((gleaned { verdict := some lost0 }).gleanRow 0).verdict = some lost0 ∧
      lost0.outcome = 1 ∧ ((gleaned { final := some default }).gleanRow 0).final.isSome = true) ∧
    (5 % 4294967296 = inStep.consistNow.step % 4294967296 ∧ Tab.has 0 ((gleaned contrib).gleanRow 0).contribs = true) ∧
    (((gleaned contrib).mergeUsed 0 row0 1).map (·.2) = some [] ∧ bit inStep.obs.traceMask 7 = false) := by
  unfold State.Serving Block.Whole; decide

theorem test_meets_VerdictsAndTimersDecideRows :
    ((st inStep).Serving ∧ (st inStep).blk.Whole rx0 3 (some 5) ∧ rx0.src = inStep.cp.leadRank ∧ (inStep.gleanRow 0).verdict = none ∧ (inStep.gleanRow 0).final = none ∧ lost0.outcome = 1 ∧
      (∃ d, crc64 (partialBytes part0) ≠ d) ∧ (st inStep).blk.Whole rx0 3 (some 6) ∧ 6 % 4294967296 ≠ 5 % 4294967296 ∧ inStep.rowAt 7 = none) ∧
    ({ rx0 with src := 1 } : Rx).src ≠ inStep.cp.leadRank ∧ ((gleaned { verdict := some lost0 }).gleanRow 0).verdict.isSome = true ∧
    (Tab.get? 0 ({ inStep.gln with resend := [(0, (5, 0, part0))] } : Glean).resend = some (inStep.consistNow.step, 0, part0) ∧
      Tab.get? 0 inStep.gln.resend = none ∧ inStep.openRows.contains 0 = true) ∧
    ((st (gleaned { resendAt := some 0 })).Live ∧ ((gleaned { resendAt := some 0 }).gleanRow 0).resendAt = some 0 ∧
      (gleaned { resendAt := some 0 }).needed 0 row0 = [0] ∧ ((gleaned {}).mapOf row0)[0]? = some { rank := 0, replicaSet := 0, lo := 0, hi := 1000 } ∧
      ((gleaned { resendAt := some 3 }).atTime 2).now < 3) ∧
    ((gleaned contrib).gln.since = 0 ∧ ((gleaned contrib).gleanRow 0).first = some 0 ∧
      0 + (gleaned contrib).mdl.glean.gleanTimeout * 1000 ≤ ((gleaned contrib).atTime 1000000).now) ∧
    (((gleaned { verdictAt := some 0 }).gleanRow 0).verdictAt = some 0 ∧ (follower (gleaned { verdictAt := some 0 })).isLead = false ∧
      0 + 2 * (gleaned {}).mdl.glean.gleanTimeout * 1000 ≤ ((gleaned {}).atTime 2000000).now) := by
  unfold State.Live State.Serving Block.Whole
  and_intros
  all_goals first | decide | exact ⟨crc64 (partialBytes part0) + 1, by omega⟩

/-! The Timetable, the Dispatcher, completions. -/

def instSt : State := st { inStep with dsp := { inStep.dsp with next := none, stook := [] } }

def openItem (o : OpenItem) : Block := { inStep with dsp := { inStep.dsp with openItems := [o] } }

/-- Its row is a draft row whose draws are not written. -/
def drafting : Block :=
  { openItem { item0 with held := true } with
    trees := [{ (default : Tree) with handle := 0x100000 }]
    dsp := { (openItem { item0 with held := true }).dsp with
      current := some { buf0 with consist := { log5.consist with rows := [{ row0 with kind := 4 }] } } } }

theorem test_meets_NodesMoveThroughTheStook :
    (instSt.Live ∧ (instSt.blk.atTime 0).cp.log = some { log5 with junction := 6 } ∧ (instSt.blk.atTime 0).dsp.next = none ∧
      (instSt.blk.atTime 0).dsp.stook.length < 16384 ∧ (instSt.blk.atTime 0).templateFor { log5 with junction := 6 } = some template0 ∧
      (withLive serving).cp.log = none) ∧
    (inStep.dsp.current = some buf0 ∧ inStep.running = true ∧ inStep.dsp.nextInsert < buf0.made ∧
      buf0.made ≤ ({ inStep.dsp with nextInsert := 1 } : Dispatch).nextInsert) ∧
    (((openItem { item0 with held := true }).dsp.openItems.find? fun o => o.tag == 16384 && o.held) = some { item0 with held := true } ∧
      (openItem { item0 with held := true }).drawsReady { item0 with held := true } (openItem { item0 with held := true }).drawn = true ∧
      drafting.drawsReady { item0 with held := true } drafting.drawn = false) ∧
    ((inStep.dsp.openItems.find? fun o => o.tag == 16384 && !o.held) = some item0 ∧ item0.oldestAt = some 0 ∧
      0 + buf0.template.timeouts.getD item0.opClass 0 * 1000 < (inStep.atTime 100001).now ∧
      (inStep.atTime 100000).now ≤ 0 + buf0.template.timeouts.getD item0.opClass 0 * 1000) ∧
    inStep.byHandle 0x100000 = some (0, live) ∧ inStep.readDone (.walk 0x100000) = true ∧ inStep.readDone (.transcript 0x100000) = true ∧
    ({ inStep with mp := { inStep.mp with reads := [{ (default : ReadReq) with use := .walk 0x100000 }] } } : Block).readDone (.walk 0x100000) = false := by
  unfold State.Live
  and_intros <;> decide

def run0 : Run := { (default : Run) with node := 0, items := [0] }

def energy0 : EnergyCell := { current := 16, corr := 4096, dur := 100 }

/-- Rail 0 is configured and lets an item run. -/
def powered (b : Block) : Block :=
  { b with pwr := { b.pwr with
      configured := true
      rails := { railReset with cfg := { rail0 with hardLimit := 60000, sustLimit := 60000 }, energy := List.replicate 64 energy0, u := 60000
                                capRail := 60000, k := 60000 } :: b.pwr.rails.drop 1 } }

/-- A run waits and a platform is free. -/
def waiting : Block :=
  powered { inStep with dsp := { inStep.dsp with openItems := [], runs := [run0], platforms := [(0, { plat0 with items := [] })] } }

def inWave (at_ : Nat) (b : Block) : Block := { b with pwr := { b.pwr with barrier := some { start := 0, wave := 0, nextAt := at_ } } }

/-- Two platforms and two items, with waves of one. -/
def twoItems : Block :=
  { waiting with
    dsp := { waiting.dsp with runs := [{ run0 with items := [0, 1] }], platforms := [(0, { plat0 with items := [] }), (1, { plat0 with items := [] })] }
    pwr := { waiting.pwr with global := { waiting.pwr.global with waveSize := 1 } } }

theorem test_meets_TheDispatcherStagesInOrder :
    ((st waiting).Serving ∧ ((st waiting).seen 0 .dp).running = true ∧ ((st waiting).seen 0 .dp).pwr.state ≠ .hold ∧
      ((st waiting).seen 0 .dp).pwr.barrier = none ∧ ((st waiting).seen 0 .dp).idleEligible ≤ ((st waiting).seen 0 .dp).pwr.global.waveSize ∧
      ((st waiting).seen 0 .dp).freePlatforms false false = (0, 0, { plat0 with items := [] }) :: [] ∧
      ((st waiting).seen 0 .dp).firstRun 0 { plat0 with items := [] } false = some run0 ∧ run0.gang = false ∧
      ((st waiting).seen 0 .dp).permits 0 (((st waiting).seen 0 .dp).energyOf run0) false run0.node = true) ∧
    ((st fw).blk.running = false) ∧
    ((inWave 0 { waiting with dsp := { waiting.dsp with runs := [] } }).idleEligible = 0 ∧ (inWave 5 waiting).idleEligible ≠ 0 ∧
      ((inWave 5 waiting).atTime 4).now < 5) ∧
    ((inWave 0 twoItems).idleEligible ≠ 0 ∧ 0 ≤ (inWave 0 twoItems).now ∧
      0 < (Block.waveItems 0 (inWave 0 twoItems).pwr.global.waveSize (inWave 0 twoItems) 0).2 ∧
      0 < (Block.waveItems 0 (inWave 0 twoItems).pwr.global.waveSize (inWave 0 twoItems) 0).1.idleEligible ∧
      bit (Block.waveItems 0 (inWave 0 twoItems).pwr.global.waveSize (inWave 0 twoItems) 0).1.obs.traceMask 9 = false) := by
  unfold State.Serving
  and_intros <;> decide

/-- A gang of two that has reserved some platforms. -/
def gang0 (ps : List Nat) : Run := { run0 with items := [0, 1], gang := true, reserved := ps }

def gangAt (ps : List Nat) : Block := { twoItems with dsp := { twoItems.dsp with runs := [gang0 ps] }, pwr := waiting.pwr }

/-- The gang as platform 0 reserves its slot. -/
def joined (ps : List Nat) (b : Block) : Block :=
  { b with dsp := { b.dsp with runs := replaceRun b.dsp.runs (gang0 ps) (gang0 (ps ++ [0])) } }

theorem test_meets_TheDispatcherStagesInOrder_gangs :
    (((st (gangAt [])).seen 0 .dp).freePlatforms false false = [(0, 0, { plat0 with items := [] }), (0, 1, { plat0 with items := [] })] ∧
      ((st (gangAt [])).seen 0 .dp).firstRun 0 { plat0 with items := [] } false = some (gang0 []) ∧ (gang0 []).gang = true ∧
      (gang0 []).gathered = false ∧ (gang0 [0]).reserved.length < (gang0 []).items.length ∧
      ((st (gangAt [])).seen 0 .dp).idleEligible ≤ ((st (gangAt [])).seen 0 .dp).pwr.global.waveSize) ∧
    (((st (gangAt [1])).seen 0 .dp).freePlatforms false false = [(0, 0, { plat0 with items := [] }), (1, 1, { plat0 with items := [] })] ∧
      ((st (gangAt [1])).seen 0 .dp).firstRun 0 { plat0 with items := [] } false = some (gang0 [1]) ∧ (gang0 [1, 0]).gathered = true ∧
      ((gang0 [1, 0]).reserved.filter fun p => ((gangAt [1]).slotsHeld p).isEmpty).length ≤ (gangAt [1]).dsp.platforms.length ∧
      (joined [1] ((st (gangAt [1])).seen 0 .dp)).permitsAll [1, 0] (((st (gangAt [1])).seen 0 .dp).energyOf (gang0 [1])) true 0 = true ∧
      (joined [1] { gangAt [1] with pwr := fw.pwr }).permitsAll [1, 0] ((gangAt [1]).energyOf (gang0 [1])) true 0 = false) ∧
    (((st (gangAt [0, 1])).seen 0 .dp).firstRun 0 { plat0 with items := [] } false = some (gang0 [0, 1]) ∧
      ((st (gangAt [0, 1])).seen 0 .dp).permitsAll [0, 1] (((st (gangAt [0, 1])).seen 0 .dp).energyOf (gang0 [0, 1])) true 0 = true) ∧
    ((gangAt [0, 1]).dsp.runs.find? (fun y => y.gang && y.arrival == 0 && y.node == 0) = some (gang0 [0, 1]) ∧ (gang0 [0, 1]).reserved.Nodup ∧
      ∀ p ∈ (gang0 [0, 1]).reserved, ∃ k, k < 4 ∧ k ∉ (gangAt [0, 1]).slotsHeld p) := by
  and_intros
  all_goals first | decide | (intro p _; exact ⟨3, by decide, by simp [Block.slotsHeld, gangAt, twoItems, waiting, powered]⟩)

def rec0 (status : Nat) : CompletionRec := { (default : CompletionRec) with itemTag := 16384, platform := 0, status }

theorem test_meets_StagedItemsCompleteByStatus :
    (run0.items = 0 :: [] ∧ ((List.range 4).find? fun k => !(waiting.slotsHeld 0).contains k) = some 0) ∧
    ((st inStep).Serving ∧ (rec0 0).crcBad = false ∧ ({ rec0 0 with crcBad := true } : CompletionRec).crcBad = true ∧
      (((st inStep).seen 0 .cp).dsp.openItems.find? fun o => o.platform == (rec0 0).platform && o.slot == (rec0 0).slot && !o.held) = some item0 ∧
      (((((st inStep).seen 0 .cp).observe (rec0 1) item0.node item0.tag (item0.oldestAt.getD 0)).logDetail (rec0 1) item0).running = true) ∧
      (((st waiting).seen 0 .cp).dsp.openItems.find? fun o => o.tag == (rec0 0).itemTag && o.platform == (rec0 0).platform && !o.held) = none ∧
      (((st inStep).seen 0 .cp).dsp.openItems.find? fun o => o.tag == (rec0 0).itemTag && o.platform == (rec0 0).platform && !o.held) = some item0 ∧
      ((st inStep).seen 0 .cp).platform? item0.platform = some plat0 ∧ plat0.inService = true ∧
      ((((st inStep).seen 0 .cp).observe (rec0 0) item0.node item0.tag (item0.oldestAt.getD 0)).logDetail (rec0 0) item0).running = true ∧
      (((((st inStep).seen 0 .cp).observe (rec0 0) item0.node item0.tag (item0.oldestAt.getD 0)).logDetail (rec0 0) item0).count 3).drawsReady item0
        ((st inStep).seen 0 .cp).drawn = true ∧ item0.copy.isSome = false ∧ 4 ≤ (rec0 255).status) := by
  unfold State.Serving
  and_intros <;> decide

def lineReq : ReadReq := { tag := 1023, stream := 60, line := 0x1000, use := .commandPacket, left := [0, 3] }

def reading : Block := { fw with mp := { fw.mp with reads := [lineReq] } }

def writing : Block :=
  { fw with
    mp := { fw.mp with writes0 := [{ addr := 0x1000, data := [] }], writes1 := [{ addr := 0x2000, data := [] }] }
    ap := { fw.ap with mail := [(31, { writing := some 0x1000 })] } }

theorem test_meets_MemoryPortErrorsAndResponses :
    (st reading).Serving ∧
    (((st reading).seen 0 .mp).mp.reads.find? fun r => r.tag == 1023 && r.line / 256 % 2 == 0 && r.left.contains 3) = some lineReq ∧
    (((st reading).seen 0 .mp).mp.reads.find? fun r => r.tag == 1023 && r.line / 256 % 2 == 0 && r.left.contains 2) = none ∧
    (st writing).Serving ∧ ((st writing).seen 0 .mp).mp.writes0 = { addr := 0x1000, data := [] } :: [] ∧
    ((st writing).seen 0 .mp).mp.writes1 = { addr := 0x2000, data := [] } :: [] ∧
    ((st fw).seen 0 .mp).mp.writes0 = [] ∧ ((st writing).seen 0 .mp).ap.mail = [(31, { writing := some 0x1000 })] := by
  unfold State.Serving
  and_intros <;> decide

theorem test_meets_StorageErrorsAndSignalBoxEventsAct :
    (st (withLive lead)).Live ∧ ((withLive lead).atTime 0).cp.state = .running ∧ Tab.get? 0 ((withLive lead).atTime 0).gr.entries = some live ∧
    Tab.getD (0 / 2048) [] ((withLive lead).atTime 0).flt.passEntries = [] := by
  unfold State.Live
  and_intros <;> decide

theorem test_meets_StorageErrorsAndSignalBoxEventsAct_events :
    ((st stopped).Live ∧ stopped.cp.state = .bufferStop ∧ ({ stopped with flt := { stopped.flt with diag := 1 } } : Block).flt.diag = 1 ∧
      fw.sb.phase = .firmware ∧ fw.sb.acks.getD 3 false = false ∧
      ({ fw with sb := { fw.sb with acks := [false, false, false, true] } } : Block).sb.acks.getD 3 false = true) ∧
    ((st fw).Serving ∧ ((st fw).seen 1048576 .tb).now % 1048576 = 0 ∧ (fw.atTime 0).ap.tb.armed = false ∧
      ({ fw with ap := { fw.ap with tb := { fw.ap.tb with armed := true } } } : Block).ap.tb.armed = true ∧
      (fw.atTime 1048640).ap.tb.lastSync / 1048576 * 1048576 + 1048640 ≤ (fw.atTime 1048640).now ∧
      (fw.atTime 1048639).now < (fw.atTime 1048639).ap.tb.lastSync / 1048576 * 1048576 + 1048640 ∧
      (fw.atTime 0).ap.lostClocks.contains .fp = false ∧ (fw.atTime 0).ap.lostClocks.contains .mg = false) := by
  unfold State.Live State.Serving
  and_intros <;> decide

/-! The Coupling Unit: junction 6 after step 5, in a group of one or of two. -/

def log6 : JLog := { log5 with junction := 6 }

/-- The step is complete and READY is due. -/
def due : Block :=
  { inStep with cp := { inStep.cp with stepDone := some 7 }, dsp := { inStep.dsp with next := some { buf0 with junction := 6 } } }

def sentReady : Block := { due with cp := { due.cp with sent := some ⟨7, 0, 0⟩, readySent := some 0 } }

def two (b : Block) : Block := { b with cp := { b.cp with n := 2 } }

def other : Rx := { rx0 with src := 1 }

theorem test_meets_FabricMessagesReachTheInstance_terms :
    (st inStep).Serving ∧ (st (two inStep)).blk.Whole other 1 ∧ (st (two inStep)).blk.Whole other 2 ∧ (st (two inStep)).blk.Whole other 4 ∧ ((st (two inStep)).got 0 other 1).running = true ∧ 0 < ((st (two inStep)).got 0 other 1).cp.term ∧
    ((st (two inStep)).got 0 other 1).cp.term < 2 := by
  unfold State.Serving Block.Whole
  and_intros <;> decide

theorem test_meets_JunctionsAreAgreedOnce :
    ((st due).Live ∧ (due.atTime 0).cp.log = some log6 ∧ (due.atTime 0).cp.stepDone = some 7 ∧ (due.atTime 0).readyDue = true ∧
      (inStep.atTime 0).readyDue = false ∧ (sentReady.atTime 20000).cp.sent = some ⟨7, 0, 0⟩ ∧
      (sentReady.atTime 20000).cp.readyAt + 20000 ≤ (sentReady.atTime 20000).now ∧ (sentReady.atTime 0).cp.readySent = some 0 ∧
      0 + sentReady.mdl.watchdog * 1000 ≤ (sentReady.atTime 10000000).now ∧ (sentReady.atTime 9999999).now < 0 + sentReady.mdl.watchdog * 1000) ∧
    ((st due).Serving ∧ (st due).blk.Whole rx0 1 ∧ (st (two due)).blk.Whole rx0 1 ∧ ((st due).got 0 rx0 1).running = true ∧ ((st due).got 0 rx0 1).cp.log = some log6 ∧
      rx0.src < ((st due).got 0 rx0 1).cp.n ∧ Tab.has rx0.src ((st due).got 0 rx0 1).cp.ready = false ∧
      (∀ p ∈ Tab.set rx0.src (⟨7, 9, 0⟩ : Ready) ((st due).got 0 rx0 1).cp.ready, p.2.logCrc = 9) ∧
      (∀ k, k < 1 → Tab.has k (Tab.set rx0.src (⟨7, 9, 0⟩ : Ready) ((st due).got 0 rx0 1).cp.ready) = true) ∧
      Tab.has 1 (Tab.set rx0.src (⟨7, 9, 0⟩ : Ready) ((st (two due)).got 0 rx0 1).cp.ready) = false ∧ 1 < ((st (two due)).got 0 rx0 1).cp.n ∧
      ¬ ∀ p ∈ Tab.set 1 (⟨7, 9, 0⟩ : Ready) [(0, (⟨7, 8, 0⟩ : Ready))], p.2.logCrc = 9) := by
  unfold State.Live State.Serving Block.Whole
  and_intros <;> decide

def digesting : Block := { two inStep with cp := { (two inStep).cp with digest := 77, complete := true } }

def coupled : Block := { digesting with cp := { digesting.cp with rank := 1, complete := false } }

theorem test_meets_JunctionsAreAgreedOnce_digests :
    (st digesting).Serving ∧ (st digesting).blk.Whole other 1 ∧ (st coupled).blk.Whole rx0 1 ∧ ((st digesting).got 0 other 1).running = true ∧ ((st digesting).got 0 other 1).isLead = true ∧
    other.src ≠ ((st digesting).got 0 other 1).cp.rank ∧ 77 = ((st digesting).got 0 other 1).cp.digest ∧
    78 ≠ ((st digesting).got 0 other 1).cp.digest ∧
    ((st coupled).got 0 rx0 1).isLead = false ∧ rx0.src = ((st coupled).got 0 rx0 1).cp.leadRank ∧ ((st coupled).got 0 rx0 1).cp.complete = false ∧
    77 = ((st coupled).got 0 rx0 1).cp.digest ∧ digesting.isLead = true ∧ digesting.running = true ∧ digesting.cp.complete = true ∧
    0 < digesting.cp.applied ∧ digesting.cp.digestSentAt + 20000 ≤ (digesting.atTime 20000).now ∧
    (digesting.peers.filter fun r => !Tab.has r digesting.cp.digests) = [1] := by
  unfold State.Serving Block.Whole
  and_intros <;> decide

def awaiting : Block := { coupled with cp := { coupled.cp with log := none } }

theorem test_meets_LogsAreReassembled :
    (st awaiting).Serving ∧ (st awaiting).blk.Whole rx0 2 ∧ (st digesting).blk.Whole other 2 ∧ 0 < 2 ∧ ((st awaiting).got 0 rx0 2).running = true ∧ ((st awaiting).got 0 rx0 2).cp.stageLost = false ∧
    ((st awaiting).got 0 rx0 2).cp.parts = [] ∧ ((st awaiting).got 0 rx0 2).cp.logAskedAt = none ∧
    log6.leadTerm = ((st awaiting).got 0 rx0 2).cp.term ∧ log6.junction = ((st awaiting).got 0 rx0 2).cp.applied + 1 ∧
    ((st awaiting).got 0 rx0 2).cp.log = none ∧ 1 < 2 ∧
    ((st digesting).got 0 other 2).isLead = true ∧ ((st digesting).got 0 other 2).cp.log = some log6 ∧
    awaiting.isLead = false ∧ ({ awaiting with cp := { awaiting.cp with logAskedAt := some 0 } } : Block).cp.logAskedAt = some 0 ∧
    0 + 20000 ≤ (awaiting.atTime 20000).now := by
  unfold State.Serving Block.Whole
  and_intros <;> decide

/-- The lead of an idle group of one: nothing in the last consist, junction 5 complete, no log. -/
def idle : Block := { serving with cp := { serving.cp with applied := 5, complete := true } }

def idleCmd : Block := { idle with seq := { idle.seq with cmds := [default] } }

theorem test_meets_TheLeadClosesLogsInOrder :
    (st idle).Live ∧ (idle.atTime 0).mayClose = true ∧ (idle.atTime 0).consistNow.rows = [] ∧ (idle.atTime 0).commandDue = false ∧ (idle.atTime 0).seq.takeover = none ∧
    ({ idle with cp := { idle.cp with firstJunction := false } } : Block).cp.firstJunction = false ∧
    (idle.atTime 100000).cp.agreedAt + (idle.atTime 100000).mdl.idleInterval ≤ (idle.atTime 100000).now ∧
    idleCmd.mayClose = true ∧ idleCmd.commandDue = true ∧ idleCmd.cp.stageLost = false ∧ (fw.atTime 0).mayClose = false := by
  unfold State.Live
  and_intros <;> decide

/-- Rank 1 of two, the lead of which has missed its junction. -/
def missed : Block := { awaiting with cp := { awaiting.cp with leadTimer := some 0, leadLimit := 100 } }

def querying : Block := { missed with fab := { missed.fab with query := some (0, 0) } }

/-- Rank 1, the new lead, collecting. -/
def collecting : Block :=
  { missed with cp := { missed.cp with leadRank := 1, term := 2, collect := some { sentAt := 0, oldLead := 0, junction := 6, acks := [], copies := [] } } }

theorem test_meets_MissedLeadsAreReplaced :
    ((st missed).Serving ∧ ((st missed).seen 1000000 .fp).leadMissed = true ∧ ((st missed).seen 0 .fp).leadMissed = false ∧
      ((st querying).seen 0 .fp).fab.query = some (0, 0) ∧ ((st querying).seen 0 .fp).running = true ∧ ((st missed).seen 0 .fp).fab.query = none) ∧
    ((st missed).blk.Whole rx0 1 ∧ (st collecting).blk.Whole rx0 1 ∧ ((st missed).got 0 rx0 1).running = true ∧ ((st missed).got 0 rx0 1).cp.term < 2 ∧
      rx0.src ≠ ((st missed).got 0 rx0 1).cp.rank ∧ ((st missed).got 0 rx0 1).isLead = false ∧ ((st missed).got 0 rx0 1).cp.collect = none ∧
      ((st missed).got 0 rx0 1).verdictsHeld = [] ∧ 0 < ((st missed).got 0 rx0 1).cp.term) ∧
    (((st collecting).got 0 rx0 1).cp.collect = some { sentAt := 0, oldLead := 0, junction := 6, acks := [], copies := [] } ∧
      rx0.src < ((st collecting).got 0 rx0 1).cp.n ∧ collecting.running = true ∧ 0 + 250000 ≤ (collecting.atTime 250000).now) := by
  unfold State.Serving Block.Whole
  and_intros <;> decide

def ehead : EpochHead := { (default : EpochHead) with source := 0, proposal := 1, leadTerm := 1, epoch := 1, junction := 8 }

def proposal0 : Proposal := { number := 1, junction := 8, epoch := 1, cmd := default, prepared := [], refused := [] }

def blank : StagedProposal :=
  { number := 1, junction := 8, epoch := 1, params := .modelUnload 8 0, stage := none, template := none, map := [], platforms := [], prepared := true }

/-- Content of an earlier proposal, whose junction is still to come. -/
def stagedBefore : Block := { inStep with cp := { inStep.cp with staged := some { blank with number := 9 } } }

theorem test_meets_ProposalsCapsAndLossesReachTheGroup :
    (st inStep).Serving ∧ (st inStep).blk.Whole rx0 4 ∧ (st inStep).blk.Whole other 4 ∧ ((st inStep).got 0 rx0 4).running = true ∧ ehead.leadTerm = ((st inStep).got 0 rx0 4).cp.term ∧
    rx0.src = ((st inStep).got 0 rx0 4).cp.leadRank ∧
    ((st inStep).got 0 rx0 4).stageContent [] 1 8 1 (.modelUnload 8 0) = .inl blank ∧
    ((st inStep).got 0 rx0 4).stageContent [] 1 8 1 (.modelLoad load0) = .inr (0x040A, noDetail) ∧
    other.src ≠ ((st inStep).got 0 other 4).cp.leadRank ∧
    ({ inStep with seq := { inStep.seq with proposal := some proposal0 } } : Block).seq.proposal = some proposal0 ∧
    proposal0.number = ehead.proposal ∧ Tab.has 1 proposal0.refused = false ∧
    ((st inStep).got 0 rx0 4).cp.staged = none ∧ ((st stagedBefore).got 0 rx0 4).cp.staged = some { blank with number := 9 } ∧
    blank.number ≠ 9 ∧ ((st stagedBefore).got 0 rx0 4).cp.applied < blank.junction := by
  unfold State.Serving Block.Whole
  and_intros <;> decide

def reporting : Block := { coupled with flt := { coupled.flt with reports := [(default, 0)] } }

theorem test_meets_ProposalsCapsAndLossesReachTheGroup_caps :
    ((st inStep).Serving ∧ (st inStep).blk.Whole other 4 ∧ ((st inStep).got 0 other 4).running = true ∧ ((st inStep).got 0 other 4).isLead = true ∧
      ((st inStep).got 0 other 4).pwr.reports = [] ∧ 0xFFFE < ((st inStep).got 0 other 4).pwr.setCap ∧ ((st inStep).got 0 other 4).pwr.setCap ≤ 0xFFFF ∧
      ((st inStep).got 0 other 4).cp.collect = none ∧
      ((st inStep).got 0 other 4).seq.closed = none ∧ Tab.get? 1 [(1, (4, 100))] = some (4, 100) ∧ 4 ≤ 4 ∧
      ((st inStep).got 0 other 4).pwr.appliedSeq < 1 ∧ ((st inStep).got 0 other 4).cp.applied < 6 ∧ 5 ≤ ((st inStep).got 0 other 4).cp.applied ∧
      (((st inStep).got 0 other 4).pwr.waiting.filter fun w => w.1 != 1) = ((st inStep).got 0 other 4).pwr.waiting ∧
      0 ≤ ((st inStep).got 0 other 4).pwr.appliedSeq) ∧
    (({ (default : LossReport) with bankReport := true } : LossReport).bankReport = true ∧ (default : LossReport).bankReport = false ∧
      ((st inStep).got 0 other 4).byHandle 0x100000 = some (0, live) ∧ ((st inStep).got 0 other 4).byHandle 0x200000 = none ∧
      reporting.running = true ∧ reporting.flt.reports = [(default, 0)] ∧ 0 + 20000 ≤ (reporting.atTime 20000).now) := by
  unfold State.Serving Block.Whole
  and_intros <;> decide

/-- Two instances joined by links 0 and 1, as routes 0 and 1. -/
def linked : Block := { two inStep with fab := { inStep.fab with routes := [[[0], [1]], [[0], [1]]] } }

def linkedOut : Block := { linked with fab := { linked.fab with linksOut := [0] } }

def oneLink : Block := { two inStep with fab := { inStep.fab with routes := [[[0]], [[0]]] } }

theorem test_meets_FabricMessagesReachTheInstance :
    (st linked).Serving ∧ ((st linked).seen 0 .fp).fab.linksOut.contains 0 = false ∧ ((st linked).seen 0 .fp).cp.state ≠ .forming ∧
    (∀ r ∈ ((st linked).seen 0 .fp).routesOver 0,
      (({ (st linked).seen 0 .fp with fab := { ((st linked).seen 0 .fp).fab with linksOut := [0] } } : Block).lowRoute r.1).isSome = true) ∧
    ((st linked).seen 0 .fp).routesOver 0 ≠ [] ∧
    ((st oneLink).seen 0 .fp).cp.state = .running ∧ (1, 0) ∈ ((st oneLink).seen 0 .fp).routesOver 0 ∧
    ({ (st oneLink).seen 0 .fp with fab := { ((st oneLink).seen 0 .fp).fab with linksOut := [0] } } : Block).lowRoute 1 = none ∧
    (st linked).blk.Whole other 5 ∧ (st linked).blk.Whole other 6 ∧
    (st linkedOut).blk.Whole other 6 ∧ (st stopped).blk.Whole other 5 ∧
    (∀ r ∈ (((st linked).seen 0 .fp).taken other 6 none).routesOver 0,
      (({ ((st linked).seen 0 .fp).taken other 6 none with
        fab := { (((st linked).seen 0 .fp).taken other 6 none).fab with linksOut := [0] } } : Block).lowRoute r.1).isSome = true) ∧ linkedOut.fab.linksOut.contains 0 = true ∧
    stopped.cp.state = .bufferStop ∧ 0 < 6 ∧ 6 ≤ 6 := by
  unfold State.Serving Block.Whole
  and_intros <;> decide

def form0 : Formation := { (default : Formation) with recoverId := 9, fresh := false }

def forming : Block := { setUp with form := some form0 }

/-- An instance of the old group, back in formation with log 6 held and its own READY sent. -/
def lagging : Block := { sentReady with cp := { sentReady.cp with state := .forming }, form := some form0 }

/-- The report of a rank of the old group that has applied junction 6. -/
def ahead : FormReport := { (default : FormReport) with recoverId := 9, n := 1, oldState := true, junction := 6 }

def unfitting : Block := { forming with cp := { forming.cp with fresh := true }, flt := { forming.flt with diag := 3 } }

theorem test_meets_FormationCollectsReports :
    ((st forming).Serving ∧ (st forming).blk.Whole rx0 4 ∧ (st forming).blk.form = some form0 ∧ ((st forming).got 0 rx0 4).unfit = false ∧
      ({ (default : FormReport) with recoverId := 9, n := 1 } : FormReport).n = ((st forming).got 0 rx0 4).cp.n ∧
      rx0.src < ((st forming).got 0 rx0 4).cp.n ∧ (default : FormReport).oldState = false ∧ (default : FormReport).recoverId ≠ form0.recoverId ∧
      ({ (default : FormCommit) with recoverId := 9, n := 1 } : FormCommit).n = ((st forming).got 0 rx0 4).cp.n ∧ form0.committed = false ∧
      ({ form0 with committed := true } : Formation).committed = true ∧
      (st forming).blk.Whole other 4 ∧ ((st forming).got 0 other 4).cp.n ≤ other.src ∧
      (st unfitting).blk.Whole rx0 4 ∧ (st unfitting).blk.form = some form0 ∧ ((st unfitting).got 0 rx0 4).unfit = true) ∧
    ((st lagging).blk.Whole rx0 4 ∧ (st lagging).blk.form = some form0 ∧ ((st lagging).got 0 rx0 4).unfit = false ∧
      ahead.recoverId = form0.recoverId ∧ ahead.n = ((st lagging).got 0 rx0 4).cp.n ∧
      ((st lagging).got 0 rx0 4).cp.log = some log6 ∧ ((st lagging).got 0 rx0 4).cp.sent = some ⟨7, 0, 0⟩ ∧ ahead.oldState = true ∧
      form0.fresh = false ∧ log6.junction = ((st lagging).got 0 rx0 4).cp.applied + 1 ∧ ahead.junction = log6.junction) ∧
    (form0.roster = [] ∧ form0.sentAt + 20000 ≤ (forming.atTime 20000).now ∧ (forming.atTime 20000).firstApplied form0 = false ∧
      (forming.atTime 20000).unfit = false ∧ (unfitting.atTime 20000).unfit = true ∧
      lead.firstApplied { form0 with committed := true, result := some default } = true ∧ ({ form0 with fresh := true } : Formation).fresh = true ∧
      form0.since + 1000000000 ≤ (forming.atTime 1000000000).now ∧ (forming.atTime 999999999).now < form0.since + 1000000000) := by
  unfold State.Serving Block.Whole
  and_intros <;> decide

/-! The Gradient, the Management Port, the flash, resets. -/

def railed (f : Rail → Rail) (b : Block) : Block :=
  { b with pwr := { b.pwr with rails := f { railReset with cfg := rail0, capRail := 60000, k := 60000 } :: b.pwr.rails.drop 1 } }

/-- The pin source has fallen to 100 since the last tick. -/
def capped : Block := { fw with pwr := { fw.pwr with pinCap := 100, touched := [(0, 0)] } }

/-- The command source has risen since, too, and C_loc stays. -/
def sameLoc : Block := { fw with pwr := { fw.pwr with touched := [(1, 0)], groupCap := 0xFFFF } }

/-- The group's cap lies below both. -/
def belowGroup (b : Block) : Block := { b with pwr := { b.pwr with groupCap := 50, cap := 50 } }

theorem test_meets_PowerCommandsConfigureRails_caps :
    ((st fw).Serving ∧ fw.pwr.deadline = none ∧
      (({ fw with pwr := { fw.pwr with deadline := some 250 } } : Block).atTime 250).pwr.deadline = some 250 ∧
      250 * tickOf fw.pwr.lastFrame < 250 ∧ 250 ≤ (fw.atTime 250).now / 250 * 250 ∧ (fw.atTime 249).now / 250 * 250 < 250 ∧ fw.pwr.state ≠ .hold ∧
      0 ∈ enabledRails (railed (fun r => { r with capRail := 0 }) fw) ∧
      ((railed (fun r => { r with capRail := 0 }) fw).rail 0).capRail < (railed (fun r => { r with capRail := 0 }) fw).levelNow 0) ∧
    (fw.pwr.touched = [] ∧
      (sameLoc.pwr.touched ≠ [] ∧ min sameLoc.pwr.pinCap sameLoc.pwr.cmdCap = sameLoc.pwr.loc ∧
        min (min sameLoc.pwr.pinCap sameLoc.pwr.cmdCap) sameLoc.pwr.groupCap = sameLoc.pwr.cap) ∧
      ((belowGroup capped).pwr.touched ≠ [] ∧ min (belowGroup capped).pwr.pinCap (belowGroup capped).pwr.cmdCap ≠ (belowGroup capped).pwr.loc ∧
        min (min (belowGroup capped).pwr.pinCap (belowGroup capped).pwr.cmdCap) (belowGroup capped).pwr.groupCap = (belowGroup capped).pwr.cap ∧
        (belowGroup capped).running = false) ∧
      ({ belowGroup capped with cp := lead.cp } : Block).running = true) := by
  unfold State.Serving
  and_intros <;> decide

/-- A window in which 200 units ran, all seen in the samples. -/
def window0 : RailWindow := { sample := 300, level := 300, raw := 200, ticks := 100, classes := [0] }

def drooping (ramp : Bool) : Block := { fw with pwr := { fw.pwr with droop := some 0, ramp } }

theorem test_meets_TelemetryMovesTheRails :
    ((st fw).Serving ∧ ({ goodFrame with crcOk := false } : TelemetryFrame).crcOk = false ∧ ({ goodFrame with crcOk := true } : TelemetryFrame).crcOk = true ∧
      0 < ({ fw with pwr := { fw.pwr with tick := 1 } } : Block).pwr.tick ∧ tickOf 0 = tickOf fw.pwr.lastFrame ∧ fw.pwr.tick = 0 ∧
      tickOf 250 ≠ tickOf fw.pwr.lastFrame ∧
      ((railed (fun r => { r with hard := true }) fw).rail 0).hard = true ∧
      ((railed (fun r => { r with hard := true }) fw).rail 0).hardSince + fw.pwr.global.hardStuck * 1000 ≤ (fw.atTime 50000).now ∧
      (fw.rail 0).hard = false ∧ ((railed id fw).rail 0).cfg.enable = true ∧ ((railed id fw).rail 0).lastValid + 1000 ≤ (fw.atTime 1000).now ∧
      (fw.rail 0).cfg.enable = false) ∧
    (enabledRails ((railed id fw).atTime 0) = [0] ∧ ((railed (fun r => { r with window := { hard := true } }) fw).rail 0).window.hard = true ∧
      window0.hard = false ∧ window0.ticks ≠ 0 ∧ 0 < (railed id fw).pwr.rails.length ∧ ((railed id fw).rail 0).recal = false ∧ 0 < window0.raw ∧
      (0 : Int) < (window0.level : Int) - window0.ticks * (rail0.base : Int) ∧ fw.pwr.global.recalWindows ≠ 0 ∧
      (((window0.sample : Int) - window0.ticks * (rail0.base : Int)) - ((window0.level : Int) - window0.ticks * (rail0.base : Int))) * 1000 ≤
        (fw.pwr.global.recalErr : Int) * ((window0.level : Int) - window0.ticks * (rail0.base : Int))) ∧
    (fw.pwr.droop = none ∧ (drooping false).pwr.droop = some 0 ∧ (drooping true).pwr.ramp = true ∧
      0 + fw.pwr.global.droopRampAfter ≤ (fw.atTime 1000).now ∧ (drooping false).pwr.rails.length = 16 ∧
      (fw.atTime 999).now < 0 + fw.pwr.global.droopRampAfter) := by
  unfold State.Serving
  and_intros <;> decide

/-! Packets at the Management Port, from endpoint 8 to endpoint 9 under tag 5. -/

/-- A packet under its CRC. -/
def packetOf (flags dest : Nat) (bytes : List Byte) : MctpMsg :=
  let p := le 1 1 ++ le 1 dest ++ le 1 8 ++ le 1 flags ++ bytes
  { packet := p, crc := crc32c p }

/-- A message of one packet, of a type and its header. -/
def mctp0 (bytes : List Byte) : MctpMsg := packetOf 0xCD 9 bytes

def control0 : MctpMsg := mctp0 [0, 0x80, 2]
def pldm0 : MctpMsg := mctp0 [1, 0x80, 5, 0x10]
def spdm0 : MctpMsg := mctp0 [5, 0x12, 0x84, 0]

def headOf (m : MctpMsg) : MctpHead := { source := 8, tag := 5, bytes := (m.packet.drop 4).take 4 }

def managed (f : SignalBox → SignalBox) : State := st { fw with sb := f { fw.sb with eid := 9 } }

def atPort (f : SignalBox → SignalBox) : Block := (managed f).seen 0 .mg

/-- The block after a message has come. -/
def heard (m : MctpMsg) (f : SignalBox → SignalBox) : Block := ((atPort f).mctpTake m).2

theorem hears {m : MctpMsg} {f : SignalBox → SignalBox} {h : MctpHead} (phase : (atPort f).sb.phase = .firmware ∨ (atPort f).sb.phase = .recovery)
    (head : ((atPort f).mctpTake m).1 = some h) (served : (heard m f).unsupported h = none) : (atPort f).Hears m h (heard m f) :=
  ⟨phase, Prod.ext head rfl, served⟩

/-- A start, the packet after it, and the four messages that fill the contexts. -/
def started : MctpMsg := packetOf 0x8D 9 ([1, 0x80, 5, 0x10] ++ zeros 60)
def mpart0 : MctpPart := { source := 8, flow := 13, next := 1, size := 64, head := [1, 0x80, 5, 0x10] }
def partsHeld (n : Nat) : Block := atPort fun s => { s with mctpParts := (List.range n).map fun i => { mpart0 with source := 20 + i } }
def continued (flags : Nat) : MctpMsg := packetOf flags 9 (zeros 64)
def within : Block := atPort fun s => { s with mctpParts := [mpart0] }

theorem test_meets_ManagementQueriesAreAnswered_packets :
    (({ control0 with crc := 0 } : MctpMsg).crc ≠ crc32c control0.packet ∧ (continued 0x1D).crc = crc32c (continued 0x1D).packet ∧
      bit 0x1D 7 = false ∧ (atPort id).sb.mctpParts = [] ∧ (packetOf 0xCD 10 [1, 0x80, 5]).crc = crc32c (packetOf 0xCD 10 [1, 0x80, 5]).packet ∧
      bit 0xCD 7 = true ∧ 10 ≠ (atPort id).sb.eid ∧ (9 = (atPort id).sb.eid ∧ 9 ≠ 0) ∧ (2 ∉ [0, 1, 5] ∧ 1 ∈ [0, 1, 5]) ∧ bit 0xCD 6 = true ∧
      (pldm0.packet.length - 4 = 4 ∧ 0 < 4 ∧ 4 ≤ 64)) ∧
    (started.crc = crc32c started.packet ∧ bit 0x8D 7 = true ∧ bit 0x8D 6 = false ∧ started.packet.length - 4 = 64 ∧
      (partsHeld 3).sb.mctpParts.length < 4 ∧ 4 ≤ (partsHeld 4).sb.mctpParts.length ∧ (continued 0x1D).packet.length - 4 = 64 ∧
      (within.sb.mctpParts.find? fun p => p.source == 8 && p.flow == 13) = some mpart0 ∧ 0x1D / 16 % 4 = mpart0.next ∧ bit 0x1D 6 = false ∧
      bit 0x5D 7 = false ∧ bit 0x5D 6 = true ∧ 0x5D / 16 % 4 = mpart0.next ∧ 0x2D / 16 % 4 ≠ mpart0.next ∧ mpart0.size + 64 ≤ 4352 ∧
      (mpart0.head.getD 0 0).toNat ∈ [0, 1, 5]) ∧
    ((managed id).Serving ∧ ((atPort id).sb.phase = .firmware) ∧ ((atPort id).mctpTake { control0 with crc := 0 }).1 = none ∧
      ((atPort id).mctpTake (mctp0 [0, 0x80, 6])).1 = some (headOf (mctp0 [0, 0x80, 6])) ∧ bit 0x80 7 = true ∧ 5 < 6 ∧
      ((atPort id).mctpTake (mctp0 [1, 0x80, 2, 1])).1 = some (headOf (mctp0 [1, 0x80, 2, 1])) ∧ 2 % 64 ≠ 0 ∧ 2 % 64 ≠ 5 ∧
      ((atPort id).mctpTake (mctp0 [5, 0x12, 0x85, 0])).1 = some (headOf (mctp0 [5, 0x12, 0x85, 0])) ∧ 128 ≤ 0x85 ∧
      0x85 ∉ [0x81, 0x82, 0x83, 0x84, 0xE0, 0xE1, 0xE3, 0xEE]) := by
  unfold State.Serving
  and_intros <;> decide

theorem test_meets_ManagementQueriesAreAnswered :
    (managed id).Serving ∧ (atPort id).Hears control0 (headOf control0) (heard control0 id) ∧
    (atPort id).Hears pldm0 (headOf pldm0) (heard pldm0 id) ∧ (2 ≠ 0 ∧ 2 ≠ 1 ∧ 2 ≠ 5 ∧ 2 ≠ 255) := by
  refine ⟨?_, hears (.inl (by decide)) (by decide) (by decide), hears (.inl (by decide)) (by decide) (by decide), by decide⟩
  unfold State.Serving
  decide

def update0 (p : UpdatePhase) : Update := { agent := 8, phase := p, maxTransfer := 64, slot := 1, size := 300, got := 0, page := [], failed := false }

/-- In an update, PLDM requests come. -/
def updating (p : UpdatePhase) : SignalBox → SignalBox := fun s => { s with update := some (update0 p) }

theorem test_meets_UpdatesFollowTheirStates :
    (managed id).Serving ∧ (atPort id).Hears pldm0 (headOf pldm0) (heard pldm0 id) ∧ (heard pldm0 id).keys.updateDis = false ∧
    ({ fw.keys with updateDis := true } : Keys).updateDis = true ∧ (heard pldm0 id).sb.update = none ∧ 64 ≤ 64 ∧
    (atPort (updating .learn)).Hears pldm0 (headOf pldm0) (heard pldm0 (updating .learn)) ∧
    (heard pldm0 (updating .learn)).sb.update = some (update0 .learn) ∧
    (update0 .ready).phase = .ready ∧ 256 + 0x100000 ≤ 256 + 0x300000 ∧
    (heard pldm0 (updating .download)).sb.update = some (update0 .download) ∧
    (update0 .download).failed = false ∧ (headOf pldm0).source = (update0 .download).agent ∧ (heard pldm0 (updating .download)).sb.queue = [] ∧
    (List.replicate 64 (0 : Byte)).length = min (update0 .download).maxTransfer ((update0 .download).size - (update0 .download).got) ∧
    (update0 .activate).phase = .activate := by
  refine ⟨?_, hears (.inl (by decide)) (by decide) (by decide), ?_⟩
  · unfold State.Serving
    decide
  and_intros
  all_goals first | exact hears (.inl (by decide)) (by decide) (by decide) | decide

def chain0 : List Byte := [1, 2, 3]

theorem test_meets_SpdmRequestsAreAnswered :
    (managed id).Serving ∧ (atPort id).Hears spdm0 (headOf spdm0) (heard spdm0 id) ∧
    (heard spdm0 fun s => { s with spdm := .version }).sb.spdm = .version ∧
    (heard spdm0 fun s => { s with spdm := .capabilities }).sb.spdm = .capabilities ∧ bit 0x80 7 = true ∧ bit 2 1 = true ∧
    (heard spdm0 id).sb.spdm ≠ .version ∧ (heard spdm0 id).sb.spdm ≠ .capabilities ∧ (heard spdm0 id).sb.spdm ≠ .negotiated ∧
    (heard spdm0 fun s => { s with spdm := .negotiated }).sb.spdm = .negotiated ∧
    (heard spdm0 fun s => { s with spdm := .negotiated }).sb.chain = none ∧
    (heard spdm0 fun s => { s with spdm := .negotiated, chain := some chain0 }).sb.chain = some chain0 ∧
    2 < chain0.length ∧ 1 ≤ chain0.length - 2 ∧ 4 ≤ 4 ∧ ({ fw.keys with certWrite := true } : Keys).certWrite = true ∧ chain0 ≠ [] ∧
    chain0.length ≤ 65536 ∧ (heard spdm0 fun s => { s with spdm := .negotiated }).sb.chainWrite = none := by
  refine ⟨?_, hears (.inl (by decide)) (by decide) (by decide), ?_⟩
  · unfold State.Serving
    decide
  and_intros <;> decide

def flashing (c : FlashCmd) : State := managed fun s => { s with queue := [c] }

def logCmd : FlashCmd := { erase := false, addr := 0, data := [], use := .log, records := [] }

theorem test_meets_FlashAndCensusEventsTakeEffect :
    (flashing logCmd).Serving ∧ ((flashing logCmd).seen 0 .mp).sb.queue = logCmd :: [] ∧ logCmd.use = .log ∧ logCmd.erase = false ∧
    ({ logCmd with use := .boot } : FlashCmd).use = .boot ∧ ((managed id).seen 0 .mp).sb.queue = [] ∧
    (flashing logCmd).blk.sb.startedAt + 5000000 ≤ (fw.atTime 5000000).now ∧ (fw.atTime 4999999).now < (flashing logCmd).blk.sb.startedAt + 5000000 ∧
    fw.sb.phase = .firmware ∧ ((managed fun s => { s with stage := [default] }).blk.sb.stage ≠ []) ∧
    0 + 10000000 ≤ (fw.atTime 10000000).now ∧ fw.sb.stage = [] ∧
    ({ fw.obs with censusOn := true, censusCap := 1 } : Observe).censusOn = true ∧ fw.obs.censusAt + fw.obs.censusInterval ≤ (fw.atTime 0).now ∧
    0 < ({ fw.obs with censusOn := true, censusCap := 1 } : Observe).censusCap ∧ fw.obs.censusOn = false := by
  unfold State.Serving
  and_intros <;> decide

/-- The self-tests run on the instance that booted slot A, its boot mark not yet written. -/
def testing : Block := { fw with sb := { fw.sb with slot := some 0 }, flt := { fw.flt with diag := 1 } }

def marked : Block := { testing with sb := { testing.sb with flash := [(bootMarkAddr 0 / 256, List.replicate 256 0)] } }

theorem test_meets_ResetsAndTestModesTakeEffect :
    ((st fw).Inv ∧ fw.sb.phase = .firmware ∧ held.sb.phase = .held ∧ b0.sb.phase = .released) ∧
    ((st testing).Live ∧ testing.sb.tested = false ∧ testing.flt.diag = 1 ∧ testing.cp.state = .forming ∧ testing.sb.slot = some 0 ∧
      testing.flashWord (bootMarkAddr 0) ≠ 0 ∧ marked.flashWord (bootMarkAddr 0) = 0 ∧
      ({ testing with sb := { testing.sb with tested := true } } : Block).sb.tested = true ∧ tested.sb.phase = .test ∧ (st fw).Live) := by
  unfold State.Inv State.Live
  and_intros <;> decide

theorem test_meets_ResetLeavesAnEmptyInstance : fw.pwr.configured = false ∧ (powered fw).pwr.configured = true := by decide


/-! What a junction does to requests, pages and the policy; selection, merging, drawing and verification; the Gradient's tick. -/

theorem test_meets_CommittedStateChangesAtJunctions :
    ((st fw).blk.NextLogs ∧ (st due).blk.NextLogs) ∧ ∃ t, step { st due with pending := [.idleInterval 0] } = .next t ∧
      (isReset (.idleInterval 0) = false ∧ isTestEntry (.idleInterval 0) = false ∧ ∀ u k, Instr.idleInterval 0 ≠ .recover u k) ∧
      due.form = none ∧ t.blk.cp.applied = due.cp.applied := by
  refine ⟨?_, _, rfl, ?_, ?_, ?_⟩
  · unfold Block.NextLogs
    refine ⟨⟨?_, ?_⟩, ?_, ?_⟩
    · intro l h; cases h
    · intro l h; cases h
    · intro l h; cases h; decide
    · intro l h; cases h
  · exact ⟨by decide, by decide, fun u k h => by cases h⟩
  · decide
  · decide

/-- Slot 5 the one free slot of a Granary without requests, 15 banks of which are out; slot 0 is that of the request to free. -/
def slotsHeld (f : Runs) (es : List (Nat × Entry)) : Block :=
  { serving with gr := { serving.gr with entries := es, freeList := f } }

theorem slotsHeld_ok : (slotsHeld [(1, 32767)] [(0, { live with state := .draining })]).SlotsOk := by
  unfold Block.SlotsOk
  refine ⟨by decide, by decide, by decide, ?_, ?_⟩
  · simp only [slotsHeld, Runs.list, List.flatMap_cons, List.flatMap_nil, List.append_nil]
    exact List.Pairwise.map _ (fun a b h => by omega) List.nodup_range
  · intro s
    have h1 : (slotsHeld [(1, 32767)] [(0, { live with state := .draining })]).liveSlots = [0] := by decide
    have h2 : (slotsHeld [(1, 32767)] [(0, { live with state := .draining })]).gr.banksOut = [] := rfl
    rw [h1, h2]
    simp only [slotsHeld, Runs.list, List.flatMap_cons, List.flatMap_nil, List.append_nil, List.mem_map, List.mem_range, List.mem_singleton,
      List.not_mem_nil, not_false_eq_true, true_and]
    constructor
    · rintro ⟨x, hx, rfl⟩; omega
    · rintro ⟨h, h'⟩; exact ⟨s - 1, by omega, by omega⟩

theorem test_meets_SlotsAreTakenInOrder :
    0x100000 < 2 ^ 32 ∧ (serving.queueLength = 0 ∧ serving.liveCount + serving.openAdmits.length + serving.chosenAdmits.length < serving.mdl.maxLive) ∧
    (slotsHeld [(1, 32767)] [(0, { live with state := .draining })]).SlotsOk ∧
    (0x100001 % 1048576 = 1 ∧ slotOf 0x100001 ∈ Runs.list [(1, 32767)] ∧ ({ live with handle := 0x100001 } : Entry).handle = 0x100001) ∧
    (∀ s ∈ [0], s ∈ (slotsHeld [(1, 32767)] [(0, { live with state := .draining })]).liveSlots) ∧
    (slotsHeld [(1, 32767)] [(0, { live with state := .draining })]).slotFor = some 1 := by
  refine ⟨by decide, by decide, slotsHeld_ok, ⟨by decide, ?_, rfl⟩, by decide, by decide⟩
  have h : slotOf 0x100001 = 1 := by decide
  rw [h]
  simp only [Runs.list, List.flatMap_cons, List.flatMap_nil, List.append_nil, List.mem_map, List.mem_range]
  exact ⟨0, by decide, rfl⟩

/-- A ticket waits in the firmware queue of the same Granary. -/
def ticketHeld : Block :=
  { slotsHeld [(1, 32767)] [(0, { live with state := .draining })] with
    gr := { (slotsHeld [(1, 32767)] [(0, { live with state := .draining })]).gr with fwQueue := [ticket9] } }

theorem test_meets_SlotsAreTakenInOrder_queue : TicketRec.admission 9 0 0x100001 ∈ ticketHeld.chooseAdmissions ticketHeld := by decide

/-- Step 5 has ended with rows `rows` of the request e, whose transcript holds three tokens. -/
def ended (e : Entry) (rows : List RowRec) (results : List StepResult) : Block :=
  { inStep with
    cp := { inStep.cp with prevLog := some { log5 with consist := { log5.consist with rows } } }
    gr := { inStep.gr with entries := [(0, e)], results, regions := [(0, { region0 with tokens := [(true, 5), (true, 6), (true, 7)] })] } }

def full0 : Entry := { live with transcriptCap := 64 }

def plainRow : RowRec := { row0 with kind := 2, sample := true }

def tok0 : GenToken := { token := 9, inf := false, approx := false, bonus := false }

def got0 (ts : List GenToken) : StepResult := { (default : StepResult) with handle := 0x100000, tokens := ts }

theorem test_meets_JunctionsChangeRequests :
    ((ended full0 [plainRow] []).LengthsOk 0 ∧ (∀ r ∈ (ended full0 [plainRow] []).rowsOf 0x100000, r.firstPos + r.posCount ≤ 3) ∧
      (∀ l ∈ ([] : List (Nat × Nat)), l.1 ≠ 0x100000) ∧ (ended full0 [plainRow] []).gr.slabErrors.contains 0x100000 = false ∧
      (ended full0 [] []).rowsOf 0x100000 = []) ∧
    (((ended { full0 with state := .draining } [] []).ent 0).state = .draining ∧
      cancelState .decode = true ∧ ((ended { full0 with state := .done } [] []).ent 0).state = .done) ∧
    (((ended full0 [plainRow] [got0 [tok0]]).ent 0).state = .decode ∧ plainRow.kind ≤ 2 ∧
      ((ended full0 [plainRow] [got0 [tok0]]).rowsOf 0x100000) = [plainRow] ∧
      (ended full0 [plainRow] [got0 [tok0]]).resultOf 0x100000 = some (got0 [tok0]) ∧ (got0 [tok0]).tokens ≠ [] ∧
      (ended full0 [plainRow] [got0 []]).resultOf 0x100000 = some (got0 []) ∧ (full0.maxGen = 0 ∧ full0.transcriptLen < full0.transcriptCap) ∧
      ({ plainRow with sample := false } : RowRec).sample = false ∧
      (cutTokens { full0 with stopToken := 0x80000009 } [9] = [9] ∧ bit 0x80000009 31 = true ∧ 0x80000009 % 16777216 = 9) ∧
      ({ full0 with maxGen := 1 } : Entry).maxGen ≤ full0.genCount + 1 ∧ ({ full0 with transcriptCap := 4 } : Entry).transcriptCap ≤ 3 + 1) ∧
    ((truncTokens 2 [(true, 5), (true, 6), (false, 7)]).2 ≠ [] ∧ ({ full0.flags with inputOpen := true } : EntryFlags).inputOpen = true ∧
      appendState .decode = true ∧ 0 < full0.transcriptLen ∧ ([5] : List Nat) ≠ [] ∧
      ({ full0 with transcriptCap := 4 } : Entry).transcriptCap ≤ full0.transcriptLen + 1) ∧
    (5 < ({ full0 with state := .siding, sidingExpiry := 6 } : Entry).sidingExpiry ∧
      ({ full0 with state := .siding, sidingExpiry := 6 } : Entry).sidingExpiry ≤ 7 ∧ 0 ∉ (ended full0 [] []).work.all ∧
      (0x100000, 5) ∈ [(0x100000, 5)] ∧ (ended full0 [] []).byHandle 0x100000 = some (0, full0) ∧ lossState .decode = true ∧
      (ended full0 [] []).region 0 = some { region0 with tokens := [(true, 5), (true, 6), (true, 7)] }) := by
  refine ⟨⟨⟨by decide, by decide, _, rfl, by decide⟩, ?_⟩, ?_, ?_, ?_, ?_⟩
  all_goals and_intros <;> decide

/-- Page 7 of tier 0 and its node 3, with a free page, a free node and a page of tier 1. -/
def paged (n : Node) (d : PageDesc) : Block :=
  { ended { full0 with committedLen := 256 } [] [] with
    pg := { inStep.pg with desc := [(7, d)], nodes := [(3, n)], buckets := [(n.bucket, [3])], freeNodes := [(4, 2)]
                           stack0 := [(8, 2)], stack1 := [(0, 4)], stack2 := [] } }

def pnode : Node := { (default : Node) with page := 7, key := blockKey [], bucket := bucketOf (blockKey []) 0 65536, parent := none }

def pagedOk : Block := paged pnode { node := some 3, sharers := 1 }

theorem test_meets_JunctionsMovePages :
    (pagedOk.PagesOk ∧ (pagedOk.popPage 0).map (·.1) = some 8 ∧ (pagedOk.popPage 1).map (·.1) = some (pageOf 1 0) ∧
      ((pagedOk.desc 9).node = none ∧ (pagedOk.desc 9).movePending = false ∧ (pagedOk.desc 9).sharers ≤ 1) ∧
      pagedOk.allowed (pagedOk.ent 0) true = true ∧ ((pagedOk.allocPage 0 true).map (·.1)) = some 8) ∧
    ((paged pnode { node := some 3, sharers := 0 }).PagesOk ∧ (paged pnode { node := some 3, sharers := 0 }).unreferenced pnode = true ∧
      ((paged pnode { node := some 3, sharers := 0 }).desc pnode.page).movePending = false) ∧
    (pagedOk.byHandle 0x100000 = some (0, { full0 with committedLen := 256 }) ∧ [3].Nodup ∧ ([3].map pagedOk.node?).all Option.isSome = true ∧
      (([3].filterMap pagedOk.node?).map (·.page)).Nodup) ∧
    ((pagedOk.ent 0).sharedPages = 0 ∧ pagedOk.pageTokens = 256 ∧ (0 + 1) * 256 ≤ (pagedOk.ent 0).committedLen ∧ 0 < (pagedOk.ent 0).pages.length ∧ tierOf 7 = 0 ∧
      pagedOk.scope ≠ 1 ∧ live.committedLen < (0 + 1) * 256 ∧
      (paged { pnode with page := 5 } {}).findNode (pagedOk.ent 0) none 0 (blockKey []) (bucketOf (blockKey []) 0 pagedOk.rhizomeNodes) [] = some 3 ∧
      ({ pnode with page := 5 } : Node).page ≠ 7 ∧
      ((paged { pnode with page := 5 } {}).desc 7).node = none ∧ ((paged { pnode with page := 5 } {}).desc 7).sharers ≤ 1 ∧
      (paged { pnode with key := 1 } {}).findNode (pagedOk.ent 0) none 0 (blockKey []) (bucketOf (blockKey []) 0 pagedOk.rhizomeNodes) [] = none ∧
      Runs.head? pagedOk.pg.freeNodes = some 4 ∧ Runs.head? ([] : Runs) = none) ∧
    (0 < (pagedOk.ent 0).pages.length ∧ 0 < (pagedOk.ent 0).committedLen - 0 * 256 ∧ (pagedOk.ent 0).committedLen - 1 * 256 = 0) ∧
    ([9].Nodup ∧ tierOf 9 = 0 ∧ (pagedOk.ent 0).pages.getD 0 0 ≠ pageOf 1 0) ∧
    (({ pagedOk with pg := { pagedOk.pg with moves := [{ seq := 1, src := 9, dst := pageOf 1 0, handle := 0, back := false }] } } : Block).PagesOk ∧
      9 ≠ pageOf 1 0 ∧ (pagedOk.desc 10).sharers = 0 ∧ (pagedOk.desc 10).node = none ∧ tierOf 9 ≠ tierOf (pageOf 1 0)) := by
  unfold Block.PagesOk
  and_intros
  all_goals first | decide | (intro t x h; match t with
    | 0 => revert x; decide
    | 1 => revert x; decide
    | _ + 2 => cases h)

/-- A class whose ceiling is 2, of share mode RATIO. -/
def class0 : ClassState := { (default : ClassState) with cfg := { (default : ClassCfg) with mode := 1, ceiling := 0 } }

theorem test_meets_JunctionsChargeThePolicy :
    (activeState .done = false ∧ activeState .decode = true ∧
      (serving.cls (classOf 32)).cfg.ceiling ≤ baseLevel 32 ∧ ({ live with deadlineMode := 1 } : Entry).deadlineMode ≠ 0 ∧
      (5 : Nat) < 2 ^ 62 ∧ 5 + 2 * serving.cp.stepEst < 2 ^ 62) ∧
    (({ live with deadlineMode := 2, nextDeadline := 4 } : Entry).nextDeadline < 5 ∧ ({ live with deadlineMode := 1 } : Entry).deadlinesMissed = 0 ∧
      ((withLive serving).side 0).ended = false ∧ 2 ≤ freeEvents { live with eventRing := 4 }) ∧
    (4 ≤ ({ live with nextDeadline := 4 } : Entry).nextDeadline ∧ ({ live with nextDeadline := 4 } : Entry).nextDeadline < 5 ∧ 0 < 1) ∧
    ((withLive serving).byHandle row0.handle = some (0, live) ∧ (row0.kind = 2 ∧ ({ row0 with kind := 1 } : RowRec).rebuild = false) ∧
      ({ live.flags with voiceReserve := true } : EntryFlags).voiceReserve = true ∧ (serving.tenant 0).gen ≤ 0 ∧
      genUnlimited { (serving.tenant 0).cfg with flags := 0 } = false) ∧
    (Tab.get? 0 [(0, serving.tenant 0)] = some (serving.tenant 0) ∧ serving.pol.classes[0]?.isSome = true ∧ class0.cfg.mode = 1 ∧ 0 < 8) := by
  and_intros <;> decide

theorem test_meets_SelectionKeepsTheLargest :
    ([(5, 0)] : List (Nat × Nat)).length < 2 ∧ 2 ≤ 512 ∧ (([(5, 0)] : List (Nat × Nat)).map (·.2)).Nodup ∧ (∀ x ∈ ([(5, 0)] : List (Nat × Nat)), x.1 < 2 ^ 32) ∧
    (rankSort [(5, 0)])[1 - 1]? = some (5, 0) ∧ (([(infKey, 0)] : List (Nat × Nat)).any fun e => e.1 == infKey) = true ∧
    (([(5, 0)] : List (Nat × Nat)).any fun e => e.1 == infKey) = false := by
  and_intros <;> first | decide | simp [rankSort]

def one0 : PartialResult := { part0 with returned := 1, entries := [(0x80000000, 3)], validCount := 1 }

theorem test_meets_MergesKeepEachIndexOnce :
    ((([(0, 0, one0), (1, 0, one0)] : List (Nat × Nat × PartialResult)).map (·.1)).Pairwise (· < ·) ∧
      (∀ u ∈ ([(0, 0, one0), (1, 0, one0)] : List (Nat × Nat × PartialResult)), ((partialReal u.2.2).map (·.2)).Nodup) ∧
      (([(0, 0, one0)].flatMap fun u => partialReal u.2.2).find? fun x => x.2 == 3) = some (0x80000000, 3)) ∧
    ((mergeRow { (default : Sampling) with topK := 1 } 0 5 [] []).1.returned = 0 ∧
      (mergeRow { (default : Sampling) with topK := 1 } 0 5 [(0, 0, one0)] [0]).1.returned = 1 ∧
      (mergeRow { (default : Sampling) with topK := 1 } 0 5 [(0, 0, one0)] [0]).1.flags.inf = false) := by
  and_intros <;> first | decide | (simp [mergeRow, rankSort] <;> decide)

def drawn0 : Sampling := { (default : Sampling) with topK := 1, topP := 0x3F800000#32, temperature := 0x3F800000#32 }

theorem test_meets_TokensAreDrawnFromTheKeptSet :
    (one0.flags.inf = false ∧ ({ one0.flags with inf := true } : ResultFlags).inf = true ∧ keptSet drawn0 one0 = [(3, F.one)] ∧
      drawn0.topP = F.one ∧ (0x3F000000#32 : F32) ≠ F.one) ∧
    (bit drawn0.sampleMode 0 = false ∧ bit 1 0 = true ∧ verifyMode drawn0 ≠ 1 ∧ verifyMode { drawn0 with sampleMode := 2 } = 1 ∧
      noTokenCause one0.flags = none ∧ noTokenCause { one0.flags with empty := true } = some 1) ∧
    (inStep.byHandle row0.handle = some (0, live) ∧ row0.kind ≤ 2 ∧ ((keptSet drawn0 one0).map (·.1)).Nodup ∧ 0 < 1 ∧
      (keptSet drawn0 one0)[inverseCdf ((keptSet drawn0 one0).map (·.2)) (drawU 0 3 0 1)]? = some (3, F.one)) ∧
    (F.lt (F.mul 0x3F000000#32 F.one) (F.add F.zero F.one) = true ∧ F.lt (F.mul 0x3F000000#32 F.zero) F.zero = false) := by
  and_intros <;> decide

/-- A row of a tree's root, with its final list. -/
def treeRow : RowRec := { row0 with kind := 3, treeNode := 0 }

def nodeT (token : Option Nat) : TreeNode := { depth := 1, parent := 0, sibling := 0, inplace := true, spine := true, token, void := false, q := F.one, scratch := none }

def rootT : TreeNode := { depth := 0, parent := 0, sibling := 0, inplace := true, spine := true, token := none, void := false, q := F.one, scratch := none }

def tree0 : Tree := { (default : Tree) with handle := 0x100000, rootPos := 2, nodes := [rootT, nodeT (some 3)], walked := false }

def treeing : Block :=
  { inStep with
    cp := { inStep.cp with prevLog := some { log5 with consist := { log5.consist with rows := [treeRow] } } }
    gln := { inStep.gln with rows := [(0, { (default : GleanRow) with final := some one0 })] }, trees := [tree0] }

theorem test_meets_TreesAreVerified :
    (treeing.finalOf ((treeing.rowsWhere fun r => r.handle == tree0.handle && r.kind == 3 && r.treeNode % 128 == 0).headD 0) = some one0 ∧
      noTokenCause one0.flags = none ∧ noTokenCause { one0.flags with empty := true } = some 1) ∧
    ((((List.range 2).zip tree0.nodes).filter fun n => n.2.parent == 0 && !n.2.void && n.1 != 0) = [(1, nodeT (some 3))] ∧
      (((List.range 1).zip [rootT]).filter fun n => n.2.parent == 0 && !n.2.void && n.1 != 0) = [] ∧
      (bit 1 0 || verifyMode { drawn0 with sampleMode := 1 } == 1) = true ∧
      (bit drawn0.sampleMode 0 || verifyMode drawn0 == 1) = false ∧
      ([(1, nodeT (some 3))].find? fun k => k.2.token == some 3) = some (1, nodeT (some 3)) ∧
      (∀ k ∈ [(1, nodeT (some 4))], k.2.token ≠ some 3) ∧
      stochastic 0 2 [] [(3, F.one)] [] = .inr [(3, F.one)] ∧
      stochastic 0 2 [(1, nodeT (some 3))] [(3, F.one)] [] = .inl 1 ∧
      F.lt (F.mul (drawU 0 3 64 0) F.zero) F.one = true ∧ F.lt (F.mul (drawU 0 3 64 0) F.one) F.zero = false ∧
      F.eq (([3].map fun _ => max0 (F.sub F.one F.one)).foldl F.add F.zero) F.zero = true ∧
      F.eq (([3].map fun _ => max0 (F.sub F.one F.zero)).foldl F.add F.zero) F.zero = false) ∧
    ((treeing.trees.findIdx? fun t => t.handle == 0x100000) = some 0 ∧ treeing.trees[0]? = some tree0 ∧
      treeing.byHandle 0x100000 = some (0, live) ∧ tree0.walked = false ∧
      (treeing.rowsWhere fun r => r.handle == 0x100000 && r.kind == 3) = [0] ∧ (treeing.finalOf 0).isSome = true) ∧
    (8 ≤ min 255 (({ live with zeroAcceptRun := 7 } : Entry).zeroAcceptRun + 1) ∧ min 255 (live.zeroAcceptRun + 1) < 8) := by
  and_intros <;> decide

/-- One rail enabled, with samples. -/
def sampled (hard : Bool) (ss : List Nat) : Block := railed (fun r => { r with hard, samples := ss }) fw

theorem test_meets_TicksMoveTheRails :
    (enabledRails (sampled false []) = [0] ∧ (sampled false []).pwr.pendingCfg = [] ∧ (sampled false []).pwr.touched = [] ∧
      (sampled false []).pwr.state = .normal ∧ (sampled false []).pwr.deadline = none ∧ (sampled false []).pwr.rails.length = 16) ∧
    (((sampled false [200, 200, 200]).rail 0).hard = false ∧ 4 * rail0.hardLimit < ((200 :: [200, 200, 200]).take 4).sum ∧
      4 * rail0.hardRelease * rail0.hardLimit < ((200 :: [200, 200, 200]).take 4).sum * 1000 ∧ ((sampled true [200, 200, 200]).rail 0).hard = true) ∧
    (fw.running = false ∧ (powered fw).pwr.configured = true ∧ fw.sb.safe = false ∧ (fw.group 0).rail = 0 ∧ 0 < 16 ∧
      ((sampled false []).rail 0).cfg.enable = true) := by
  and_intros <;> decide

/-! ### Values that the manual's examples give -/

/-- 00_scope.md: the handle 0x0030_1A2F is slot 6,703 under tag 3. -/
theorem test_handle : slotOf 0x00301A2F = 6703 ∧ tagOf 0x00301A2F = 3 ∧ slotOf 0x00401A2F = 6703 := by decide

/-- 03_consist_composition.md: a region for 131,072 positions takes 129 granules, and 126 granules hold 128,960 positions. -/
theorem test_region : regionGranules 131072 = 129 ∧ regionGranules 128960 = 126 ∧ regionGranules 128961 = 127 := by decide

/-- 03_consist_composition.md: the slack of the voice request at junctions j and j + 1. -/
theorem test_slack : slackOf { (default : Entry) with nextDeadline := 6666667 } 0 1600000 = 3466667 ∧
    slackOf { (default : Entry) with nextDeadline := 6666667 } 1600000 1600000 = 1866667 := by decide

/-- 07_glean.md: a difference of one bfloat16 ulp, 20.0 against 20.125, is no mismatch; 20.25 is one. -/
theorem test_mismatch : mismatch 0 0x41A00000#32 0x41A10000#32 = false ∧ mismatch 0 0x41A00000#32 0x41A20000#32 = true := by decide

/-- 06_thresher.md: over weights 1.0, 0.3679 and 0.1353, u = 0.75 takes entry 1. -/
theorem test_draw : inverseCdf [0x3F800000#32, 0x3EBC5D64#32, 0x3E0A8CE7#32] 0x3F400000#32 = 1 := by decide

/-- 17_observability.md: the busy, stall and idle deltas of record A. -/
theorem test_deltas : sub32 0x0E10 0xFFFFF000 = 7696 ∧ sub32 0x1290 0x1200 = 144 ∧ sub32 0x40000 0x40000 = 0 := by decide

/-- The check values of CRC-32C and CRC-32 over "123456789". -/
theorem test_crc : crc32c (ascii "123456789") = 0xE3069283 ∧ crc32 (ascii "123456789") = 0xCBF43926 := by decide

/-! ### One step -/

/-- R473: with nothing in flash the boot ROM ends in recovery. -/
theorem test_boot_blank : ((st held).blk.bootSelect 4).2 = none := by decide

/-- Table 13-1, R349: an access of agent 3 is DENIED, and one to the secure part from a non-secure agent. -/
theorem test_denied : accessStatus (acc 3) 0 true = 1 ∧ accessStatus { acc 8 with secure := false } 0x40000 false = 1 := by decide

/-- R60, R28: the first admission of slot 0 carries tag 1, so handle 0x0010_0000. -/
theorem test_first_handle : (Tab.getD 0 0 b0.gr.tags + 1) % 4096 * 1048576 + 0 = 0x100000 ∧ serving.slotFor = some 0 := by decide

/-- No word spells a command: the table gives its rows no bits. -/
theorem test_no_words : decodeTableWord 32 0 = none ∧ State.withFetchWord State.reset 32 0 = State.reset := by decide

end Sys2Proof.Tests
end

section
/-! Device memory and little-endian fields (R6): what a written block reads, byte by byte, as a block and as a number. -/

namespace Sys2Proof.Machine
open Sys2Proof

theorem memRead_memWriteN {m : Memory} {a c : Nat} {bs : List Byte} (h : Memory.wf m = true) :
    memRead (memWriteN m a bs) c = if a ≤ c ∧ c < a + bs.length then bs.getD (c - a) 0 else memRead m c := by
  induction bs generalizing m a with
  | nil => simp [memWriteN]
  | cons b bs ih =>
    rw [memWriteN, ih (memWrite_wf h), memRead_memWrite h]
    by_cases hc : c = a
    · subst hc; simp
    · by_cases hr : a + 1 ≤ c ∧ c < a + 1 + bs.length
      · obtain ⟨k, rfl⟩ : ∃ k, c = a + 1 + k := ⟨c - (a + 1), by omega⟩
        have hk : a + 1 + k - a = k + 1 := by omega
        rw [if_pos hr, if_pos (by simp; omega), hk]
        simp
      · rw [if_neg hr, if_neg hc, if_neg (by simp; omega)]

theorem memReadN_memWriteN_same {m : Memory} {a : Nat} {bs : List Byte} (h : Memory.wf m = true) :
    memReadN (memWriteN m a bs) a bs.length = bs := by
  refine List.ext_getElem (by simp [memReadN]) fun i hi hb => ?_
  simp [memReadN, memRead_memWriteN h, hb]

@[simp] theorem le_length (n v : Nat) : (le n v).length = n := by
  induction n generalizing v with
  | zero => rfl
  | succ n ih => simp [le, ih]

/-- R6: n bytes of a number spell it modulo 256^n. -/
theorem ofLe_le (n v : Nat) : ofLe (le n v) = v % 256 ^ n := by
  induction n generalizing v with
  | zero => simp [le, ofLe, Nat.mod_one]
  | succ n ih =>
    have hb : (byteOf v).toNat = v % 256 := BitVec.toNat_ofNat v 8
    rw [le, ofLe, hb, ih, Nat.pow_succ', Nat.mod_mul]

theorem memReadLe_memWriteN_le {m : Memory} {a n v : Nat} (h : Memory.wf m = true) :
    memReadLe (memWriteN m a (le n v)) a n = v % 256 ^ n := by
  have hread : memReadN (memWriteN m a (le n v)) a n = le n v := by
    simpa using memReadN_memWriteN_same (a := a) (bs := le n v) h
  rw [memReadLe, hread, ofLe_le]

/-- Settles O7: the bytes read are those written by induction on the block, and a field is its bytes read back as a block. -/
theorem memoryBytesReadBack : Obligations.MemoryBytesReadBack :=
  ⟨fun _ _ _ _ h => ⟨memWriteN_wf h, memRead_memWriteN h⟩, fun _ _ _ _ h => memReadLe_memWriteN_le h⟩

end Sys2Proof.Machine
end

section
/-! The status registers of chapters 17 to 19: where each lies among the offsets of the aperture, and what an 8-byte write does. -/

namespace Sys2Proof.Machine
open Sys2Proof

/-! ### Which register an offset names (Tables 17-9, 18-2, 19-2 to 19-9) -/

section
variable (b : Block) (a : HAccess) (v : Nat)

theorem writeAt_groupEvent : b.writeAt a 0x40000 v = b.writeGroupEvent a v := rfl
theorem writeAt_sticky : b.writeAt a 0x41030 v = b.writeSticky a v := rfl
theorem writeAt_counterSnap : b.writeAt a 0x4C100 v = b.counterSnap a v := rfl
theorem writeAt_groupSetup : b.writeAt a 0x4D000 v = b.writeGroupSetup a v := rfl
theorem writeAt_obsBase : b.writeAt a 0x4C008 v = b.writeObsBase a v := rfl

end

/-! ### An 8-byte write carries the whole value (R487) -/

theorem lowHalf_size8 {a : HAccess} (h : a.size8 = true) : lowHalf a = true := by simp [lowHalf, h]

theorem mergeWrite_size8 {a : HAccess} {v : Nat} (h : a.size8 = true) (hv : v < 18446744073709551616) (old : Nat) :
    mergeWrite a old v = v := by
  simp [mergeWrite, h, Nat.mod_eq_of_lt hv]

section
variable {b : Block} {a : HAccess} {v : Nat}

theorem writeGroupEvent_size8 (h : a.size8 = true) : b.writeGroupEvent a v =
    { b with cp := { b.cp with leadEvent := b.cleared (w1cGroup 0) b.cp.leadEvent (bit v 0) }
             flt := { b.flt with stopEvent := b.cleared (w1cGroup 1) b.flt.stopEvent (bit v 1) } } := by
  simp [Block.writeGroupEvent, lowHalf_size8 h]

theorem writeSticky_size8 (h : a.size8 = true) (hv : v < 18446744073709551616) : b.writeSticky a v =
    { b with flt := { b.flt with
        sticky := ofBools ((List.range 9).map fun i => b.cleared (w1cSticky i) (bit b.flt.sticky i) (bit v i)) } } := by
  simp only [Block.writeSticky, carried, mergeWrite_size8 h hv]

theorem counterSnap_size8 (h : a.size8 = true) (hv : bit v 0 = true) : b.counterSnap a v =
    { b with obs := { b.obs with snapped := (List.range 35).map fun i => (i, b.unitCounter i) }
             ap := { b.ap with snapTime := b.now } } := by
  simp [Block.counterSnap, lowHalf_size8 h, hv]

theorem writeGroupSetup_taken (h : a.size8 = true) (ha : a.agent = 2) (hf : b.cp.fresh = true) (hs : b.cp.state = .forming) :
    b.writeGroupSetup a v = { b with cp := { b.cp with n := bits v 25 16, rank := bits v 8 0 } } := by
  simp [Block.writeGroupSetup, lowHalf_size8 h, ha, hf, hs]

theorem writeGroupSetup_ignored (h : a.agent ≠ 2 ∨ b.cp.fresh = false ∨ b.cp.state ≠ .forming) :
    b.writeGroupSetup a v = b.logAccess 0x4D000 a.agent 477 := by
  rcases h with h | h | h <;> simp [Block.writeGroupSetup, h]

theorem writeObsBase_idle (h : a.size8 = true) (hv : v < 18446744073709551616) (hm : b.mdl.active = []) :
    b.writeObsBase a v = { b with obs := { b.obs with base := v / 4096 * 4096 } } := by
  simp [Block.writeObsBase, hm, mergeWrite_size8 h hv]

theorem writeObsBase_active (hm : b.mdl.active ≠ []) : b.writeObsBase a v = b.logAccess 0x4C008 a.agent 460 := by
  simp [Block.writeObsBase, hm]

end

/-! ### The commands -/

section
variable {x : State} {t : Time} {a : HAccess} {v : Nat}

theorem exec_groupEventClear_ok (h : x.Writes t a 0x40000) : exec (.groupEventClear t a v) x =
    .next (x.settled (x.blk.atTime t) (((x.asked t a).writeGroupEvent a v).answered (writeBeat 0))) := by
  rw [exec_groupEventClear, registerWrite_ok h rfl (by decide), writeAt_groupEvent]

theorem exec_registerWrite_sticky_ok (h : x.Writes t a 0x41030) : exec (.registerWrite t a 0x41030 v) x =
    .next (x.settled (x.blk.atTime t) (((x.asked t a).writeSticky a v).answered (writeBeat 0))) := by
  rw [exec_registerWrite, registerWrite_ok h rfl (by decide), writeAt_sticky]

theorem exec_counterSnap_ok (h : x.Writes t a 0x4C100) : exec (.counterSnap t a v) x =
    .next (x.settled (x.blk.atTime t) (((x.asked t a).counterSnap a v).answered (writeBeat 0))) := by
  rw [exec_counterSnap, registerWrite_ok h rfl (by decide), writeAt_counterSnap]

theorem exec_groupSetupWrite_ok (h : x.Writes t a 0x4D000) : exec (.groupSetupWrite t a v) x =
    .next (x.settled (x.blk.atTime t) (((x.asked t a).writeGroupSetup a v).answered (writeBeat 0))) := by
  rw [exec_groupSetupWrite, registerWrite_ok h rfl (by decide), writeAt_groupSetup]

theorem exec_obsBaseWrite_ok (h : x.Writes t a 0x4C008) : exec (.obsBaseWrite t a v) x =
    .next (x.settled (x.blk.atTime t) (((x.asked t a).writeObsBase a v).answered (writeBeat 0))) := by
  rw [exec_obsBaseWrite, registerWrite_ok h rfl (by decide), writeAt_obsBase]

end

/-- Settles O13: each command is an OKAY write of its own register, and the register takes the whole 8 bytes. -/
theorem statusRegistersTakeWrites : Obligations.StatusRegistersTakeWrites := by
  intro x t a v h8 hv b
  refine ⟨fun h => ?_, fun h => ?_, fun h hb => ?_, fun h ha hf hs => ?_, fun h hi => ?_, fun h hm => ?_, fun h hm => ?_⟩
  · rw [exec_groupEventClear_ok h, writeGroupEvent_size8 h8]
  · rw [exec_registerWrite_sticky_ok h, writeSticky_size8 h8 hv]
  · rw [exec_counterSnap_ok h, counterSnap_size8 h8 hb]
  · rw [exec_groupSetupWrite_ok h, writeGroupSetup_taken h8 ha hf hs]
  · rw [exec_groupSetupWrite_ok h, writeGroupSetup_ignored hi]
  · rw [exec_obsBaseWrite_ok h, writeObsBase_idle h8 hv hm]
  · rw [exec_obsBaseWrite_ok h, writeObsBase_active hm]

end Sys2Proof.Machine
end

section
/-! The model, strain, tenant, class, maintenance and dump commands (Tables 11-12 to 11-17): each as what its session's packet
carries, and what it does to the block, one equation a case. -/

namespace Sys2Proof.Machine
open Sys2Proof

/-! ### The record of a current command (Table 11-6) -/

theorem recordOf_current {b : Block} {s : Nat} {c : Current} (h : (b.session s).current = some c) (p : Params) (v : Nat) (r : RecResult) :
    b.recordOf s p v r =
      { session := s, acceptTime := b.now, assigned := v, params := p, result := r, rsvd := c.pkt.rsvd.drop 32 } := by
  simp [Block.recordOf, h]

/-- Acceptance enters the record at the junction that R289 gives. -/
theorem accept_unnamed (b : Block) (s : Nat) (p : Params) (v : Nat) (r : RecResult) :
    b.accept s p none v r =
      let c := b.recordOf s p v r
      let j := b.effectiveFor c
      ({ b with seq := { b.seq with cmds := b.seq.cmds ++ [{ junction := j, cmd := c, size := (cmdRecordBytes c).length }] } }, j) := rfl

/-- A read that is asked for changes neither the record of a command nor the junction that it takes. -/
theorem ask_recordOf (b : Block) (st a n : Nat) (u : MemRead) (s : Nat) (p : Params) (v : Nat) (r : RecResult) :
    (b.ask st a n u).recordOf s p v r = b.recordOf s p v r := rfl

theorem ask_roomFrom (b : Block) (st a n : Nat) (u : MemRead) (c : CmdRecord) (d : List TicketRec) (k j : Nat) :
    (b.ask st a n u).roomFrom c d k j = b.roomFrom c d k j := by
  induction k generalizing j with
  | zero => rfl
  | succ k ih =>
    have hfits : (b.ask st a n u).fitsLog j c d = b.fitsLog j c d := rfl
    rw [Block.roomFrom, Block.roomFrom, hfits, ih]

theorem ask_effectiveFor (b : Block) (st a n : Nat) (u : MemRead) (c : CmdRecord) :
    (b.ask st a n u).effectiveFor c = b.effectiveFor c := ask_roomFrom ..

/-! ### A carried command acts with the parameters of its packet -/

section
variable {x : State} {t s : Nat} {c : Current} (h : x.Carries t s c)
include h

theorem carries_current : ((x.blk.atTime t).session s).current = some c := by
  obtain ⟨_, hc, _⟩ := h
  exact hc

theorem exec_modelStage_carries {p : StageParams} (hp : c.pkt.params = .modelStage p) :
    exec (.modelStage t s) x = .next (x.settled (x.blk.atTime t) ((x.blk.atTime t).modelStage x.view s p)) := by
  rw [exec_modelStage, command_carries h (by rw [hp])]

theorem exec_modelQuery_carries {d : Nat} (hp : c.pkt.params = .modelQuery d) :
    exec (.modelQuery t s) x = .next (x.settled (x.blk.atTime t) ((x.blk.atTime t).modelQuery s d)) := by
  rw [exec_modelQuery, command_carries h (by rw [hp])]

theorem exec_tenantConfig_carries {i : Nat} {k : TenantCfg} (hp : c.pkt.params = .tenantConfig i k) :
    exec (.tenantConfig t s) x = .next (x.settled (x.blk.atTime t) ((x.blk.atTime t).tenantConfig s i k)) := by
  rw [exec_tenantConfig, command_carries h (by rw [hp])]

theorem exec_classConfig_carries {i : Nat} {k : ClassCfg} (hp : c.pkt.params = .classConfig i k) :
    exec (.classConfig t s) x = .next (x.settled (x.blk.atTime t) ((x.blk.atTime t).classConfig s i k)) := by
  rw [exec_classConfig, command_carries h (by rw [hp])]

theorem exec_maintWindow_carries {n : Nat} {ls : List Nat} (hp : c.pkt.params = .maintWindow n ls) :
    exec (.maintWindow t s) x = .next (x.settled (x.blk.atTime t) ((x.blk.atTime t).maintWindow s n ls)) := by
  rw [exec_maintWindow, command_carries h (by rw [hp])]

theorem exec_tensorDump_carries {l o hd step a n : Nat} (hp : c.pkt.params = .tensorDump l o hd step a n) :
    exec (.tensorDump t s) x = .next (x.settled (x.blk.atTime t) ((x.blk.atTime t).tensorDump s l o hd step a n)) := by
  rw [exec_tensorDump, command_carries h (by rw [hp])]

theorem exec_strainLoad_carries {d strain size crc off : Nat} (hp : c.pkt.params = .strainLoad d strain size crc off) :
    exec (.strainLoad t s) x =
      .next (x.settled (x.blk.atTime t) ((x.blk.atTime t).strainLoad x.view s d strain size crc off)) := by
  rw [exec_strainLoad, command_carries h (by rw [hp])]

theorem exec_strainDrop_carries {d strain v : Nat} (hp : c.pkt.params = .strainDrop d strain v) :
    exec (.strainDrop t s) x = .next (x.settled (x.blk.atTime t) ((x.blk.atTime t).strainDrop s d strain v)) := by
  rw [exec_strainDrop, command_carries h (by rw [hp])]

end

/-! ### MODEL_STAGE and MODEL_QUERY (R301, R306) -/

section
variable {b : Block} {m : Memory} {s d : Nat} {p : StageParams}

theorem modelStage_shardCount_refused (hd : p.descriptor % 16 ≤ 3) (hc : p.shardCount = 0 ∨ 64 < p.shardCount) :
    b.modelStage m s p = b.reply s 0x010A (le 4 noDetail) := by
  simp [Block.modelStage, Nat.not_lt.2 hd, hc]

theorem modelStage_sound (hd : p.descriptor % 16 ≤ 3) (h0 : 0 < p.shardCount) (h64 : p.shardCount ≤ 64)
    (ht : p.treeBase % 64 = 0) (hf : b.stageFault m p = none) :
    b.modelStage m s p =
      ({ b.readStage m p with mdl := { b.mdl with staged := Tab.set (p.descriptor % 16) p b.mdl.staged } } : Block).reply s 0 := by
  simp [Block.modelStage, Nat.not_lt.2 hd, Nat.pos_iff_ne_zero.1 h0, Nat.not_lt.2 h64, ht, hf]

theorem modelStage_faulty {status detail : Nat} (hd : p.descriptor % 16 ≤ 3) (h0 : 0 < p.shardCount) (h64 : p.shardCount ≤ 64)
    (ht : p.treeBase % 64 = 0) (hf : b.stageFault m p = some (status, detail)) :
    b.modelStage m s p = (b.readStage m p).reply s status (le 4 detail) := by
  simp [Block.modelStage, Nat.not_lt.2 hd, Nat.pos_iff_ne_zero.1 h0, Nat.not_lt.2 h64, ht, hf]

theorem modelQuery_inactive (hd : d ≤ 3) (hm : Tab.get? d b.mdl.active = none) : b.modelQuery s d = b.reply s 0 (zeros 64) := by
  simp [Block.modelQuery, Nat.not_lt.2 hd, hm]

/-- The bases of the five structures of a descriptor's group in device memory, as MODEL_QUERY gives them (log entry 10). -/
def structBases (b : Block) : List Byte :=
  le 8 (Config.structBase 0 b.ctlBase) ++ le 8 (Config.structBase 1 b.ctlBase) ++ le 8 (Config.structBase 2 b.ctlBase) ++
    le 8 (Config.structBase 3 b.ctlBase) ++ le 8 (Config.structBase 4 b.ctlBase)

theorem structBases_length (b : Block) : (structBases b).length = 40 := by simp [structBases]

theorem modelQuery_active {x : Descriptor} (hd : d ≤ 3) (hm : Tab.get? d b.mdl.active = some x) :
    b.modelQuery s d = b.reply s 0 (le 1 1 ++ le 1 (x.load.loadFlags % 64) ++ zeros 2 ++ le 4 ((b.mdl.template.map (·.id)).getD 0) ++
      le 4 b.mdl.maxLive ++ le 4 b.mdl.maxContext ++ le 4 b.mdl.n0 ++ le 4 x.epoch ++ structBases b) := by
  simp [Block.modelQuery, Nat.not_lt.2 hd, hm, structBases]

end

/-! ### Configuration inside and outside its ranges (R76, R84, R312, R463) -/

section
variable {b : Block} {s i : Nat}

theorem tenantConfig_eq {k : TenantCfg} : b.tenantConfig s i k =
    if i < 4096 ∧ k.maxLive ≤ 32768 then b.acceptReply s (.tenantConfig i k) else b.reply s 0x0103 := by
  by_cases h : i < 4096 ∧ k.maxLive ≤ 32768
  · obtain ⟨hi, hk⟩ := h
    simp [Block.tenantConfig, hi, hk, Nat.not_le.2 hi, Nat.not_lt.2 hk]
  · have hbad : i ≥ 4096 ∨ k.maxLive > 32768 := by omega
    simp [Block.tenantConfig, h, hbad]

theorem tensorDump_eq {l o hd step a n : Nat} : b.tensorDump s l o hd step a n =
    if 32768 ≤ hd % 1048576 then b.reply s 0x0103
    else if b.openJ < step then b.acceptReply s (.tensorDump l o hd step a n) else b.reply s 0x010C := by
  by_cases h : b.openJ < step
  · simp [Block.tensorDump, slotOf, h, Nat.not_le.2 h]
  · simp [Block.tensorDump, slotOf, h, Nat.not_lt.1 h]

end

/-! ### Strains (R88, R89, R289, R308, R309) -/

section
variable {b : Block} {m : Memory} {s d strain size crc off v : Nat} {data : List Byte}

theorem strainLoad_size_refused (hd : d ≤ 3) (hs : strain < 8192) (hz : size = 0 ∨ 65536 < size) :
    b.strainLoad m s d strain size crc off = b.reply s 0x0104 := by
  simp [Block.strainLoad, Nat.not_lt.2 hd, Nat.not_le.2 hs, hz]

theorem strainLoad_tooLong (hd : d ≤ 3) (hs : strain < 8192) (h0 : 0 < size) (hz : size ≤ 65536) (ho : off + size ≤ 1048576)
    (hdata : memReadN m (b.mdl.stageBase + strainStage + off) size = data)
    (hf : b.fitsEmpty (b.recordOf s (.strainLoad d strain size crc off) 0 (.strainData data)) = false) :
    b.strainLoad m s d strain size crc off = b.reply s 0x0102 := by
  have hm : d % 16 = d := Nat.mod_eq_of_lt (by omega)
  simp [Block.strainLoad, strainStageSize, Nat.not_lt.2 hd, Nat.not_le.2 hs, Nat.pos_iff_ne_zero.1 h0, Nat.not_lt.2 hz,
    Nat.not_lt.2 ho, hm, hdata, hf]

/-- With no version of the strain held or on its way, and room in the pool, the bytes are read and enter the sequencer. -/
theorem strainLoad_entered (hd : d ≤ 3) (hs : strain < 8192) (h0 : 0 < size) (hz : size ≤ 65536) (ho : off + size ≤ 1048576)
    (hdata : memReadN m (b.mdl.stageBase + strainStage + off) size = data)
    (hf : b.fitsEmpty (b.recordOf s (.strainLoad d strain size crc off) 0 (.strainData data)) = true)
    (ha : Tab.has d b.mdl.active = true) (hv : b.pol.strains = []) (hl : b.openLoads = [])
    (hp : (lowestFit b.strainGranules (ceilDiv size 4096) []).isSome = true) :
    b.strainLoad m s d strain size crc off =
      let n := b.nextVersion d strain
      let r := (b.ask 61 (b.mdl.stageBase + strainStage + off) size .other).accept s (.strainLoad d strain size crc off) none n
        (.strainData data)
      r.1.defer s r.2 n := by
  have hm : d % 16 = d := Nat.mod_eq_of_lt (by omega)
  have hroom : (lowestFit b.strainGranules (ceilDiv size 4096) []).isNone = false := by simpa using hp
  simp [Block.strainLoad, strainStageSize, Nat.not_lt.2 hd, Nat.not_le.2 hs, Nat.pos_iff_ne_zero.1 h0, Nat.not_lt.2 hz,
    Nat.not_lt.2 ho, hm, hdata, hf, ha, hv, hl, hroom, Block.usedStrain, sortBy]

theorem strainDrop_absent (hd : d ≤ 3) (hs : strain < 8192) (hv : b.pol.strains = []) :
    b.strainDrop s d strain v = b.reply s 0x0402 := by
  simp [Block.strainDrop, Nat.not_lt.2 hd, Nat.not_le.2 hs, hv]

theorem strainDrop_ready {w : StrainVersion} (hd : d ≤ 3) (hs : strain < 8192) (hw : w ∈ b.pol.strains) (hwd : w.descriptor = d)
    (hws : w.strain = strain) (hwv : w.version = v) (hr : w.state = .ready) (hc : b.seq.cmds = []) :
    b.strainDrop s d strain v =
      if b.refsWithOpen d strain v = 0 then b.acceptReply s (.strainDrop d strain v) else b.reply s 0x0405 := by
  have hm : d % 16 = d := Nat.mod_eq_of_lt (by omega)
  have hready : (b.pol.strains.any fun u => u.descriptor == d && u.strain == strain && u.version == v && u.state == .ready) = true :=
    List.any_eq_true.2 ⟨w, hw, by simp [hwd, hws, hwv, hr]⟩
  simp only [Block.strainDrop, Nat.not_lt.2 hd, Nat.not_le.2 hs, hm, hready, hc, List.any_nil, gt_iff_lt, decide_false,
    Bool.not_true, Bool.or_self, Bool.false_eq_true, if_false]
  by_cases h0 : b.refsWithOpen d strain v = 0
  · simp [h0]
  · simp [h0, Nat.pos_of_ne_zero h0]

end

/-- Settles O25: each command acts with the parameters that its session carries, and each clause is the case of its equation. -/
theorem configurationAndStrainCommandsAreChecked : Obligations.ConfigurationAndStrainCommandsAreChecked := by
  refine ⟨fun x t s c h => ?_, fun x t s d strain c h hd hs => ?_⟩
  · intro b accepted
    refine ⟨fun p hp hd hc => ?_, fun p hp hd h0 h64 ht => ?_, fun d hp hd hm => ?_, fun d m hp hd hm => ?_,
      fun i k hp => ?_, fun i k hp => ?_, fun n ls hp => ?_, fun l o hd step a n hp => ?_⟩
    · rw [exec_modelStage_carries h hp, modelStage_shardCount_refused hd hc]
    · rw [exec_modelStage_carries h hp]
      cases hf : b.stageFault x.view p with
      | none => rw [modelStage_sound hd h0 h64 ht hf]
      | some f => rw [modelStage_faulty hd h0 h64 ht hf]
    · rw [exec_modelQuery_carries h hp, modelQuery_inactive hd hm]
    · exact ⟨structBases b, by rw [exec_modelQuery_carries h hp, modelQuery_active hd hm], structBases_length b⟩
    · rw [exec_tenantConfig_carries h hp, tenantConfig_eq, ← hp, apply_ite (x.settled b ·), apply_ite Host.Outcome.next]
    · rw [exec_classConfig_carries h hp, Block.classConfig, ← hp, apply_ite (x.settled b ·), apply_ite Host.Outcome.next]
    · rw [exec_maintWindow_carries h hp, Block.maintWindow, ← hp]
    · rw [exec_tensorDump_carries h hp, tensorDump_eq, ← hp]
      split_ifs <;> rfl
  · intro b
    refine ⟨fun size crc off hp h0 hz ho ha hv hl hr => ?_, fun size crc off hp hz => ?_,
      fun v w hp hw hwd hws hwv hwr hc => ?_, fun v hp hv => ?_⟩
    · intro n r j plain
      refine ⟨fun hf => ?_, fun hf => ?_⟩
      · rw [exec_strainLoad_carries h hp, strainLoad_tooLong hd hs h0 hz ho rfl hf]
      · have hcur : (b.session s).current = some c := carries_current h
        rw [exec_strainLoad_carries h hp, strainLoad_entered hd hs h0 hz ho rfl hf ha hv hl hr]
        simp only [accept_unnamed, ask_recordOf, ask_effectiveFor, recordOf_current hcur]
        rw [← hp]
        rfl
    · rw [exec_strainLoad_carries h hp, strainLoad_size_refused hd hs hz]
    · rw [exec_strainDrop_carries h hp, strainDrop_ready hd hs hw hwd hws hwv hwr hc, ← hp]
      split_ifs <;> rfl
    · rw [exec_strainDrop_carries h hp, strainDrop_absent hd hs hv]

end Sys2Proof.Machine
end

section
/-! Where nothing follows a command: each stage of what follows at once, and each stage of a command's end, leaves a block as it is that
gives it nothing to do (R16, R222). -/

namespace Sys2Proof.Machine
open Sys2Proof

/-! ### What follows at once -/

section
variable {b : Block}

theorem watchStage_unstaged (h : b.cp.staged = none) : b.watchStage = b := by simp [Block.watchStage, h]

theorem drainPorts_empty (h : b.thr.skid = []) : b.drainPorts = b := by simp [Block.drainPorts, h]

theorem closeMissing_stopped (h : b.running = false) : b.closeMissing = b := by simp [Block.closeMissing, h]

theorem mayWrite_stopped (h : b.running = false) : b.mayWrite = false := by simp [Block.mayWrite, h]

theorem writeTokens_stopped (h : b.running = false) : b.writeTokens = b := by simp [Block.writeTokens, mayWrite_stopped h]

theorem recordStep_stopped (h : b.running = false) : b.recordStep = b := by simp [Block.recordStep, h]

theorem startLeadTimer_stopped (h : b.running = false) : b.startLeadTimer = b := by simp [Block.startLeadTimer, h]

theorem endCollect_none (h : b.cp.collect = none) : b.endCollect = b := by simp [Block.endCollect, Block.collected, h]

/-- No barrier stands, and no more platforms are idle and eligible than a wave takes (R262). -/
theorem barrierMoment_none (h : b.pwr.barrier = none) (hn : b.idleEligible ≤ b.pwr.global.waveSize) : b.barrierMoment = b := by
  have hclear : { b with pwr := { b.pwr with barrier := none } } = b := by rw [← h]
  by_cases h0 : b.idleEligible = 0 <;> simp [Block.barrierMoment, h0, hn, hclear]

theorem nextPacket_empty (h : b.fab.queue = []) : b.nextPacket = none := by simp [Block.nextPacket, h]

theorem pumpAll_empty (h : b.fab.queue = []) : b.pumpAll = b := by simp [Block.pumpAll, Block.pump, nextPacket_empty h]

theorem followUp_quiet (h : b.Quiet) : b.followUp = b := by
  obtain ⟨hrun, hcollect, hstaged, hqueue, _, hskid, hbarrier, hwave⟩ := h
  simp only [Block.followUp, watchStage_unstaged hstaged, drainPorts_empty hskid, closeMissing_stopped hrun, writeTokens_stopped hrun,
    recordStep_stopped hrun, startLeadTimer_stopped hrun, endCollect_none hcollect, barrierMoment_none hbarrier hwave,
    pumpAll_empty hqueue, ite_self]

theorem settle_quiet (h : b.Quiet) (m : Memory) (n : Nat) : Block.settle m (n + 1) b = b := by
  have hfollow := followUp_quiet h
  obtain ⟨_, _, _, _, hself, _, _, _⟩ := h
  exact settle_done hfollow hself n

end

/-! ### The end of a command -/

section
variable {b before : Block}

theorem notePerturbed_same {p : Bool} (h : b.perturbed = p) : b.notePerturbed p = b := by simp [Block.notePerturbed, h]

theorem orderRecords_none_new {seen : Nat} (h : b.vlog.length ≤ seen) : b.orderRecords seen = b := by
  simp [Block.orderRecords, Nat.sub_eq_zero_of_le h, List.take_of_length_le h, sortBy]

theorem noteChanged_no_junction (h : b.cp.applied = before.cp.applied) (sec : Bool) : b.noteChanged before sec = b := by
  simp [Block.noteChanged, h]

theorem seeRecords_all_seen (h : b.sb.seen = b.vlog.length) (n : Nat) : Block.seeRecords n b = b := by
  cases n with
  | zero => rfl
  | succ n => simp [Block.seeRecords, h]

theorem firmware_of_fixed {k : Block → Block} (h : k b = b) : b.firmware k = b := by simp [Block.firmware, h]

theorem coresRun_untraced (h : bit b.obs.traceMask 10 = false) : b.coresRun = b := by simp [Block.coresRun, h]

theorem tracePower_same (h : b.powerTrace = before.powerTrace) : b.tracePower before = b := by simp [Block.tracePower, h]

theorem stageTraces_none (h : b.obs.traced = []) : b.stageTraces = b := by
  have hclear : { b with obs := { b.obs with traced := [] } } = b := by rw [← h]
  simp [Block.stageTraces, h, sortBy, hclear]

theorem flashStart_none_due (h : b.sb.queue = [] ∨ b.sb.flashBusy = true) : b.flashStart = b := by
  unfold Block.flashStart
  split
  · rfl
  · next hq =>
    obtain hnil | hbusy := h
    · rw [hq] at hnil; cases hnil
    · rw [if_pos hbusy]

/-- The end of a command that has changed nothing it looks at is the Memory Port's part alone. -/
theorem close_plain (h : b.Plain before) : b.close before = if b.sb.safe then b else b.memPump := by
  obtain ⟨hlog, hpower, htraced, hseen, hperturbed, happlied, hstop, hcores, hflash⟩ := h
  have hstopped : (b.cp.state == .bufferStop && before.cp.state != .bufferStop) = false := by
    by_cases hb : b.cp.state = .bufferStop
    · simp [hstop hb]
    · simp [hb]
  simp only [Block.close, notePerturbed_same hperturbed, orderRecords_none_new hlog, noteChanged_no_junction happlied, hstopped,
    Bool.false_eq_true, if_false, firmware_of_fixed (k := fun b => Block.seeRecords 4 b) (seeRecords_all_seen hseen 4),
    coresRun_untraced hcores, tracePower_same hpower, stageTraces_none htraced, flashStart_none_due hflash, ite_self]

end

/-- Settles O6: a quiet block settles as it is, and the end of a command leaves a plain one to the Memory Port. -/
theorem quietCommandLeavesItsOwnEffect : Obligations.QuietCommandLeavesItsOwnEffect := by
  intro s before b hquiet hplain c
  have hend : (Block.settle s.view 64 b).close before = c := by rw [settle_quiet hquiet, close_plain hplain]
  rw [State.settled, hend, State.commit]

end Sys2Proof.Machine
end

section
/-! Junctions in the step of a formation that ends without a group (R19, R223, R441): FORMATION_TIMEOUT of a fresh block sets the last
junction applied back to 0, and a block that runs may agree on junctions in what follows at once. -/

namespace Sys2Proof.Machine
open Sys2Proof

theorem pol_eq_of_committedState_eq {b c : Block} (h : b.committedState = c.committedState) : b.pol = c.pol :=
  congrArg (fun x => x.2.1) h

/-- The log of junction 1 in term 0: no records, and a consist without rows. -/
def emptyLog : JLog := { (default : JLog) with junction := 1 }

/-- The lead of a group of one, which runs after junction 1. The record of its fresh formation still stands, its FORM_COMMIT taken, and
the own copies of a LOG and of a READY for junction 1 of term 0 have not been taken yet. -/
def runningInFormation : Block :=
  { Block.reset with
    cp := { Block.reset.cp with state := .running, n := 1, applied := 1 }
    fab := { Block.reset.fab with selfIn := [.log emptyLog, .ready 1 0 0 0 0] }
    form := some { (default : Formation) with fresh := true, committed := true } }

/-- That block one second after its RECOVER, with FORMATION_TIMEOUT in front. -/
def timedOut : State := { State.reset with blk := runningInFormation, pending := [.formationTimeout 1000000000] }

/-- The block as FORMATION_TIMEOUT itself leaves it. -/
def withdrawn : Block := (runningInFormation.atTime 1000000000).formationTimeout

theorem timedOut_nextLogs : timedOut.blk.NextLogs := ⟨fun _ h => (nomatch h), fun _ h => (nomatch h)⟩

/-- The state after the step: what follows the timeout at once. -/
def agreedAgain : State := ({ timedOut with pending := [] } : State).settled (runningInFormation.atTime 1000000000) withdrawn

theorem step_timedOut : step timedOut = .next agreedAgain :=
  (exec_formationTimeout 1000000000 { timedOut with pending := [] }).trans (congrArg Host.Outcome.next (event_live rfl))

/-- The own copies are taken, and junction 1 is agreed a second time: its refill sets the tick of the policy (R85). -/
theorem agreedAgain_applies_one : agreedAgain.blk.cp.applied = 1 ∧ agreedAgain.blk.pol.tickValid = true := by decide +kernel

/-- Refutes O4: nothing in the statement keeps a block with a formation's record from being RUNNING. FORMATION_TIMEOUT of a fresh one
takes the last junction applied from 1 back to 0, and the own copies that wait bring it to 1 again in the same step: it is the one of
before, and a junction has changed the policy. RECOVER puts a block into FORMING with the record, and the first junction's completion
takes the record away, so that a run from reset is not expected to come to such a state; the statement speaks of every state. -/
theorem not_committedStateChangesAtJunctions : ¬ Obligations.CommittedStateChangesAtJunctions := by
  rintro ⟨-, h⟩
  obtain ⟨-, hkept⟩ := h timedOut agreedAgain step_timedOut timedOut_nextLogs
  obtain ⟨happlied, htick⟩ := agreedAgain_applies_one
  have hfront : ∀ i rest, timedOut.pending = i :: rest → isReset i = false ∧ isTestEntry i = false ∧ ∀ u k, i ≠ .recover u k := by
    rintro _ _ ⟨⟩
    exact ⟨rfl, rfl, fun _ _ h => nomatch h⟩
  have hcommitted : ∀ f, timedOut.blk.form = some f → f.committed = true := by
    rintro _ ⟨⟩
    rfl
  have hpolicy : agreedAgain.blk.pol = timedOut.blk.pol := pol_eq_of_committedState_eq (hkept hfront hcommitted happlied)
  rw [hpolicy] at htick
  exact absurd htick (by decide)

end Sys2Proof.Machine
end

section
/-! The reset state (R29, R278, R473), and the identity and capability registers (Table 19-2, R490). -/

namespace Sys2Proof.Machine
open Sys2Proof

theorem rail_reset (r : Nat) : State.reset.blk.rail r = railReset := 
  List.getD_eq_getElem?_getD.trans (List.getElem?_getD_replicate_default_eq railReset 16 r)

theorem inv_reset : State.reset.Inv := ⟨rfl, rfl, rfl⟩

/-- The first page of the aperture, which no mailbox and no lock reaches, holds the identity registers. -/
theorem readRegister_identity {off : Nat} (h : off < 0x1000) (b : Block) : b.readRegister off = Block.readIdentity off := by
  have hmail : mailAt off = none := by
    rw [mailAt, if_neg (by simp; omega), if_neg (by simp; omega)]
  have hlock : lockAt off = none := by
    rw [lockAt, if_neg (by simp; omega), if_neg (by simp; omega)]
  rw [Block.readRegister, if_neg (by omega), hmail, hlock]
  exact if_pos h

theorem grant_unconfigured {b : Block} (h : b.pwr.configured = false) (g : Nat) : b.grant g = (0, 0) := by
  simp [Block.grant, h]

/-- Settles O60: the state at reset is a constant, and the identity registers are the same whatever the block. -/
theorem resetLeavesAnEmptyInstance : Obligations.ResetLeavesAnEmptyInstance := by
  refine ⟨inv_reset, ⟨rfl, rfl, rfl, rfl, rfl, rfl, fun r => ?_, rfl, rfl, rfl⟩, fun b => ⟨?_, fun g h => grant_unconfigured h g⟩⟩
  · rw [rail_reset]; rfl
  · simp [readRegister_identity, Block.readIdentity, pack]

end Sys2Proof.Machine
end

section
/-! Consumer reports (R54, R224, R354): what a write to a page's report register does, where the report goes, and what it does at its
junction. -/

namespace Sys2Proof.Machine
open Sys2Proof

/-- The offset of a report register in its page (Table 13-4). -/
def reportReg (token : Bool) : Nat := if token then 0x40 else 0x48

/-- The block and the session take reports (R354). -/
def Block.takesReports (b : Block) (a : HAccess) (s : Nat) : Prop :=
  a.size8 = true ∧ b.isLead = true ∧ b.cp.state = .running ∧
    (secureSession s = true ∨ (b.session s).state = .opened ∨ (b.session s).state = .closing)

/-- Index i lies beyond the producer's or below the one last accepted (R354). -/
def Block.reportOutside (b : Block) (e : Entry) (i : Nat) (token : Bool) : Prop :=
  ringSize (if token then e.tokenRing else e.eventRing) < sub32 (if token then add32 e.tokenProd (b.writtenTokens e) else e.eventProd) i ∨
    toInt32 (sub32 i (if token then (b.lastReport e).1 else (b.lastReport e).2)) < 0

section
variable {b : Block} {a : HAccess} {s v : Nat} {token : Bool} {e : Entry}

theorem takesReports_iff : b.takesReports a s ↔ (!a.size8 || !b.isLead || b.cp.state != .running ||
    !(secureSession s || (b.session s).state == .opened || (b.session s).state == .closing)) = false := by
  unfold Block.takesReports
  cases secureSession s <;> simp [and_assoc, or_iff_not_imp_left]

theorem writeReport_unserved (h : ¬ b.takesReports a s) :
    b.writeReport a s v token = b.logAccess (page s + reportReg token) a.agent 354 := by
  rw [takesReports_iff, Bool.not_eq_false] at h
  exact if_pos h

theorem writeReport_no_entry (h : b.takesReports a s) (he : ∀ e, b.handleTarget s (v % 4294967296) ≠ .entry e) :
    b.writeReport a s v token = b.logAccess (page s + reportReg token) a.agent 354 := by
  rw [takesReports_iff] at h
  simp only [Block.writeReport, h, Bool.false_eq_true, if_false]
  cases ht : b.handleTarget s (v % 4294967296) with
  | entry e => exact absurd ht (he e)
  | pending | queued | stale => rfl

theorem writeReport_outside (h : b.takesReports a s) (he : b.handleTarget s (v % 4294967296) = .entry e) (hv : v < 18446744073709551616)
    (ho : b.reportOutside e (v / 4294967296) token) : b.writeReport a s v token = b.logAccess (page s + reportReg token) a.agent 354 := by
  have hi : v / 4294967296 % 4294967296 = v / 4294967296 := Nat.mod_eq_of_lt (by omega)
  rw [takesReports_iff] at h
  simp only [Block.writeReport, h, Bool.false_eq_true, if_false, he, hi, gt_iff_lt, Bool.or_eq_true, decide_eq_true_eq]
  exact if_pos ho

/-- A report that is taken enters beside the request's other index as last accepted. -/
theorem writeReport_inside (h : b.takesReports a s) (he : b.handleTarget s (v % 4294967296) = .entry e) (hv : v < 18446744073709551616)
    (ho : ¬ b.reportOutside e (v / 4294967296) token) : b.writeReport a s v token =
      if token then b.consumerReport (v % 4294967296) (v / 4294967296) (b.lastReport e).2
      else b.consumerReport (v % 4294967296) (b.lastReport e).1 (v / 4294967296) := by
  have hi : v / 4294967296 % 4294967296 = v / 4294967296 := Nat.mod_eq_of_lt (by omega)
  rw [takesReports_iff] at h
  simp only [Block.writeReport, h, Bool.false_eq_true, if_false, he, hi, gt_iff_lt, Bool.or_eq_true, decide_eq_true_eq]
  exact if_neg ho

theorem writePage_tokenReport : b.writePage a s 0x40 v = b.writeReport a s v true := rfl
theorem writePage_eventReport : b.writePage a s 0x48 v = b.writeReport a s v false := rfl

theorem exec_tokenConsReport_ok {x : State} {t : Time} (hs : s < 256) (h : x.Writes t a (page s + 0x40)) :
    exec (.tokenConsReport t a s v) x =
      .next (x.settled (x.blk.atTime t) (((x.asked t a).writeReport a s v true).answered (writeBeat 0))) := by
  rw [exec_tokenConsReport, page_write hs (by decide) h, writePage_tokenReport]

theorem exec_eventConsReport_ok {x : State} {t : Time} (hs : s < 256) (h : x.Writes t a (page s + 0x48)) :
    exec (.eventConsReport t a s v) x =
      .next (x.settled (x.blk.atTime t) (((x.asked t a).writeReport a s v false).answered (writeBeat 0))) := by
  rw [exec_eventConsReport, page_write hs (by decide) h, writePage_eventReport]

end

/-! ### The CONSUMER list of a log -/

section
variable {b : Block} {h tok ev : Nat}

/-- With the report the CONSUMER list still fits the open junction's log (R224). -/
def Block.reportFits (b : Block) (h tok ev : Nat) : Prop :=
  b.logNeed b.openJ (b.cmdsFor b.openJ) (b.ticketsFor b.openJ) ((Tab.set h (tok, ev) b.seq.consumer).map fun x => (x.1, x.2.1, x.2.2)) ≤
    b.logLimit

theorem consumerReport_entered (hw : Tab.has h b.seq.consumerWait = false) (hf : b.reportFits h tok ev) :
    b.consumerReport h tok ev = { b with seq := { b.seq with consumer := Tab.set h (tok, ev) b.seq.consumer } } := by
  rw [Block.consumerReport, hw]
  exact if_pos hf

theorem consumerReport_waits (hw : Tab.has h b.seq.consumerWait = true ∨ ¬ b.reportFits h tok ev) :
    b.consumerReport h tok ev = { b with seq := { b.seq with consumerWait := Tab.set h (tok, ev) b.seq.consumerWait } } := by
  rw [Block.consumerReport]
  split
  · rfl
  · exact if_neg (hw.resolve_left ‹_›)

theorem mem_draftLog_consumer {j : Nat} : (h, tok, ev) ∈ (b.draftLog j).consumer ↔ (h, (tok, ev)) ∈ b.seq.consumer := by
  simp [Block.draftLog]

end

/-! ### The report at its junction -/

section
variable {b : Block} {slot : Nat}

/-- Writing a held END moves nothing of the request but its event producer. -/
theorem flushEnd_ent : ∃ x, (b.flushEnd slot).ent slot = { b.ent slot with eventProd := x } := by
  unfold Block.flushEnd
  split
  · next ev _ =>
    split
    · obtain ⟨le, mp, x, hput⟩ := putEvent_spec b (b.ent slot) ev
      exact ⟨x, by rw [hput, ent_modSide, ent_setEnt]⟩
    · exact ⟨_, rfl⟩
  · exact ⟨_, rfl⟩

theorem ent_of_byHandle {h : Nat} {e : Entry} (hb : b.byHandle h = some (slot, e)) : b.ent slot = e ∧ slotOf h = slot ∧ e.handle = h := by
  unfold Block.byHandle at hb
  split at hb
  · next e' he =>
    split at hb
    · next hh =>
      obtain ⟨rfl, rfl⟩ := Prod.mk.inj (Option.some.inj hb)
      exact ⟨by simp [Block.ent, Tab.getD, he], rfl, hh⟩
    · cases hb
  · cases hb

theorem applyConsumer_ent {h tok ev : Nat} {e : Entry} (hb : b.byHandle h = some (slot, e)) :
    ∃ x, (b.applyConsumer (h, tok, ev)).ent slot = { e with tokenCons := tok, eventCons := ev, eventProd := x } := by
  obtain ⟨x, hx⟩ := flushEnd_ent (b := b.modEnt slot fun e => { e with tokenCons := tok, eventCons := ev }) (slot := slot)
  refine ⟨x, ?_⟩
  simp only [Block.applyConsumer, hb]
  rw [hx, Block.modEnt, ent_setEnt, (ent_of_byHandle hb).1]

end

/-- Settles O10: both registers are one write with its ring as a flag, and the list and the junction's part are equations of their own. -/
theorem consumerReportsEnterTheSequencer : Obligations.ConsumerReportsEnterTheSequencer := by
  refine ⟨fun x t a s v hs hv => ?_, fun b h tok ev => ⟨consumerReport_entered, consumerReport_waits⟩,
    fun b j h tok ev => mem_draftLog_consumer, fun b h tok ev slot e hb => ?_⟩
  · intro b h i serves done ignored
    refine ⟨fun hw => ⟨fun hn => ?_, fun hy he => ?_, fun e hy he => ⟨fun hbad => ?_, fun hmax hmin => ?_⟩⟩,
      fun hw => ⟨fun hn => ?_, fun hy he => ?_, fun e hy he => ⟨fun hbad => ?_, fun hmax hmin => ?_⟩⟩⟩
    · rw [exec_tokenConsReport_ok hs hw, writeReport_unserved hn]; rfl
    · rw [exec_tokenConsReport_ok hs hw, writeReport_no_entry hy he]; rfl
    · rw [exec_tokenConsReport_ok hs hw, writeReport_outside (token := true) hy he hv hbad]; rfl
    · rw [exec_tokenConsReport_ok hs hw, writeReport_inside (token := true) hy he hv (not_or.2 ⟨not_lt.2 hmax, not_lt.2 hmin⟩)]; rfl
    · rw [exec_eventConsReport_ok hs hw, writeReport_unserved hn]; rfl
    · rw [exec_eventConsReport_ok hs hw, writeReport_no_entry hy he]; rfl
    · rw [exec_eventConsReport_ok hs hw, writeReport_outside (token := false) hy he hv hbad]; rfl
    · rw [exec_eventConsReport_ok hs hw, writeReport_inside (token := false) hy he hv (not_or.2 ⟨not_lt.2 hmax, not_lt.2 hmin⟩)]; rfl
  · intro t
    obtain ⟨y, hy⟩ : ∃ y, t = { e with tokenCons := tok, eventCons := ev, eventProd := y } := applyConsumer_ent hb
    exact hy ▸ ⟨rfl, rfl, rfl, rfl⟩

end Sys2Proof.Machine
end

section
/-! The data channels (Table 13-5, R356 to R361): what binds and frees them, and what a beat of the window does, one equation a case. -/

namespace Sys2Proof.Machine
open Sys2Proof

/-! ### A channel and its updates -/

section
variable (b : Block) (sec : Bool) (d : Channel) (f g : Channel → Channel)

theorem modChannel_const : b.modChannel sec f = b.modChannel sec fun _ => f (b.channel sec) := by cases sec <;> rfl

@[simp] theorem channel_modChannel : (b.modChannel sec f).channel sec = f (b.channel sec) := by cases sec <;> rfl

@[simp] theorem modChannel_modChannel : (b.modChannel sec f).modChannel sec g = b.modChannel sec fun c => g (f c) := by cases sec <;> rfl

/-- Channel d in the place of the block's own, CURSOR moved on by 8. -/
def Block.moveOn : Block := b.modChannel sec fun _ => { d with cursor := ((b.channel sec).cursor + 8) % 4294967296 }

theorem advance_eq : b.advance sec = b.moveOn sec (b.channel sec) := modChannel_const ..

end

/-! ### DP_CTL and STAGE_BASE (R357 to R359) -/

section
variable {b : Block} {sec : Bool} {target select session : Nat}

/-- The secure channel alone binds a staging target. -/
theorem bindable_staging (h : target = 1 ∨ target = 3 ∨ target = 4 ∨ target = 2 ∧ select ≤ 3) : b.bindable sec target select session = sec := by
  rcases h with rfl | rfl | rfl | ⟨rfl, h⟩ <;> simp [Block.bindable, *]

theorem bindable_select_out (ht : target = 2) (h : 3 < select) : b.bindable sec target select session = false := by
  simp [Block.bindable, ht, h]

theorem bindable_no_target (h : 6 ≤ target) : b.bindable sec target select session = false := by
  have h5 : target ≠ 5 := by omega
  have h4 : ¬ target ≤ 4 := by omega
  simp [Block.bindable, h5, h4]

theorem bindable_transcript (ht : target = 5) : b.bindable sec target select session = true ↔
    (sec = true ∨ 16 ≤ session ∧ (b.session session).state = .opened) ∧ ∃ e, b.handleTarget (if sec then 0 else session) select = .entry e := by
  simp only [Block.bindable, ht, if_true, Bool.and_eq_true, Bool.or_eq_true, secureSession, Bool.not_eq_true', decide_eq_false_iff_not, Nat.not_lt,
    beq_iff_eq]
  cases b.handleTarget (if sec then 0 else session) select <;> simp

end

section
variable {b : Block} {a : HAccess} {sec : Bool} {v : Nat} (h8 : a.size8 = true) (hv : v < 18446744073709551616)

theorem writeDpCtl_foreign (ht : (b.channel sec).target ≠ 0) (ho : (b.channel sec).owner ≠ a.agent) :
    b.writeDpCtl a sec v = b.modChannel sec fun _ => { b.channel sec with foreign := true } := by
  simp only [Block.writeDpCtl, bne_iff_ne, ne_eq, ht, ho, not_false_eq_true, if_true, Bool.and_eq_true, and_self]
  exact modChannel_const ..

theorem not_foreign {c : Channel} {agent : Nat} (h : c.target = 0 ∨ c.owner = agent) : (c.target != 0 && c.owner != agent) = false := by
  rcases h with h | h <;> simp [h]

include h8 hv

theorem writeDpCtl_free (hm : (b.channel sec).target = 0 ∨ (b.channel sec).owner = a.agent) (h0 : bits v 3 0 = 0) :
    b.writeDpCtl a sec v = b.modChannel sec fun _ =>
      { b.channel sec with target := 0, owner := 0, select := v / 4294967296, session := bits v 23 16 } := by
  simp only [Block.writeDpCtl, mergeWrite_size8 h8 hv, not_foreign hm, h0, Bool.false_eq_true, if_false, if_true]
  exact modChannel_const ..

theorem writeDpCtl_bound (hm : (b.channel sec).target = 0 ∨ (b.channel sec).owner = a.agent) (h0 : bits v 3 0 ≠ 0)
    (hb : b.bindable sec (bits v 3 0) (v / 4294967296) (bits v 23 16) = true) : b.writeDpCtl a sec v = b.modChannel sec fun _ =>
      { b.channel sec with target := bits v 3 0, select := v / 4294967296, session := bits v 23 16, owner := a.agent } := by
  simp only [Block.writeDpCtl, mergeWrite_size8 h8 hv, not_foreign hm, h0, hb, Bool.false_eq_true, if_false, if_true]
  exact modChannel_const ..

theorem writeDpCtl_denied (hm : (b.channel sec).target = 0 ∨ (b.channel sec).owner = a.agent) (h0 : bits v 3 0 ≠ 0)
    (hb : b.bindable sec (bits v 3 0) (v / 4294967296) (bits v 23 16) = false) :
    b.writeDpCtl a sec v = b.modChannel sec fun _ => { b.channel sec with denied := true } := by
  simp only [Block.writeDpCtl, mergeWrite_size8 h8 hv, not_foreign hm, h0, hb, Bool.false_eq_true, if_false]
  exact modChannel_const ..

theorem writeStageBase_idle (hp : b.proposalOpen = false) (ht : b.ap.sec.target = 0 ∨ b.ap.sec.target = 5) :
    b.writeStageBase a v = { b with mdl := { b.mdl with stageBase := v / 4096 * 4096 } } := by
  rw [Block.writeStageBase, if_neg, mergeWrite_size8 h8 hv]
  rcases ht with ht | ht <;> simp [hp, ht]

omit h8 hv in
theorem writeStageBase_busy (h : b.proposalOpen = true ∨ (1 ≤ b.ap.sec.target ∧ b.ap.sec.target ≤ 4)) :
    b.writeStageBase a v = b.logAccess 0x46020 a.agent 359 := by
  rw [Block.writeStageBase, if_pos]
  rcases h with h | h <;> simp [h]

end

section
variable {x : State} {t : Time} {a : HAccess} {v : Nat}

theorem writeAt_dpCtl (b : Block) (sec : Bool) : b.writeAt a (if sec then 0x46000 else 0x6000) v = b.writeDpCtl a sec v := by
  cases sec <;> rfl

theorem exec_dpCtlWrite_ok {sec : Bool} (h : x.Writes t a (if sec then 0x46000 else 0x6000)) : exec (.dpCtlWrite t a sec v) x =
    .next (x.settled (x.blk.atTime t) (((x.asked t a).writeDpCtl a sec v).answered (writeBeat 0))) := by
  rw [exec_dpCtlWrite, registerWrite_ok h (by cases sec <;> rfl) (by cases sec <;> decide), writeAt_dpCtl]

theorem exec_stageBaseWrite_ok (h : x.Writes t a 0x46020) : exec (.stageBaseWrite t a v) x =
    .next (x.settled (x.blk.atTime t) (((x.asked t a).writeStageBase a v).answered (writeBeat 0))) := by
  rw [exec_stageBaseWrite, registerWrite_ok h rfl (by decide)]
  rfl

end

/-! ### The beats of the data window (R356, R360) -/

section
variable {b : Block} {m : Memory} {sec : Bool} {agent v : Nat} {bad : Bool}

theorem windowWrite_foreign (ht : (b.channel sec).target ≠ 0) (ho : (b.channel sec).owner ≠ agent) :
    b.windowWrite sec agent v = (b.modChannel sec fun _ => { b.channel sec with foreign := true }, none) := by
  simp [Block.windowWrite, ht, ho, modChannel_const b sec fun c => { c with foreign := true }]

theorem windowRead_foreign (ht : (b.channel sec).target ≠ 0) (ho : (b.channel sec).owner ≠ agent) :
    b.windowRead m sec agent bad = (b.modChannel sec fun _ => { b.channel sec with foreign := true }, 0) := by
  simp [Block.windowRead, ht, ho, modChannel_const b sec fun c => { c with foreign := true }]

theorem windowWrite_unbound (ht : (b.channel sec).target = 0) :
    b.windowWrite sec agent v = (b.modChannel sec fun _ => { b.channel sec with overrun := true }, none) := by
  simp [Block.windowWrite, ht, modChannel_const b sec fun c => { c with overrun := true }]

theorem windowRead_unbound (ht : (b.channel sec).target = 0) :
    b.windowRead m sec agent bad = (b.modChannel sec fun _ => { b.channel sec with overrun := true }, 0) := by
  simp [Block.windowRead, ht, modChannel_const b sec fun c => { c with overrun := true }]

theorem targetSize_staging {c : Channel} (h0 : c.target ≠ 0) (h4 : c.target ≤ 4) : b.targetSize c = (stageTarget c.target c.select).2 := by
  simp [Block.targetSize, h0, show c.target ≠ 5 by omega]

theorem targetSize_transcript {c : Channel} {r : Region} (h : c.target = 5) (hr : b.regionOf c.select = some r) :
    b.targetSize c = 256 + 4 * r.cap := by
  simp [Block.targetSize, h, hr]

/-- What an update of the channel with the move that follows it leaves. -/
theorem advance_modChannel (f : Channel → Channel) (hf : (f (b.channel sec)).cursor = (b.channel sec).cursor) :
    (b.modChannel sec f).advance sec = b.moveOn sec (f (b.channel sec)) := by
  rw [Block.advance, modChannel_modChannel, modChannel_const, hf]
  rfl

/-- A beat of the owner at a bound channel (Table 13-5). -/
def Channel.servesAgent (c : Channel) (agent : Nat) : Prop := c.target ≠ 0 ∧ c.owner = agent

variable (hm : (b.channel sec).servesAgent agent)
include hm

theorem windowWrite_overrun (h4 : (b.channel sec).target ≤ 4)
    (hc : (stageTarget (b.channel sec).target (b.channel sec).select).2 ≤ (b.channel sec).cursor) :
    b.windowWrite sec agent v = (b.moveOn sec { b.channel sec with overrun := true }, none) := by
  obtain ⟨h0, ho⟩ := hm
  simp [Block.windowWrite, h0, ho, show (b.channel sec).target ≠ 5 by omega, targetSize_staging h0 h4, hc,
    advance_modChannel (b := b) (sec := sec) fun c => { c with overrun := true }]

theorem windowRead_overrun (h4 : (b.channel sec).target ≤ 4)
    (hc : (stageTarget (b.channel sec).target (b.channel sec).select).2 ≤ (b.channel sec).cursor) :
    b.windowRead m sec agent bad = (b.moveOn sec { b.channel sec with overrun := true }, 0) := by
  obtain ⟨h0, ho⟩ := hm
  simp [Block.windowRead, h0, ho, show (b.channel sec).target ≠ 5 by omega, targetSize_staging h0 h4, hc,
    advance_modChannel (b := b) (sec := sec) fun c => { c with overrun := true }]

theorem windowWrite_locked (h3 : (b.channel sec).target ≤ 3)
    (hc : (b.channel sec).cursor < (stageTarget (b.channel sec).target (b.channel sec).select).2) (hl : b.stagingLocked = true) :
    b.windowWrite sec agent v = (b.moveOn sec { b.channel sec with busy := true }, none) := by
  obtain ⟨h0, ho⟩ := hm
  simp [Block.windowWrite, h0, ho, show (b.channel sec).target ≠ 5 by omega, targetSize_staging h0 (by omega), Nat.not_le.2 hc, h3, hl,
    advance_modChannel (b := b) (sec := sec) fun c => { c with busy := true }]

theorem windowWrite_staged (h4 : (b.channel sec).target ≤ 4)
    (hc : (b.channel sec).cursor < (stageTarget (b.channel sec).target (b.channel sec).select).2)
    (hl : (b.channel sec).target = 4 ∨ b.stagingLocked = false) : b.windowWrite sec agent v =
      let addr := b.mdl.stageBase + (stageTarget (b.channel sec).target (b.channel sec).select).1 + (b.channel sec).cursor
      ((b.write addr (le 8 v)).moveOn sec (b.channel sec), some addr) := by
  obtain ⟨h0, ho⟩ := hm
  have hopen : ((b.channel sec).target ≤ 3 ∧ b.stagingLocked = true) ↔ False := by
    rcases hl with hl | hl
    · simp [hl]
    · simp [hl]
  simp only [Block.windowWrite, not_foreign (.inr ho), h0, show (b.channel sec).target ≠ 5 by omega, targetSize_staging h0 h4, ge_iff_le,
    Nat.not_le.2 hc, Bool.and_eq_true, decide_eq_true_eq, hopen, Bool.false_eq_true, if_false, advance_eq]
  rfl

theorem windowRead_staged (h4 : (b.channel sec).target ≤ 4)
    (hc : (b.channel sec).cursor < (stageTarget (b.channel sec).target (b.channel sec).select).2) (hb : bad = false) : b.windowRead m sec agent bad =
      (b.moveOn sec (b.channel sec),
       memReadLe m (b.mdl.stageBase + (stageTarget (b.channel sec).target (b.channel sec).select).1 + (b.channel sec).cursor) 8) := by
  obtain ⟨h0, ho⟩ := hm
  simp [Block.windowRead, hb, h0, ho, show (b.channel sec).target ≠ 5 by omega, targetSize_staging h0 h4, Nat.not_le.2 hc, advance_eq]

theorem windowRead_failed (h4 : (b.channel sec).target ≤ 4)
    (hc : (b.channel sec).cursor < (stageTarget (b.channel sec).target (b.channel sec).select).2) (hb : bad = true) :
    b.windowRead m sec agent bad = ((b.readFailed sec).advance sec, 0) := by
  obtain ⟨h0, ho⟩ := hm
  simp [Block.windowRead, hb, h0, ho, show (b.channel sec).target ≠ 5 by omega, targetSize_staging h0 h4, Nat.not_le.2 hc]

theorem windowWrite_transcript (h5 : (b.channel sec).target = 5) :
    b.windowWrite sec agent v = (b.moveOn sec { b.channel sec with denied := true }, none) := by
  obtain ⟨h0, ho⟩ := hm
  simp [Block.windowWrite, ho, h5, advance_modChannel (b := b) (sec := sec) fun c => { c with denied := true }]

theorem windowRead_freed (h5 : (b.channel sec).target = 5) (hr : b.regionOf (b.channel sec).select = none) :
    b.windowRead m sec agent bad = (b.moveOn sec { b.channel sec with denied := true }, 0) := by
  obtain ⟨h0, ho⟩ := hm
  simp [Block.windowRead, ho, h5, hr, advance_modChannel (b := b) (sec := sec) fun c => { c with denied := true }]

theorem windowRead_transcript_overrun {r : Region} (h5 : (b.channel sec).target = 5) (hr : b.regionOf (b.channel sec).select = some r)
    (hc : 256 + 4 * r.cap ≤ (b.channel sec).cursor) :
    b.windowRead m sec agent bad = (b.moveOn sec { b.channel sec with overrun := true }, 0) := by
  obtain ⟨h0, ho⟩ := hm
  simp [Block.windowRead, ho, h5, hr, targetSize_transcript h5 hr, hc, advance_modChannel (b := b) (sec := sec) fun c => { c with overrun := true }]

theorem windowRead_transcript {r : Region} (h5 : (b.channel sec).target = 5) (hr : b.regionOf (b.channel sec).select = some r)
    (hc : (b.channel sec).cursor < 256 + 4 * r.cap) (hb : bad = false) : b.windowRead m sec agent bad =
      (b.moveOn sec (b.channel sec), ofLe (((regionBytes r).drop (b.channel sec).cursor).take 8)) := by
  obtain ⟨h0, ho⟩ := hm
  simp [Block.windowRead, hb, ho, h5, hr, targetSize_transcript h5 hr, Nat.not_le.2 hc, advance_eq]

omit hm in
theorem readFailed_advance : (((b.readFailed sec).advance sec).channel sec).rdError = true ∧
    (((b.readFailed sec).advance sec).channel sec).cursor = ((b.channel sec).cursor + 8) % 4294967296 := by
  cases sec <;> exact ⟨rfl, rfl⟩

end

/-! ### A request of the window -/

section
variable {x : State} {t : Time} {a : HAccess} {off : Nat} {data bad : List Nat}

theorem windowWrites_cons (b : Block) (sec : Bool) (agent v : Nat) (vs : List Nat) : b.windowWrites sec agent (v :: vs) =
    let w := b.windowWrite sec agent v
    let y := w.1.windowWrites sec agent vs
    (y.1, w.2.toList ++ y.2) := by
  dsimp only [Block.windowWrites]
  cases (b.windowWrite sec agent v).2 <;> rfl

variable (hs : x.Serving) (hc : a.core = false) (hroom : (x.asked t a).ap.answers.length < 16) (hlo : 0x80000 ≤ off) (hhi : off < 0x100000)
include hs hc hroom hlo hhi

theorem exec_windowWrite_ok (hst : accessStatus a off true = 0) : exec (.dataWindowAccess t a off true data bad) x =
    let w := (x.asked t a).windowWrites (decide (off < 0xC0000)) a.agent (data.take a.beats)
    .next (x.settled (x.blk.atTime t) (w.1.answer w.2 [writeBeat 0]).flushAnswers) := by
  obtain ⟨hlive, hsafe⟩ := hs
  rw [exec_dataWindowAccess, host_serving hlive hsafe hc]
  simp [Block.window, hc, Nat.not_le.2 hroom, windowOffset, hlo, hhi, hst]

theorem exec_windowRead_ok (hst : accessStatus a off false = 0) : exec (.dataWindowAccess t a off false data bad) x =
    let sec := decide (off < 0xC0000)
    let r := ((x.asked t a).fetchAhead sec a.agent).windowReads x.view sec a.agent bad 0 a.beats
    .next (x.settled (x.blk.atTime t) (r.1.answer [] r.2).flushAnswers) := by
  obtain ⟨hlive, hsafe⟩ := hs
  rw [exec_dataWindowAccess, host_serving hlive hsafe hc]
  simp [Block.window, hc, Nat.not_le.2 hroom, windowOffset, hlo, hhi, hst]

end

/-- Settles O12: a DP_CTL write binds where `bindable` holds of the target, and each beat of the window is one case of `windowWrite` or
`windowRead`. -/
theorem dataChannelsMoveBytes : Obligations.DataChannelsMoveBytes := by
  refine ⟨fun x t a v h8 hv => ?_, fun x t a off data bad hs hc hroom hlo hhi => ?_, fun b sec agent => ?_, fun s => ⟨rfl, rfl, rfl, rfl⟩,
    fun b m sec agent v bad => ?_⟩
  · intro b done
    refine ⟨fun sec hw => ?_, fun hw hp ht => ?_, fun hw hbusy => ?_⟩
    · intro c target select session becomes mine bound denied
      have hbecomes : ∀ {d : Channel}, b.writeDpCtl a sec v = b.modChannel sec (fun _ => d) → becomes d := fun hd => by
        show exec (.dpCtlWrite t a sec v) x = _
        rw [exec_dpCtlWrite_ok hw, hd]
      have hbound (hm : mine) (ht : target ≠ 0) (hb : b.bindable sec target select session = true) : becomes bound :=
        hbecomes (writeDpCtl_bound h8 hv hm ht hb)
      have hdenied (hm : mine) (ht : target ≠ 0) (hb : b.bindable sec target select session = false) : becomes denied :=
        hbecomes (writeDpCtl_denied h8 hv hm ht hb)
      refine ⟨fun hn => hbecomes (writeDpCtl_foreign (not_or.1 hn).1 (not_or.1 hn).2), fun hm h0 => hbecomes (writeDpCtl_free h8 hv hm h0),
        fun hm ht => ?_, fun hm ht hs => hdenied hm (by omega) (bindable_select_out ht hs),
        fun hm ht => hdenied hm (by omega) (bindable_no_target ht), fun hm ht hok => ⟨fun e he => ?_, fun he => ?_⟩, fun hm ht hns hbad => ?_⟩
      · have h0 : target ≠ 0 := by omega
        have hb := bindable_staging (b := b) (sec := sec) (session := session) ht
        cases sec
        · exact hdenied hm h0 hb
        · exact hbound hm h0 hb
      · exact hbound hm (by omega) ((bindable_transcript ht).2 ⟨hok, e, he⟩)
      · exact hdenied hm (by omega) (Bool.eq_false_iff.2 fun hb => ((bindable_transcript ht).1 hb).2.elim he)
      · refine hdenied hm (by omega) (Bool.eq_false_iff.2 fun hb => ?_)
        rcases ((bindable_transcript ht).1 hb).1 with hsec | ⟨hlow, hopened⟩
        · simp [hns] at hsec
        · exact hbad.elim (Nat.not_lt.2 hlow) (· hopened)
    · rw [exec_stageBaseWrite_ok hw, writeStageBase_idle h8 hv hp ht]
    · rw [exec_stageBaseWrite_ok hw, writeStageBase_busy hbusy]
  · exact ⟨exec_windowWrite_ok hs hc hroom hlo hhi, exec_windowRead_ok hs hc hroom hlo hhi⟩
  · exact ⟨rfl, windowWrites_cons b sec agent, fun m bad i n => ⟨rfl, rfl⟩⟩
  · intro c keeps moves p addr mine write read
    refine ⟨fun ht ho => ⟨windowWrite_foreign ht ho, windowRead_foreign ht ho⟩,
      fun ht => ⟨windowWrite_unbound ht, windowRead_unbound ht⟩,
      fun hm h4 hc => ⟨windowWrite_overrun hm h4 hc, windowRead_overrun hm h4 hc⟩,
      fun hm h3 hc hl => windowWrite_locked hm h3 hc hl, fun hm h4 hc hl => windowWrite_staged hm h4 hc hl,
      fun hm h4 hc hb => windowRead_staged hm h4 hc hb,
      fun hm h4 hc hb => ?_, fun hm h5 => windowWrite_transcript hm h5, fun hm h5 hr => windowRead_freed hm h5 hr,
      fun r hm h5 hr hc => windowRead_transcript_overrun hm h5 hr hc, fun r hm h5 hr hc hb => windowRead_transcript hm h5 hr hc hb⟩
    obtain ⟨herror, hcursor⟩ := readFailed_advance (b := b) (sec := sec)
    have hread : read = ((b.readFailed sec).advance sec, 0) := windowRead_failed hm h4 hc hb
    exact hread ▸ ⟨herror, rfl, hcursor⟩

end Sys2Proof.Machine
end

section
/-! REQ_ADMIT at the sequencer (R28, R29, R60, R290, R313): what its checks let through, and the three places an admission can take. -/

namespace Sys2Proof.Machine
open Sys2Proof

section
variable {b : Block} {s : Nat} {p : AdmitParams}

theorem exec_reqAdmit_carries {x : State} {t s : Nat} {c : Current} (h : x.Carries t s c) (hp : c.pkt.params = .reqAdmit p) :
    exec (.reqAdmit t s) x = .next (x.settled (x.blk.atTime t) ((x.blk.atTime t).reqAdmit s p)) := by
  rw [exec_reqAdmit, command_carries h (by rw [hp])]

theorem actsFor_of_secure_or_tenant {tenant : Nat} (h : s < 16 ∨ (b.session s).tenant = tenant) : b.actsFor s tenant = true := by
  simpa [Block.actsFor, secureSession] using h

theorem reqAdmit_checked (hlong : b.tooLong s (.reqAdmit p) = false) (hrange : b.admitRange p = none)
    (hacts : b.actsFor s p.tenant = true) (hpolicy : b.admitPolicy p = none) : b.reqAdmit s p = b.placeAdmit s p := by
  simp [Block.reqAdmit, hlong, hrange, hacts, hpolicy]

/-- A free slot: the command is accepted under the slot's next handle, which the reply carries. -/
theorem placeAdmit_of_slotFor_some {slot : Nat} (h : b.slotFor = some slot) : b.placeAdmit s p =
    let n := mkHandle (Tab.getD slot 0 b.gr.tags + 1) slot
    let r := b.accept s (.reqAdmit p) none n
    r.1.reply s 0 (le 4 n ++ zeros 4) r.2 := by
  simp only [Block.placeAdmit, h]

/-- No free slot, and room in the firmware queue: the command is deferred under the next ticket. -/
theorem placeAdmit_deferred (hslot : b.slotFor = none) (hroom : b.queueLength < b.fwDepth) (hlast : b.seq.nextTicket < 4294967295) :
    b.placeAdmit s p =
      let n := b.seq.nextTicket
      let d := TicketRec.deferral n s b.now p
      let r := b.recordOf s (.reqAdmit p)
      let j := b.effectiveFor r [d]
      ({ b with seq := { b.seq with
          cmds := b.seq.cmds ++ [{ junction := j, cmd := r, size := (cmdRecordBytes r).length }]
          tickets := b.seq.tickets ++ [(j, d)], nextTicket := n + 1 } } : Block).reply s 0x0308 (zeros 4 ++ le 4 n) j := by
  simp only [Block.placeAdmit, hslot, ge_iff_le, Nat.not_le.2 hroom, Nat.not_le.2 hlast, if_false]

theorem placeAdmit_full (hslot : b.slotFor = none) (hfull : b.fwDepth ≤ b.queueLength) : b.placeAdmit s p = b.reply s 0x0301 := by
  simp only [Block.placeAdmit, hslot, ge_iff_le, hfull, if_true]

end

/-- Settles O23: past its checks the command is `placeAdmit`, whose three cases are the clauses. -/
theorem admissionTakesASlotOrATicket : Obligations.AdmissionTakesASlotOrATicket := by
  intro x t s c p h hp b hlong hrange hacts hpolicy
  have hcur : (b.session s).current = some c := carries_current h
  have hexec : exec (.reqAdmit t s) x = .next (x.settled b (b.placeAdmit s p)) := by
    rw [exec_reqAdmit_carries h hp, reqAdmit_checked hlong hrange (actsFor_of_secure_or_tenant hacts) hpolicy]
  refine ⟨fun slot hslot => ?_, fun hslot hroom hlast => ?_, fun hslot hfull => ?_⟩
  · rw [hexec, placeAdmit_of_slotFor_some hslot]
    simp only [accept_unnamed, recordOf_current hcur]
    rfl
  · rw [hexec, placeAdmit_deferred hslot hroom hlast]
    simp only [recordOf_current hcur]
  · rw [hexec, placeAdmit_full hslot hfull]

end Sys2Proof.Machine
end

section
/-! Handles (R28), and the free list of slots (R29, R61, R62, R94): what takes slots off it, what joins them, and that it stays the list of
the slots of the banks in service that have no entry, each once. -/

namespace Sys2Proof.Machine
open Sys2Proof

/-! ### Handles (R28) -/

section
variable {h t s : Nat}

theorem tagOf_eq_bits (hh : h < 2 ^ 32) : tagOf h = bits h 31 20 := by
  simp only [tagOf, bits]; omega

theorem slotOf_eq_bits (h : Nat) : slotOf h = bits h 19 0 := by simp [slotOf, bits]

theorem mkHandle_tagOf_slotOf (hh : h < 2 ^ 32) : mkHandle (tagOf h) (slotOf h) = h := by
  simp only [mkHandle, tagOf, slotOf]; omega

theorem slotOf_mkHandle (hs : s < 32768) : slotOf (mkHandle t s) = s := by
  simp only [slotOf, mkHandle]; omega

theorem tagOf_mkHandle (hs : s < 32768) : tagOf (mkHandle t s) = t % 4096 := by
  simp only [tagOf, mkHandle]; omega

theorem mkHandle_lt (hs : s < 32768) : mkHandle t s < 2 ^ 32 := by
  simp only [mkHandle]; omega

end

/-! ### Reset (R29) -/

theorem freeList_reset : Runs.list State.reset.blk.gr.freeList = List.range 32768 := by
  show Runs.list [(0, 32768)] = _
  simp only [Runs.list_cons, Runs.list_nil, List.append_nil, Nat.zero_add, List.map_id']

theorem slotsOk_reset : State.reset.blk.SlotsOk := by
  refine ⟨List.Pairwise.nil, (List.forall_mem_nil _), List.forall_mem_nil _, freeList_reset ▸ List.nodup_range, fun s => ?_⟩
  have hbanks : State.reset.blk.gr.banksOut = [] := rfl
  have hlive : State.reset.blk.liveSlots = [] := rfl
  simp [freeList_reset, hbanks, hlive]

/-! ### The lead's choice of a slot (R29, R60, R61, R94) -/

section
variable {b : Block}

theorem slotFor_eq (hq : b.queueLength = 0) (hl : b.liveCount + b.openAdmits.length + b.chosenAdmits.length < b.mdl.maxLive) :
    b.slotFor = (Runs.list b.gr.freeList).find? fun s => s ∉ b.pendingSlots ++ b.chosenAdmits.map fun a => slotOf a.2.2 := by
  rw [Block.slotFor, if_neg (by omega), if_neg (by omega), Runs.firstNotIn_eq]

theorem slotFor_mem {slot : Nat} (h : b.slotFor = some slot) : slot ∈ Runs.list b.gr.freeList := by
  unfold Block.slotFor at h
  split at h
  · cases h
  · split at h
    · cases h
    · rw [Runs.firstNotIn_eq] at h
      exact List.mem_of_find?_eq_some h

theorem list_removeBanks_subset (ks : List Nat) (r : Runs) :
    Runs.list (ks.foldl (fun r k => Runs.removeRange (k * 2048) (k * 2048 + 2048) r) r) ⊆ Runs.list r := by
  induction ks generalizing r with
  | nil => exact List.Subset.refl _
  | cons k ks ih =>
    refine List.Subset.trans (ih _) ?_
    rw [Runs.list_removeRange _ _ (by omega)]
    exact List.filter_subset_self _

theorem chooseAdmissions_go_mem {n o h : Nat} : ∀ (k : Nat) (fs : List FwEntry) (taken : List Nat) (live : Nat),
    TicketRec.admission n o h ∈ Block.chooseAdmissions.go b k fs taken live →
      ∃ s ∈ Runs.list b.gr.freeList, s ∉ taken ∧ h = mkHandle (Tab.getD s 0 b.gr.tags + 1) s
  | 0, fs, taken, live, hm => by simp [Block.chooseAdmissions.go] at hm
  | k + 1, [], taken, live, hm => by simp [Block.chooseAdmissions.go] at hm
  | k + 1, f :: fs, taken, live, hm => by
    unfold Block.chooseAdmissions.go at hm
    split at hm
    · cases hm
    · next s hs =>
      rw [Runs.firstNotIn_eq] at hs
      have hfree := list_removeBanks_subset _ _ (List.mem_of_find?_eq_some hs)
      have hfresh : s ∉ taken := by simpa using List.find?_some hs
      split at hm
      · cases hm
      · rcases List.mem_cons.1 hm with heq | hm
        · cases heq
          exact ⟨s, hfree, hfresh, rfl⟩
        · obtain ⟨s', h1, h2, h3⟩ := chooseAdmissions_go_mem k fs (s :: taken) (live + 1) hm
          exact ⟨s', h1, fun h => h2 (List.mem_cons_of_mem _ h), h3⟩

theorem chooseAdmissions_mem (after : Block) (hok : b.SlotsOk) {n o h : Nat} (hm : TicketRec.admission n o h ∈ b.chooseAdmissions after) :
    slotOf h ∈ Runs.list b.gr.freeList ∧ slotOf h ∉ b.pendingSlots ∧ tagOf h = (Tab.getD (slotOf h) 0 b.gr.tags + 1) % 4096 := by
  obtain ⟨s, hfree, hfresh, rfl⟩ := chooseAdmissions_go_mem _ _ _ _ hm
  obtain ⟨-, -, -, -, hlist⟩ := hok
  have hs : s < 32768 := ((hlist s).1 hfree).1
  rw [slotOf_mkHandle hs, tagOf_mkHandle hs]
  exact ⟨hfree, hfresh, rfl⟩

end

/-! ### A slot is taken, slots are freed (R28, R29, R37) -/

section
variable {b : Block}

theorem freeList_takeSlot (h : Nat) (e : Entry) : Runs.list ((b.takeSlot h).setEnt (slotOf h) e).gr.freeList =
    (Runs.list b.gr.freeList).filter (· ≠ slotOf h) := Runs.list_remove ..

theorem tags_takeSlot (h s : Nat) (e : Entry) : Tab.getD s 0 ((b.takeSlot h).setEnt (slotOf h) e).gr.tags =
    if s = slotOf h then tagOf h else Tab.getD s 0 b.gr.tags := by
  show Tab.getD s 0 (Tab.set (slotOf h) (tagOf h) b.gr.tags) = _
  split
  · next hs => rw [hs, Tab.getD_set_self]
  · next hs => rw [Tab.getD_set_ne (Ne.symm hs)]

theorem slotsOk_takeSlot {h : Nat} {e : Entry} (hok : b.SlotsOk) (hfree : slotOf h ∈ Runs.list b.gr.freeList) (he : e.handle = h) :
    ((b.takeSlot h).setEnt (slotOf h) e).SlotsOk := by
  obtain ⟨hsorted, hentries, hbanks, hnodup, hlist⟩ := hok
  refine ⟨Tab.keys_set_sorted _ _ _ hsorted, fun x hx => ?_, hbanks, ?_, fun s => ?_⟩
  · rcases Tab.mem_set _ _ _ _ hx with rfl | hx
    · exact ⟨((hlist _).1 hfree).1, by rw [he]⟩
    · exact hentries x hx
  · rw [freeList_takeSlot]
    exact hnodup.filter _
  · have hlive : s ∈ ((b.takeSlot h).setEnt (slotOf h) e).liveSlots ↔ s = slotOf h ∨ s ∈ b.liveSlots := Tab.mem_keys_set ..
    rw [freeList_takeSlot, List.mem_filter, hlist, hlive, decide_eq_true_eq, not_or]
    exact ⟨fun ⟨⟨h1, h2, h3⟩, h4⟩ => ⟨h1, h2, h4, h3⟩, fun ⟨h1, h2, h4, h3⟩ => ⟨⟨h1, h2, h3⟩, h4⟩⟩

/-- The entry, slab and region of one freed slot go, and the slot joins the tail of the free list where its bank is in service. -/
def Block.reapSlot (b : Block) (s : Nat) : Block :=
  let b := (b.keepEnd (b.ent s) (b.side s)).freeRegion (b.ent s).granule
  { b with gr := { b.gr with
      entries := Tab.erase s b.gr.entries
      slabs := Tab.erase s b.gr.slabs
      side := Tab.erase s b.gr.side
      freeList := if b.gr.banksOut.contains (s / 2048) then b.gr.freeList else Runs.pushTail s b.gr.freeList } }

theorem reapSlots_eq : b.reapSlots = (sortNat b.work.freed).foldl Block.reapSlot b := rfl

theorem keepEnd_slots (e : Entry) (side : ReqSide) : (b.keepEnd e side).gr.entries = b.gr.entries ∧ (b.keepEnd e side).gr.tags = b.gr.tags ∧
    (b.keepEnd e side).gr.freeList = b.gr.freeList ∧ (b.keepEnd e side).gr.banksOut = b.gr.banksOut := by
  unfold Block.keepEnd
  split <;> exact ⟨rfl, rfl, rfl, rfl⟩

theorem reapSlot_slots (s : Nat) : (b.reapSlot s).liveSlots = Tab.keys (Tab.erase s b.gr.entries) ∧
    (b.reapSlot s).gr.entries = Tab.erase s b.gr.entries ∧ (b.reapSlot s).gr.tags = b.gr.tags ∧ (b.reapSlot s).gr.banksOut = b.gr.banksOut ∧
    Runs.list (b.reapSlot s).gr.freeList = Runs.list b.gr.freeList ++ [s].filter (fun s => s / 2048 ∉ b.gr.banksOut) := by
  obtain ⟨h1, h2, h3, h4⟩ := keepEnd_slots (b := b) (b.ent s) (b.side s)
  have hlist : Runs.list (b.reapSlot s).gr.freeList = Runs.list (if (b.keepEnd (b.ent s) (b.side s)).gr.banksOut.contains (s / 2048) then
      (b.keepEnd (b.ent s) (b.side s)).gr.freeList else Runs.pushTail s (b.keepEnd (b.ent s) (b.side s)).gr.freeList) := rfl
  have hentries : (b.reapSlot s).gr.entries = Tab.erase s b.gr.entries := congrArg (Tab.erase s) h1
  refine ⟨congrArg Tab.keys hentries, hentries, h2, h4, ?_⟩
  rw [hlist, h3, h4]
  by_cases hb : s / 2048 ∈ b.gr.banksOut
  · simp [hb]
  · simp [hb, Runs.list_pushTail]

theorem liveSlots_reapSlot (s x : Nat) : x ∈ (b.reapSlot s).liveSlots ↔ x ∈ b.liveSlots ∧ x ≠ s := by
  rw [(reapSlot_slots s).1, Tab.mem_keys_erase, and_comm]
  rfl

theorem slotsOk_reapSlot {s : Nat} (hok : b.SlotsOk) (hs : s ∈ b.liveSlots) : (b.reapSlot s).SlotsOk := by
  obtain ⟨hsorted, hentries, hbanks, hnodup, hlist⟩ := hok
  obtain ⟨-, he, -, hb, hf⟩ := reapSlot_slots (b := b) s
  have hlt : s < 32768 := by
    obtain ⟨x, hx, rfl⟩ := List.mem_map.1 hs
    exact (hentries x hx).1
  have hnew : s ∉ Runs.list b.gr.freeList := fun h => ((hlist s).1 h).2.2 hs
  refine ⟨he ▸ Tab.keys_erase_sorted _ _ hsorted, fun x hx => ?_, hb ▸ hbanks, ?_, fun x => ?_⟩
  · rw [he] at hx
    exact hentries x (List.mem_filter.1 hx).1
  · rw [hf, List.nodup_append']
    refine ⟨hnodup, (List.nodup_singleton s).filter _, fun x hx hx' => ?_⟩
    obtain rfl := List.mem_singleton.1 (List.mem_filter.1 hx').1
    exact hnew hx
  · rw [hf, List.mem_append, hlist, List.mem_filter, List.mem_singleton, liveSlots_reapSlot, hb, decide_eq_true_eq]
    by_cases hx : x = s
    · subst hx
      simp [hs, hlt]
    · simp [hx]

/-- Slots that are freed one after the other join the tail in that order, those of a bank out of service apart. -/
theorem reapSlot_foldl (l : List Nat) (hl : l.Nodup) (hok : b.SlotsOk) (hlive : ∀ s ∈ l, s ∈ b.liveSlots) :
    Runs.list (l.foldl Block.reapSlot b).gr.freeList = Runs.list b.gr.freeList ++ l.filter (fun s => s / 2048 ∉ b.gr.banksOut) ∧
    (l.foldl Block.reapSlot b).gr.tags = b.gr.tags ∧
    (∀ s, s ∈ (l.foldl Block.reapSlot b).liveSlots ↔ s ∈ b.liveSlots ∧ s ∉ l) ∧ (l.foldl Block.reapSlot b).SlotsOk := by
  induction l generalizing b with
  | nil => simp [hok]
  | cons x l ih =>
    obtain ⟨hx, hl⟩ := List.nodup_cons.1 hl
    obtain ⟨-, -, ht, hb, hf⟩ := reapSlot_slots (b := b) x
    obtain ⟨h1, h2, h3, h4⟩ := ih hl (slotsOk_reapSlot hok (hlive x (List.mem_cons_self ..))) fun s hs =>
      (liveSlots_reapSlot x s).2 ⟨hlive s (List.mem_cons_of_mem _ hs), fun h => hx (h ▸ hs)⟩
    refine ⟨?_, h2.trans ht, fun s => ?_, h4⟩
    · rw [List.foldl_cons, h1, hf, hb, List.append_assoc, ← List.filter_append]
      rfl
    · rw [List.foldl_cons, h3, liveSlots_reapSlot, List.mem_cons, not_or, and_assoc]

end

/-! ### Banks return (R62, R435, log entry 102) -/

section
variable {b : Block}

/-- The banks that return: those out that the sweep passed. -/
def Block.banksBack (b : Block) : List Nat := b.gr.banksOut.filter fun k => !(b.flt.sweep.any fun s => s / 2048 == k)

/-- The slots of a bank that have no entry. -/
def Block.bankSlots (b : Block) (k : Nat) : List Nat :=
  ((List.range 2048).map fun i => k * 2048 + i).filter fun s => !Tab.has s b.gr.entries

theorem freeList_returnBanks : Runs.list b.returnBanks.gr.freeList =
    Runs.list b.gr.freeList ++ (sortNat b.banksBack).flatMap b.bankSlots := Runs.list_foldTail ..

theorem mem_bankSlots (hok : b.SlotsOk) (k s : Nat) : s ∈ b.bankSlots k ↔ s / 2048 = k ∧ s ∉ b.liveSlots := by
  obtain ⟨hsorted, -⟩ := hok
  have hhas : Tab.has s b.gr.entries = false ↔ s ∉ b.liveSlots := by
    rw [← Bool.not_eq_true, Tab.has_iff s _ hsorted]; rfl
  simp only [Block.bankSlots, List.mem_filter, List.mem_map, List.mem_range, Bool.not_eq_true', hhas]
  refine and_congr_left fun _ => ⟨?_, fun h => ⟨s % 2048, by omega, by omega⟩⟩
  rintro ⟨i, hi, rfl⟩
  omega

theorem nodup_bankSlots (k : Nat) : (b.bankSlots k).Nodup :=
  (List.Nodup.map (fun _ _ h => Nat.add_left_cancel h) List.nodup_range).filter _

theorem slotsOk_returnBanks (hok : b.SlotsOk) : b.returnBanks.SlotsOk := by
  have hmem := mem_bankSlots hok
  obtain ⟨hsorted, hentries, hbanks, hnodup, hlist⟩ := hok
  have hback : ∀ k, k ∈ b.banksBack → k ∈ b.gr.banksOut := fun k hk => (List.mem_filter.1 hk).1
  have hout : ∀ k, k ∈ b.returnBanks.gr.banksOut ↔ k ∈ b.gr.banksOut ∧ k ∉ b.banksBack := fun k => by
    show k ∈ b.gr.banksOut.filter (fun k => !b.banksBack.contains k) ↔ _
    simp
  have hjoin : ∀ s, s ∈ (sortNat b.banksBack).flatMap b.bankSlots ↔ s / 2048 ∈ b.banksBack ∧ s ∉ b.liveSlots := fun s => by
    simp [List.mem_flatMap, mem_sortNat, hmem]
  refine ⟨hsorted, hentries, fun k hk => hbanks k ((hout k).1 hk).1, ?_, fun s => ?_⟩
  · rw [freeList_returnBanks, List.nodup_append']
    refine ⟨hnodup, List.nodup_flatMap.2 ⟨fun k _ => nodup_bankSlots k, (nodup_sortNat _).imp fun hne s h1 h2 => ?_⟩, fun s h1 h2 => ?_⟩
    · exact hne (((hmem _ s).1 h1).1.symm.trans ((hmem _ s).1 h2).1)
    · exact ((hlist s).1 h1).2.1 (hback _ ((hjoin s).1 h2).1)
  · rw [freeList_returnBanks, List.mem_append, hlist, hjoin, hout]
    show _ ↔ s < 32768 ∧ _ ∧ s ∉ b.liveSlots
    by_cases hb : s / 2048 ∈ b.banksBack
    · have := hbanks _ (hback _ hb)
      have hs : s < 32768 := by omega
      simp [hb, hback _ hb, hs]
    · simp [hb]

end

/-! ### Admissions placed and voided (R60, R240, R295) -/

section
variable {b : Block} {s : Nat}

theorem postReply_gr (op seq : Nat) (e : CmdEntry) (st : Nat) (pl : List Byte) (eff : Nat) (d : Bool) :
    (b.postReply s op seq e st pl eff d).gr = b.gr := by
  simp [Block.postReply, apply_ite Block.gr]

theorem postReply_seq (op seq : Nat) (e : CmdEntry) (st : Nat) (pl : List Byte) (eff : Nat) (d : Bool) :
    (b.postReply s op seq e st pl eff d).seq = b.seq := by
  simp [Block.postReply, apply_ite Block.seq]

theorem reply_keeps (st : Nat) (pl : List Byte) (eff : Nat) : (b.reply s st pl eff).gr = b.gr ∧ (b.reply s st pl eff).seq = b.seq := by
  unfold Block.reply
  split
  · exact ⟨rfl, rfl⟩
  · exact ⟨postReply_gr .., postReply_seq ..⟩

theorem placeAdmit_gr (p : AdmitParams) : (b.placeAdmit s p).gr = b.gr := by
  unfold Block.placeAdmit
  split
  · exact (reply_keeps ..).1
  · split <;> exact (reply_keeps ..).1

/-- An admission into a slot is accepted under the slot's next handle. -/
theorem placeAdmit_assigned (p : AdmitParams) {slot : Nat} (h : b.slotFor = some slot) :
    (b.placeAdmit s p).seq.cmds.getLast?.map (·.cmd.assigned) = some (mkHandle (Tab.getD slot 0 b.gr.tags + 1) slot) := by
  rw [placeAdmit_of_slotFor_some h]
  dsimp only
  rw [(reply_keeps ..).2, accept_unnamed]
  simp [Block.recordOf]

end

/-- Settles O46: each operation on the list keeps `SlotsOk`, and what it does to the list and the tags is an equation of its own. -/
theorem slotsAreTakenInOrder : Obligations.SlotsAreTakenInOrder := by
  refine ⟨fun h hh => ⟨tagOf_eq_bits hh, slotOf_eq_bits h, mkHandle_tagOf_slotOf hh⟩, freeList_reset, fun s => rfl, slotsOk_reset,
    fun b => slotFor_eq, fun b after hok n o h => chooseAdmissions_mem after hok,
    fun b h e hok hfree he => ⟨freeList_takeSlot h e, fun s => tags_takeSlot h s e, slotsOk_takeSlot hok hfree he⟩,
    fun b hok hlive => ?_, fun b hok => ⟨freeList_returnBanks ▸ List.prefix_append .., slotsOk_returnBanks hok⟩,
    fun b s p => ⟨placeAdmit_gr p, rfl, fun slot hok hslot => ?_⟩⟩
  · obtain ⟨hlist, htags, hslots, hok⟩ := reapSlot_foldl (sortNat b.work.freed) (nodup_sortNat _) hok fun s hs =>
      hlive s ((mem_sortNat _ s).1 hs)
    exact ⟨hlist, htags, fun s => by rw [reapSlots_eq, hslots, mem_sortNat], hok⟩
  · obtain ⟨-, -, -, -, hlist⟩ := hok
    have hs : slot < 32768 := ((hlist slot).1 (slotFor_mem hslot)).1
    exact ⟨_, mkHandle_lt hs, slotOf_mkHandle hs, tagOf_mkHandle hs, placeAdmit_assigned p hslot⟩

end Sys2Proof.Machine
end

section
/-! What a junction does to one request (Table 02-5, R36 to R53): the stages of `applyRequest`, each as what it does to the request's entry,
its transcript and the junction's work. -/

namespace Sys2Proof.Machine
open Sys2Proof

/-! ### What stays: fields and work of blocks with one request -/

section
variable (e : Entry) (w : Work)

@[simp] theorem requestOf_state : (requestOf e).state = e.state := rfl
@[simp] theorem requestOf_handle : (requestOf e).handle = e.handle := rfl
@[simp] theorem requestOf_endReason : (requestOf e).endReason = e.endReason := rfl
@[simp] theorem requestOf_committedLen : (requestOf e).committedLen = e.committedLen := rfl
@[simp] theorem requestOf_transcriptLen : (requestOf e).transcriptLen = e.transcriptLen := rfl
@[simp] theorem requestOf_transcriptCap : (requestOf e).transcriptCap = e.transcriptCap := rfl
@[simp] theorem requestOf_granule : (requestOf e).granule = e.granule := rfl
@[simp] theorem requestOf_genCount : (requestOf e).genCount = e.genCount := rfl
@[simp] theorem requestOf_maxGen : (requestOf e).maxGen = e.maxGen := rfl
@[simp] theorem requestOf_stopToken : (requestOf e).stopToken = e.stopToken := rfl
@[simp] theorem requestOf_sidingExpiry : (requestOf e).sidingExpiry = e.sidingExpiry := rfl
@[simp] theorem requestOf_sampling : (requestOf e).sampling = e.sampling := rfl
@[simp] theorem requestOf_lostCount : (requestOf e).lostCount = e.lostCount := rfl
@[simp] theorem requestOf_inputOpen : (requestOf e).flags.inputOpen = e.flags.inputOpen := rfl
@[simp] theorem workOf_all : (workOf w).all = w.all := rfl
@[simp] theorem workOf_trunc : (workOf w).trunc = w.trunc := rfl
@[simp] theorem workOf_freed : (workOf w).freed = w.freed := rfl

end

section
variable {slot : Nat} {b c : Block} (h : SameRequest slot b c)
include h

theorem SameRequest.state : (c.ent slot).state = (b.ent slot).state := by simpa using congrArg Entry.state h.ent
theorem SameRequest.genCount : (c.ent slot).genCount = (b.ent slot).genCount := by simpa using congrArg Entry.genCount h.ent
theorem SameRequest.maxGen : (c.ent slot).maxGen = (b.ent slot).maxGen := by simpa using congrArg Entry.maxGen h.ent
theorem SameRequest.transcriptLen : (c.ent slot).transcriptLen = (b.ent slot).transcriptLen := by simpa using congrArg Entry.transcriptLen h.ent
theorem SameRequest.transcriptCap : (c.ent slot).transcriptCap = (b.ent slot).transcriptCap := by simpa using congrArg Entry.transcriptCap h.ent
theorem SameRequest.sidingExpiry : (c.ent slot).sidingExpiry = (b.ent slot).sidingExpiry := by simpa using congrArg Entry.sidingExpiry h.ent
theorem SameRequest.inputOpen : (c.ent slot).flags.inputOpen = (b.ent slot).flags.inputOpen := by
  simpa using congrArg (fun x : Entry => x.flags.inputOpen) h.ent
theorem SameRequest.all : c.work.all = b.work.all := by simpa using congrArg Work.all h.work
theorem SameRequest.trunc : c.work.trunc = b.work.trunc := by simpa using congrArg Work.trunc h.work
theorem SameRequest.freed : c.work.freed = b.work.freed := by simpa using congrArg Work.freed h.work

end

/-! ### An end (Table 02-5, R49) -/

section
variable (b : Block) (slot r x a : Nat)

theorem finish_request : requestOf ((b.finish slot r x a).ent slot) =
    requestOf { b.ent slot with state := .done, endReason := r, sidingExpiry := 0, specTailLen := 0 } := by
  obtain ⟨f, hf, hent, -, -⟩ := finish_spec b slot r x a
  rw [hent, hf]

@[simp] theorem finish_state : ((b.finish slot r x a).ent slot).state = .done := by
  obtain ⟨f, hf, hent, -, -⟩ := finish_spec b slot r x a
  rw [hent]
  simpa using congrArg Entry.state hf

@[simp] theorem finish_endReason : ((b.finish slot r x a).ent slot).endReason = r := by
  obtain ⟨f, hf, hent, -, -⟩ := finish_spec b slot r x a
  rw [hent]
  simpa using congrArg Entry.endReason hf

theorem mem_finish_all : slot ∈ (b.finish slot r x a).work.all := by
  obtain ⟨f, -, -, -, hwork⟩ := finish_spec b slot r x a
  simp [hwork]

variable {b slot r x a}

theorem ends_of_eq_finish {c : Block} (h : c = b.finish slot r x a) : (c.ent slot).state = .done ∧ (c.ent slot).endReason = r := by
  rw [h]
  exact ⟨finish_state .., finish_endReason ..⟩

variable (r x a)

theorem Holds.finish {e : Entry} {ts : List (Bool × Nat)} (h : Holds slot b e ts) : Holds slot (b.finish slot r x a)
    { e with state := .done, endReason := r, sidingExpiry := 0, specTailLen := 0 } ts := by
  obtain ⟨-, -, -, hregions, -⟩ := finish_spec b slot r x a
  refine ⟨(finish_request b slot r x a).trans ?_, ?_⟩
  · exact congrArg (fun f : Entry => { f with state := .done, endReason := r, sidingExpiry := 0, specTailLen := 0 }) h.ent
  · unfold Block.region
    rw [hregions]
    exact h.reg

end

/-! ### The end conditions (Table 02-4) -/

section
variable {b : Block} {slot a closed n d : Nat} {s : Staging}

/-- The last of the tokens just placed is the stop token. -/
def Block.stops (b : Block) (slot n : Nat) : Prop :=
  0 < n ∧ bit (b.ent slot).stopToken 31 = true ∧
    (generated (b.transcript (b.ent slot))).getLast? = some ((b.ent slot).stopToken % 16777216)

theorem endConditions_stop {appended : Bool} (h : (b.ent slot).state = .prefill ∨ (b.ent slot).state = .decode) (hs : b.stops slot n) :
    b.endConditions slot a closed n d appended s = b.finish slot 1 0 a := by
  obtain ⟨h1, h2, h3⟩ := hs
  rcases h with h | h <;> simp [Block.endConditions, h, h1, h2, h3]

theorem endConditions_running {appended : Bool} (h : (b.ent slot).state = .prefill ∨ (b.ent slot).state = .decode) (hs : ¬ b.stops slot n) :
    b.endConditions slot a closed n d appended s =
      if 0 < (b.ent slot).maxGen ∧ (b.ent slot).maxGen ≤ (b.ent slot).genCount then b.finish slot 2 0 a
      else if (b.ent slot).transcriptCap ≤ (b.ent slot).transcriptLen then b.finish slot 3 d a else b := by
  have hstop : (decide (n > 0) && bit (b.ent slot).stopToken 31 &&
      decide ((generated (b.transcript (b.ent slot))).getLast? = some ((b.ent slot).stopToken % 16777216))) = false := by
    rw [Bool.eq_false_iff]
    simpa [Block.stops, and_assoc] using hs
  rcases h with h | h <;> simp [Block.endConditions, h, hstop]

/-- Room for a token, and MAX_GEN not reached. -/
def Entry.isOpen (e : Entry) : Prop := (e.maxGen = 0 ∨ e.genCount < e.maxGen) ∧ e.transcriptLen < e.transcriptCap

theorem endConditions_open {appended : Bool} (h : (b.ent slot).state = .prefill ∨ (b.ent slot).state = .decode) (ho : (b.ent slot).isOpen) :
    b.endConditions slot a closed 0 d appended s = b := by
  obtain ⟨hmax, hcap⟩ := ho
  rw [endConditions_running h fun hs => Nat.lt_irrefl 0 hs.1, if_neg (by omega), if_neg (by omega)]

/-- The expiry of a request in SIDING is decided (R50, log entry 20). -/
def Entry.expires (e : Entry) (a closed : Nat) (s : Staging) : Prop :=
  e.state = .siding ∧ e.sidingExpiry ≤ a ∧ e.sidingExpiry ≤ closed ∧ resumedBefore s.sides e.sidingExpiry = false

theorem endConditions_expires (h : (b.ent slot).expires a closed s) : b.endConditions slot a closed n d false s = b.finish slot 5 0 a := by
  obtain ⟨hs, ha, hc, hr⟩ := h
  simp [Block.endConditions, hs, ha, hc, hr]

theorem endConditions_waiting (hp : (b.ent slot).state ≠ .prefill) (hd : (b.ent slot).state ≠ .decode) (h : ¬ (b.ent slot).expires a closed s) :
    b.endConditions slot a closed n d false s = b := by
  have hexp : ((b.ent slot).state == .siding && decide (a ≥ (b.ent slot).sidingExpiry) && decide (closed ≥ (b.ent slot).sidingExpiry) &&
      !resumedBefore s.sides (b.ent slot).sidingExpiry) = false := by
    rw [Bool.eq_false_iff]
    simpa [Entry.expires, and_assoc] using h
  simp [Block.endConditions, hp, hd, hexp]

/-- An APPEND has filled the transcript of a request that does not run. -/
theorem endConditions_filled (hp : (b.ent slot).state ≠ .prefill) (hd : (b.ent slot).state ≠ .decode) (ha : appendState (b.ent slot).state = true)
    (hf : (b.ent slot).transcriptCap ≤ (b.ent slot).transcriptLen) (ht : b.transcript (b.ent slot) ≠ []) :
    b.endConditions slot a closed n d true s = b.finish slot 3 d a := by
  have hlast : (b.transcript (b.ent slot)).getLast?.isSome = true := by simpa using ht
  simp [Block.endConditions, hp, hd, ha, hf, hlast]

theorem endConditions_cases (appended : Bool) : b.endConditions slot a closed n d appended s = b ∨
    ∃ r x, b.endConditions slot a closed n d appended s = b.finish slot r x a := by
  unfold Block.endConditions
  dsimp only
  split_ifs
  · exact .inr ⟨1, 0, rfl⟩
  · exact .inr ⟨2, 0, rfl⟩
  · exact .inr ⟨3, d, rfl⟩
  · exact .inl rfl
  · exact .inr ⟨3, d, rfl⟩
  · exact .inr ⟨5, 0, rfl⟩
  · exact .inl rfl

end

/-! ### The results of the step (R38 steps 2 to 4) -/

section
variable {b c : Block} {slot a : Nat}

theorem sameRequest_survivors (b : Block) (slot : Nat) (l : List (Entry × Nat)) :
    SameRequest slot b { b with work := { b.work with survivors := l } } := ⟨rfl, rfl, rfl, rfl, rfl, rfl, rfl, rfl⟩

/-- A request without rows in the step that ends, or whose results a loss discards, has no result to apply. -/
theorem applyResult_no_rows (h : b.rowsOf (b.ent slot).handle = []) : b.applyResult slot a = b := by
  simp [Block.applyResult, h]

/-- The TRUNCATE of a log, of which n tokens came with this junction's results. -/
def Block.truncStage (b : Block) (tr : Option Nat) (wr : Bool) (a slot n : Nat) : Block := match tr with
  | some p => if (b.ent slot).state == ReqState.decode then b.truncate slot p a n (if wr then 0 else n) else b
  | none => b

/-- The slab after results and TRUNCATE, and the survivors for the debits of R85; g generated tokens stood before. -/
def Block.slabStage (b : Block) (rebuild : Block → Bool) (a slot g : Nat) : Block :=
  let ts := generated (b.transcript (b.ent slot))
  let survive := (b.ent slot).genCount - g
  let c := b.recordTokens slot a (ts.length - survive) (ts.drop (ts.length - survive))
  let d := if rebuild c then c.rebuildSlab slot a else c
  { d with work := { d.work with survivors := (b.ent slot, survive) :: d.work.survivors } }

theorem requestResults_eq (tr : Option Nat) (loss wr : Bool) : b.requestResults tr loss wr a slot =
    let c := if loss then b else b.applyResult slot a
    (c.truncStage tr wr a slot ((c.ent slot).genCount - (b.ent slot).genCount)).slabStage
      (fun d => d.gr.slabErrors.contains (b.ent slot).handle && !loss) a slot (b.ent slot).genCount := by
  cases tr <;> rfl

theorem sameRequest_slabStage (rebuild : Block → Bool) (g : Nat) : SameRequest slot b (b.slabStage rebuild a slot g) := by
  unfold Block.slabStage
  extract_lets ts survive c d
  have hc : SameRequest slot b c := sameRequest_recordTokens ..
  have hd : SameRequest slot c d := by
    show SameRequest slot c (if _ then _ else _)
    split
    · exact sameRequest_rebuildSlab ..
    · exact SameRequest.refl ..
  exact (hc.trans hd).trans (sameRequest_survivors d slot _)

theorem truncStage_not_decode {tr : Option Nat} {wr : Bool} {n : Nat} (h : (b.ent slot).state ≠ .decode) : b.truncStage tr wr a slot n = b := by
  cases tr with
  | none => rfl
  | some p => simp [Block.truncStage, h]

theorem truncStage_decode {p : Nat} {wr : Bool} {n : Nat} (h : (b.ent slot).state = .decode) :
    b.truncStage (some p) wr a slot n = b.truncate slot p a n (if wr then 0 else n) := by
  simp [Block.truncStage, h]

/-- Without a TRUNCATE the step's results are what `applyResult` leaves. -/
theorem sameRequest_requestResults_none (loss wr : Bool) :
    SameRequest slot (if loss then b else b.applyResult slot a) (b.requestResults none loss wr a slot) := by
  rw [requestResults_eq]
  exact sameRequest_slabStage ..

end

/-! ### The step's rows (R49, R215) -/

section
variable {b : Block} {slot a : Nat} {e : Entry} {ts : List (Bool × Nat)}

/-- Two entries with one request have one where a field of the request is set in both. -/
theorem requestOf_toDecode {e f : Entry} (h : requestOf e = requestOf f) :
    requestOf { e with state := .decode } = requestOf { f with state := .decode } :=
  congrArg (fun x : Entry => { x with state := .decode }) h

theorem requestOf_committed {e f : Entry} (h : requestOf e = requestOf f) (n : Nat) :
    requestOf { e with committedLen := n } = requestOf { f with committedLen := n } :=
  congrArg (fun x : Entry => { x with committedLen := n }) h

theorem Holds.commit (h : Holds slot b e ts) (n : Nat) :
    Holds slot (b.modEnt slot fun x => { x with committedLen := n }) { e with committedLen := n } ts :=
  (h.mod (fun x => { x with committedLen := n }) fun _ => rfl).cast (requestOf_committed h.ent n)

theorem Holds.decode (h : Holds slot b e ts) :
    Holds slot (b.modEnt slot fun x => { x with state := .decode }) { e with state := .decode } ts :=
  (h.mod (fun x => { x with state := .decode }) fun _ => rfl).cast (requestOf_toDecode h.ent)

/-- A token takes a request in PREFILL or REBUILD to DECODE, and one in DECODE stays there. -/
theorem Holds.toDecode (h : Holds slot b e ts) (he : e.state = .prefill ∨ e.state = .decode ∨ e.state = .rebuild) (p : Nat) :
    Holds slot (b.toDecode slot a p e.state) { e with state := .decode } ts := by
  rcases he with he | he | he
  · simpa [Block.toDecode, he] using h.decode
  · have hsame : { e with state := .decode } = e := by rw [← he]
    simpa [Block.toDecode, he, hsame] using h
  · simpa [Block.toDecode, he] using h.decode.same (sameRequest_post ..)

/-- A request whose step has a row r and no tree. -/
theorem applyResult_row {r : RowRec} {res : StepResult} (ht : (b.rowsOf (b.ent slot).handle).filter (fun x => x.kind == 3) = [])
    (hr : (b.rowsOf (b.ent slot).handle).find? (fun x => decide (x.kind ≤ 2)) = some r) (hres : b.resultOf (b.ent slot).handle = some res) :
    b.applyResult slot a = b.applyRow slot a r res (cutTokens (b.ent slot) (res.tokens.map (·.token))) := by
  have hany : ((b.rowsOf (b.ent slot).handle).any fun x => x.kind == 3) = false := by
    simpa [List.filter_eq_nil_iff] using ht
  simp [Block.applyResult, hany, hr, hres]

variable {r : RowRec} {res : StepResult} {toks : List Nat}

theorem applyRow_no_token (hs : r.sample = true) (ht : res.tokens = []) : SameRequest slot b (b.applyRow slot a r res toks) := by
  simpa [Block.applyRow, hs, ht] using sameRequest_postCause b slot a res.noToken

theorem applyRow_unsampled (hs : r.sample = false) :
    b.applyRow slot a r res toks = b.modEnt slot fun e => { e with committedLen := r.firstPos + r.posCount } := by
  simp [Block.applyRow, hs]

theorem Holds.probed {c : Block} {f : Entry} (h : Holds slot c f ts) (k : Prop) [Decidable k] :
    Holds slot (if k then c.probe slot a else c) f ts := by
  split
  · exact h.same (sameRequest_probe ..)
  · exact h

/-- The entry after n tokens of a row whose positions are committed up to p. -/
def Entry.withTokens (e : Entry) (p n : Nat) : Entry :=
  { e with committedLen := p, transcriptLen := e.transcriptLen + n, genCount := e.genCount + n, state := .decode }

/-- A sampled row with tokens: its positions are committed and the tokens that stand are appended. -/
theorem Holds.applyRow_tokens (h : Holds slot b (b.ent slot) ts) (hs : r.sample = true) (ht : res.tokens ≠ [])
    (he : (b.ent slot).state = .prefill ∨ (b.ent slot).state = .decode ∨ (b.ent slot).state = .rebuild) :
    Holds slot (b.applyRow slot a r res toks) ((b.ent slot).withTokens (r.firstPos + r.posCount) toks.length)
      (ts ++ toks.map fun t => (false, t)) := by
  have hplaced := ((h.commit (r.firstPos + r.posCount)).place toks).probed (a := a) (r.kind = 0)
  simpa [Block.applyRow, hs, ht, Entry.withTokens] using hplaced.toDecode (a := a) he (r.firstPos + r.posCount)

end

/-! ### TRUNCATE and APPEND (R44 to R46) -/

section
variable {b : Block} {slot a : Nat} {ts : List (Bool × Nat)}

/-- The entry after a TRUNCATE at p that leaves `left` tokens and removes `removed`. -/
def Entry.truncated (e : Entry) (p left removed shared due : Nat) : Entry :=
  { e with transcriptLen := left, committedLen := min p e.committedLen, genCount := e.genCount - removed, sharedPages := shared
           nextDeadline := due }

/-- The block after such a TRUNCATE but for its event: `left` is the transcript that stands, and the junction's work names the slot. -/
def Block.truncated (b : Block) (slot : Nat) (slab : Table SlabEntry) (left : List (Bool × Nat)) (e : Entry) : Block :=
  let c := ((b.setSlab slot slab).modRegion e.granule fun r => { r with tokens := left }).setEnt slot e
  { c with work := { c.work with trunc := slot :: c.work.trunc } }

theorem truncate_eq {p : Nat} (hrem : (truncTokens p (b.transcript (b.ent slot))).2 ≠ []) (placed unwritten : Nat) :
    ∃ slab shared due ev, b.truncate slot p a placed unwritten =
      (b.truncated slot slab (truncTokens p (b.transcript (b.ent slot))).1
        ((b.ent slot).truncated p (truncTokens p (b.transcript (b.ent slot))).1.length (truncTokens p (b.transcript (b.ent slot))).2.length
          shared due)).post slot ev := by
  have hne : ¬ (truncTokens p (b.transcript (b.ent slot))).2.isEmpty = true := by rwa [List.isEmpty_iff]
  exact ⟨_, _, _, _, if_neg hne⟩

theorem Holds.truncated {e : Entry} (h : Holds slot b (b.ent slot) ts) (hg : e.granule = (b.ent slot).granule) (slab : Table SlabEntry)
    (left : List (Bool × Nat)) : Holds slot (b.truncated slot slab left e) e left := by
  obtain ⟨r, hreg, -⟩ := h.reg
  refine ⟨congrArg requestOf (ent_setEnt ..), { r with tokens := left }, ?_, rfl⟩
  show ((b.setSlab slot slab).modRegion e.granule fun r => { r with tokens := left }).region e.granule = _
  rw [region_modRegion, region_setSlab, hg, hreg]
  rfl

theorem Holds.truncate {p : Nat} (h : Holds slot b (b.ent slot) ts) (hrem : (truncTokens p ts).2 ≠ []) (placed unwritten : Nat) :
    ∃ shared due, Holds slot (b.truncate slot p a placed unwritten)
      ((b.ent slot).truncated p (truncTokens p ts).1.length (truncTokens p ts).2.length shared due) (truncTokens p ts).1 ∧
    slot ∈ (b.truncate slot p a placed unwritten).work.trunc := by
  have htext : b.transcript (b.ent slot) = ts := h.transcript
  obtain ⟨slab, shared, due, ev, heq⟩ := truncate_eq (a := a) (htext ▸ hrem) placed unwritten
  rw [htext] at heq
  have hpost := sameRequest_post (b.truncated slot slab (truncTokens p ts).1
    ((b.ent slot).truncated p (truncTokens p ts).1.length (truncTokens p ts).2.length shared due)) slot ev
  refine ⟨shared, due, heq ▸ (h.truncated (by rfl) slab _).same hpost, ?_⟩
  rw [heq, hpost.trunc]
  exact List.mem_cons_self ..

/-- The tokens of an APPEND that fit. -/
def Entry.fitting (e : Entry) (l : List Nat) : List Nat := l.take (e.transcriptCap - e.transcriptLen)

/-- The entry after an APPEND of n tokens that fit. -/
def Entry.appended (e : Entry) (fl : EntryFlags) (n : Nat) : Entry := { e with flags := fl, transcriptLen := e.transcriptLen + n }

theorem requestOf_appended {e f : Entry} (h : requestOf e = requestOf f) (fl : EntryFlags) (n : Nat) :
    requestOf (e.appended fl n) = requestOf (f.appended fl n) :=
  congrArg (fun x : Entry => { x with
    flags := { fl with penaltyOvf := false, specPlain := false }, transcriptLen := x.transcriptLen + n }) h

/-- An APPEND that takes effect: the tokens that fit join the transcript as input, and INPUT_OPEN is what the record says. -/
theorem Holds.append (h : Holds slot b (b.ent slot) ts) (l : List Nat) (close : Bool) (ho : (b.ent slot).flags.inputOpen = true)
    (ha : appendState (b.ent slot).state = true) :
    (∃ fl : EntryFlags, fl.inputOpen = !close ∧ Holds slot (b.append slot l close).1
      ((b.ent slot).appended fl ((b.ent slot).fitting l).length)
      (ts ++ ((b.ent slot).fitting l).map fun t => (true, t % 16777216))) ∧
    (b.append slot l close).2 = l.length - ((b.ent slot).fitting l).length := by
  obtain ⟨r, hreg, htok⟩ := h.reg
  rcases append_spec b slot l close with ⟨-, hno⟩ | ⟨-, -, fl, F, hfl, -, hF, heq⟩
  · simp [ho, ha] at hno
  · rw [heq]
    refine ⟨⟨fl, hfl, congrArg requestOf (ent_setEnt ..), F r, ?_, ?_⟩, rfl⟩
    · show (b.modRegion (b.ent slot).granule F).region (b.ent slot).granule = _
      rw [region_modRegion, hreg]
      rfl
    · rw [hF, htok]
      rfl

end

/-! ### PAUSE, RESUME and SET_SAMPLING (R50, R159) -/

section
variable {b : Block} {slot a : Nat}

theorem sideOp_pause (tier ttl : Nat) (h : (b.ent slot).state = .prefill ∨ (b.ent slot).state = .decode) :
    b.sideOp slot a (.pause tier ttl) =
      let c := b.setEnt slot { b.ent slot with state := .siding, sidingExpiry := a + pauseTtl ttl, specTailLen := 0 }
      { c with work := { c.work with pause := (slot, tier) :: c.work.pause } } := by
  rcases h with h | h <;> simp [Block.sideOp, h]

theorem sideOp_resume {u : Nat} (h : (b.ent slot).state = .siding) (hu : u < (b.ent slot).sidingExpiry) :
    b.sideOp slot a (.resume u) = b.setEnt slot { b.ent slot with state := .waking, sidingExpiry := 0 } := by
  simp [Block.sideOp, h, hu]

theorem sideOp_done (h : (b.ent slot).state = .done) (o : SideOp) : b.sideOp slot a o = b := by
  cases o <;> simp [Block.sideOp, h]

theorem setSampling_done (h : (b.ent slot).state = .done) (p : Sampling) : b.setSampling slot p = b := by
  simp [Block.setSampling, h]

theorem append_done (h : (b.ent slot).state = .done) (l : List Nat) (close : Bool) : b.append slot l close = (b, 0) := by
  simp [Block.append, h, appendState]

theorem appendAll_done (h : (b.ent slot).state = .done) (ls : List (List Nat × Bool)) : b.appendAll slot ls = (b, 0) := by
  induction ls with
  | nil => rfl
  | cons p ps ih => simp [Block.appendAll, append_done h, ih]

theorem setSampling_request {p : Sampling} (h1 : (b.ent slot).state ≠ .done) (h2 : (b.ent slot).state ≠ .draining)
    (h3 : (b.ent slot).state ≠ .free) :
    requestOf ((b.setSampling slot p).ent slot) = requestOf { b.ent slot with sampling := samplingFields p } := by
  rcases setSampling_spec b slot p with ⟨-, h⟩ | ⟨F, -, h⟩
  · exact absurd h (by simp [h1, h2, h3])
  · rw [h, ent_setEnt, requestOf_keepLimits]

end

/-! ### The operations of a log (R38 steps 4 to 7) -/

section
variable {b : Block} {slot a closed n : Nat} {s : Staging} {fatal wasLost : Bool}

theorem endFatal_false : b.endFatal slot a false = b := rfl

theorem endFatal_fatal (h : (b.ent slot).state = .lost ∨ (b.ent slot).state = .rebuild) : b.endFatal slot a true = b.finish slot 6 0 a := by
  rcases h with h | h <;> simp [Block.endFatal, h]

theorem toRebuild_not_lost (h : wasLost = false ∨ (b.ent slot).state ≠ .lost) : b.toRebuild slot wasLost = b := by
  rcases h with h | h <;> simp [Block.toRebuild, h]

theorem toRebuild_lost (h : (b.ent slot).state = .lost) : b.toRebuild slot true = b.modEnt slot fun e => { e with state := .rebuild } := by
  simp [Block.toRebuild, h]

/-- A log without APPENDs for the request. -/
theorem requestOps_no_append (h : s.appends = []) : b.requestOps s fatal wasLost a closed n slot =
    s.samplings.foldl (fun b p => b.setSampling slot p)
      ((((b.endConditions slot a closed n 0 false s).endFatal slot a fatal).toRebuild slot wasLost).pauseResume slot a s) := by
  simp [Block.requestOps, h, Block.appendAll]

/-- A request in DONE takes no operation. -/
theorem requestOps_done (h : (b.ent slot).state = .done) : b.requestOps s false wasLost a closed n slot = b := by
  have hexp : ¬ (b.ent slot).expires a closed s := fun he => by simp [Entry.expires, h] at he
  have hend : b.endConditions slot a closed n 0 false s = b := endConditions_waiting (by simp [h]) (by simp [h]) hexp
  have hsides : b.pauseResume slot a s = b := List.foldl_fixed' (sideOp_done h) _
  have happ : b.appendAll slot s.appends = (b, 0) := appendAll_done h _
  simp only [Block.requestOps, happ, gt_iff_lt, Nat.lt_irrefl, decide_false, Bool.or_self, hend, endFatal_false,
    toRebuild_not_lost (.inr (by simp [h] : (b.ent slot).state ≠ .lost)), hsides]
  exact List.foldl_fixed' (setSampling_done h) _

end

/-! ### The whole of a request's junction (R38) -/

section
variable {b : Block} {cmds : List CmdRecord} {losses rw : List (Nat × Nat)} {a closed slot : Nat}

/-- The request that leaves DRAINING, is cancelled, or is freed in DONE by a cancel. -/
theorem applyRequest_draining (h : (b.ent slot).state = .draining) : b.applyRequest cmds losses rw a closed slot = b.freeSlot slot := by
  simp [Block.applyRequest, h]

theorem applyRequest_cancel (hc : (stagingOf (b.ent slot).handle cmds).cancel = true) (h : cancelState (b.ent slot).state = true) :
    b.applyRequest cmds losses rw a closed slot =
      (b.setEnt slot { b.ent slot with state := .draining, endReason := 4, sidingExpiry := 0 }).postEnd slot
        { code := 2, handle := (b.ent slot).handle, time := a, arg0 := 4, arg2 := (b.ent slot).genCount } := by
  have hd : (b.ent slot).state ≠ .draining := fun hd => by simp [hd, cancelState] at h
  simp [Block.applyRequest, hd, hc, h]

theorem applyRequest_cancel_done (hc : (stagingOf (b.ent slot).handle cmds).cancel = true) (h : (b.ent slot).state = .done) :
    b.applyRequest cmds losses rw a closed slot = b.freeSlot slot := by
  simp [Block.applyRequest, h, hc, cancelState]

/-- A transcript loss of a request that recomputes its KV (R53). -/
def Entry.isFatal (e : Entry) (losses : List (Nat × Nat)) : Bool :=
  (e.state == .lost || e.state == .rebuild) && losses.any fun l => l.1 == e.handle && l.2 == 5

/-- A loss that discards the results of the step (R51). -/
def Entry.loses (e : Entry) (losses : List (Nat × Nat)) : Bool :=
  e.isFatal losses || losses.any fun l => l.1 == e.handle && l.2 != 5

/-- The request stood in LOST before this junction. -/
def Block.wasLost (b : Block) (slot : Nat) : Bool := (b.ent slot).state == .lost && !b.work.all.contains slot

theorem applyRequest_steps (hd : (b.ent slot).state ≠ .draining)
    (hc : (stagingOf (b.ent slot).handle cmds).cancel = true → cancelState (b.ent slot).state = false ∧ (b.ent slot).state ≠ .done) :
    b.applyRequest cmds losses rw a closed slot =
      let s := stagingOf (b.ent slot).handle cmds
      let r := b.requestResults s.trunc ((b.ent slot).loses losses) (rw.any fun w => w.1 == (b.ent slot).handle) a slot
      let o := r.requestOps s ((b.ent slot).isFatal losses) (b.wasLost slot) a closed ((r.ent slot).genCount - (b.ent slot).genCount) slot
      if (o.ent slot).state == .done && (s.free || ((b.ent slot).state == .done && (b.ent slot).flags.autoFree && (o.side slot).heldEnd.isNone))
      then o.freeSlot slot else o := by
  have hd' : ((b.ent slot).state == .draining) = false := by simpa using hd
  have hcan : ((stagingOf (b.ent slot).handle cmds).cancel && cancelState (b.ent slot).state) = false := by
    rw [Bool.and_eq_false_imp]
    exact fun h => (hc h).1
  have hdone : ((stagingOf (b.ent slot).handle cmds).cancel && (b.ent slot).state == .done) = false := by
    rw [Bool.and_eq_false_imp]
    exact fun h => by simpa using (hc h).2
  unfold Block.applyRequest
  simp only [hd', hcan, hdone, Bool.false_eq_true, if_false]
  rfl

theorem not_isFatal_of_calm (h : ∀ l ∈ losses, l.1 ≠ (b.ent slot).handle) : (b.ent slot).isFatal losses = false := by
  have hany : (losses.any fun l => l.1 == (b.ent slot).handle && l.2 == 5) = false := by
    simpa using fun x y hl hx => absurd hx (h (x, y) hl)
  simp [Entry.isFatal, hany]

theorem not_loses_of_calm (h : ∀ l ∈ losses, l.1 ≠ (b.ent slot).handle) : (b.ent slot).loses losses = false := by
  have hany : (losses.any fun l => l.1 == (b.ent slot).handle && l.2 != 5) = false := by
    simpa using fun x y hl hx => absurd hx (h (x, y) hl)
  simp [Entry.loses, not_isFatal_of_calm h, hany]

end

/-! ### The cases of Table 02-5 -/

section
variable {b : Block} {slot a closed n : Nat} {s : Staging}

theorem SameRequest.isOpen {c : Block} (h : SameRequest slot b c) (ho : (b.ent slot).isOpen) : (c.ent slot).isOpen := by
  simpa only [Entry.isOpen, h.maxGen, h.genCount, h.transcriptLen, h.transcriptCap] using ho

theorem SameRequest.expires {c : Block} (h : SameRequest slot b c) : (c.ent slot).expires a closed s ↔ (b.ent slot).expires a closed s := by
  simp only [Entry.expires, h.state, h.sidingExpiry]

/-- No APPEND, and no end condition holds. -/
theorem requestOps_no_end {wasLost : Bool} (happ : s.appends = []) (hend : b.endConditions slot a closed n 0 false s = b)
    (hlost : wasLost = false ∨ (b.ent slot).state ≠ .lost) : b.requestOps s false wasLost a closed n slot =
      s.samplings.foldl (fun b p => b.setSampling slot p) (b.pauseResume slot a s) := by
  rw [requestOps_no_append happ, hend, endFatal_false, toRebuild_not_lost hlost]

end

section
variable {b : Block} {cmds : List CmdRecord} {losses rw : List (Nat × Nat)} {a closed slot : Nat} {s : Staging}

/-- A live request that the log neither cancels nor frees, and no loss names. -/
theorem applyRequest_live (hl : ∀ l ∈ losses, l.1 ≠ (b.ent slot).handle) (hs : stagingOf (b.ent slot).handle cmds = s)
    (hcancel : s.cancel = false) (hfree : s.free = false) (hd : (b.ent slot).state ≠ .draining) (hdone : (b.ent slot).state ≠ .done) :
    b.applyRequest cmds losses rw a closed slot =
      let r := b.requestResults s.trunc false (rw.any fun w => w.1 == (b.ent slot).handle) a slot
      r.requestOps s false (b.wasLost slot) a closed ((r.ent slot).genCount - (b.ent slot).genCount) slot := by
  subst hs
  have hsteps := applyRequest_steps (cmds := cmds) (losses := losses) (rw := rw) (a := a) (closed := closed) hd (by simp [hcancel])
  simp [hsteps, not_isFatal_of_calm hl, not_loses_of_calm hl, hfree, hdone]

/-- Such a request without rows and TRUNCATE comes to the operations of the log as it stood. -/
theorem applyRequest_idle (hl : ∀ l ∈ losses, l.1 ≠ (b.ent slot).handle) (hrows : b.rowsOf (b.ent slot).handle = [])
    (hs : stagingOf (b.ent slot).handle cmds = s) (hcancel : s.cancel = false) (hfree : s.free = false) (htr : s.trunc = none)
    (hd : (b.ent slot).state ≠ .draining) (hdone : (b.ent slot).state ≠ .done) : ∃ r, SameRequest slot b r ∧
      b.applyRequest cmds losses rw a closed slot = r.requestOps s false (b.wasLost slot) a closed 0 slot := by
  have hr := sameRequest_requestResults_none (b := b) (slot := slot) (a := a) false (rw.any fun w => w.1 == (b.ent slot).handle)
  rw [if_neg Bool.false_ne_true, applyResult_no_rows hrows] at hr
  refine ⟨_, hr, ?_⟩
  rw [applyRequest_live hl hs hcancel hfree hd hdone, htr]
  simp only [hr.genCount, Nat.sub_self]

theorem wasLost_of_not_lost (h : (b.ent slot).state ≠ .lost) : b.wasLost slot = false := by simp [Block.wasLost, h]

variable (hl : ∀ l ∈ losses, l.1 ≠ (b.ent slot).handle) (hrows : b.rowsOf (b.ent slot).handle = [])
include hl hrows

/-- PAUSE (R50). -/
theorem applyRequest_pause {tier ttl : Nat} (hs : stagingOf (b.ent slot).handle cmds = { sides := [.pause tier ttl] })
    (he : (b.ent slot).state = .prefill ∨ (b.ent slot).state = .decode) (ho : (b.ent slot).isOpen) :
    let B := b.applyRequest cmds losses rw a closed slot
    (B.ent slot).state = .siding ∧ (B.ent slot).sidingExpiry = a + pauseTtl ttl ∧ (slot, tier) ∈ B.work.pause := by
  obtain ⟨r, hr, heq⟩ := applyRequest_idle (rw := rw) (a := a) (closed := closed) hl hrows hs rfl rfl rfl
    (by rcases he with he | he <;> simp [he]) (by rcases he with he | he <;> simp [he])
  have hrun : (r.ent slot).state = .prefill ∨ (r.ent slot).state = .decode := by rwa [hr.state]
  have hlost : (r.ent slot).state ≠ .lost := by rcases hrun with h | h <;> simp [h]
  have hops : r.requestOps { sides := [.pause tier ttl] } false (b.wasLost slot) a closed 0 slot = r.sideOp slot a (.pause tier ttl) :=
    requestOps_no_end rfl (endConditions_open hrun (hr.isOpen ho)) (.inr hlost)
  intro B
  have hB : B = r.sideOp slot a (.pause tier ttl) := heq.trans hops
  rw [hB, sideOp_pause tier ttl hrun]
  exact ⟨congrArg Entry.state (ent_setEnt r slot _), congrArg Entry.sidingExpiry (ent_setEnt r slot _), List.mem_cons_self ..⟩

/-- RESUME (R50). -/
theorem applyRequest_resume {u : Nat} (hs : stagingOf (b.ent slot).handle cmds = { sides := [.resume u] })
    (he : (b.ent slot).state = .siding) (hu : u < (b.ent slot).sidingExpiry) :
    ((b.applyRequest cmds losses rw a closed slot).ent slot).state = .waking ∧
    ((b.applyRequest cmds losses rw a closed slot).ent slot).sidingExpiry = 0 := by
  obtain ⟨r, hr, heq⟩ := applyRequest_idle (rw := rw) (a := a) (closed := closed) hl hrows hs rfl rfl rfl (by simp [he]) (by simp [he])
  have hsid : (r.ent slot).state = .siding := hr.state.trans he
  have hu' : u < (r.ent slot).sidingExpiry := hr.sidingExpiry ▸ hu
  have hexp : ¬ (r.ent slot).expires a closed { sides := [.resume u] } := fun hx => by
    simp [Entry.expires, resumedBefore, hu'] at hx
  have hops : r.requestOps { sides := [.resume u] } false (b.wasLost slot) a closed 0 slot = r.sideOp slot a (.resume u) :=
    requestOps_no_end rfl (endConditions_waiting (by simp [hsid]) (by simp [hsid]) hexp) (.inr (by simp [hsid]))
  rw [heq, hops, sideOp_resume hsid hu', ent_setEnt]
  exact ⟨rfl, rfl⟩

/-- An expiry that is due (R50). -/
theorem applyRequest_expired (hs : stagingOf (b.ent slot).handle cmds = {}) (he : (b.ent slot).state = .siding)
    (ha : (b.ent slot).sidingExpiry ≤ a) (hc : (b.ent slot).sidingExpiry ≤ closed) :
    let B := b.applyRequest cmds losses rw a closed slot
    (B.ent slot).state = .done ∧ (B.ent slot).endReason = 5 ∧ slot ∈ B.work.all := by
  obtain ⟨r, hr, heq⟩ := applyRequest_idle (rw := rw) (a := a) (closed := closed) hl hrows hs rfl rfl rfl (by simp [he]) (by simp [he])
  have hexp : (r.ent slot).expires a closed {} := hr.expires.2 ⟨he, ha, hc, rfl⟩
  have hops : r.requestOps {} false (b.wasLost slot) a closed 0 slot = r.finish slot 5 0 a := by
    rw [requestOps_no_append rfl, endConditions_expires hexp, endFatal_false, toRebuild_not_lost (.inr (by simp))]
    rfl
  intro B
  have hB : B = r.finish slot 5 0 a := heq.trans hops
  rw [hB]
  exact ⟨finish_state .., finish_endReason .., mem_finish_all ..⟩

/-- An expiry that is not due, or waits for a log closed after it (log entry 20). -/
theorem applyRequest_sided (hs : stagingOf (b.ent slot).handle cmds = {}) (he : (b.ent slot).state = .siding)
    (h : a < (b.ent slot).sidingExpiry ∨ closed < (b.ent slot).sidingExpiry) :
    ((b.applyRequest cmds losses rw a closed slot).ent slot).state = .siding ∧
    ((b.applyRequest cmds losses rw a closed slot).ent slot).sidingExpiry = (b.ent slot).sidingExpiry := by
  obtain ⟨r, hr, heq⟩ := applyRequest_idle (rw := rw) (a := a) (closed := closed) hl hrows hs rfl rfl rfl (by simp [he]) (by simp [he])
  have hsid : (r.ent slot).state = .siding := hr.state.trans he
  have hexp : ¬ (r.ent slot).expires a closed {} := fun hx => by
    obtain ⟨-, ha, hc, -⟩ := hr.expires.1 hx
    omega
  have hops : r.requestOps {} false (b.wasLost slot) a closed 0 slot = r :=
    requestOps_no_end rfl (endConditions_waiting (by simp [hsid]) (by simp [hsid]) hexp) (.inr (by simp [hsid]))
  rw [heq, hops]
  exact ⟨hsid, hr.sidingExpiry⟩

/-- SET_SAMPLING (R159). -/
theorem applyRequest_setSampling {p : Sampling} (hs : stagingOf (b.ent slot).handle cmds = { samplings := [p] })
    (he : (b.ent slot).state = .queued ∨ (b.ent slot).state = .prefill ∨ (b.ent slot).state = .decode) (ho : (b.ent slot).isOpen) :
    ((b.applyRequest cmds losses rw a closed slot).ent slot).state = (b.ent slot).state ∧
    ((b.applyRequest cmds losses rw a closed slot).ent slot).sampling = samplingFields p := by
  have hne (st : ReqState) (h : st ≠ .queued ∧ st ≠ .prefill ∧ st ≠ .decode) : (b.ent slot).state ≠ st := by
    rintro rfl
    tauto
  obtain ⟨r, hr, heq⟩ := applyRequest_idle (rw := rw) (a := a) (closed := closed) hl hrows hs rfl rfl rfl
    (hne _ (by decide)) (hne _ (by decide))
  have hend : r.endConditions slot a closed 0 0 false { samplings := [p] } = r := by
    rcases he with he | he
    · have hq : (r.ent slot).state = .queued := hr.state.trans he
      exact endConditions_waiting (by simp [hq]) (by simp [hq]) fun hx => by simp [Entry.expires, hq] at hx
    · exact endConditions_open (by rwa [hr.state]) (hr.isOpen ho)
  have hops : r.requestOps { samplings := [p] } false (b.wasLost slot) a closed 0 slot = r.setSampling slot p :=
    requestOps_no_end rfl hend (.inr (hr.state ▸ hne _ (by decide)))
  have hset := setSampling_request (b := r) (slot := slot) (p := p) (hr.state ▸ hne _ (by decide)) (hr.state ▸ hne _ (by decide))
    (hr.state ▸ hne _ (by decide))
  rw [heq, hops, ← hr.state]
  exact ⟨by simpa using congrArg Entry.state hset, by simpa using congrArg Entry.sampling hset⟩

/-- A request that stood in LOST goes on to REBUILD (R52). -/
theorem applyRequest_lost (hs : stagingOf (b.ent slot).handle cmds = {}) (he : (b.ent slot).state = .lost) (hw : slot ∉ b.work.all) :
    ((b.applyRequest cmds losses rw a closed slot).ent slot).state = .rebuild := by
  obtain ⟨r, hr, heq⟩ := applyRequest_idle (rw := rw) (a := a) (closed := closed) hl hrows hs rfl rfl rfl (by simp [he]) (by simp [he])
  have hlost : (r.ent slot).state = .lost := hr.state.trans he
  have hwas : b.wasLost slot = true := by simp [Block.wasLost, he, hw]
  have hend : r.endConditions slot a closed 0 0 false {} = r :=
    endConditions_waiting (by simp [hlost]) (by simp [hlost]) fun hx => by simp [Entry.expires, hlost] at hx
  have hops : r.requestOps {} false true a closed 0 slot = r.modEnt slot fun e => { e with state := .rebuild } := by
    rw [requestOps_no_append rfl, hend, endFatal_false, toRebuild_lost hlost]
    rfl
  rw [heq, hwas, hops, Block.modEnt, ent_setEnt]

/-- A request in DONE: it stays, and REQ_FREE or AUTO_FREE frees its slot (R48). -/
theorem applyRequest_done (he : (b.ent slot).state = .done) (hc : (stagingOf (b.ent slot).handle cmds).cancel = false) :
    let B := b.applyRequest cmds losses rw a closed slot
    (B.ent slot).state = .done ∧ (slot ∈ B.work.freed ↔ slot ∈ b.work.freed ∨ (stagingOf (b.ent slot).handle cmds).free = true ∨
      ((b.ent slot).flags.autoFree = true ∧ (b.side slot).heldEnd = none)) := by
  have hr : SameRequest slot b (b.requestResults (stagingOf (b.ent slot).handle cmds).trunc false
      (rw.any fun w => w.1 == (b.ent slot).handle) a slot) := by
    rw [requestResults_eq, if_neg Bool.false_ne_true, applyResult_no_rows hrows]
    dsimp only
    rw [truncStage_not_decode (by simp [he])]
    exact sameRequest_slabStage ..
  intro B
  have hB : B = _ := applyRequest_steps (by simp [he]) (by simp [hc])
  rw [not_isFatal_of_calm hl, not_loses_of_calm hl] at hB
  dsimp only at hB
  generalize b.requestResults (stagingOf (b.ent slot).handle cmds).trunc false (rw.any fun w => w.1 == (b.ent slot).handle) a slot = r at hr hB
  have hdone : (r.ent slot).state = .done := hr.state.trans he
  rw [requestOps_done hdone] at hB
  rw [hB]
  simp only [hdone, he, hr.side, beq_self_eq_true, Bool.true_and, Bool.or_eq_true, Bool.and_eq_true, Option.isNone_iff_eq_none]
  split
  · next h => exact ⟨hdone, by simp [Block.freeSlot, h]⟩
  · next h => exact ⟨hdone, by simp [hr.freed, h]⟩

end

/-! ### The lengths of R36, a cancel and the losses (R36, R43, R51 to R53) -/

section
variable {b : Block} {cmds : List CmdRecord} {losses rw : List (Nat × Nat)} {a closed slot : Nat}

/-- The slot's entry and every region stand as they were where a slot is freed. -/
theorem lengthsOk_freeSlot (h : b.LengthsOk slot) (s : Nat) : (b.freeSlot s).LengthsOk slot := h

theorem lengthsOk_applyRequest (h : b.LengthsOk slot)
    (hrows : ∀ r ∈ b.rowsOf (b.ent slot).handle, r.firstPos + r.posCount ≤ (b.ent slot).transcriptLen) :
    (b.applyRequest cmds losses rw a closed slot).LengthsOk slot := by
  by_cases hdrain : (b.ent slot).state = .draining
  · rw [applyRequest_draining hdrain]
    exact lengthsOk_freeSlot h slot
  by_cases hcan : (stagingOf (b.ent slot).handle cmds).cancel = true ∧ cancelState (b.ent slot).state = true
  · rw [applyRequest_cancel hcan.1 hcan.2]
    exact lengthsOk_sameButEnd (sameButEnd_postEnd ..)
      (lengthsOk_setEnt h (fun e => { e with state := .draining, endReason := 4, sidingExpiry := 0 }) fun _ => ⟨rfl, rfl, rfl, rfl⟩)
  by_cases hdone : (stagingOf (b.ent slot).handle cmds).cancel = true ∧ (b.ent slot).state = .done
  · rw [applyRequest_cancel_done hdone.1 hdone.2]
    exact lengthsOk_freeSlot h slot
  rw [applyRequest_steps hdrain fun hc => ⟨by simpa using fun hx => hcan ⟨hc, hx⟩, fun hx => hdone ⟨hc, hx⟩⟩]
  extract_lets s r o
  have ho : o.LengthsOk slot := lengthsOk_requestOps (lengthsOk_requestResults h _ _ _ _ hrows) ..
  split
  · exact lengthsOk_freeSlot ho slot
  · exact ho

/-- A cancel ends the request and moves nothing else of it (R43). -/
theorem applyRequest_cancelled (hc : (stagingOf (b.ent slot).handle cmds).cancel = true) (h : cancelState (b.ent slot).state = true) :
    let B := b.applyRequest cmds losses rw a closed slot
    (B.ent slot).state = .draining ∧ (B.ent slot).endReason = 4 ∧ (B.ent slot).sidingExpiry = 0 ∧
      (B.ent slot).committedLen = (b.ent slot).committedLen ∧ (B.ent slot).transcriptLen = (b.ent slot).transcriptLen ∧
      B.gr.regions = b.gr.regions ∧ B.work = b.work := by
  intro B
  have hB : SameButEnd slot (b.setEnt slot { b.ent slot with state := .draining, endReason := 4, sidingExpiry := 0 }) B := by
    show SameButEnd slot _ (b.applyRequest cmds losses rw a closed slot)
    rw [applyRequest_cancel hc h]
    exact sameButEnd_postEnd ..
  have hent := hB.ent
  rw [ent_setEnt] at hent
  exact ⟨by simpa using congrArg Entry.state hent, by simpa using congrArg Entry.endReason hent, by simpa using congrArg Entry.sidingExpiry hent,
    by simpa using congrArg Entry.committedLen hent, by simpa using congrArg Entry.transcriptLen hent, hB.regions, hB.w2⟩

/-- A transcript loss ends a request in LOST or REBUILD with ERROR (R53). -/
theorem applyRequest_fatal (hs : stagingOf (b.ent slot).handle cmds = {}) (he : (b.ent slot).state = .lost ∨ (b.ent slot).state = .rebuild)
    (hl : ((b.ent slot).handle, 5) ∈ losses) :
    let B := b.applyRequest cmds losses rw a closed slot
    (B.ent slot).state = .done ∧ (B.ent slot).endReason = 6 ∧ slot ∈ B.work.all := by
  have hne (st : ReqState) (h : st ≠ .lost ∧ st ≠ .rebuild) : (b.ent slot).state ≠ st := by
    rintro rfl
    tauto
  have hfatal : (b.ent slot).isFatal losses = true := by
    rcases he with he | he <;> simpa [Entry.isFatal, he] using hl
  have hloses : (b.ent slot).loses losses = true := by simp [Entry.loses, hfatal]
  intro B
  have hB : B = _ := applyRequest_steps (hne _ (by decide)) (by simp [hs])
  rw [hs, hfatal, hloses] at hB
  dsimp only at hB
  have hr : SameRequest slot b (b.requestResults none true (rw.any fun w => w.1 == (b.ent slot).handle) a slot) :=
    sameRequest_requestResults_none true _
  generalize b.requestResults none true (rw.any fun w => w.1 == (b.ent slot).handle) a slot = r at hr hB
  have hend (n : Nat) : r.endConditions slot a closed n 0 false {} = r :=
    endConditions_waiting (hr.state ▸ hne _ (by decide)) (hr.state ▸ hne _ (by decide)) fun hx =>
      hne .siding (by decide) (hr.state ▸ hx.1)
  have hops (n : Nat) : r.requestOps {} true (b.wasLost slot) a closed n slot = r.finish slot 6 0 a := by
    rw [requestOps_no_append rfl, hend, endFatal_fatal (by rwa [hr.state]), toRebuild_not_lost (.inr (by simp))]
    rfl
  have hdone : ((b.ent slot).state == .done) = false := by simpa using hne .done (by decide)
  rw [hops, hdone] at hB
  have hB : B = r.finish slot 6 0 a := by simpa using hB
  rw [hB]
  exact ⟨finish_state .., finish_endReason .., mem_finish_all ..⟩

/-- What the entry rebuilt from its record keeps, but for the limits of its speculation (R52). -/
theorem requestOf_rebuiltEntry (sp : SpecBlock) (e : Entry) (r : Region) :
    ∃ f, requestOf (rebuiltEntry sp e r) = requestOf f ∧ f.state = .lost ∧ f.committedLen = 0 ∧ f.transcriptLen = e.transcriptLen ∧
      f.genCount = e.genCount ∧ f.lostCount = satInc 65535 e.lostCount ∧ f.handle = e.handle :=
  ⟨_, requestOf_keepLimits .., rfl, rfl, rfl, rfl, rfl, rfl⟩

/-- The block with the entry rebuilt, before the reads of its transcript. -/
def Block.withRebuilt (b : Block) (slot : Nat) (r : Region) : Block :=
  let c := b.setEnt slot (rebuiltEntry b.mdl.spec (b.ent slot) r)
  { c with
    work := { c.work with all := slot :: c.work.all }
    gr := { c.gr with walks := c.gr.walks.filter fun w => w.handle != (b.ent slot).handle } }

theorem sameRequest_ask (b : Block) (slot n p k : Nat) (r) : SameRequest slot b (b.ask n p k r) := ⟨rfl, rfl, rfl, rfl, rfl, rfl, rfl, rfl⟩

theorem sameRequest_enterLost {r : Region} (hr : b.region (b.ent slot).granule = some r) (cause : Nat) :
    SameRequest slot (b.withRebuilt slot r) (b.enterLost slot cause a) := by
  simp only [Block.enterLost, hr]
  exact ((sameRequest_ask (b.withRebuilt slot r) slot _ _ _ _).trans (sameRequest_rebuildSlab ..)).trans (sameRequest_post ..)

/-- A loss takes a live request to LOST (R52). -/
theorem applyLoss_lost {h c : Nat} {e : Entry} {r : Region} (hb : b.byHandle h = some (slot, e)) (hc : c ≠ 5) (he : lossState e.state = true)
    (hr : b.region e.granule = some r) :
    let L := b.applyLoss a (h, c)
    (L.ent slot).state = .lost ∧ (L.ent slot).committedLen = 0 ∧ (L.ent slot).transcriptLen = e.transcriptLen ∧
      (L.ent slot).genCount = e.genCount ∧ (L.ent slot).lostCount = satInc 65535 e.lostCount ∧ (L.ent slot).handle = h ∧ slot ∈ L.work.all := by
  obtain ⟨rfl, -, rfl⟩ := ent_of_byHandle hb
  intro L
  have hL : L = b.enterLost slot c a := by
    show b.applyLoss a ((b.ent slot).handle, c) = _
    simp [Block.applyLoss, hb, hc, he]
  have hsame : SameRequest slot (b.withRebuilt slot r) L := hL ▸ sameRequest_enterLost hr c
  obtain ⟨f, hf, hstate, hcom, hlen, hgen, hlost, hhandle⟩ := requestOf_rebuiltEntry b.mdl.spec (b.ent slot) r
  have hent : requestOf (L.ent slot) = requestOf f := (hsame.ent.trans (congrArg requestOf (ent_setEnt b slot _))).trans hf
  refine ⟨(congrArg Entry.state hent).trans hstate, (congrArg Entry.committedLen hent).trans hcom,
    (congrArg Entry.transcriptLen hent).trans hlen, (congrArg Entry.genCount hent).trans hgen,
    (congrArg Entry.lostCount hent).trans hlost, (congrArg Entry.handle hent).trans hhandle, ?_⟩
  rw [hsame.all]
  exact List.mem_cons_self ..

end

/-! ### The ends after a step's tokens (R49) -/

section
variable {slot : Nat} {b : Block} {e : Entry} {ts : List (Bool × Nat)} (h : Holds slot b e ts)
include h

theorem Holds.state : (b.ent slot).state = e.state := by simpa using congrArg Entry.state h.ent
theorem Holds.committedLen : (b.ent slot).committedLen = e.committedLen := by simpa using congrArg Entry.committedLen h.ent
theorem Holds.transcriptLen : (b.ent slot).transcriptLen = e.transcriptLen := by simpa using congrArg Entry.transcriptLen h.ent
theorem Holds.transcriptCap : (b.ent slot).transcriptCap = e.transcriptCap := by simpa using congrArg Entry.transcriptCap h.ent
theorem Holds.genCount : (b.ent slot).genCount = e.genCount := by simpa using congrArg Entry.genCount h.ent
theorem Holds.maxGen : (b.ent slot).maxGen = e.maxGen := by simpa using congrArg Entry.maxGen h.ent
theorem Holds.stopToken : (b.ent slot).stopToken = e.stopToken := by simpa using congrArg Entry.stopToken h.ent
theorem Holds.inputOpen : (b.ent slot).flags.inputOpen = e.flags.inputOpen := by
  simpa using congrArg (fun x : Entry => x.flags.inputOpen) h.ent

theorem Holds.isOpen (ho : e.isOpen) : (b.ent slot).isOpen := by
  simpa only [Entry.isOpen, h.maxGen, h.genCount, h.transcriptLen, h.transcriptCap] using ho

end

/-- The entry after an end, or none. -/
def Entry.ended (e : Entry) (st : ReqState) (r x tail : Nat) : Entry :=
  { e with state := st, endReason := r, sidingExpiry := x, specTailLen := tail }

section
variable {b : Block} {cmds : List CmdRecord} {losses rw : List (Nat × Nat)} {a closed slot n d : Nat} {s : Staging} {e : Entry}
  {ts : List (Bool × Nat)}

theorem Holds.endConditions (h : Holds slot b e ts) (appended : Bool) :
    ∃ st r x tail, Holds slot (b.endConditions slot a closed n d appended s) (e.ended st r x tail) ts := by
  rcases endConditions_cases (b := b) (slot := slot) (a := a) (closed := closed) (n := n) (d := d) (s := s) appended with heq | ⟨r, x, heq⟩
  · exact ⟨e.state, e.endReason, e.sidingExpiry, e.specTailLen, by rwa [heq]⟩
  · exact ⟨.done, r, 0, 0, by rw [heq]; exact h.finish r x a⟩

theorem Holds.toRebuild (h : Holds slot b e ts) (wasLost : Bool) : ∃ st, Holds slot (b.toRebuild slot wasLost) { e with state := st } ts := by
  unfold Block.toRebuild
  split
  · exact ⟨.rebuild, (h.mod (fun x => { x with state := .rebuild }) fun _ => rfl).cast
      (congrArg (fun x : Entry => { x with state := .rebuild }) h.ent)⟩
  · exact ⟨e.state, h⟩

theorem getLast?_generated_append (ts : List (Bool × Nat)) {toks : List Nat} (ht : toks ≠ []) :
    (generated (ts ++ toks.map fun t => (false, t))).getLast? = toks.getLast? := by
  have hmap : generated (toks.map fun t => (false, t)) = toks := by
    simp [generated, List.filter_map, Function.comp_def]
  have happ (us : List (Bool × Nat)) : generated (ts ++ us) = generated ts ++ generated us := by simp [generated]
  rw [happ, hmap, List.getLast?_append_of_ne_nil _ ht]

/-- The last of the tokens placed is the stop token. -/
theorem Holds.stops_iff {toks : List Nat} (h : Holds slot b e (ts ++ toks.map fun t => (false, t))) : b.stops slot toks.length ↔
    toks ≠ [] ∧ bit e.stopToken 31 = true ∧ toks.getLast? = some (e.stopToken % 16777216) := by
  unfold Block.stops
  rw [h.transcript, h.stopToken, List.length_pos_iff]
  refine and_congr_right fun ht => ?_
  rw [getLast?_generated_append ts ht]

/-- A request that runs or recomputes, has room and has placed no token, has no end. -/
theorem endConditions_still (he : (b.ent slot).state = .prefill ∨ (b.ent slot).state = .decode ∨ (b.ent slot).state = .rebuild)
    (ho : (b.ent slot).isOpen) : b.endConditions slot a closed 0 d false s = b := by
  rcases he with he | he | he
  · exact endConditions_open (.inl he) ho
  · exact endConditions_open (.inr he) ho
  · exact endConditions_waiting (by simp [he]) (by simp [he]) fun hx => by simp [Entry.expires, he] at hx

/-- A live request with rows and no operation: the step's results, then the ends. -/
theorem applyRequest_rows (hl : ∀ l ∈ losses, l.1 ≠ (b.ent slot).handle) (hs : stagingOf (b.ent slot).handle cmds = {})
    (he : (b.ent slot).state = .prefill ∨ (b.ent slot).state = .decode ∨ (b.ent slot).state = .rebuild) :
    ∃ r, SameRequest slot (b.applyResult slot a) r ∧ b.applyRequest cmds losses rw a closed slot =
      r.endConditions slot a closed ((r.ent slot).genCount - (b.ent slot).genCount) 0 false {} := by
  have hne (st : ReqState) (h : st ≠ .prefill ∧ st ≠ .decode ∧ st ≠ .rebuild) : (b.ent slot).state ≠ st := by
    rintro rfl
    tauto
  refine ⟨_, sameRequest_requestResults_none false (rw.any fun w => w.1 == (b.ent slot).handle), ?_⟩
  rw [applyRequest_live hl hs rfl rfl (hne _ (by decide)) (hne _ (by decide)), wasLost_of_not_lost (hne _ (by decide))]
  dsimp only
  rw [requestOps_no_append rfl, endFatal_false, toRebuild_not_lost (.inl rfl)]
  rfl

section
variable {r : RowRec} {res : StepResult} (hl : ∀ l ∈ losses, l.1 ≠ (b.ent slot).handle)
  (hs : stagingOf (b.ent slot).handle cmds = {})
  (he : (b.ent slot).state = .prefill ∨ (b.ent slot).state = .decode ∨ (b.ent slot).state = .rebuild)
  (ht : (b.rowsOf (b.ent slot).handle).filter (fun x => x.kind == 3) = [])
  (hr : (b.rowsOf (b.ent slot).handle).find? (fun x => decide (x.kind ≤ 2)) = some r) (hres : b.resultOf (b.ent slot).handle = some res)
include hl hs he ht hr hres

/-- A sampled row without a token: nothing of the request moves. -/
theorem applyRequest_no_token (hsample : r.sample = true) (htok : res.tokens = []) (ho : (b.ent slot).isOpen) :
    SameRequest slot b (b.applyRequest cmds losses rw a closed slot) := by
  obtain ⟨c, hc, hB⟩ := applyRequest_rows (rw := rw) (a := a) (closed := closed) hl hs he
  rw [applyResult_row ht hr hres] at hc
  have hsame : SameRequest slot b c := (applyRow_no_token hsample htok).trans hc
  rwa [hB, hsame.genCount, Nat.sub_self, endConditions_still (by rwa [hsame.state]) (hsame.isOpen ho)]

variable (hok : b.LengthsOk slot)
include hok

/-- A sampled row with tokens (R49): its positions are committed, the tokens that stand are appended, and they may end the request. -/
theorem applyRequest_tokens (hsample : r.sample = true) (htok : res.tokens ≠ []) :
    let B := b.applyRequest cmds losses rw a closed slot
    let e := b.ent slot
    let t := B.ent slot
    let toks := cutTokens e (res.tokens.map (·.token))
    let stop := toks ≠ [] ∧ bit e.stopToken 31 = true ∧ toks.getLast? = some (e.stopToken % 16777216)
    let max_ := 0 < e.maxGen ∧ e.maxGen ≤ e.genCount + toks.length
    let full := e.transcriptCap ≤ e.transcriptLen + toks.length
    t.committedLen = r.firstPos + r.posCount ∧ t.transcriptLen = e.transcriptLen + toks.length ∧ t.genCount = e.genCount + toks.length ∧
      B.transcript t = b.transcript e ++ toks.map (fun x => (false, x)) ∧
      (stop → t.state = .done ∧ t.endReason = 1) ∧ (¬ stop → max_ → t.state = .done ∧ t.endReason = 2) ∧
      (¬ stop → ¬ max_ → full → t.state = .done ∧ t.endReason = 3) ∧ (¬ stop → ¬ max_ → ¬ full → t.state = .decode) := by
  intro B e t toks stop max_ full
  obtain ⟨c, hc, hB⟩ := applyRequest_rows (rw := rw) (a := a) (closed := closed) hl hs he
  rw [applyResult_row ht hr hres] at hc
  have hheld : Holds slot c (e.withTokens (r.firstPos + r.posCount) toks.length) (b.transcript e ++ toks.map fun t => (false, t)) :=
    ((holds_of_lengthsOk b slot hok).applyRow_tokens hsample htok he).same hc
  have hplaced : (c.ent slot).genCount - (b.ent slot).genCount = toks.length := by
    rw [hheld.genCount]
    exact Nat.add_sub_cancel_left ..
  rw [hplaced] at hB
  have hrun : (c.ent slot).state = .prefill ∨ (c.ent slot).state = .decode := .inr hheld.state
  have hstop : c.stops slot toks.length ↔ stop := hheld.stops_iff
  have hgo : ¬ stop → B = if max_ then c.finish slot 2 0 a else if full then c.finish slot 3 0 a else c := fun hn => by
    have hrunning := endConditions_running (a := a) (closed := closed) (d := 0) (s := {}) (appended := false) hrun (hstop.not.2 hn)
    rw [hheld.maxGen, hheld.genCount, hheld.transcriptCap, hheld.transcriptLen] at hrunning
    exact hB.trans hrunning
  obtain ⟨st, er, x, tail, hend⟩ := hheld.endConditions (a := a) (closed := closed) (n := toks.length) (d := 0) (s := {}) false
  rw [← hB] at hend
  refine ⟨hend.committedLen, hend.transcriptLen, hend.genCount, hend.transcript, fun hy => ?_, fun hn hm => ?_, fun hn hm hf => ?_,
    fun hn hm hf => ?_⟩
  · exact ends_of_eq_finish (hB.trans (endConditions_stop hrun (hstop.2 hy)))
  · exact ends_of_eq_finish ((hgo hn).trans (if_pos hm))
  · exact ends_of_eq_finish ((hgo hn).trans ((if_neg hm).trans (if_pos hf)))
  · have hc : B = c := (hgo hn).trans ((if_neg hm).trans (if_neg hf))
    show (B.ent slot).state = .decode
    rw [hc]
    exact hheld.state

/-- A row that is not sampled commits its positions. -/
theorem applyRequest_unsampled (hsample : r.sample = false) (ho : (b.ent slot).isOpen) :
    Holds slot (b.applyRequest cmds losses rw a closed slot) { b.ent slot with committedLen := r.firstPos + r.posCount }
      (b.transcript (b.ent slot)) := by
  obtain ⟨c, hc, hB⟩ := applyRequest_rows (rw := rw) (a := a) (closed := closed) hl hs he
  rw [applyResult_row ht hr hres, applyRow_unsampled hsample] at hc
  have hheld : Holds slot c { b.ent slot with committedLen := r.firstPos + r.posCount } (b.transcript (b.ent slot)) :=
    ((holds_of_lengthsOk b slot hok).commit _).same hc
  rwa [hB, hheld.genCount, Nat.sub_self, endConditions_still (by rwa [hheld.state]) (hheld.isOpen ho)]

end

end

/-! ### A TRUNCATE or an APPEND alone (R44 to R46) -/

section
variable {b : Block} {cmds : List CmdRecord} {losses rw : List (Nat × Nat)} {a closed slot n d : Nat} {s : Staging}

/-- A TRUNCATE leaves room for a token, and MAX_GEN not reached. -/
theorem isOpen_truncated {e : Entry} {p left removed shared due : Nat} (h : e.isOpen) (hleft : left ≤ e.transcriptLen) :
    (e.truncated p left removed shared due).isOpen := by
  obtain ⟨hmax, hcap⟩ := h
  exact ⟨hmax.imp_right (Nat.sub_le ..).trans_lt, hleft.trans_lt hcap⟩

/-- A live request without rows and with one TRUNCATE, which leaves `left` of its transcript. -/
theorem applyRequest_truncate {p : Nat} (hl : ∀ l ∈ losses, l.1 ≠ (b.ent slot).handle) (hrows : b.rowsOf (b.ent slot).handle = [])
    (hok : b.LengthsOk slot) (hs : stagingOf (b.ent slot).handle cmds = { trunc := some p }) (he : (b.ent slot).state = .decode)
    (ho : (b.ent slot).isOpen) (hrem : (truncTokens p (b.transcript (b.ent slot))).2 ≠ []) :
    let B := b.applyRequest cmds losses rw a closed slot
    let left := truncTokens p (b.transcript (b.ent slot))
    ∃ shared due, Holds slot B ((b.ent slot).truncated p left.1.length left.2.length shared due) left.1 ∧ slot ∈ B.work.trunc := by
  intro B left
  have hB : B = _ := applyRequest_live hl hs rfl rfl (by simp [he]) (by simp [he])
  rw [requestResults_eq, if_neg Bool.false_ne_true, applyResult_no_rows hrows] at hB
  dsimp only at hB
  rw [truncStage_decode he] at hB
  have hheld := holds_of_lengthsOk b slot hok
  have hlen := (hheld.lengths.1 hok).2.2
  obtain ⟨shared, due, htrunc, hmem⟩ := hheld.truncate (a := a) hrem ((b.ent slot).genCount - (b.ent slot).genCount)
    (if (rw.any fun w => w.1 == (b.ent slot).handle) then 0 else (b.ent slot).genCount - (b.ent slot).genCount)
  generalize b.truncate slot p a _ _ = c at hB htrunc hmem
  have hsame := sameRequest_slabStage (b := c) (slot := slot) (a := a)
    (fun d => d.gr.slabErrors.contains (b.ent slot).handle && !false) (b.ent slot).genCount
  generalize c.slabStage _ a slot _ = r at hB hsame
  have hr := htrunc.same hsame
  have hgen : (r.ent slot).genCount ≤ (b.ent slot).genCount := hr.genCount.trans_le (Nat.sub_le ..)
  have hleft := (truncTokens_length p (b.transcript (b.ent slot))).1.trans_eq hlen
  have hend : r.endConditions slot a closed 0 0 false { trunc := some p } = r :=
    endConditions_open (.inr (hr.state.trans he)) (hr.isOpen (isOpen_truncated ho hleft))
  rw [Nat.sub_eq_zero_of_le hgen, requestOps_no_end rfl hend (.inr (by simp [hr.state.trans he]))] at hB
  have hB : B = r := hB
  exact ⟨shared, due, hB ▸ hr, by rw [hB, hsame.trunc]; exact hmem⟩

/-- An APPEND has filled the transcript. -/
theorem endConditions_full (ha : appendState (b.ent slot).state = true) (hm : (b.ent slot).maxGen = 0 ∨ (b.ent slot).genCount < (b.ent slot).maxGen)
    (hf : (b.ent slot).transcriptCap ≤ (b.ent slot).transcriptLen) (ht : b.transcript (b.ent slot) ≠ []) :
    b.endConditions slot a closed 0 d true s = b.finish slot 3 d a := by
  by_cases hrun : (b.ent slot).state = .prefill ∨ (b.ent slot).state = .decode
  · rw [endConditions_running hrun fun hs => Nat.lt_irrefl 0 hs.1, if_neg (by omega), if_pos hf]
  · obtain ⟨hp, hd⟩ := not_or.1 hrun
    exact endConditions_filled hp hd ha hf ht

theorem requestOps_append (l : List Nat) (close wasLost : Bool) : b.requestOps { appends := [(l, close)] } false wasLost a closed n slot =
    let c := b.append slot l close
    (c.1.endConditions slot a closed n c.2 (decide ((b.ent slot).transcriptLen < (c.1.ent slot).transcriptLen) || decide (0 < c.2))
      { appends := [(l, close)] }).toRebuild slot wasLost := rfl

/-- A live request without rows and with one APPEND comes to the ends with its tokens appended. -/
theorem applyRequest_appends {l : List Nat} {close : Bool} (hl : ∀ l ∈ losses, l.1 ≠ (b.ent slot).handle)
    (hrows : b.rowsOf (b.ent slot).handle = []) (hok : b.LengthsOk slot)
    (hs : stagingOf (b.ent slot).handle cmds = { appends := [(l, close)] }) (ho : (b.ent slot).flags.inputOpen = true)
    (ha : appendState (b.ent slot).state = true) :
    let fit := (b.ent slot).fitting l
    ∃ c fl appended, fl.inputOpen = !close ∧
      Holds slot c ((b.ent slot).appended fl fit.length) (b.transcript (b.ent slot) ++ fit.map fun x => (true, x % 16777216)) ∧
      (l ≠ [] → appended = true) ∧ b.applyRequest cmds losses rw a closed slot =
        (c.endConditions slot a closed 0 (l.length - fit.length) appended { appends := [(l, close)] }).toRebuild slot (b.wasLost slot) := by
  intro fit
  obtain ⟨r, hr, heq⟩ := applyRequest_idle (rw := rw) (a := a) (closed := closed) hl hrows hs rfl rfl rfl
    (fun h => by simp [h, appendState] at ha) (fun h => by simp [h, appendState] at ha)
  have hheld := (holds_of_lengthsOk b slot hok).same hr
  have hfit : (r.ent slot).fitting l = fit := by simp only [fit, Entry.fitting, hr.transcriptCap, hr.transcriptLen]
  obtain ⟨⟨fl, hfl, happ⟩, hdisc⟩ := (hheld.cast hr.ent.symm).append l close (hr.inputOpen.trans ho) (hr.state ▸ ha)
  rw [hfit] at happ hdisc
  refine ⟨(r.append slot l close).1, fl, decide ((r.ent slot).transcriptLen < ((r.append slot l close).1.ent slot).transcriptLen) ||
    decide (0 < l.length - fit.length), hfl, happ.cast (requestOf_appended hr.ent fl fit.length), fun hne => ?_, ?_⟩
  · have hlen : _ = (r.ent slot).transcriptLen + fit.length := happ.transcriptLen
    have hpos : 0 < l.length := List.length_pos_iff.2 hne
    rw [hlen, Bool.or_eq_true, decide_eq_true_eq, decide_eq_true_eq]
    omega
  · rw [heq, requestOps_append, ← hdisc]

theorem fitting_fills {e : Entry} {l : List Nat} (h : e.transcriptCap ≤ e.transcriptLen + l.length) :
    e.transcriptCap ≤ e.transcriptLen + (e.fitting l).length := by
  unfold Entry.fitting
  rw [List.length_take]
  omega

/-- APPEND (R45): the tokens that fit join the transcript, and one that fills it ends a request that may still generate. -/
theorem applyRequest_append {l : List Nat} {close : Bool} (hl : ∀ l ∈ losses, l.1 ≠ (b.ent slot).handle)
    (hrows : b.rowsOf (b.ent slot).handle = []) (hok : b.LengthsOk slot)
    (hs : stagingOf (b.ent slot).handle cmds = { appends := [(l, close)] }) (ho : (b.ent slot).flags.inputOpen = true)
    (ha : appendState (b.ent slot).state = true) :
    let B := b.applyRequest cmds losses rw a closed slot
    let e := b.ent slot
    let t := B.ent slot
    let fit := l.take (e.transcriptCap - e.transcriptLen)
    t.transcriptLen = e.transcriptLen + fit.length ∧ B.transcript t = b.transcript e ++ fit.map (fun x => (true, x % 16777216)) ∧
      t.flags.inputOpen = !close ∧
      ((e.maxGen = 0 ∨ e.genCount < e.maxGen) → 0 < e.transcriptLen → l ≠ [] → e.transcriptCap ≤ e.transcriptLen + l.length →
        t.state = .done ∧ t.endReason = 3) := by
  intro B e t fit
  obtain ⟨c, fl, appended, hfl, hc, happended, hB⟩ := applyRequest_appends (rw := rw) (a := a) (closed := closed) hl hrows hok hs ho ha
  obtain ⟨st, er, x, tail, hend⟩ := hc.endConditions (a := a) (closed := closed) (n := 0) (d := l.length - fit.length)
    (s := { appends := [(l, close)] }) appended
  obtain ⟨st', hreb⟩ := hend.toRebuild (b.wasLost slot)
  have hlens := (holds_of_lengthsOk b slot hok).lengths.1 hok
  refine ⟨?_, ?_, ?_, fun hmax hpos hne hfull => ends_of_eq_finish (r := 3) (x := l.length - fit.length) (a := a) (c := B) (b := c) ?_⟩
  · exact (congrArg (fun b : Block => (b.ent slot).transcriptLen) hB).trans hreb.transcriptLen
  · exact (congrArg (fun b : Block => b.transcript (b.ent slot)) hB).trans hreb.transcript
  · exact ((congrArg (fun b : Block => (b.ent slot).flags.inputOpen) hB).trans hreb.inputOpen).trans hfl
  · have htext : b.transcript (b.ent slot) ≠ [] := fun h => by
      have hlen : (b.transcript (b.ent slot)).length = (b.ent slot).transcriptLen := hlens.2.2
      rw [h] at hlen
      exact absurd hlen.symm (Nat.ne_of_gt hpos)
    have hfin := endConditions_full (b := c) (slot := slot) (a := a) (closed := closed) (d := l.length - fit.length)
      (s := { appends := [(l, close)] }) (by rw [hc.state]; exact ha) (by rw [hc.maxGen, hc.genCount]; exact hmax)
      (by rw [hc.transcriptCap, hc.transcriptLen]; exact fitting_fills hfull) (by rw [hc.transcript]; simp [htext])
    rw [happended hne] at hB
    refine hB.trans ?_
    refine (congrArg (fun b' => Block.toRebuild b' slot (b.wasLost slot)) hfin).trans (toRebuild_not_lost (.inr ?_))
    rw [finish_state]
    decide

end

/-- Settles O47: the stages of `applyRequest` one after another, for each of the cases that Table 02-5 names. -/
theorem junctionsChangeRequests : Obligations.JunctionsChangeRequests := by
  intro b cmds losses rw a closed slot e s B t rows calm plain open_
  refine ⟨lengthsOk_applyRequest, applyRequest_draining, applyRequest_cancelled, applyRequest_cancel_done,
    fun h he hc => applyRequest_done h.1.1 h.2 he hc, fun r res hcalm hok hs he ht hr hres => ⟨?_, ?_, ?_⟩,
    fun p h hok hs he ho hrem => ?_, fun ts close h hok hs ho ha => applyRequest_append h.1.1 h.2 hok hs ho ha,
    fun tier ttl h hs he ho => applyRequest_pause h.1.1 h.2 hs he ho, fun u h hs he hu => applyRequest_resume h.1.1 h.2 hs he hu,
    fun h hs he => ⟨applyRequest_expired h.1.1 h.2 hs he, applyRequest_sided h.1.1 h.2 hs he⟩,
    fun p h hs he ho => applyRequest_setSampling h.1.1 h.2 hs he ho, fun h hs he hw => applyRequest_lost h.1.1 h.2 hs he hw,
    fun hs he hl => applyRequest_fatal hs he hl, fun h c r hb hc he hr => applyLoss_lost hb hc he hr⟩
  · exact applyRequest_tokens hcalm.1 hs he ht hr hres hok
  · intro hsample htok ho
    have hsame := applyRequest_no_token (rw := rw) (a := a) (closed := closed) hcalm.1 hs he ht hr hres hsample htok ho
    have hheld := (holds_of_lengthsOk b slot hok).same hsame
    exact ⟨hheld.committedLen, ⟨hheld.transcriptLen, hheld.genCount, hheld.transcript⟩, hheld.state⟩
  · intro hsample ho
    have hheld := applyRequest_unsampled (rw := rw) (a := a) (closed := closed) hcalm.1 hs he ht hr hres hok hsample ho
    exact ⟨hheld.committedLen, ⟨hheld.transcriptLen, hheld.genCount, hheld.transcript⟩, hheld.state⟩
  · obtain ⟨shared, due, hheld, hmem⟩ :=
      applyRequest_truncate (rw := rw) (a := a) (closed := closed) h.1.1 h.2 hok hs he ho hrem
    exact ⟨hheld.state.trans he, hheld.transcriptLen, hheld.committedLen, hheld.genCount, hheld.transcript, hmem⟩

end Sys2Proof.Machine
end

section
/-! The lead closes logs (R80 to R83, R224, R289): when it may, what closing leaves of the Coupling Unit, and that the log put in place
stays the lead's own and the sequencer's closed one. -/

namespace Sys2Proof.Machine
open Sys2Proof

/-! ### When the lead finalises (R80, R83) -/

section
variable {b : Block}

theorem yardFinalisation_work (hclose : b.mayClose = true) (hwork : b.consistNow.rows ≠ [] ∨ b.commandDue = true) :
    b.yardFinalisation = b.finalise := by
  rcases hwork with hrows | hdue
  · simp [Block.yardFinalisation, hclose, hrows]
  · simp [Block.yardFinalisation, hclose, hdue]

theorem yardFinalisation_idle (hrows : b.consistNow.rows = []) (hdue : b.commandDue = false) (htake : b.seq.takeover = none)
    (hfirst : b.cp.firstJunction = false) : b.yardFinalisation = b := by
  simp [Block.yardFinalisation, hrows, hdue, htake, hfirst]

theorem idleInterval_passed (hclose : b.mayClose = true) (hrows : b.consistNow.rows = [])
    (hpassed : b.cp.agreedAt + b.mdl.idleInterval ≤ b.now) : b.idleInterval = b.finalise := by
  simp [Block.idleInterval, hclose, hrows, hpassed]

theorem yardFinalisation_barred (h : b.mayClose = false) : b.yardFinalisation = b := by simp [Block.yardFinalisation, h]

theorem idleInterval_barred (h : b.mayClose = false) : b.idleInterval = b := by simp [Block.idleInterval, h]

end

/-! ### What closing leaves as it was -/

section
variable {b : Block}

@[simp] theorem traceUnit_cp (step outcome rows positions row : Nat) (e : Entry) :
    (b.traceUnit step e outcome rows positions row).cp = b.cp := by
  simp only [Block.traceUnit, Block.trace, Block.traceAt]
  split <;> rfl

@[simp] theorem storeLog_cp (l : JLog) : (b.storeLog l).cp = b.cp := by
  unfold Block.storeLog
  split <;> simp

@[simp] theorem storeLog_seq (l : JLog) : (b.storeLog l).seq = b.seq := by
  unfold Block.storeLog
  split <;> simp

/-- Fragments sent again only join the transmit queue. -/
theorem sendFrags_foldl (l : JLog) (asked : List (Nat × Nat × Nat)) :
    ∃ q, asked.foldl (fun (b : Block) a => b.sendFrags a.1 l a.2.1 a.2.2) b = { b with fab := { b.fab with queue := q } } :=
  List.foldlRecOn (motive := fun c : Block => ∃ q, c = { b with fab := { b.fab with queue := q } }) asked _ ⟨b.fab.queue, rfl⟩
    fun _ ⟨_, hq⟩ _ _ => by subst hq; exact ⟨_, rfl⟩

theorem checkStage_kept (h : b.cp.stageLost = false) (l : JLog) : b.checkStage l = b := by simp [Block.checkStage, h]

/-- A report that waited is entered or waits on: nothing else of the block changes (R224). -/
theorem consumerReport_eq (h tok ev : Nat) : ∃ c w, b.consumerReport h tok ev =
    { b with seq := { b.seq with consumer := c, consumerWait := w } } := by
  by_cases hw : Tab.has h b.seq.consumerWait = true ∨ ¬ b.reportFits h tok ev
  · exact ⟨_, _, consumerReport_waits hw⟩
  · obtain ⟨hnone, hfits⟩ := not_or.mp hw
    exact ⟨_, _, consumerReport_entered (Bool.eq_false_iff.mpr hnone) (not_not.mp hfits)⟩

theorem takeWaiting_eq : ∃ c w, b.takeWaiting = { b with seq := { b.seq with consumer := c, consumerWait := w } } :=
  List.foldlRecOn (motive := fun d : Block => ∃ c w, d = { b with seq := { b.seq with consumer := c, consumerWait := w } })
    b.seq.consumerWait _ ⟨b.seq.consumer, [], rfl⟩ fun d ⟨c, w, hd⟩ x _ => by
      obtain ⟨c', w', hx⟩ := consumerReport_eq (b := d) x.1 x.2.1 x.2.2
      exact ⟨c', w', by rw [hx, hd]⟩

end

/-! ### The log put in place (R82, R224) -/

section
variable {b : Block}

/-- A log put in place is the sequencer's closed one and the lead's own, where no staged content is lost (R233). -/
theorem broadcastLog_placed (h : b.cp.stageLost = false) (l : JLog) :
    (b.broadcastLog l).seq.closed = some l ∧ (b.broadcastLog l).cp = { b.cp with log := some l } := by
  simp only [Block.broadcastLog]
  obtain ⟨q, hq⟩ := sendFrags_foldl l b.seq.resendAsked
  rw [hq, checkStage_kept (by simpa using h)]
  simp

/-- Closing puts in place a log of the next junction, of the lead's term and rank, and takes the reports that waited for it. -/
theorem closeLog_eq : ∃ (c : Block) (l : JLog), b.closeLog = (c.broadcastLog l).takeWaiting ∧ c.cp = b.cp ∧
    l.junction = b.cp.applied + 1 ∧ l.leadTerm = b.cp.term ∧ l.leadRank = b.cp.rank ∧ l.closeTime = b.now ∧
    l.commands = b.cmdsFor (b.cp.applied + 1) ∧ l.consist.step = b.cp.applied + 1 := by
  refine ⟨_, _, rfl, ?_, rfl, rfl, rfl, rfl, rfl, rfl⟩
  exact List.foldlRecOn (motive := fun c : Block => c.cp = b.cp) _ _ rfl fun c hc u _ => (traceUnit_cp ..).trans hc

theorem openJ_closed {l : JLog} (h : b.seq.closed = some l) : b.openJ = b.cp.applied + 2 := by simp [Block.openJ, h]

theorem closeLog_placed (h : b.cp.stageLost = false) : ∃ l, b.closeLog.seq.closed = some l ∧ b.closeLog.cp.log = some l ∧
    l.junction = b.cp.applied + 1 ∧ l.leadTerm = b.cp.term ∧ l.leadRank = b.cp.rank ∧ l.closeTime = b.now ∧
    l.commands = b.cmdsFor (b.cp.applied + 1) ∧ l.consist.step = b.cp.applied + 1 ∧ b.closeLog.openJ = b.cp.applied + 2 := by
  obtain ⟨c, l, hclose, hcp, hjunction, hterm, hrank, htime, hcmds, hstep⟩ := closeLog_eq (b := b)
  obtain ⟨hclosed, hlog⟩ := broadcastLog_placed (hcp ▸ h : c.cp.stageLost = false) l
  obtain ⟨cs, ws, htake⟩ := takeWaiting_eq (b := c.broadcastLog l)
  have hseq : b.closeLog.seq.closed = some l := by rw [hclose, htake]; exact hclosed
  have hcplog : b.closeLog.cp = { b.cp with log := some l } := by rw [hclose, htake, ← hcp]; exact hlog
  exact ⟨l, hseq, by rw [hcplog], hjunction, hterm, hrank, htime, hcmds, hstep, by rw [openJ_closed hseq, hcplog]⟩

end

/-- Settles O45: each event is finalisation or nothing by what the lead may close, and a closed log is one put in place. -/
theorem theLeadClosesLogsInOrder : Obligations.TheLeadClosesLogsInOrder := by
  refine ⟨fun x t hlive => ?_, fun b h => closeLog_placed h⟩
  intro b
  have hyard {c : Block} (h : b.yardFinalisation = c) : exec (.yardFinalisation t) x = .next (x.settled b c) := by
    rw [exec_yardFinalisation, event_live hlive, h]
  have hidle {c : Block} (h : b.idleInterval = c) : exec (.idleInterval t) x = .next (x.settled b c) := by
    rw [exec_idleInterval, event_live hlive, h]
  exact ⟨fun hclose hwork => hyard (yardFinalisation_work hclose hwork),
    fun _ hrows hdue htake hfirst => hyard (yardFinalisation_idle hrows hdue htake hfirst),
    fun hclose hrows hpassed => hidle (idleInterval_passed hclose hrows hpassed),
    fun hbarred => ⟨hyard (yardFinalisation_barred hbarred), hidle (idleInterval_barred hbarred)⟩⟩

end Sys2Proof.Machine
end

section
/-! The policy at a junction (chapter 3): priorities by slack (R71), missed deadlines (R73 to R75), the debits and the refill of rations
(R85, R86), and the shares of RATIO classes (R79). -/

namespace Sys2Proof.Machine
open Sys2Proof

/-! ### EFFECTIVE_PRIO (R71) -/

section
variable {b : Block} {a slot stepEst : Nat} {e : Entry} {c : ClassCfg}

/-- The level that the deadline thresholds passed promote a request to, no higher than its class's ceiling. -/
def promotedLevel (c : ClassCfg) (e : Entry) (promos : Nat) : Nat :=
  if c.ceiling < baseLevel e.classPrio then max c.ceiling (baseLevel e.classPrio - promos) else baseLevel e.classPrio

/-- The thresholds of a class that a request's slack has passed; none without a deadline. -/
def promosOf (c : ClassCfg) (e : Entry) (a stepEst : Nat) : Nat :=
  if e.deadlineMode = 0 then 0 else ((c.thresh.take c.numThresh).filter fun t => slackOf e a stepEst < t).length

theorem effectivePrioOf_eq : effectivePrioOf c e a stepEst =
    (baseLevel e.classPrio - promotedLevel c e (promosOf c e a stepEst)) * 16 + promotedLevel c e (promosOf c e a stepEst) := rfl

theorem promotedLevel_le (n : Nat) : promotedLevel c e n ≤ baseLevel e.classPrio := by
  unfold promotedLevel
  split <;> omega

theorem promotedLevel_at_ceiling (h : baseLevel e.classPrio ≤ c.ceiling) (n : Nat) : promotedLevel c e n = baseLevel e.classPrio :=
  if_neg (Nat.not_lt.mpr h)

theorem promotedLevel_below (h : c.ceiling < baseLevel e.classPrio) (n : Nat) :
    promotedLevel c e n = max c.ceiling (baseLevel e.classPrio - n) := if_pos h

theorem promotedLevel_zero : promotedLevel c e 0 = baseLevel e.classPrio := by
  unfold promotedLevel
  split <;> omega

theorem promosOf_no_deadline (h : e.deadlineMode = 0) : promosOf c e a stepEst = 0 := if_pos h

theorem promotedLevel_plain (h : baseLevel e.classPrio ≤ c.ceiling ∨ e.deadlineMode = 0) :
    promotedLevel c e (promosOf c e a stepEst) = baseLevel e.classPrio := by
  rcases h with hceiling | hmode
  · exact promotedLevel_at_ceiling hceiling _
  · rw [promosOf_no_deadline hmode, promotedLevel_zero]

/-- Away from the wrap of 64 bits the slack is the plain difference. -/
theorem slackOf_eq (hd : e.nextDeadline < 2 ^ 62) (ha : a + 2 * stepEst < 2 ^ 62) :
    slackOf e a stepEst = (e.nextDeadline : Int) - ((a + 2 * stepEst : Nat) : Int) := by
  simp only [slackOf, BitVec.toInt_eq_toNat_cond, BitVec.toNat_sub, BitVec.toNat_ofNat]
  omega

theorem promosOf_slack (hmode : e.deadlineMode ≠ 0) (hd : e.nextDeadline < 2 ^ 62) (ha : a + 2 * stepEst < 2 ^ 62) :
    promosOf c e a stepEst = ((c.thresh.take c.numThresh).filter fun t =>
      decide ((e.nextDeadline : Int) - ((a + 2 * stepEst : Nat) : Int) < t)).length := by
  rw [promosOf, if_neg hmode, slackOf_eq hd ha]

theorem updatePrio_inactive (h : activeState (b.ent slot).state = false) : b.updatePrio a slot = b := by
  simp [Block.updatePrio, h]

theorem updatePrio_active (h : activeState (b.ent slot).state = true) : b.updatePrio a slot = b.setEnt slot { b.ent slot with
    effectivePrio := effectivePrioOf (b.cls (classOf (b.ent slot).classPrio)).cfg (b.ent slot) a b.cp.stepEst } := by
  simp [Block.updatePrio, h]

end

/-! ### A missed deadline (R73 to R75) -/

section
variable {b : Block} {slot : Nat}

@[simp] theorem tenant_modTenant_self (i : Nat) (f : TenantState → TenantState) : (b.modTenant i f).tenant i = f (b.tenant i) := by
  simp [Block.tenant, Block.modTenant]

theorem tenant_modTenant_ne {i j : Nat} (h : j ≠ i) (f : TenantState → TenantState) : (b.modTenant i f).tenant j = b.tenant j := by
  simp only [Block.tenant, Block.modTenant, Tab.getD_set_ne h.symm]

theorem post_ent (ev : Event) : ∃ x y, (b.post slot ev).ent slot = { b.ent slot with eventProd := x, eventsDropped := y } := by
  rcases post_spec b slot ev with h | ⟨le, mp, x, y, h⟩
  · exact ⟨_, _, by rw [h]⟩
  · exact ⟨x, y, by rw [h, ent_setEnt]⟩

theorem post_pol (ev : Event) : (b.post slot ev).pol = b.pol := by
  rcases post_spec b slot ev with h | ⟨le, mp, x, y, h⟩ <;> rw [h]
  rfl

theorem putEvent_lastEvents (e : Entry) (ev : Event) :
    ∃ addr, (b.putEvent e ev).1.gr.lastEvents = b.gr.lastEvents ++ [(addr, e.eventRing, e.eventProd, ev)] := by
  refine ⟨ringBase e.eventRing + e.eventProd % ringSize e.eventRing * 32, ?_⟩
  dsimp only [Block.putEvent]
  split <;> rfl

/-- With two free entries in the ring and no END before it, the event is written at the producer's index (R58). -/
theorem post_lastEvents (hended : (b.side slot).ended = false) (hroom : 2 ≤ freeEvents (b.ent slot)) (ev : Event) :
    ∃ addr, (b.post slot ev).gr.lastEvents =
      b.gr.lastEvents ++ [(addr, (b.ent slot).eventRing, (b.ent slot).eventProd, ev)] := by
  have hpost : b.post slot ev = (b.putEvent (b.ent slot) ev).1.setEnt slot (b.putEvent (b.ent slot) ev).2 := by
    rw [Block.post, hended, postTo_room _ _ _ hroom]
    rfl
  rw [hpost]
  exact putEvent_lastEvents (b.ent slot) ev

/-- DEADLINE_MISS is posted and the miss counted, for the request and for its tenant. -/
def Block.missAt (b : Block) (slot : Nat) (ev : Event) : Block := (b.post slot ev).countMiss slot

theorem countMiss_ent : (b.countMiss slot).ent slot =
    { b.ent slot with deadlinesMissed := satInc 65535 (b.ent slot).deadlinesMissed } := ent_setEnt b slot _

theorem countMiss_lastEvents : (b.countMiss slot).gr.lastEvents = b.gr.lastEvents := rfl

theorem countMiss_tenant : ((b.countMiss slot).tenant (b.ent slot).tenant).counters.deadlineMisses =
    (b.tenant (b.ent slot).tenant).counters.deadlineMisses + 1 :=
  congrArg (fun s => s.counters.deadlineMisses) (tenant_modTenant_self ..)

theorem missAt_ent (ev : Event) : ∃ x y, (b.missAt slot ev).ent slot = { b.ent slot with
    eventProd := x, eventsDropped := y, deadlinesMissed := satInc 65535 (b.ent slot).deadlinesMissed } := by
  obtain ⟨x, y, h⟩ := post_ent (b := b) (slot := slot) ev
  exact ⟨x, y, by rw [Block.missAt, countMiss_ent, h]⟩

theorem missAt_tenant (ev : Event) : ((b.missAt slot ev).tenant (b.ent slot).tenant).counters.deadlineMisses =
    (b.tenant (b.ent slot).tenant).counters.deadlineMisses + 1 := by
  obtain ⟨x, y, h⟩ := post_ent (b := b) (slot := slot) ev
  have hmiss := countMiss_tenant (b := b.post slot ev) (slot := slot)
  rw [h] at hmiss
  rw [Block.missAt, hmiss, Block.tenant, post_pol, Block.tenant]

theorem missAt_lastEvents (hended : (b.side slot).ended = false) (hroom : 2 ≤ freeEvents (b.ent slot)) (ev : Event) :
    ∃ addr, (b.missAt slot ev).gr.lastEvents =
      b.gr.lastEvents ++ [(addr, (b.ent slot).eventRing, (b.ent slot).eventProd, ev)] := post_lastEvents hended hroom ev

end

/-! ### Deadlines at the junction (R74, R75) -/

section
variable {b : Block} {a slot : Nat}

/-- The request misses a deadline at the junction agreed at a: an ABSOLUTE one misses once. -/
def Entry.misses (e : Entry) (a : Nat) : Prop :=
  activeState e.state = true ∧ e.nextDeadline < a ∧ (e.deadlineMode = 2 ∨ e.deadlineMode = 1 ∧ e.deadlinesMissed = 0)

/-- The DEADLINE_MISS event of the junction. -/
def junctionMiss (e : Entry) (a : Nat) : Event :=
  { code := 4, handle := e.handle, time := a, arg0 := e.transcriptLen, arg2 := a - e.nextDeadline }

theorem checkDeadline_met (h : ¬ (b.ent slot).misses a) : b.checkDeadline a slot = b := by
  simp only [Block.checkDeadline]
  split
  · rfl
  · next hlate =>
    obtain ⟨hactive, hpast⟩ : activeState (b.ent slot).state = true ∧ (b.ent slot).nextDeadline < a := by simpa using hlate
    exact if_neg fun hmode => h ⟨hactive, hpast, by simpa using hmode⟩

theorem checkDeadline_cadence (h : (b.ent slot).misses a) (hmode : (b.ent slot).deadlineMode = 2) : b.checkDeadline a slot =
    (b.missAt slot (junctionMiss (b.ent slot) a)).modEnt slot fun e => { e with nextDeadline := a + e.cadencePeriod } := by
  obtain ⟨hactive, hpast, -⟩ := h
  simp [Block.checkDeadline, hactive, hpast, hmode, Block.missAt, junctionMiss]

theorem checkDeadline_absolute (h : (b.ent slot).misses a) (hmode : (b.ent slot).deadlineMode ≠ 2) :
    b.checkDeadline a slot = b.missAt slot (junctionMiss (b.ent slot) a) := by
  obtain ⟨hactive, hpast, hkind⟩ := h
  obtain ⟨habsolute, hfirst⟩ := hkind.resolve_left hmode
  simp [Block.checkDeadline, hactive, hpast, habsolute, hfirst, Block.missAt, junctionMiss]

/-- A miss at the junction is counted and reported, and a CADENCE request's next deadline follows the junction. -/
theorem checkDeadline_missed (h : (b.ent slot).misses a) :
    (b.checkDeadline a slot).ent slot = { (b.missAt slot (junctionMiss (b.ent slot) a)).ent slot with
      nextDeadline := if (b.ent slot).deadlineMode = 2 then a + (b.ent slot).cadencePeriod else (b.ent slot).nextDeadline } ∧
    (b.checkDeadline a slot).pol = (b.missAt slot (junctionMiss (b.ent slot) a)).pol ∧
    (b.checkDeadline a slot).gr.lastEvents = (b.missAt slot (junctionMiss (b.ent slot) a)).gr.lastEvents := by
  obtain ⟨x, y, hent⟩ := missAt_ent (b := b) (slot := slot) (junctionMiss (b.ent slot) a)
  by_cases hmode : (b.ent slot).deadlineMode = 2
  · rw [checkDeadline_cadence h hmode, if_pos hmode]
    exact ⟨by rw [Block.modEnt, ent_setEnt, hent], rfl, rfl⟩
  · rw [checkDeadline_absolute h hmode, if_neg hmode]
    exact ⟨by rw [hent], rfl, rfl⟩

theorem checkDeadline_miss_ent (h : (b.ent slot).misses a) :
    ((b.checkDeadline a slot).ent slot).deadlinesMissed = satInc 65535 (b.ent slot).deadlinesMissed ∧
    ((b.checkDeadline a slot).ent slot).state = (b.ent slot).state ∧
    ((b.checkDeadline a slot).ent slot).nextDeadline =
      if (b.ent slot).deadlineMode = 2 then a + (b.ent slot).cadencePeriod else (b.ent slot).nextDeadline := by
  obtain ⟨x, y, hmiss⟩ := missAt_ent (b := b) (slot := slot) (junctionMiss (b.ent slot) a)
  rw [(checkDeadline_missed h).1, hmiss]
  exact ⟨rfl, rfl, rfl⟩

theorem checkDeadline_miss_tenant (h : (b.ent slot).misses a) :
    ((b.checkDeadline a slot).tenant (b.ent slot).tenant).counters.deadlineMisses =
      (b.tenant (b.ent slot).tenant).counters.deadlineMisses + 1 := by
  obtain ⟨-, hpol, -⟩ := checkDeadline_missed h
  rw [Block.tenant, hpol]
  exact missAt_tenant _

theorem checkDeadline_miss_event (h : (b.ent slot).misses a) (hended : (b.side slot).ended = false)
    (hroom : 2 ≤ freeEvents (b.ent slot)) : ∃ addr, (b.checkDeadline a slot).gr.lastEvents = b.gr.lastEvents ++
      [(addr, (b.ent slot).eventRing, (b.ent slot).eventProd, junctionMiss (b.ent slot) a)] := by
  obtain ⟨-, -, hevents⟩ := checkDeadline_missed h
  rw [hevents]
  exact missAt_lastEvents hended hroom _

end

/-! ### Tokens written (R73) -/

section
variable {b : Block} {slot w p pos n : Nat}

/-- Tokens written in time each move the deadline on by one period. -/
theorem cadence_in_time (h : w ≤ (b.ent slot).nextDeadline) : (Block.cadence slot w p pos n b).ent slot =
    { b.ent slot with nextDeadline := (b.ent slot).nextDeadline + n * p } := by
  induction n generalizing pos b with
  | zero => simp [Block.cadence]
  | succ n ih =>
    simp only [Block.cadence, h, if_true]
    rw [ih (by rw [Block.modEnt, ent_setEnt]; exact Nat.le_add_right_of_le h), Block.modEnt, ent_setEnt]
    simp only [Entry.mk.injEq, and_true, true_and]
    ring

/-- The DEADLINE_MISS event of a token written at w. -/
def Block.lateToken (b : Block) (slot w pos : Nat) : Event :=
  { code := 4, handle := (b.ent slot).handle, time := b.cp.agreedAt, arg0 := pos, arg2 := w - (b.ent slot).nextDeadline }

/-- A token written late misses the deadline, and the next one counts from the time of writing. -/
def Block.writtenLate (b : Block) (slot w p pos : Nat) : Block :=
  (b.missAt slot (b.lateToken slot w pos)).modEnt slot fun e => { e with nextDeadline := w + p }

theorem writtenLate_ent : ∃ x y, (b.writtenLate slot w p pos).ent slot = { b.ent slot with
    eventProd := x, eventsDropped := y, deadlinesMissed := satInc 65535 (b.ent slot).deadlinesMissed, nextDeadline := w + p } := by
  obtain ⟨x, y, hmiss⟩ := missAt_ent (b := b) (slot := slot) (b.lateToken slot w pos)
  exact ⟨x, y, by rw [Block.writtenLate, Block.modEnt, ent_setEnt, hmiss]⟩

theorem cadence_late_step (h : (b.ent slot).nextDeadline < w) :
    Block.cadence slot w p pos (n + 1) b = Block.cadence slot w p (pos + 1) n (b.writtenLate slot w p pos) := by
  simp only [Block.cadence, Nat.not_le.mpr h, if_false]
  rfl

/-- Where the first token is late, the tokens after it are in time, so that one miss counts and all periods run from w. -/
theorem cadence_late (h : (b.ent slot).nextDeadline < w) (hn : 0 < n) :
    ((Block.cadence slot w p pos n b).ent slot).nextDeadline = w + n * p ∧
    ((Block.cadence slot w p pos n b).ent slot).deadlinesMissed = satInc 65535 (b.ent slot).deadlinesMissed := by
  obtain ⟨m, rfl⟩ := Nat.exists_eq_add_one.mpr hn
  obtain ⟨x, y, hent⟩ := writtenLate_ent (b := b) (slot := slot) (w := w) (p := p) (pos := pos)
  have hlater : w ≤ ((b.writtenLate slot w p pos).ent slot).nextDeadline := by rw [hent]; exact Nat.le_add_right w p
  rw [cadence_late_step h, cadence_in_time hlater, hent]
  exact ⟨by ring, rfl⟩

end

/-! ### Debits (R85, R86) -/

section
variable {b : Block} {r : RowRec} {slot n : Nat} {e : Entry}

/-- A row is charged to its tenant's prefill bucket. -/
def rowCharged (r : RowRec) : Prop := r.kind = 1 ∧ r.rebuild = false ∨ r.kind = 2

theorem rowCharged_iff : (decide (r.kind = 1) && !r.rebuild || decide (r.kind = 2)) = true ↔ rowCharged r := by
  simp [rowCharged]

/-- Levels count in 1/256 of a token (R85). -/
theorem levels_of_tokens (n : Nat) : ((n * 256 : Nat) : Int) = 256 * (n : Int) := by omega

theorem debitRow_free (h : ¬ rowCharged r) : b.debitRow r = b := if_neg fun hrow => h (rowCharged_iff.mp hrow)

theorem debitRow_charged (hb : b.byHandle r.handle = some (slot, e)) (h : rowCharged r) : b.debitRow r = b.modTenant e.tenant fun t =>
    { t with prefill := if prefillUnlimited t.cfg then t.prefill else t.prefill - 256 * (r.posCount : Int)
             counters := { t.counters with prefillPositions := t.counters.prefillPositions + r.posCount } } := by
  rw [Block.debitRow, if_pos (rowCharged_iff.mpr h), hb]
  simp only [levels_of_tokens]

/-- A request's tokens draw on its class's reserve: its tenant's bucket is empty and has a limit. -/
def Block.drawsReserve (b : Block) (e : Entry) : Prop :=
  e.flags.voiceReserve = true ∧ (b.tenant e.tenant).gen ≤ 0 ∧ genUnlimited (b.tenant e.tenant).cfg = false

theorem debitTokens_reserve (h : b.drawsReserve e) : b.debitTokens (e, n) =
    (b.modClass (classOf e.classPrio) fun c => { c with reserve := c.reserve - 256 * (n : Int) }).modTenant e.tenant fun t =>
      { t with counters := { t.counters with reserveUsed := t.counters.reserveUsed + n } } := by
  obtain ⟨hflag, hempty, hlimit⟩ := h
  simp [Block.debitTokens, hflag, hempty, hlimit, mul_comm]

theorem debitTokens_bucket (h : ¬ b.drawsReserve e) : (b.debitTokens (e, n)).pol.classes = b.pol.classes ∧
    (b.debitTokens (e, n)).tenant e.tenant = { b.tenant e.tenant with
      gen := if genUnlimited (b.tenant e.tenant).cfg then (b.tenant e.tenant).gen else (b.tenant e.tenant).gen - 256 * (n : Int)
      counters := { (b.tenant e.tenant).counters with generatedTokens := (b.tenant e.tenant).counters.generatedTokens + n } } := by
  cases hlimit : genUnlimited (b.tenant e.tenant).cfg with
  | true =>
    simp only [Block.debitTokens, hlimit, if_true, tenant_modTenant_self, and_true]
    rfl
  | false =>
    have hown : (e.flags.voiceReserve && decide ((b.tenant e.tenant).gen ≤ 0)) = false := by
      by_contra hdraws
      obtain ⟨hflag, hempty⟩ : e.flags.voiceReserve = true ∧ (b.tenant e.tenant).gen ≤ 0 := by simpa using hdraws
      exact h ⟨hflag, hempty, hlimit⟩
    simp only [Block.debitTokens, hlimit, hown, Bool.false_eq_true, if_false, tenant_modTenant_self, levels_of_tokens, and_true]
    rfl

end

/-! ### The refill (R85) -/

section
variable {b : Block} {a i : Nat}

theorem Tab.get?_mapVals {α β : Type} (k : Nat) (f : α → β) (t : Table α) :
    Tab.get? k (t.map fun x => (x.1, f x.2)) = (Tab.get? k t).map f := by
  induction t with
  | nil => rfl
  | cons x r ih =>
    simp only [List.map_cons, Tab.get?, ih]
    split
    · rfl
    · split <;> rfl

/-- The ticks of 1 ms since the last refill; none before the first (R85). -/
def Block.refillTicks (b : Block) (a : Nat) : Int :=
  if b.pol.tickValid then ((a / 1000000 : Nat) : Int) - b.pol.lastTick else 0

/-- A bucket fills at its rate up to its burst. -/
def filled (ticks : Int) (rate burst : Nat) (x : Int) : Int := min (256 * (burst : Int)) (x + ticks * rate)

/-- A tenant's buckets after a refill (R85). -/
def refilled (ticks : Int) (u : TenantState) : TenantState :=
  { u with prefill := filled ticks u.cfg.prefillRate u.cfg.prefillBurst u.prefill
           gen := filled ticks u.cfg.genRate u.cfg.genBurst u.gen }

theorem refill_tenants : (b.refill a).pol.tenants = b.pol.tenants.map fun x => (x.1, refilled (b.refillTicks a) x.2) := by
  refine List.map_congr_left fun x _ => ?_
  simp [refilled, filled, Block.refillTicks, mul_comm]

theorem refill_tenant {u : TenantState} (h : Tab.get? i b.pol.tenants = some u) :
    Tab.get? i (b.refill a).pol.tenants = some (refilled (b.refillTicks a) u) := by
  rw [refill_tenants, Tab.get?_mapVals, h, Option.map_some]

theorem refill_class {c : ClassState} (h : b.pol.classes[i]? = some c) : (b.refill a).pol.classes[i]? = some { c with
    reserve := filled (b.refillTicks a) c.cfg.reserveRate c.cfg.reserveBurst c.reserve } := by
  simp [Block.refill, h, filled, Block.refillTicks, mul_comm]

end

/-! ### Shares (R79) -/

section
variable {b : Block} {a i : Nat} {c : ClassState}

/-- A least element lies below a bound just when some element does. -/
theorem minBy_any_lt (g : Int) (l : List Int) :
    (minBy (fun x y => decide (x < y)) l).any (fun x => decide (x < g)) = l.any fun x => decide (x < g) := by
  cases l with
  | nil => rfl
  | cons x xs =>
    simp only [minBy, Option.any_some]
    induction xs generalizing x with
    | nil => simp
    | cons y ys ih =>
      rw [List.foldl_cons, ih]
      by_cases hy : y < x
      · have hless : x < g → y < g := fun h => hy.trans h
        simp only [hy, decide_true, if_true, List.any_cons]
        by_cases hx : x < g <;> simp [hx, hless]
      · have hless : y < g → x < g := fun h => (not_lt.mp hy).trans_lt h
        simp only [hy, decide_false, Bool.false_eq_true, if_false, List.any_cons]
        by_cases hyg : y < g <;> simp [hyg, hless]

/-- A share moves by at most 16 towards its target. -/
def shareStep (target share : Nat) : Nat :=
  if target ≥ share then share + min 16 (target - share) else share - min 16 (share - target)

theorem shareStep_far_below {target share : Nat} (h : share + 16 < target) : shareStep target share = share + 16 := by
  unfold shareStep; split <;> omega

theorem shareStep_far_above {target share : Nat} (h : target + 16 < share) : shareStep target share + 16 = share := by
  unfold shareStep; split <;> omega

theorem shareStep_near {target share : Nat} (hlow : share ≤ target + 16) (hhigh : target ≤ share + 16) :
    shareStep target share = target := by
  unfold shareStep; split <;> omega

/-- The share that a class works towards: the least where a request is late, else by the positions that wait. -/
def shareTarget (c : ClassCfg) (late : Bool) (q : Nat) : Nat :=
  if late then c.shareMin else c.shareMin + (c.shareMax - c.shareMin) * min q c.shareQref / c.shareQref

theorem shareNext_eq (c : ClassCfg) (share q : Nat) (m : Option Int) :
    shareNext c share q m = shareStep (shareTarget c (m.any fun x => decide (x < c.slackGuard)) q) share := by
  cases m <;> rfl

/-- The requests of a class. -/
def Block.ofClass (b : Block) (i : Nat) : List Entry := (Tab.vals b.gr.entries).filter fun e => classOf e.classPrio == i

/-- The positions of a class's requests that wait to be prefilled. -/
def Block.waitingPositions (b : Block) (i : Nat) : Nat :=
  (((b.ofClass i).filter fun e => e.state == .queued || e.state == .prefill).map fun e => e.transcriptLen - e.committedLen).sum

/-- A generating request of the class has less slack than its guard. -/
def Block.classLate (b : Block) (a i : Nat) (guard : Int) : Bool :=
  (b.ofClass i).any fun e => (e.state == .decode || e.state == .rebuild) && e.deadlineMode != 0 && decide (slackOf e a b.cp.stepEst < guard)

theorem updateShares_fixed (hi : i < 8) (hc : b.pol.classes[i]? = some c) (hmode : c.cfg.mode ≠ 1) :
    (b.updateShares a).pol.classes[i]? = some c := by
  simp [Block.updateShares, List.getElem?_zip_eq_some, hi, hc, hmode]

theorem updateShares_ratio (hi : i < 8) (hc : b.pol.classes[i]? = some c) (hmode : c.cfg.mode = 1) :
    (b.updateShares a).pol.classes[i]? = some { c with
      share := shareStep (shareTarget c.cfg (b.classLate a i c.cfg.slackGuard) (b.waitingPositions i)) c.share } := by
  have hpair : ((List.range 8).zip b.pol.classes)[i]? = some (i, c) := by
    rw [List.getElem?_zip_eq_some, List.getElem?_range hi]
    exact ⟨rfl, hc⟩
  simp only [Block.updateShares, List.getElem?_map, hpair, Option.map_some, hmode, shareNext_eq, minBy_any_lt, List.any_map,
    List.any_filter]
  simp [Block.classLate, Block.waitingPositions, Block.ofClass, List.sum_eq_foldl, List.foldl_map]

end

/-- Settles O49: each clause is the case of its operation's equation. -/
theorem junctionsChargeThePolicy : Obligations.JunctionsChargeThePolicy := by
  refine ⟨fun b a slot => ?_, fun b a slot => ?_, fun b slot w p pos n => ?_, fun b r slot e hb => ?_, fun b e n => ?_, fun b a => ?_,
    fun b a i c hi hc => ?_⟩
  · intro e c base
    refine ⟨updatePrio_inactive, fun hactive => ⟨promotedLevel c e (promosOf c e a b.cp.stepEst), promotedLevel_le _,
      by rw [updatePrio_active hactive, effectivePrioOf_eq], promotedLevel_plain, fun hbelow => ?_, fun hbelow hmode hd ha => ?_⟩⟩
    · rw [promotedLevel_below hbelow]
      exact Nat.le_max_left _ _
    · rw [promotedLevel_below hbelow, promosOf_slack hmode hd ha]
  · refine ⟨checkDeadline_met, fun h => ?_⟩
    obtain ⟨hmissed, hstate, hnext⟩ := checkDeadline_miss_ent h
    exact ⟨hmissed, hstate, hnext, checkDeadline_miss_tenant h, checkDeadline_miss_event h⟩
  · exact ⟨cadence_in_time, cadence_late⟩
  · refine ⟨debitRow_free, fun h => ⟨fun i hi => ?_, ?_⟩⟩
    · rw [debitRow_charged hb h, tenant_modTenant_ne hi]
    · rw [debitRow_charged hb h, tenant_modTenant_self]
  · exact ⟨fun h => by rw [debitTokens_reserve h]; exact ⟨tenant_modTenant_self .., rfl⟩, debitTokens_bucket⟩
  · exact ⟨rfl, rfl, fun i u => refill_tenant, fun i c => refill_class⟩
  · by_cases hmode : c.cfg.mode = 1
    · exact ⟨_, updateShares_ratio hi hc hmode, fun h => absurd hmode h,
        fun _ => ⟨shareStep_far_below, shareStep_far_above, shareStep_near⟩⟩
    · exact ⟨_, updateShares_fixed hi hc hmode, fun _ => rfl, fun h => absurd h hmode⟩

end Sys2Proof.Machine
end

section
/-! Runs as stacks, tables with a key erased or modified, and the least of a list: what the operations of the Page and Prefix Manager rest on. -/

namespace Sys2Proof.Machine
open Sys2Proof

/-! ### Runs as a stack -/

section
variable {r s : Runs} {x : Nat}

/-- No run is empty. -/
def Runs.Full (r : Runs) : Prop := ∀ p ∈ r, 0 < p.2

theorem Runs.list_pushHead (x : Nat) (r : Runs) : Runs.list (Runs.pushHead x r) = x :: Runs.list r := by
  cases r with
  | nil => simp [Runs.pushHead, Runs.list]
  | cons p r =>
    obtain ⟨a, n⟩ := p
    by_cases h : x + 1 = a
    · subst h
      simp [Runs.pushHead, Runs.list_cons, List.range_succ_eq_map, Function.comp_def, Nat.add_assoc, Nat.add_comm 1]
    · simp [Runs.pushHead, h, Runs.list_cons]

theorem Runs.full_pushHead (h : Runs.Full r) : Runs.Full (Runs.pushHead x r) := by
  cases r with
  | nil => simp [Runs.pushHead, Runs.Full]
  | cons p r =>
    obtain ⟨hp, hr⟩ := List.forall_mem_cons.1 h
    rw [Runs.pushHead]
    split
    · exact List.forall_mem_cons.2 ⟨Nat.succ_pos _, hr⟩
    · exact List.forall_mem_cons.2 ⟨Nat.one_pos, h⟩

theorem Runs.full_pop (h : Runs.Full r) (hp : Runs.pop r = some (x, s)) : Runs.Full s := by
  cases r with
  | nil => cases hp
  | cons p r =>
    obtain ⟨-, hr⟩ := List.forall_mem_cons.1 h
    obtain ⟨-, rfl⟩ := Prod.mk.inj (Option.some.inj hp)
    split
    · exact hr
    · exact List.forall_mem_cons.2 ⟨by omega, hr⟩

theorem Runs.list_pop (h : Runs.Full r) (hp : Runs.pop r = some (x, s)) : Runs.list r = x :: Runs.list s := by
  cases r with
  | nil => cases hp
  | cons p r =>
    obtain ⟨hpos, -⟩ := List.forall_mem_cons.1 h
    obtain ⟨rfl, rfl⟩ := Prod.mk.inj (Option.some.inj hp)
    obtain ⟨n, hn⟩ : ∃ n, p.2 = n + 1 := ⟨p.2 - 1, by omega⟩
    rw [Runs.list_cons, hn, List.range_succ_eq_map]
    cases n with
    | zero => simp
    | succ n => simp [Runs.list_cons, Function.comp_def, Nat.add_assoc, Nat.add_comm 1]

theorem Runs.pop_eq_none (h : Runs.pop r = none) : r = [] := by
  cases r with
  | nil => rfl
  | cons => cases h

theorem Runs.head?_eq_pop (r : Runs) : Runs.head? r = (Runs.pop r).map (·.1) := by cases r <;> rfl

end

/-! ### Tables: a key erased or modified -/

section
variable {α : Type} {k j : Nat} {v : α} {t : Table α}

theorem Tab.get?_erase_self (k : Nat) (t : Table α) : Tab.get? k (Tab.erase k t) = none := by
  induction t with
  | nil => rfl
  | cons p r ih =>
    by_cases h : p.1 = k
    · simpa [Tab.erase, h] using ih
    · simp only [Tab.erase, bne_iff_ne, ne_eq, h, not_false_eq_true, List.filter_cons_of_pos, Tab.get?, if_false]
      split
      · rfl
      · exact ih

/-- Whatever the order of the keys, a key that is found is still found when another is erased. -/
theorem Tab.get?_erase_of_some (hne : j ≠ k) (h : Tab.get? j t = some v) : Tab.get? j (Tab.erase k t) = some v := by
  induction t with
  | nil => cases h
  | cons p r ih =>
    have hcons : Tab.erase k (p :: r) = if p.1 = k then Tab.erase k r else p :: Tab.erase k r := by
      by_cases hk : p.1 = k <;> simp [Tab.erase, hk]
    rw [Tab.get?] at h
    split at h
    · next hj => rw [hcons, if_neg (hj ▸ hne), Tab.get?, if_pos hj, h]
    · next hj =>
      split at h
      · cases h
      · next hlt =>
        rw [hcons]
        split
        · exact ih h
        · rw [Tab.get?, if_neg hj, if_neg hlt, ih h]

/-- The keys of a table rise. -/
def Tab.Sorted (t : Table α) : Prop := (Tab.keys t).Pairwise (· < ·)

theorem Tab.get?_eq_none (h : Tab.Sorted t) : Tab.get? k t = none ↔ k ∉ Tab.keys t := by
  rw [← Tab.has_iff k t h, Tab.has, ← Option.not_isSome_iff_eq_none]

theorem Tab.get?_erase_ne (h : Tab.Sorted t) (hne : j ≠ k) : Tab.get? j (Tab.erase k t) = Tab.get? j t := by
  cases hj : Tab.get? j t with
  | some v => exact Tab.get?_erase_of_some hne hj
  | none =>
    rw [Tab.get?_eq_none h] at hj
    rw [Tab.get?_eq_none (Tab.keys_erase_sorted k t h), Tab.mem_keys_erase]
    exact fun hmem => hj hmem.2

theorem Tab.getD_erase_ne (h : Tab.Sorted t) (hne : j ≠ k) (d : α) : Tab.getD j d (Tab.erase k t) = Tab.getD j d t := by
  rw [Tab.getD, Tab.get?_erase_ne h hne, Tab.getD]

theorem Tab.get?_of_mem (h : Tab.Sorted t) (hm : (k, v) ∈ t) : Tab.get? k t = some v := by
  induction t with
  | nil => cases hm
  | cons p r ih =>
    obtain ⟨hfirst, hr⟩ := List.pairwise_cons.1 h
    obtain rfl | hm := List.mem_cons.1 hm
    · simp [Tab.get?]
    · have hlt : p.1 < k := hfirst k (List.mem_map_of_mem hm)
      rw [Tab.get?, if_neg (by omega), if_neg (by omega), ih hr hm]

theorem Tab.length_erase (h : Tab.Sorted t) (hm : k ∈ Tab.keys t) : (Tab.erase k t).length + 1 = t.length := by
  have hkeys : Tab.keys (Tab.erase k t) = (Tab.keys t).erase k := by
    rw [List.Nodup.erase_eq_filter (h.imp Nat.ne_of_lt), Tab.keys, Tab.erase, Tab.keys, List.filter_map]
    rfl
  have hlen := List.length_erase_of_mem hm
  have hpos := List.length_pos_of_mem hm
  rw [← hkeys] at hlen
  simp only [Tab.keys, List.length_map] at hlen hpos
  omega

@[simp] theorem Tab.keys_modify (k : Nat) (f : α → α) (t : Table α) : Tab.keys (Tab.modify k f t) = Tab.keys t := by
  rw [Tab.keys, Tab.modify, List.map_map]
  refine List.map_congr_left fun p _ => ?_
  simp only [Function.comp_apply]
  split <;> rfl

theorem Tab.get?_modify_ne (hne : j ≠ k) (f : α → α) : Tab.get? j (Tab.modify k f t) = Tab.get? j t := by
  induction t with
  | nil => rfl
  | cons p r ih =>
    have hcons : Tab.modify k f (p :: r) = (if p.1 = k then (p.1, f p.2) else p) :: Tab.modify k f r := rfl
    rw [hcons]
    split
    · next hk => simp [Tab.get?, ih, hk, hne.symm]
    · simp [Tab.get?, ih]

end

/-! ### The least of a list -/

section
variable {α : Type} {lt : α → α → Bool} {l : List α} {m : α}

theorem minBy_eq_none : minBy lt l = none ↔ l = [] := by cases l <;> simp [minBy]

/-- The earlier of two elements, the first where neither precedes the other. -/
def lesser (lt : α → α → Bool) (x y : α) : α := if lt y x then y else x

variable (hasymm : ∀ x y, lt x y = true → lt y x = false) (htrans : ∀ x y z, lt x y = false → lt y z = false → lt x z = false)
include hasymm

theorem lesser_least (x y : α) : lesser lt x y ∈ [x, y] ∧ lt x (lesser lt x y) = false ∧ lt y (lesser lt x y) = false := by
  have hirr : ∀ z, lt z z = false := fun z => by
    by_contra hz
    exact hz (hasymm z z (Bool.eq_true_of_not_eq_false hz))
  by_cases h : lt y x = true
  · simp [lesser, h, hirr, hasymm y x h]
  · simp [lesser, h, hirr]

include htrans

theorem foldl_lesser_least (l : List α) (x : α) :
    l.foldl (lesser lt) x ∈ x :: l ∧ ∀ y ∈ x :: l, lt y (l.foldl (lesser lt) x) = false := by
  induction l generalizing x with
  | nil => simpa [lesser] using (lesser_least hasymm x x).2.1
  | cons z l ih =>
    obtain ⟨hpick, hx, hz⟩ := lesser_least hasymm x z
    obtain ⟨hmem, hleast⟩ := ih (lesser lt x z)
    obtain ⟨hhead, htail⟩ := List.forall_mem_cons.1 hleast
    rw [List.foldl_cons]
    refine ⟨?_, List.forall_mem_cons.2 ⟨htrans _ _ _ hx hhead, List.forall_mem_cons.2 ⟨htrans _ _ _ hz hhead, htail⟩⟩⟩
    exact (List.mem_cons.1 hmem).elim (fun h => by rw [h]; exact List.mem_append_left l hpick)
      fun h => List.mem_cons_of_mem _ (List.mem_cons_of_mem _ h)

/-- Under an order that is asymmetric and negatively transitive no element precedes the least. -/
theorem minBy_least (h : minBy lt l = some m) : m ∈ l ∧ ∀ x ∈ l, lt x m = false := by
  cases l with
  | nil => cases h
  | cons x l =>
    obtain rfl := Option.some.inj h
    exact foldl_lesser_least hasymm htrans l x

end

end Sys2Proof.Machine
end

section
/-! The stacks and descriptors of pages (R99, R100, R103), what each of their operations leaves as it was, and the form of the tables that
it keeps. -/

namespace Sys2Proof.Machine
open Sys2Proof

/-! ### What the page operations leave as it was -/

/-- The two blocks differ at most in their pages. -/
def Block.SameButPages (b c : Block) : Prop := c = { b with pg := c.pg }

section
variable {b c d : Block}

theorem Block.SameButPages.refl (b : Block) : b.SameButPages b := rfl

theorem Block.SameButPages.trans (h : b.SameButPages c) (k : c.SameButPages d) : b.SameButPages d := by
  unfold Block.SameButPages at *
  rw [k, h]

theorem Block.SameButPages.ent (h : b.SameButPages c) (slot : Nat) : c.ent slot = b.ent slot := by rw [h]; rfl
theorem Block.SameButPages.pageTokens (h : b.SameButPages c) : c.pageTokens = b.pageTokens := by rw [h]; rfl
theorem Block.SameButPages.dsp (h : b.SameButPages c) : c.dsp = b.dsp := by rw [h]

theorem Block.SameButPages.foldl {α : Type} {f : Block → α → Block} (h : ∀ (b : Block) x, b.SameButPages (f b x)) (l : List α) (b : Block) :
    b.SameButPages (l.foldl f b) := by
  induction l generalizing b with
  | nil => exact .refl b
  | cons x l ih => exact (h b x).trans (ih _)

end

/-! ### Stacks and descriptors (R99, R100) -/

section
variable {b c : Block} {p q t i : Nat} {f : PageDesc → PageDesc}

@[simp] theorem stack_setStack (g : Pages) (t : Nat) (r : Runs) : (g.setStack t r).stack t = r := by
  unfold Pages.setStack Pages.stack
  split
  · rfl
  · split <;> rfl

theorem stack_setStack_cases (g : Pages) (t i : Nat) (r : Runs) :
    (g.setStack t r).stack i = r ∨ (g.setStack t r).stack i = g.stack i := by
  unfold Pages.setStack Pages.stack
  split_ifs <;> simp

theorem full_setStack {g : Pages} {r : Runs} (t i : Nat) (hr : Runs.Full r) (hg : Runs.Full (g.stack i)) :
    Runs.Full ((g.setStack t r).stack i) := by
  obtain hc | hc := stack_setStack_cases g t i r <;> rwa [hc]

@[simp] theorem desc_modDesc (b : Block) (p : Nat) (f : PageDesc → PageDesc) : (b.modDesc p f).desc p = f (b.desc p) := Tab.getD_set_self ..

theorem desc_modDesc_ne (h : q ≠ p) : (b.modDesc p f).desc q = b.desc q := Tab.getD_set_ne h.symm ..

theorem sorted_modDesc (h : Tab.Sorted b.pg.desc) : Tab.Sorted (b.modDesc p f).pg.desc := Tab.keys_set_sorted _ _ _ h

@[simp] theorem stack_modDesc : (b.modDesc p f).pg.stack t = b.pg.stack t := rfl

@[simp] theorem node?_modDesc : (b.modDesc p f).node? i = b.node? i := rfl

@[simp] theorem stack_pushPage (b : Block) (p : Nat) :
    Runs.list ((b.pushPage p).pg.stack (tierOf p)) = indexOf p :: Runs.list (b.pg.stack (tierOf p)) := by
  have hpush : (b.pushPage p).pg.stack (tierOf p) = Runs.pushHead (indexOf p) (b.pg.stack (tierOf p)) := stack_setStack ..
  rw [hpush, Runs.list_pushHead]

theorem setStack_nodes (g : Pages) (t : Nat) (r : Runs) : (g.setStack t r).nodes = g.nodes ∧ (g.setStack t r).freeNodes = g.freeNodes ∧
    (g.setStack t r).buckets = g.buckets ∧ (g.setStack t r).moves = g.moves := by
  unfold Pages.setStack
  split
  · exact ⟨rfl, rfl, rfl, rfl⟩
  · split <;> exact ⟨rfl, rfl, rfl, rfl⟩

theorem desc_pushPage_ne (hs : Tab.Sorted b.pg.desc) (h : q ≠ p) : (b.pushPage p).desc q = b.desc q := Tab.getD_erase_ne hs h _

theorem desc_pushPage_of_some {d : PageDesc} (hd : Tab.get? q b.pg.desc = some d) (h : q ≠ p) : (b.pushPage p).desc q = d := by
  show (Tab.get? q (Tab.erase p b.pg.desc)).getD _ = d
  rw [Tab.get?_erase_of_some h hd, Option.getD_some]

theorem popPage_eq : b.popPage t = (Runs.pop (b.pg.stack t)).map fun x =>
    (pageOf t x.1, { b with pg := { b.pg.setStack t x.2 with desc := Tab.set (pageOf t x.1) { sharers := 1 } b.pg.desc } }) := by
  rw [Block.popPage]
  cases Runs.pop (b.pg.stack t) <;> rfl

/-- What an allocation that finds a page does (R99, R100). -/
theorem popPage_some (h : b.popPage t = some (p, c)) : ∃ i r, Runs.pop (b.pg.stack t) = some (i, r) ∧ p = pageOf t i ∧
    c = { b with pg := { b.pg.setStack t r with desc := Tab.set p { sharers := 1 } b.pg.desc } } := by
  rw [popPage_eq, Option.map_eq_some_iff] at h
  obtain ⟨⟨i, r⟩, hpop, heq⟩ := h
  obtain ⟨rfl, rfl⟩ := Prod.mk.inj heq
  exact ⟨i, r, hpop, rfl, rfl⟩

theorem popPage_desc (h : b.popPage t = some (p, c)) : c.desc p = { sharers := 1 } ∧ ∀ q ≠ p, c.desc q = b.desc q := by
  obtain ⟨i, r, -, -, rfl⟩ := popPage_some h
  exact ⟨Tab.getD_set_self .., fun q hq => Tab.getD_set_ne hq.symm ..⟩

theorem popPage_stack (hfull : Runs.Full (b.pg.stack t)) (h : b.popPage t = some (p, c)) :
    Runs.list (c.pg.stack t) = (Runs.list (b.pg.stack t)).tail := by
  obtain ⟨i, r, hpop, -, rfl⟩ := popPage_some h
  have hstack : (b.pg.setStack t r).stack t = r := stack_setStack ..
  rw [Runs.list_pop hfull hpop, List.tail_cons]
  exact congrArg Runs.list hstack

theorem popPage_top (hfull : Runs.Full (b.pg.stack t)) :
    (b.popPage t).map (·.1) = (Runs.list (b.pg.stack t)).head?.map (pageOf t) := by
  rw [popPage_eq]
  cases hpop : Runs.pop (b.pg.stack t) with
  | none => simp [Runs.pop_eq_none hpop]
  | some x => simp [Runs.list_pop hfull hpop]

end

/-! ### A page given up (R103, R119) -/

/-- No list, node or move holds the page. -/
def PageDesc.unheld (d : PageDesc) : Prop := d.sharers = 0 ∧ d.node = none ∧ d.movePending = false

/-- With one page list fewer, nothing holds the page. -/
def PageDesc.lastHeld (d : PageDesc) : Prop := d.node = none ∧ d.movePending = false ∧ d.sharers ≤ 1

section
variable {b : Block} {p q t : Nat}

theorem settlePage_unheld (h : (b.desc p).unheld) : b.settlePage p = b.pushPage p := by
  obtain ⟨hs, hn, hm⟩ := h
  simp [Block.settlePage, hs, hn, hm]

theorem settlePage_held (h : ¬ (b.desc p).unheld) : b.settlePage p = b := by
  simp only [PageDesc.unheld, ← Option.isNone_iff_eq_none] at h
  exact if_neg (by simpa using h)

theorem settlePage_cases (b : Block) (p : Nat) : b.settlePage p = b.pushPage p ∨ b.settlePage p = b := by
  by_cases h : (b.desc p).unheld
  · exact .inl (settlePage_unheld h)
  · exact .inr (settlePage_held h)

/-- The page with one sharer fewer. -/
def Block.lessSharer (b : Block) (p : Nat) : Block := b.modDesc p fun d => { d with sharers := d.sharers - 1 }

theorem unheld_lessSharer : ((b.lessSharer p).desc p).unheld ↔ (b.desc p).lastHeld := by
  rw [Block.lessSharer, desc_modDesc, PageDesc.unheld, PageDesc.lastHeld, Nat.sub_eq_zero_iff_le]
  tauto

theorem unshare_last (h : (b.desc p).lastHeld) : b.unshare p = (b.lessSharer p).pushPage p :=
  settlePage_unheld (unheld_lessSharer.2 h)

theorem unshare_held (h : ¬ (b.desc p).lastHeld) : b.unshare p = b.lessSharer p :=
  settlePage_held fun hu => h (unheld_lessSharer.1 hu)

theorem unshare_last_stack (h : (b.desc p).lastHeld) :
    Runs.list ((b.unshare p).pg.stack (tierOf p)) = indexOf p :: Runs.list (b.pg.stack (tierOf p)) := by
  rw [unshare_last h, stack_pushPage]
  rfl

theorem desc_settlePage_of_some {d : PageDesc} (hd : Tab.get? q b.pg.desc = some d) (h : q ≠ p) : (b.settlePage p).desc q = d := by
  obtain hc | hc := settlePage_cases b p
  · rw [hc, desc_pushPage_of_some hd h]
  · rw [hc, Block.desc, Tab.getD, hd, Option.getD_some]

theorem desc_settlePage_ne (hs : Tab.Sorted b.pg.desc) (h : q ≠ p) : (b.settlePage p).desc q = b.desc q := by
  obtain hc | hc := settlePage_cases b p
  · rw [hc, desc_pushPage_ne hs h]
  · rw [hc]

theorem desc_unshare_ne (hs : Tab.Sorted b.pg.desc) (h : q ≠ p) : (b.unshare p).desc q = b.desc q :=
  (desc_settlePage_ne (b := b.lessSharer p) (sorted_modDesc hs) h).trans (desc_modDesc_ne h)

theorem desc_unshare_of_some {d : PageDesc} (hd : Tab.get? q b.pg.desc = some d) (h : q ≠ p) : (b.unshare p).desc q = d :=
  desc_settlePage_of_some ((Tab.get?_set_ne h.symm ..).trans hd) h

/-- The nodes, their free list, their buckets and the moves stand apart from stacks and descriptors. -/
theorem settlePage_nodes (b : Block) (p : Nat) : (b.settlePage p).pg.nodes = b.pg.nodes ∧ (b.settlePage p).pg.freeNodes = b.pg.freeNodes ∧
    (b.settlePage p).pg.buckets = b.pg.buckets ∧ (b.settlePage p).pg.moves = b.pg.moves := by
  obtain hc | hc := settlePage_cases b p
  · rw [hc]
    exact setStack_nodes ..
  · rw [hc]
    exact ⟨rfl, rfl, rfl, rfl⟩

theorem sameButPages_settlePage (b : Block) (p : Nat) : b.SameButPages (b.settlePage p) := by
  obtain hc | hc := settlePage_cases b p <;> rw [hc] <;> rfl

theorem sameButPages_unshare (b : Block) (p : Nat) : b.SameButPages (b.unshare p) :=
  Block.SameButPages.trans (c := b.lessSharer p) rfl (sameButPages_settlePage ..)

theorem node?_unshare (b : Block) (p i : Nat) : (b.unshare p).node? i = b.node? i :=
  congrArg (Tab.get? i) (settlePage_nodes (b.lessSharer p) p).1

theorem sameButPages_popPage {c : Block} (h : b.popPage t = some (p, c)) : b.SameButPages c := by
  obtain ⟨i, r, -, -, rfl⟩ := popPage_some h
  rfl

end

/-! ### The form of the page tables is kept -/

section
variable {b c : Block} {p t i : Nat}

theorem Block.PagesOk.desc (h : b.PagesOk) : Tab.Sorted b.pg.desc := by obtain ⟨h, -⟩ := h; exact h
theorem Block.PagesOk.nodes (h : b.PagesOk) : Tab.Sorted b.pg.nodes := by obtain ⟨-, h, -⟩ := h; exact h
theorem Block.PagesOk.buckets (h : b.PagesOk) : Tab.Sorted b.pg.buckets := by obtain ⟨-, -, h, -⟩ := h; exact h
theorem Block.PagesOk.stack (h : b.PagesOk) (t : Nat) : Runs.Full (b.pg.stack t) := by obtain ⟨-, -, -, h, -⟩ := h; exact h t
theorem Block.PagesOk.freeNodes (h : b.PagesOk) : Runs.Full b.pg.freeNodes := by obtain ⟨-, -, -, -, h⟩ := h; exact h

theorem pagesOk_foldl {α : Type} {f : Block → α → Block} (hf : ∀ b x, b.PagesOk → (f b x).PagesOk) (l : List α) (h : b.PagesOk) :
    (l.foldl f b).PagesOk := by
  induction l generalizing b with
  | nil => exact h
  | cons x l ih => exact ih (hf b x h)

theorem pagesOk_modDesc (h : b.PagesOk) (f : PageDesc → PageDesc) : (b.modDesc p f).PagesOk :=
  ⟨sorted_modDesc h.desc, h.nodes, h.buckets, h.stack, h.freeNodes⟩

theorem pagesOk_modEnt {slot : Nat} {f : Entry → Entry} (h : b.PagesOk) : (b.modEnt slot f).PagesOk := h

theorem pagesOk_modNode (h : b.PagesOk) (f : Node → Node) : (b.modNode i f).PagesOk :=
  ⟨h.desc, by rw [Block.modNode, Tab.keys_modify]; exact h.nodes, h.buckets, h.stack, h.freeNodes⟩

/-- A stack exchanged for one without an empty run, beside the descriptors. -/
theorem pagesOk_setStack (h : b.PagesOk) {r : Runs} (hr : Runs.Full r) {d : Table PageDesc} (hd : Tab.Sorted d) :
    ({ b with pg := { b.pg.setStack t r with desc := d } } : Block).PagesOk := by
  obtain ⟨hnodes, hfree, hbuckets, -⟩ := setStack_nodes b.pg t r
  exact ⟨hd, by rw [hnodes]; exact h.nodes, by rw [hbuckets]; exact h.buckets,
    fun i => full_setStack t i hr (h.stack i), by rw [hfree]; exact h.freeNodes⟩

theorem pagesOk_popPage (h : b.PagesOk) (hp : b.popPage t = some (p, c)) : c.PagesOk := by
  obtain ⟨i, r, hpop, -, rfl⟩ := popPage_some hp
  exact pagesOk_setStack h (Runs.full_pop (h.stack t) hpop) (Tab.keys_set_sorted _ _ _ h.desc)

theorem pagesOk_settlePage (h : b.PagesOk) (p : Nat) : (b.settlePage p).PagesOk := by
  obtain hc | hc := settlePage_cases b p
  · rw [hc]
    exact pagesOk_setStack h (Runs.full_pushHead (h.stack _)) (Tab.keys_erase_sorted _ _ h.desc)
  · rwa [hc]

theorem pagesOk_unshare (h : b.PagesOk) (p : Nat) : (b.unshare p).PagesOk := pagesOk_settlePage (pagesOk_modDesc h _) p

theorem pagesOk_reset : State.reset.blk.PagesOk := by
  have hstack : ∀ t, State.reset.blk.pg.stack t = [] := fun t => by
    unfold Pages.stack
    split
    · rfl
    · split <;> rfl
  exact ⟨.nil, .nil, .nil, fun t => by rw [hstack]; exact List.forall_mem_nil _, List.forall_mem_nil _⟩

end

end Sys2Proof.Machine
end

section
/-! Nodes of the Rhizome: eviction and allocation (R104, R105, R116), walk results (R113) and publication (R115). -/

namespace Sys2Proof.Machine
open Sys2Proof

/-! ### Eviction (R116) -/

/-- The nodes once a child of n's parent is gone. -/
def childGone (n : Node) (t : Table Node) : Table Node := match n.parent with
  | some p => Tab.modify p (fun q => { q with children := q.children - 1 }) t
  | none => t

/-- The bucket chains with node i gone from chain k; no chain is kept empty. -/
def chainLess (i k : Nat) (t : Table (List Nat)) : Table (List Nat) :=
  if ((Tab.getD k [] t).filter (· != i)).isEmpty then Tab.erase k t else Tab.set k ((Tab.getD k [] t).filter (· != i)) t

section
variable {i j k : Nat} {n : Node}

theorem get?_childGone (n : Node) (t : Table Node) (j : Nat) : Tab.get? j (childGone n t) =
    (Tab.get? j t).map fun q => if n.parent = some j then { q with children := q.children - 1 } else q := by
  unfold childGone
  cases hp : n.parent with
  | none => simp
  | some p =>
    by_cases hj : j = p
    · subst hj
      simp [Tab.get?_modify]
    · simp [Tab.get?_modify_ne hj, Ne.symm hj]

@[simp] theorem keys_childGone (n : Node) (t : Table Node) : Tab.keys (childGone n t) = Tab.keys t := by
  unfold childGone
  split
  · exact Tab.keys_modify ..
  · rfl

theorem sorted_childGone {t : Table Node} (h : Tab.Sorted t) : Tab.Sorted (childGone n t) := by rwa [Tab.Sorted, keys_childGone]

theorem getD_chainLess {t : Table (List Nat)} (h : Tab.Sorted t) : Tab.getD j [] (chainLess i k t) =
    if j = k then (Tab.getD k [] t).filter (· ≠ i) else Tab.getD j [] t := by
  unfold chainLess
  split
  · next hempty =>
    split
    · next hj =>
      subst hj
      rw [Tab.getD, Tab.get?_erase_self]
      simpa using hempty
    · next hj => exact Tab.getD_erase_ne h hj []
  · split
    · next hj =>
      subst hj
      rw [Tab.getD_set_self]
      exact List.filter_congr fun x _ => Bool.eq_iff_iff.2 (by simp)
    · next hj => exact Tab.getD_set_ne (Ne.symm hj) ..

theorem sorted_chainLess {t : Table (List Nat)} (h : Tab.Sorted t) : Tab.Sorted (chainLess i k t) := by
  unfold chainLess
  split
  · exact Tab.keys_erase_sorted _ _ h
  · exact Tab.keys_set_sorted _ _ _ h

end

section
variable {b c : Block} {i j t : Nat} {n : Node}

/-- Node n, of index i, leaves its tables for the head of the free list. -/
def Block.unlinkNode (b : Block) (i : Nat) (n : Node) : Block :=
  { b with pg := { b.pg with nodes := Tab.erase i (childGone n b.pg.nodes), freeNodes := Runs.pushHead i b.pg.freeNodes
                             buckets := chainLess i n.bucket b.pg.buckets } }

theorem dropNode_eq (h : b.node? i = some n) : b.dropNode i = (b.unlinkNode i n).modDesc n.page fun d => { d with node := none } := by
  rw [Block.dropNode, h]
  cases hp : n.parent <;> simp only [Block.unlinkNode, childGone, hp] <;> rfl

theorem dropNode_node? (hs : Tab.Sorted b.pg.nodes) (h : b.node? i = some n) (hj : j ≠ i) : (b.dropNode i).node? j =
    (b.node? j).map fun q => if n.parent = some j then { q with children := q.children - 1 } else q := by
  rw [dropNode_eq h]
  exact (Tab.get?_erase_ne (sorted_childGone hs) hj).trans (get?_childGone ..)

theorem pagesOk_dropNode (hok : b.PagesOk) (i : Nat) : (b.dropNode i).PagesOk := by
  cases h : b.node? i with
  | none => rwa [Block.dropNode, h]
  | some n =>
    have hunlink : (b.unlinkNode i n).PagesOk := ⟨hok.desc, Tab.keys_erase_sorted _ _ (sorted_childGone hok.nodes),
      sorted_chainLess hok.buckets, hok.stack, Runs.full_pushHead hok.freeNodes⟩
    rw [dropNode_eq h]
    exact pagesOk_modDesc hunlink _

/-- The node that goes first: of lowest LAST_USE, of those the lowest index (R116). -/
def evictLt (x y : Nat × Node) : Bool := x.2.lastUse < y.2.lastUse || (x.2.lastUse == y.2.lastUse && x.1 < y.1)

theorem evictLt_eq_false {x y : Nat × Node} : evictLt x y = false ↔
    y.2.lastUse < x.2.lastUse ∨ y.2.lastUse = x.2.lastUse ∧ y.1 ≤ x.1 := by
  rw [← Bool.not_eq_true]
  simp only [evictLt, Bool.or_eq_true, Bool.and_eq_true, decide_eq_true_eq, beq_iff_eq]
  omega

theorem evictLt_asymm (x y : Nat × Node) (h : evictLt x y = true) : evictLt y x = false := by
  rw [← Bool.not_eq_false, evictLt_eq_false] at h
  rw [evictLt_eq_false]
  omega

theorem evictLt_negTrans (x y z : Nat × Node) (h : evictLt x y = false) (k : evictLt y z = false) : evictLt x z = false := by
  rw [evictLt_eq_false] at *
  omega

/-- The unreferenced nodes of a block. -/
def Block.idleNodes (b : Block) : List (Nat × Node) := b.pg.nodes.filter fun x => b.unreferenced x.2

theorem evictOne_eq : b.evictOne = (minBy evictLt b.idleNodes).map fun x => (b.dropNode x.1).settlePage x.2.page := by
  have hmin : b.evictOne = match minBy evictLt b.idleNodes with
    | none => none
    | some (i, n) => some ((b.dropNode i).settlePage n.page) := rfl
  rw [hmin]
  cases minBy evictLt b.idleNodes <;> rfl

theorem evictOne_eq_none : b.evictOne = none ↔ ∀ x ∈ b.pg.nodes, b.unreferenced x.2 = false := by
  rw [evictOne_eq, Option.map_eq_none_iff, minBy_eq_none, Block.idleNodes, List.filter_eq_nil_iff]
  simp

/-- The unreferenced node (i, n), which no unreferenced node precedes, is the one to go. -/
structure Block.Evicts (b : Block) (i : Nat) (n : Node) : Prop where
  mem : (i, n) ∈ b.pg.nodes
  idle : b.unreferenced n = true
  first : ∀ x ∈ b.pg.nodes, b.unreferenced x.2 = true → n.lastUse < x.2.lastUse ∨ n.lastUse = x.2.lastUse ∧ i ≤ x.1

theorem evictOne_some (h : b.evictOne = some c) : ∃ i n, b.Evicts i n ∧ c = (b.dropNode i).settlePage n.page := by
  rw [evictOne_eq, Option.map_eq_some_iff] at h
  obtain ⟨⟨i, n⟩, hmin, rfl⟩ := h
  obtain ⟨hmem, hleast⟩ := minBy_least evictLt_asymm evictLt_negTrans hmin
  obtain ⟨hnode, hidle⟩ := List.mem_filter.1 hmem
  exact ⟨i, n, ⟨hnode, hidle, fun x hx hidle => evictLt_eq_false.1 (hleast x (List.mem_filter.2 ⟨hx, hidle⟩))⟩, rfl⟩

theorem Block.Evicts.node? (hok : b.PagesOk) (h : b.Evicts i n) : b.node? i = some n := Tab.get?_of_mem hok.nodes h.mem

/-- An evicted node leaves the tables of nodes and buckets for the head of the free list. -/
theorem evicted_nodes (hok : b.PagesOk) (h : b.Evicts i n) : ((b.dropNode i).settlePage n.page).node? i = none ∧
    Runs.list ((b.dropNode i).settlePage n.page).pg.freeNodes = i :: Runs.list b.pg.freeNodes ∧
    (∀ j ≠ i, ((b.dropNode i).settlePage n.page).node? j =
      (b.node? j).map fun q => if n.parent = some j then { q with children := q.children - 1 } else q) ∧
    ∀ k, Tab.getD k [] ((b.dropNode i).settlePage n.page).pg.buckets =
      if k = n.bucket then (Tab.getD k [] b.pg.buckets).filter (· ≠ i) else Tab.getD k [] b.pg.buckets := by
  have hnode := h.node? hok
  obtain ⟨hnodes, hfree, hbuckets, -⟩ := settlePage_nodes (b.dropNode i) n.page
  refine ⟨?_, ?_, fun j hj => ?_, fun k => ?_⟩
  · rw [Block.node?, hnodes, dropNode_eq hnode]
    exact Tab.get?_erase_self ..
  · rw [hfree, dropNode_eq hnode]
    exact Runs.list_pushHead ..
  · rw [Block.node?, hnodes]
    exact dropNode_node? hok.nodes hnode hj
  · rw [hbuckets, dropNode_eq hnode]
    refine (getD_chainLess hok.buckets).trans ?_
    split
    · next hk => rw [hk]
    · rfl

theorem evicted_page (hok : b.PagesOk) (h : b.Evicts i n) (hmove : (b.desc n.page).movePending = false) :
    Runs.list (((b.dropNode i).settlePage n.page).pg.stack (tierOf n.page)) =
      indexOf n.page :: Runs.list (b.pg.stack (tierOf n.page)) := by
  have hidle := h.idle
  simp only [Block.unreferenced, Bool.and_eq_true, beq_iff_eq] at hidle
  have hdesc : ((b.dropNode i).desc n.page).unheld := by
    rw [dropNode_eq (h.node? hok), desc_modDesc]
    exact ⟨hidle.1, rfl, hmove⟩
  rw [settlePage_unheld hdesc, stack_pushPage, dropNode_eq (h.node? hok)]
  rfl

theorem pagesOk_evictOne (hok : b.PagesOk) (h : b.evictOne = some c) : c.PagesOk := by
  obtain ⟨i, n, -, rfl⟩ := evictOne_some h
  exact pagesOk_settlePage (pagesOk_dropNode hok i) _

theorem sameButPages_evictOne (h : b.evictOne = some c) : b.SameButPages c := by
  obtain ⟨i, n, -, rfl⟩ := evictOne_some h
  have hdrop : b.SameButPages (b.dropNode i) := by
    cases hn : b.node? i with
    | none => rw [Block.dropNode, hn]; rfl
    | some n => rw [dropNode_eq hn]; rfl
  exact hdrop.trans (sameButPages_settlePage ..)

theorem evictOne_length (hok : b.PagesOk) (h : b.evictOne = some c) : c.pg.nodes.length + 1 = b.pg.nodes.length := by
  obtain ⟨i, n, hev, rfl⟩ := evictOne_some h
  have hlen : (childGone n b.pg.nodes).length = b.pg.nodes.length := by
    simpa [Tab.keys] using congrArg List.length (keys_childGone n b.pg.nodes)
  rw [(settlePage_nodes ..).1, dropNode_eq (hev.node? hok), ← hlen]
  exact Tab.length_erase (sorted_childGone hok.nodes) (by rw [keys_childGone]; exact List.mem_map_of_mem hev.mem)

/-! ### Allocation (R104, R105) -/

variable {slot fuel p : Nat} {position : Bool}

theorem allocEvict_allowed (h : b.allowed (b.ent slot) position = true) : Block.allocEvict slot position fuel b = b.popPage 0 := by
  cases fuel <;> simp [Block.allocEvict, h]

theorem allocEvict_none (h : b.allowed (b.ent slot) position = false) (he : b.evictOne = none) :
    Block.allocEvict slot position fuel b = none := by
  cases fuel <;> simp [Block.allocEvict, h, he]

theorem allocEvict_evicts (h : b.allowed (b.ent slot) position = false) (he : b.evictOne = some c) :
    Block.allocEvict slot position (fuel + 1) b = Block.allocEvict slot position fuel c := by
  simp [Block.allocEvict, h, he]

theorem allocPage_allowed (h : b.allowed (b.ent slot) position = true) : b.allocPage slot position = b.popPage 0 := allocEvict_allowed h

theorem allocPage_none (h : b.allowed (b.ent slot) position = false) (he : b.evictOne = none) : b.allocPage slot position = none :=
  allocEvict_none h he

/-- The fuel is the number of nodes, of which each eviction takes one. -/
theorem allocPage_evicts (hok : b.PagesOk) (h : b.allowed (b.ent slot) position = false) (he : b.evictOne = some c) :
    b.allocPage slot position = c.allocPage slot position := by
  rw [Block.allocPage, ← evictOne_length hok he]
  exact allocEvict_evicts h he

/-- What evictions and an allocation each keep, an allocation that evicts keeps. -/
theorem allocEvict_induction {P : Block → Prop} (hevict : ∀ b c, b.evictOne = some c → P b → P c)
    (hpop : ∀ b c p, b.popPage 0 = some (p, c) → P b → P c) (hb : P b) (h : Block.allocEvict slot position fuel b = some (p, c)) : P c := by
  induction fuel generalizing b with
  | zero =>
    cases ha : b.allowed (b.ent slot) position with
    | true => exact hpop b c p (by rwa [allocEvict_allowed ha] at h) hb
    | false => simp [Block.allocEvict, ha] at h
  | succ fuel ih =>
    cases ha : b.allowed (b.ent slot) position with
    | true => exact hpop b c p (by rwa [allocEvict_allowed ha] at h) hb
    | false =>
      cases he : b.evictOne with
      | none => rw [allocEvict_none ha he] at h; cases h
      | some d => exact ih (hevict b d he hb) (by rwa [allocEvict_evicts ha he] at h)

theorem pagesOk_allocPage (hok : b.PagesOk) (h : b.allocPage slot position = some (p, c)) : c.PagesOk :=
  allocEvict_induction (fun _ _ he hb => pagesOk_evictOne hb he) (fun _ _ _ hp hb => pagesOk_popPage hb hp) hok h

theorem sameButPages_allocPage (h : b.allocPage slot position = some (p, c)) : b.SameButPages c :=
  allocEvict_induction (P := b.SameButPages) (fun _ _ he hb => hb.trans (sameButPages_evictOne he))
    (fun _ _ _ hp hb => hb.trans (sameButPages_popPage hp)) (.refl b) h

end

/-! ### Walk results (R113) -/

/-- Node i's page has one sharer more, and the node is used at a. -/
def Block.shareNode (a : Nat) (b : Block) (i : Nat) : Block := match b.node? i with
  | some n => (b.modDesc n.page fun d => { d with sharers := d.sharers + 1 }).modNode i fun n => { n with lastUse := a }
  | none => b

/-- The pages of the nodes named. -/
def Block.nodePages (b : Block) (l : List Nat) : List Nat := (l.filterMap b.node?).map (·.page)

section
variable {b : Block} {a i j p slot : Nat} {n : Node} {l : List Nat} {w : Walk} {e : Entry}

@[simp] theorem desc_modNode (f : Node → Node) : (b.modNode i f).desc p = b.desc p := rfl

theorem node?_modNode_self (f : Node → Node) : (b.modNode i f).node? i = (b.node? i).map f := Tab.get?_modify ..

theorem node?_modNode_ne (h : j ≠ i) (f : Node → Node) : (b.modNode i f).node? j = b.node? j := Tab.get?_modify_ne h f

theorem nodePages_cons (h : b.node? i = some n) : b.nodePages (i :: l) = n.page :: b.nodePages l := by simp [Block.nodePages, h]

theorem nodePages_congr {c : Block} (h : ∀ i ∈ l, c.node? i = b.node? i) : c.nodePages l = b.nodePages l :=
  congrArg (List.map Node.page) (List.filterMap_congr h)

theorem sameButPages_shareNode (a : Nat) (b : Block) (i : Nat) : b.SameButPages (b.shareNode a i) := by
  unfold Block.shareNode
  split <;> rfl

theorem pagesOk_shareNode (a : Nat) (b : Block) (i : Nat) (h : b.PagesOk) : (b.shareNode a i).PagesOk := by
  unfold Block.shareNode
  split
  · exact pagesOk_modNode (pagesOk_modDesc h _) _
  · exact h

theorem shareNode_some (h : b.node? i = some n) : b.shareNode a i =
    (b.modDesc n.page fun d => { d with sharers := d.sharers + 1 }).modNode i fun n => { n with lastUse := a } := by
  rw [Block.shareNode, h]

theorem shareNode_node? (h : b.node? i = some n) (j : Nat) :
    (b.shareNode a i).node? j = (b.node? j).map fun n => if j = i then { n with lastUse := a } else n := by
  rw [shareNode_some h]
  by_cases hj : j = i
  · subst hj
    simp [node?_modNode_self]
  · simp [node?_modNode_ne hj, hj]

theorem shareNode_desc (h : b.node? i = some n) (p : Nat) : (b.shareNode a i).desc p =
    if p = n.page then { b.desc p with sharers := (b.desc p).sharers + 1 } else b.desc p := by
  rw [shareNode_some h, desc_modNode]
  split
  · next hp => rw [hp, desc_modDesc]
  · next hp => exact desc_modDesc_ne hp

/-- Each node of a walk without repeats is used at a, and each of their pages, all apart, has one sharer more. -/
theorem shareNodes (hl : l.Nodup) (hsome : ∀ i ∈ l, (b.node? i).isSome) (hpages : (b.nodePages l).Nodup) :
    (∀ i, (l.foldl (Block.shareNode a) b).node? i = (b.node? i).map fun n => if i ∈ l then { n with lastUse := a } else n) ∧
    ∀ p, (l.foldl (Block.shareNode a) b).desc p =
      if p ∈ b.nodePages l then { b.desc p with sharers := (b.desc p).sharers + 1 } else b.desc p := by
  induction l generalizing b with
  | nil => simp [Block.nodePages]
  | cons k l ih =>
    obtain ⟨hk, hl⟩ := List.nodup_cons.1 hl
    obtain ⟨hn, hsome⟩ := List.forall_mem_cons.1 hsome
    obtain ⟨n, hn⟩ := Option.isSome_iff_exists.1 hn
    rw [nodePages_cons hn] at hpages ⊢
    obtain ⟨hp, hpages⟩ := List.nodup_cons.1 hpages
    have hkeep : ∀ i ∈ l, (b.shareNode a k).node? i = b.node? i := fun i hi => by
      have hik : i ≠ k := fun h => hk (h ▸ hi)
      simp [shareNode_node? hn, hik]
    have hsame := nodePages_congr hkeep
    obtain ⟨hnodes, hdesc⟩ := ih (b := b.shareNode a k) hl (fun i hi => by rw [hkeep i hi]; exact hsome i hi) (hsame ▸ hpages)
    refine ⟨fun i => ?_, fun p => ?_⟩
    · rw [List.foldl_cons, hnodes, shareNode_node? hn, Option.map_map]
      by_cases hi : i = k
      · subst hi
        simp [hk, Function.comp_def]
      · simp [hi, Function.comp_def]
    · rw [List.foldl_cons, hdesc, hsame, shareNode_desc hn]
      by_cases hpn : p = n.page
      · subst hpn
        simp [hp]
      · simp [hpn]

/-- The request with what its walk found. -/
def Block.enterWalk (b : Block) (slot : Nat) (w : Walk) : Block :=
  (b.modEnt slot fun e => { e with pages := b.nodePages w.nodes, committedLen := w.nodes.length * b.pageTokens,
                                   sharedPages := w.nodes.length }).modSide slot
    fun x => { x with walkPending := false, rebuildFrom := w.nodes.length * b.pageTokens }

theorem applyWalk_eq (h : b.byHandle w.handle = some (slot, e)) :
    b.applyWalk a w = (w.nodes.foldl (Block.shareNode a) b).enterWalk slot w := by
  have hpages : ∀ c : Block, (w.nodes.filterMap fun i => (c.node? i).map (·.page)) = c.nodePages w.nodes := fun c => by
    rw [Block.nodePages, List.map_filterMap]
  rw [Block.applyWalk, h, Block.enterWalk, ← hpages]
  rfl

theorem applyWalk_ent (h : b.byHandle w.handle = some (slot, e)) (hl : w.nodes.Nodup) (hsome : ∀ i ∈ w.nodes, (b.node? i).isSome)
    (hpages : (b.nodePages w.nodes).Nodup) : (b.applyWalk a w).ent slot = { e with
      pages := b.nodePages w.nodes, committedLen := w.nodes.length * b.pageTokens, sharedPages := w.nodes.length } := by
  have hkeep := Block.SameButPages.foldl (sameButPages_shareNode a) w.nodes b
  have hsame : (w.nodes.foldl (Block.shareNode a) b).nodePages w.nodes = b.nodePages w.nodes := by
    rw [Block.nodePages, List.map_filterMap, Block.nodePages, List.map_filterMap]
    refine List.filterMap_congr fun i hi => ?_
    rw [(shareNodes hl hsome hpages).1 i, Option.map_map]
    congr 1
    funext n
    simp [hi]
  obtain ⟨hent, -⟩ := ent_of_byHandle h
  rw [applyWalk_eq h, Block.enterWalk, ent_modSide, Block.modEnt, ent_setEnt, hsame, hkeep.pageTokens, hkeep.ent, hent]

theorem pagesOk_applyWalk (hok : b.PagesOk) (a : Nat) (w : Walk) : (b.applyWalk a w).PagesOk := by
  cases h : b.byHandle w.handle with
  | none => rwa [Block.applyWalk, h]
  | some x =>
    rw [applyWalk_eq (slot := x.1) (e := x.2) h]
    exact pagesOk_foldl (pagesOk_shareNode a) w.nodes hok

end

/-! ### Publication (R115) -/

section
variable {b c : Block} {slot a i : Nat} {ts : List (Bool × Nat)} {n : Node}

/-- The tokens of the next block to publish. -/
def Block.nextBlock (b : Block) (slot : Nat) (ts : List (Bool × Nat)) : List (Bool × Nat) :=
  blockTokens b.pageTokens (b.ent slot).sharedPages ts

/-- The node of the next block to publish. -/
def Block.nextNode (b : Block) (slot a : Nat) (ts : List (Bool × Nat)) : Node :=
  let e := b.ent slot
  let k := e.sharedPages
  let key := blockKey (b.nextBlock slot ts)
  { key, parent := if k = 0 then none else (b.desc (e.pages.getD (k - 1) 0)).node, page := e.pages.getD k 0, children := 0
    block := k, lastUse := a, context := nodeContext e, model := e.models % 16
    bucket := bucketOf key (if k = 0 then 0 else blockKey (blockTokens b.pageTokens (k - 1) ts)) b.rhizomeNodes
    tokens := (b.nextBlock slot ts).map (·.2) }

/-- The node that holds n's block already. -/
def Block.twin (b : Block) (slot : Nat) (n : Node) : Option Nat := b.findNode (b.ent slot) n.parent n.block n.key n.bucket n.tokens

/-- The next block is committed, of a page of the list in tier 0, and of tokens that the scope lets be shared. -/
def Block.publishes (b : Block) (slot : Nat) (ts : List (Bool × Nat)) : Prop :=
  let e := b.ent slot
  let k := e.sharedPages
  (k + 1) * b.pageTokens ≤ e.committedLen ∧ k < e.pages.length ∧ tierOf (e.pages.getD k 0) = 0 ∧
    (b.scope = 1 → ∀ x ∈ b.nextBlock slot ts, x.1 = true)

/-- The request has its next block published. -/
def Block.counted (b : Block) (slot k : Nat) : Block := b.modEnt slot fun e => { e with sharedPages := k + 1 }

/-- The request gives its page for that of node i, which holds the same block. -/
def Block.joinNode (b : Block) (slot a i page : Nat) (n : Node) : Block :=
  ((((b.modDesc page fun d => { d with sharers := d.sharers + 1 }).modNode i fun n => { n with lastUse := a }).modEnt slot
    fun e => { e with pages := setPage e.pages n.block page, sharedPages := n.block + 1 })).unshare n.page

/-- Node n enters its tables as node i, the free nodes left being `rest`. -/
def Block.linkNode (b : Block) (i : Nat) (rest : Runs) (n : Node) : Block :=
  { b with pg := { b.pg with freeNodes := rest, nodes := Tab.set i n b.pg.nodes
                             buckets := Tab.set n.bucket (i :: Tab.getD n.bucket [] b.pg.buckets) b.pg.buckets } }

/-- The node's parent has a child more. -/
def Block.childCome (b : Block) (n : Node) : Block := match n.parent with
  | some p => b.modNode p fun q => { q with children := q.children + 1 }
  | none => b

/-- Node n of a request's next block enters, with its tokens and its page. -/
def Block.enterNode (b : Block) (slot i tokenBytes : Nat) (rest : Runs) (n : Node) (bytes : List Byte) : Block :=
  ((((b.linkNode i rest n).write (Config.structBase 4 b.ctlBase + i * tokenBytes) bytes).childCome n).modDesc n.page
    fun d => { d with node := some i }).counted slot n.block

/-- A free node is at hand, of the free list or by an eviction (R116). -/
def Block.withFreeNode (b : Block) : Option Block := if (Runs.head? b.pg.freeNodes).isSome then some b else b.evictOne

/-- What the publication of node n comes to, by the node that holds its block already. -/
def Block.publishNode (b : Block) (slot a : Nat) (n : Node) (bytes : List Byte) : Option Block :=
  match b.twin slot n with
  | some i =>
    if ((b.node? i).map (·.page)).getD 0 = n.page then some (b.counted slot n.block)
    else some (b.joinNode slot a i (((b.node? i).map (·.page)).getD 0) n)
  | none => match b.withFreeNode with
    | none => none
    | some c => match Runs.pop c.pg.freeNodes with
      | none => none
      | some (i, rest) => some (c.enterNode slot i (4 * b.pageTokens) rest n bytes)

theorem publishOne_barred (h : ¬ b.publishes slot ts) : b.publishOne slot a ts = none := by
  unfold Block.publishes Block.nextBlock at h
  unfold Block.publishOne
  dsimp only at h ⊢
  split
  · rfl
  · next hready =>
    rw [if_pos]
    simp only [Bool.or_eq_true, decide_eq_true_eq, bne_iff_ne, ne_eq, not_or, not_not, not_lt, not_le] at hready
    simp only [Bool.and_eq_true, decide_eq_true_eq, Bool.not_eq_true', ← Bool.not_eq_true, List.all_eq_true]
    tauto

theorem publishOne_ready (h : b.publishes slot ts) : b.publishOne slot a ts =
    b.publishNode slot a (b.nextNode slot a ts) ((b.nextBlock slot ts).flatMap fun t => le 4 t.2) := by
  obtain ⟨hlen, hk, htier, hscope⟩ := h
  unfold Block.nextBlock at hscope
  unfold Block.publishOne
  dsimp only
  rw [if_neg (by simp [-List.getD_eq_getElem?_getD, hlen, hk, htier]), if_neg (by simpa using hscope)]
  rfl

variable {bytes : List Byte}

theorem publishNode_full (ht : b.twin slot n = none) (hf : Runs.head? b.pg.freeNodes = none) (he : b.evictOne = none) :
    b.publishNode slot a n bytes = none := by
  have hfree : b.withFreeNode = none := (if_neg (by simp [hf])).trans he
  simp [Block.publishNode, ht, hfree]

/-- What a publication that succeeds comes to. -/
theorem publishNode_some (h : b.publishNode slot a n bytes = some c) : c = b.counted slot n.block ∨
    (∃ i p, c = b.joinNode slot a i p n) ∨
    ∃ d i rest, b.withFreeNode = some d ∧ Runs.pop d.pg.freeNodes = some (i, rest) ∧
      c = d.enterNode slot i (4 * b.pageTokens) rest n bytes := by
  unfold Block.publishNode at h
  split at h
  · split at h
    · exact .inl (Option.some.inj h).symm
    · exact .inr (.inl ⟨_, _, (Option.some.inj h).symm⟩)
  · split at h
    · cases h
    · next d hd =>
      split at h
      · cases h
      · next i rest hpop => exact .inr (.inr ⟨d, i, rest, hd, hpop, (Option.some.inj h).symm⟩)

theorem joinNode_ent (slot a i p : Nat) (n : Node) : (b.joinNode slot a i p n).ent slot =
    { b.ent slot with pages := (b.ent slot).pages.set n.block p, sharedPages := n.block + 1 } := by
  rw [Block.joinNode, (sameButPages_unshare ..).ent, Block.modEnt, ent_setEnt]
  rfl

theorem joinNode_desc {p : Nat} (hp : p ≠ n.page) : ((b.joinNode slot a i p n).desc p).sharers = (b.desc p).sharers + 1 := by
  rw [Block.joinNode, desc_unshare_of_some (Tab.get?_set_self ..) hp]

theorem joinNode_node? {p : Nat} {m : Node} (h : b.node? i = some m) : (b.joinNode slot a i p n).node? i = some { m with lastUse := a } := by
  have hmod := node?_modNode_self (b := b.modDesc p fun d => { d with sharers := d.sharers + 1 }) (i := i) fun n => { n with lastUse := a }
  rw [node?_modDesc, h, Option.map_some] at hmod
  exact (node?_unshare ..).trans hmod

theorem joinNode_stack {p : Nat} (hp : p ≠ n.page) (h : (b.desc n.page).lastHeld) :
    Runs.list ((b.joinNode slot a i p n).pg.stack (tierOf n.page)) = indexOf n.page :: Runs.list (b.pg.stack (tierOf n.page)) := by
  have hdesc : (b.modDesc p fun d => { d with sharers := d.sharers + 1 }).desc n.page = b.desc n.page := desc_modDesc_ne hp.symm
  rw [Block.joinNode, unshare_last_stack]
  · rfl
  · exact hdesc.symm ▸ h

/-- A block that node i of another page holds already: the request shares that page and gives up its own. -/
theorem publishNode_joins {m : Node} (ht : b.twin slot n = some i) (hm : b.node? i = some m) (hp : m.page ≠ n.page) :
    ∃ c, b.publishNode slot a n bytes = some c ∧
      c.ent slot = { b.ent slot with pages := (b.ent slot).pages.set n.block m.page, sharedPages := n.block + 1 } ∧
      (c.desc m.page).sharers = (b.desc m.page).sharers + 1 ∧ c.node? i = some { m with lastUse := a } ∧
      ((b.desc n.page).lastHeld → Runs.list (c.pg.stack (tierOf n.page)) = indexOf n.page :: Runs.list (b.pg.stack (tierOf n.page))) :=
  ⟨b.joinNode slot a i m.page n, by simp [Block.publishNode, ht, hm, hp], joinNode_ent .., joinNode_desc hp, joinNode_node? hm,
    joinNode_stack hp⟩

theorem pagesOk_joinNode (hok : b.PagesOk) (slot a i p : Nat) (n : Node) : (b.joinNode slot a i p n).PagesOk :=
  pagesOk_unshare (pagesOk_modEnt (pagesOk_modNode (pagesOk_modDesc hok _) _)) _

@[simp] theorem counted_desc (slot k p : Nat) : (b.counted slot k).desc p = b.desc p := rfl

theorem childCome_ent (s : Nat) : (b.childCome n).ent s = b.ent s := by
  unfold Block.childCome
  split <;> rfl

theorem childCome_buckets : (b.childCome n).pg.buckets = b.pg.buckets := by
  unfold Block.childCome
  split <;> rfl

theorem childCome_node? (j : Nat) : (b.childCome n).node? j =
    (b.node? j).map fun q => if n.parent = some j then { q with children := q.children + 1 } else q := by
  unfold Block.childCome
  cases n.parent with
  | none => simp
  | some p =>
    by_cases hj : j = p
    · subst hj
      simp [node?_modNode_self]
    · simp [node?_modNode_ne hj, Ne.symm hj]

theorem pagesOk_childCome (hok : b.PagesOk) (n : Node) : (b.childCome n).PagesOk := by
  unfold Block.childCome
  split
  · exact pagesOk_modNode hok _
  · exact hok

variable {rest : Runs} {g : Nat}

theorem enterNode_ent : (b.enterNode slot i g rest n bytes).ent slot = { b.ent slot with sharedPages := n.block + 1 } := by
  rw [Block.enterNode, Block.counted, Block.modEnt, ent_setEnt]
  exact congrArg (fun e : Entry => { e with sharedPages := n.block + 1 }) (childCome_ent ..)

theorem enterNode_desc : ((b.enterNode slot i g rest n bytes).desc n.page).node = some i := by
  rw [Block.enterNode, counted_desc, desc_modDesc]

theorem enterNode_node? (j : Nat) : (b.enterNode slot i g rest n bytes).node? j =
    (Tab.get? j (Tab.set i n b.pg.nodes)).map fun q => if n.parent = some j then { q with children := q.children + 1 } else q :=
  childCome_node? ..

theorem enterNode_node?_self (h : n.parent ≠ some i) : (b.enterNode slot i g rest n bytes).node? i = some n := by
  rw [enterNode_node?, Tab.get?_set_self, Option.map_some, if_neg h]

theorem enterNode_node?_parent {p : Nat} (hp : n.parent = some p) (hne : p ≠ i) :
    (b.enterNode slot i g rest n bytes).node? p = (b.node? p).map fun q => { q with children := q.children + 1 } := by
  rw [enterNode_node?, Tab.get?_set_ne hne.symm]
  simp only [hp, if_true]
  rfl

theorem enterNode_buckets : Tab.getD n.bucket [] (b.enterNode slot i g rest n bytes).pg.buckets =
    i :: Tab.getD n.bucket [] b.pg.buckets := by
  refine (congrArg (Tab.getD n.bucket []) childCome_buckets).trans ?_
  exact Tab.getD_set_self ..

/-- A block that no node holds: a new node holds it, with the page and as a child of the block before. -/
theorem publishNode_enters (ht : b.twin slot n = none) (hf : Runs.head? b.pg.freeNodes = some i) (hp : n.parent ≠ some i) :
    ∃ c, b.publishNode slot a n bytes = some c ∧ c.ent slot = { b.ent slot with sharedPages := n.block + 1 } ∧
      (c.desc n.page).node = some i ∧ c.node? i = some n ∧
      Tab.getD n.bucket [] c.pg.buckets = i :: Tab.getD n.bucket [] b.pg.buckets ∧
      ∀ p, n.parent = some p → c.node? p = (b.node? p).map fun q => { q with children := q.children + 1 } := by
  have hfree : b.withFreeNode = some b := if_pos (by rw [hf]; rfl)
  rw [Runs.head?_eq_pop, Option.map_eq_some_iff] at hf
  obtain ⟨⟨_, rest⟩, hpop, rfl⟩ := hf
  exact ⟨b.enterNode slot _ (4 * b.pageTokens) rest n bytes, by simp [Block.publishNode, ht, hfree, hpop], enterNode_ent, enterNode_desc,
    enterNode_node?_self hp, enterNode_buckets, fun p hpar => enterNode_node?_parent hpar fun hpi => hp (hpi ▸ hpar)⟩

theorem pagesOk_enterNode (hok : b.PagesOk) (hpop : Runs.pop b.pg.freeNodes = some (i, rest)) :
    (b.enterNode slot i g rest n bytes).PagesOk := by
  have hlink : (b.linkNode i rest n).PagesOk := ⟨hok.desc, Tab.keys_set_sorted _ _ _ hok.nodes, Tab.keys_set_sorted _ _ _ hok.buckets,
    hok.stack, Runs.full_pop hok.freeNodes hpop⟩
  exact pagesOk_modEnt (pagesOk_modDesc (pagesOk_childCome (b := (b.linkNode i rest n).write _ bytes) hlink n) _)

theorem pagesOk_publishOne (hok : b.PagesOk) (h : b.publishOne slot a ts = some c) : c.PagesOk := by
  by_cases hready : b.publishes slot ts
  · rw [publishOne_ready hready] at h
    obtain rfl | ⟨i, p, rfl⟩ | ⟨d, i, rest, hd, hpop, rfl⟩ := publishNode_some h
    · exact hok
    · exact pagesOk_joinNode hok ..
    · have hdok : d.PagesOk := by
        unfold Block.withFreeNode at hd
        split at hd
        · exact Option.some.inj hd ▸ hok
        · exact pagesOk_evictOne hok hd
      exact pagesOk_enterNode hdok hpop
  · rw [publishOne_barred hready] at h
    cases h

end

end Sys2Proof.Machine
end

section
/-! Page lists at a junction: copy-on-append (R108), releases (R103) and moves (R118 to R120), and what a junction does to pages and nodes
in all. -/

namespace Sys2Proof.Machine
open Sys2Proof

/-! ### Copy-on-append (R108) -/

/-- Entry i of the page list is replaced by page p, and the pages from there on are shared no more. -/
def Block.replacePage (b : Block) (slot i p : Nat) : Block :=
  b.modEnt slot fun e => { e with pages := setPage e.pages i p, sharedPages := min e.sharedPages i }

/-- The copy of the positions committed in entry i of e's page list into page p. -/
def Block.appendCopy (b : Block) (e : Entry) (i step p : Nat) : CopyItem :=
  { kind := 1, src := e.pages.getD i 0, dst := p, srcOffset := 0, dstOffset := 0
    posCount := min (e.committedLen - i * b.pageTokens) b.pageTokens, handle := e.handle, seq := none, step, epoch := b.cp.epoch }

/-- The copy is queued where a position of the entry is committed. -/
def Block.queueAppend (b : Block) (e : Entry) (i step p : Nat) : Block :=
  if e.committedLen - i * b.pageTokens = 0 then b else b.queueCopy (b.appendCopy e i step p) 0 (classOf e.classPrio)

section
variable {b c : Block} {slot i step p : Nat} {position : Bool} {e : Entry}

theorem queueAppend_dsp : ((e.committedLen - i * b.pageTokens = 0 → (b.queueAppend e i step p).dsp = b.dsp)) ∧
    (0 < e.committedLen - i * b.pageTokens → ∃ r, (b.queueAppend e i step p).dsp.runs = b.dsp.runs ++ [r] ∧
      r.copy = some (b.appendCopy e i step p)) := by
  unfold Block.queueAppend
  refine ⟨fun h => by rw [if_pos h], fun h => ?_⟩
  rw [if_neg (Nat.ne_of_gt h)]
  exact ⟨_, rfl, rfl⟩

theorem queueAppend_keeps (b : Block) (e : Entry) (i step p : Nat) :
    (b.queueAppend e i step p).gr = b.gr ∧ (b.queueAppend e i step p).pg = b.pg := by
  unfold Block.queueAppend
  split <;> exact ⟨rfl, rfl⟩

theorem copyOnAppend_none (h : b.allocPage slot position = none) : b.copyOnAppend slot i step position = b := by
  rw [Block.copyOnAppend, h]

theorem copyOnAppend_some (h : b.allocPage slot position = some (p, c)) : b.copyOnAppend slot i step position =
    ((c.replacePage slot i p).queueAppend (b.ent slot) i step p).unshare ((b.ent slot).pages.getD i 0) := by
  rw [Block.copyOnAppend, h]
  rfl

theorem copyOnAppend_ent (h : b.allocPage slot position = some (p, c)) : (b.copyOnAppend slot i step position).ent slot =
    { b.ent slot with pages := (b.ent slot).pages.set i p, sharedPages := min (b.ent slot).sharedPages i } := by
  obtain ⟨hgr, -⟩ := queueAppend_keeps (c.replacePage slot i p) (b.ent slot) i step p
  rw [copyOnAppend_some h, (sameButPages_unshare ..).ent, Block.ent, hgr, ← (sameButPages_allocPage h).ent slot]
  exact Tab.getD_set_self ..

/-- A page that others share keeps its descriptor but for one sharer. -/
theorem copyOnAppend_desc (h : b.allocPage slot position = some (p, c)) (hshared : (c.desc ((b.ent slot).pages.getD i 0)).sharers > 1) :
    ((b.copyOnAppend slot i step position).desc ((b.ent slot).pages.getD i 0)).sharers =
      (c.desc ((b.ent slot).pages.getD i 0)).sharers - 1 := by
  obtain ⟨-, hpg⟩ := queueAppend_keeps (c.replacePage slot i p) (b.ent slot) i step p
  have hdesc : ∀ q, ((c.replacePage slot i p).queueAppend (b.ent slot) i step p).desc q = c.desc q := fun q => by
    rw [Block.desc, hpg]
    rfl
  rw [copyOnAppend_some h, unshare_held, Block.lessSharer, desc_modDesc, hdesc]
  rintro ⟨-, -, hlast⟩
  rw [hdesc] at hlast
  omega

theorem copyOnAppend_dsp (h : b.allocPage slot position = some (p, c)) :
    (b.copyOnAppend slot i step position).dsp = ((c.replacePage slot i p).queueAppend (b.ent slot) i step p).dsp := by
  rw [copyOnAppend_some h, (sameButPages_unshare ..).dsp]

theorem pagesOk_of_pg (hok : b.PagesOk) (h : c.pg = b.pg) : c.PagesOk := by
  unfold Block.PagesOk
  rwa [h]

theorem pagesOk_copyOnAppend (hok : b.PagesOk) (slot i step : Nat) (position : Bool) :
    (b.copyOnAppend slot i step position).PagesOk := by
  cases h : b.allocPage slot position with
  | none => rwa [copyOnAppend_none h]
  | some x =>
    obtain ⟨-, hpg⟩ := queueAppend_keeps (x.2.replacePage slot i x.1) (b.ent slot) i step x.1
    rw [copyOnAppend_some (p := x.1) (c := x.2) h]
    exact pagesOk_unshare (pagesOk_of_pg (pagesOk_allocPage hok h) hpg) _

end

/-! ### Releases (R103) -/

/-- The pages that a release from entry n on gives up, in the order in which they come to lie on their stacks. -/
def Entry.releases (e : Entry) (n : Nat) (scratch : Bool) : List Nat := e.pages.drop n ++ if scratch then e.scratch else []

section
variable {b : Block} {l : List Nat} {slot n : Nat}

theorem releaseFrom_eq (b : Block) (slot n : Nat) (scratch : Bool) : b.releaseFrom slot n scratch =
    (((b.ent slot).releases n scratch).reverse.foldl Block.unshare b).modEnt slot
      fun e => { e with pages := e.pages.take n, scratch := if scratch then [] else e.scratch } := by
  rw [Entry.releases, List.reverse_append, List.foldl_append]
  cases scratch <;> rfl

theorem releaseFrom_ent (b : Block) (slot n : Nat) : (b.releaseFrom slot n true).ent slot =
    { b.ent slot with pages := (b.ent slot).pages.take n, scratch := [] } := by
  rw [releaseFrom_eq, Block.modEnt, ent_setEnt, (Block.SameButPages.foldl sameButPages_unshare _ b).ent]
  rfl

theorem unshare_foldl_stack (hok : b.PagesOk) (hl : l.Nodup) (ht : ∀ p ∈ l, tierOf p = 0) (hlast : ∀ p ∈ l, (b.desc p).lastHeld) :
    Runs.list ((l.foldl Block.unshare b).pg.stack 0) = l.reverse.map indexOf ++ Runs.list (b.pg.stack 0) := by
  induction l generalizing b with
  | nil => rfl
  | cons p l ih =>
    obtain ⟨hp, hl⟩ := List.nodup_cons.1 hl
    obtain ⟨htp, ht⟩ := List.forall_mem_cons.1 ht
    obtain ⟨hlastp, hlast⟩ := List.forall_mem_cons.1 hlast
    have hrest : ∀ q ∈ l, ((b.unshare p).desc q).lastHeld := fun q hq => by
      rw [desc_unshare_ne hok.desc (by rintro rfl; exact hp hq)]
      exact hlast q hq
    have htop := unshare_last_stack hlastp
    rw [htp] at htop
    rw [List.foldl_cons, ih (pagesOk_unshare hok p) hl ht hrest, htop]
    simp

theorem pagesOk_releaseFrom (hok : b.PagesOk) (slot n : Nat) (scratch : Bool) : (b.releaseFrom slot n scratch).PagesOk := by
  rw [releaseFrom_eq]
  exact pagesOk_foldl (fun _ p h => pagesOk_unshare h p) _ hok

end

/-! ### Moves out and their end (R118 to R120) -/

/-- The move that opens next, of a page of e's request. -/
def Block.nextMove (b : Block) (src dst : Nat) (e : Entry) (back : Bool) : Move :=
  { seq := b.pg.nextMoveSeq, src, dst, handle := e.handle, back, cls := classOf e.classPrio, level := e.effectivePrio % 16 }

/-- The open moves and m, and the number that the next one takes. -/
def Block.addMove (b : Block) (m : Move) : Block :=
  { b with pg := { b.pg with moves := b.pg.moves ++ [m], nextMoveSeq := add32 b.pg.nextMoveSeq 1 } }

section
variable {b c : Block} {slot t i p q : Nat} {m : Move}

theorem moveOut_none (h : b.popPage t = none) : b.moveOut slot t i = b := by rw [Block.moveOut, h]

theorem moveOut_some (h : b.popPage t = some (q, c)) : b.moveOut slot t i =
    ((c.modEnt slot fun e => { e with pages := setPage e.pages i q }).openMove ((b.ent slot).pages.getD i 0) q
      { b.ent slot with pages := (b.ent slot).pages.set i q } false).lessSharer ((b.ent slot).pages.getD i 0) := by
  have hent := (sameButPages_popPage h).ent slot
  rw [Block.moveOut, h]
  dsimp only
  rw [hent, Block.modEnt, ent_setEnt, hent]
  rfl

theorem openMove_eq (b : Block) (src dst : Nat) (e : Entry) (back : Bool) : b.openMove src dst e back =
    ((b.addMove (b.nextMove src dst e back)).modDesc src fun d => { d with movePending := true }).modDesc dst
      fun d => { d with movePending := true } := rfl

theorem pagesOk_openMove (hok : b.PagesOk) (src dst : Nat) (e : Entry) (back : Bool) : (b.openMove src dst e back).PagesOk := by
  rw [openMove_eq]
  exact pagesOk_modDesc (pagesOk_modDesc (b := b.addMove _) hok _) _

theorem popPage_moves (h : b.popPage t = some (q, c)) : c.pg.moves = b.pg.moves ∧ c.pg.nextMoveSeq = b.pg.nextMoveSeq := by
  obtain ⟨j, r, -, -, rfl⟩ := popPage_some h
  simp only [Pages.setStack]
  split_ifs <;> exact ⟨rfl, rfl⟩

theorem moveOut_ent (h : b.popPage t = some (q, c)) : (b.moveOut slot t i).ent slot =
    { b.ent slot with pages := (b.ent slot).pages.set i q } := by
  rw [moveOut_some h, ← (sameButPages_popPage h).ent slot]
  exact Tab.getD_set_self ..

theorem moveOut_moves (h : b.popPage t = some (q, c)) : (b.moveOut slot t i).pg.nextMoveSeq = add32 b.pg.nextMoveSeq 1 ∧
    (b.moveOut slot t i).pg.moves = b.pg.moves ++ [b.nextMove ((b.ent slot).pages.getD i 0) q (b.ent slot) false] := by
  obtain ⟨hmoves, hseq⟩ := popPage_moves h
  rw [moveOut_some h, Block.nextMove, ← hmoves, ← hseq]
  exact ⟨rfl, rfl⟩

theorem moveOut_desc (h : b.popPage t = some (q, c)) (hne : (b.ent slot).pages.getD i 0 ≠ q) :
    (b.moveOut slot t i).desc ((b.ent slot).pages.getD i 0) =
      { b.desc ((b.ent slot).pages.getD i 0) with
        movePending := true, sharers := (b.desc ((b.ent slot).pages.getD i 0)).sharers - 1 } ∧
    (b.moveOut slot t i).desc q = { sharers := 1, movePending := true } := by
  obtain ⟨hq, hother⟩ := popPage_desc h
  rw [moveOut_some h, Block.lessSharer, openMove_eq]
  refine ⟨?_, ?_⟩
  · rw [desc_modDesc, desc_modDesc_ne hne, desc_modDesc, ← hother _ hne]
    rfl
  · rw [desc_modDesc_ne hne.symm, desc_modDesc, desc_modDesc_ne hne.symm]
    exact congrArg (fun d : PageDesc => { d with movePending := true }) hq

theorem pagesOk_moveOut (hok : b.PagesOk) (slot t i : Nat) : (b.moveOut slot t i).PagesOk := by
  cases h : b.popPage t with
  | none => rwa [moveOut_none h]
  | some x =>
    rw [moveOut_some (q := x.1) (c := x.2) h]
    exact pagesOk_modDesc (pagesOk_openMove (pagesOk_modEnt (pagesOk_popPage hok h)) ..) _

/-- A page of a closed move is released from it, unless an open move holds it still. -/
def Block.endMove (rest : List Move) (b : Block) (p : Nat) : Block :=
  if rest.any fun x => x.src == p || x.dst == p then b else (b.modDesc p fun d => { d with movePending := false }).settlePage p

/-- The block without the moves of the number of m. -/
def Block.lessMove (b : Block) (m : Move) : Block := { b with pg := { b.pg with moves := b.pg.moves.filter fun x => x.seq != m.seq } }

theorem closeMove_eq (b : Block) (m : Move) : b.closeMove m =
    ((b.lessMove m).endMove (b.lessMove m).pg.moves m.src).endMove (b.lessMove m).pg.moves m.dst := rfl

theorem endMove_moves (rest : List Move) (b : Block) (p : Nat) : (b.endMove rest p).pg.moves = b.pg.moves := by
  unfold Block.endMove
  split
  · rfl
  · obtain ⟨-, -, -, hmoves⟩ := settlePage_nodes (b.modDesc p fun d => { d with movePending := false }) p
    exact hmoves

theorem closeMove_moves (b : Block) (m : Move) : (b.closeMove m).pg.moves = b.pg.moves.filter fun x => x.seq ≠ m.seq := by
  rw [closeMove_eq, endMove_moves, endMove_moves]
  exact List.filter_congr fun x _ => Bool.eq_iff_iff.2 (by simp)

theorem pagesOk_endMove (hok : b.PagesOk) (rest : List Move) (p : Nat) : (b.endMove rest p).PagesOk := by
  unfold Block.endMove
  split
  · exact hok
  · exact pagesOk_settlePage (pagesOk_modDesc hok _) _

theorem pagesOk_closeMove (hok : b.PagesOk) (m : Move) : (b.closeMove m).PagesOk :=
  pagesOk_endMove (pagesOk_endMove (b := b.lessMove m) hok _ _) _ _

theorem endMove_unheld {rest : List Move} (hrest : ∀ x ∈ rest, x.src ≠ p ∧ x.dst ≠ p) (hs : (b.desc p).sharers = 0)
    (hn : (b.desc p).node = none) : b.endMove rest p = (b.modDesc p fun d => { d with movePending := false }).pushPage p := by
  rw [Block.endMove, if_neg (by simpa using hrest)]
  exact settlePage_unheld (by rw [desc_modDesc]; exact ⟨hs, hn, rfl⟩)

/-- A page that has a sharer goes onto no stack at the end of its move. -/
theorem endMove_shared {rest : List Move} (h : (b.desc p).sharers ≠ 0) (t : Nat) : (b.endMove rest p).pg.stack t = b.pg.stack t := by
  unfold Block.endMove
  split
  · rfl
  · rw [settlePage_held, stack_modDesc]
    rw [desc_modDesc]
    exact fun hu => h hu.1

theorem closeMove_stack (hok : b.PagesOk) (hne : m.src ≠ m.dst)
    (hopen : ∀ x ∈ b.pg.moves, x.seq = m.seq ∨ x.src ≠ m.src ∧ x.dst ≠ m.src) (hs : (b.desc m.src).sharers = 0)
    (hn : (b.desc m.src).node = none) (hd : (b.desc m.dst).sharers ≠ 0) :
    Runs.list ((b.closeMove m).pg.stack (tierOf m.src)) = indexOf m.src :: Runs.list (b.pg.stack (tierOf m.src)) := by
  have hrest : ∀ x ∈ (b.lessMove m).pg.moves, x.src ≠ m.src ∧ x.dst ≠ m.src := fun x hx => by
    obtain ⟨hx, hseq⟩ := List.mem_filter.1 hx
    exact (hopen x hx).resolve_left (by simpa using hseq)
  have hsrc := endMove_unheld (b := b.lessMove m) hrest hs hn
  have hdst : (((b.lessMove m).endMove (b.lessMove m).pg.moves m.src).desc m.dst).sharers ≠ 0 := by
    rw [hsrc, desc_pushPage_ne (sorted_modDesc (b := b.lessMove m) hok.desc) hne.symm, desc_modDesc_ne hne.symm]
    exact hd
  rw [closeMove_eq, endMove_shared hdst, hsrc, stack_pushPage]
  rfl

end

/-- Settles O48: each clause is put together from the rules of its operation, and the form of the tables from what each keeps. -/
theorem junctionsMovePages : Obligations.JunctionsMovePages := by
  refine ⟨fun b t hok => ?_, fun b p => ?_, fun b slot position hok => ?_, fun b hok => ?_, fun b a slot e w hb hl hsome hpages => ?_,
    fun b slot a ts => ?_, fun b c slot i step p position _ h => ?_, fun b slot n => ?_, fun b c slot t i q _ h hne => ?_,
    fun b m hok _ hne => ?_, pagesOk_reset, fun b hok => ?_⟩
  · exact ⟨popPage_top (hok.stack t), fun p c h => ⟨popPage_stack (hok.stack t) h, popPage_desc h⟩⟩
  · intro d
    split
    · next h => exact unshare_last_stack h
    · next h =>
      rw [unshare_held h]
      exact ⟨desc_modDesc .., fun t => rfl⟩
  · cases ha : b.allowed (b.ent slot) position with
    | true => exact allocPage_allowed ha
    | false =>
      cases he : b.evictOne with
      | none => exact allocPage_none ha he
      | some c => exact allocPage_evicts hok ha he
  · refine ⟨evictOne_eq_none, fun c h => ?_⟩
    obtain ⟨i, n, hev, rfl⟩ := evictOne_some h
    obtain ⟨hgone, hfree, hnodes, hbuckets⟩ := evicted_nodes hok hev
    exact ⟨i, n, hev.mem, hev.idle, hev.first, hgone, hfree, hnodes, hbuckets, evicted_page hok hev⟩
  · have hsome : ∀ i ∈ w.nodes, (b.node? i).isSome := by simpa using hsome
    obtain ⟨hnodes, hdesc⟩ := shareNodes (a := a) hl hsome hpages
    refine ⟨applyWalk_ent hb hl hsome hpages, fun p => ?_, fun i => ?_⟩ <;> rw [applyWalk_eq hb]
    · exact hdesc p
    · exact hnodes i
  · intro e k g page blk key parent bucket
    refine ⟨fun h => publishOne_barred ?_, fun hlen hk ht hscope => ?_⟩
    · rintro ⟨hlen, hk, ht, hscope⟩
      obtain h | h | h | ⟨h1, x, hx, h⟩ := h
      · exact absurd h (not_lt.2 hlen)
      · exact absurd hk (not_lt.2 h)
      · exact h ht
      · exact absurd (hscope h1 x hx) (by simp [h])
    · rw [publishOne_ready ⟨hlen, hk, ht, hscope⟩]
      refine ⟨fun i m htwin hm hp => ?_, fun i htwin hfree hparent => publishNode_enters (n := b.nextNode slot a ts) htwin hfree hparent,
        publishNode_full (n := b.nextNode slot a ts)⟩
      obtain ⟨c, hc, hent, hdesc, hnode, hstack⟩ := publishNode_joins (n := b.nextNode slot a ts) htwin hm hp
      rw [show tierOf (b.nextNode slot a ts).page = 0 from ht] at hstack
      exact ⟨c, hc, hent, hdesc, hnode, fun hfree hmove hshare => hstack ⟨hfree, hmove, hshare⟩⟩
  · obtain ⟨hidle, hcopy⟩ := queueAppend_dsp (b := c.replacePage slot i p) (e := b.ent slot) (i := i) (step := step) (p := p)
    rw [← copyOnAppend_dsp h] at hidle hcopy
    exact ⟨copyOnAppend_ent h, copyOnAppend_desc h, hidle, hcopy⟩
  · intro e gone hok hgone hlast
    refine ⟨releaseFrom_ent .., ?_⟩
    have hstack := unshare_foldl_stack hok (List.nodup_reverse.2 hgone) (fun p hp => (hlast p (List.mem_reverse.1 hp)).1)
      fun p hp => (hlast p (List.mem_reverse.1 hp)).2
    rw [List.reverse_reverse] at hstack
    rw [releaseFrom_eq]
    exact hstack
  · obtain ⟨hseq, hmoves⟩ := moveOut_moves (slot := slot) (i := i) h
    exact ⟨moveOut_ent h, hseq, hmoves, moveOut_desc h hne⟩
  · exact ⟨closeMove_moves .., fun hopen hs hn _ hd => closeMove_stack hok hne hopen hs hn hd⟩
  · exact ⟨fun _ _ _ h => pagesOk_popPage hok h, pagesOk_unshare hok, fun _ h => pagesOk_evictOne hok h,
      fun _ _ _ _ h => pagesOk_allocPage hok h, pagesOk_applyWalk hok, fun _ _ _ _ h => pagesOk_publishOne hok h,
      pagesOk_copyOnAppend hok, pagesOk_releaseFrom hok, pagesOk_moveOut hok, pagesOk_closeMove hok⟩

end Sys2Proof.Machine
end

section
/-! The timetable's events (R113, R129, R133, R144, R204): what each does where its condition holds, and that it leaves the block as it
is where it does not. -/

namespace Sys2Proof.Machine
open Sys2Proof

section
variable {b : Block}

/-- The step that a log's template makes: each node PENDING with the items that it has for the rows it covers (R128, R129). -/
theorem instantiate_makes {l : JLog} {tp : Template} (hl : b.cp.log = some l) (hnext : b.dsp.next = none)
    (hroom : b.dsp.stook.length < 16384) (ht : b.templateFor l = some tp) :
    b.instantiate = { b with dsp := { b.dsp with
      next := some {
        junction := l.junction, epoch := l.epoch, template := tp, consist := l.consist, made := tp.nodes.length
        nodes := ((List.range tp.nodes.length).zip tp.nodes).map fun n =>
          (n.1, NodeInst.mk .pending (itemCount n.2 (positionsOf (covered n.2 l.consist))) 0 0) } } } := by
  simp [Block.instantiate, hl, hnext, ht, Nat.not_le.2 hroom]

theorem instantiate_no_log (h : b.cp.log = none) : b.instantiate = b := by simp [Block.instantiate, h]

section
variable {buf : Buffer} (hbuf : b.dsp.current = some buf)
include hbuf

theorem insertNode_inserts (hrun : b.running = true) (hleft : b.dsp.nextInsert < buf.made) (hroom : b.dsp.stook.length < 16384) :
    b.insertNode =
      ((({ b with dsp := { b.dsp with nextInsert := b.dsp.nextInsert + 1, stook := b.dsp.stook ++ [b.dsp.nextInsert] } } :
        Block).modNodeInst b.dsp.nextInsert fun n => { n with state := .matching }).settleNodes) := by
  simp [Block.insertNode, hbuf, hrun, Nat.not_le.2 hleft, Nat.not_le.2 hroom]

theorem insertNode_all_inserted (h : buf.made ≤ b.dsp.nextInsert) : b.insertNode = b := by simp [Block.insertNode, hbuf, h]

end

section
variable {tag : Nat} {o : OpenItem}

theorem drawWait_held {drawn : Nat → Nat → Bool} (ho : (b.dsp.openItems.find? fun o => o.tag == tag && o.held) = some o) :
    b.drawWait tag drawn = if b.running && b.drawsReady o drawn then b.itemDone o else b := by
  simp only [Block.drawWait, ho]

/-- Under a step's template the oldest item of a platform has its class's timeout to end in. -/
theorem itemTimeout_oldest {buf : Buffer} {since : Nat} (ho : (b.dsp.openItems.find? fun o => o.tag == tag && !o.held) = some o)
    (hold : o.oldestAt = some since) (hbuf : b.dsp.current = some buf) :
    b.itemTimeout tag =
      if b.running && b.now > since + buf.template.timeouts.getD o.opClass 0 * 1000 then b.removePlatform o.platform 0xFF else b := by
  simp only [Block.itemTimeout, ho, hold, hbuf, Option.map_some, Option.getD_some]

end

section
variable {handle slot : Nat} {e : Entry} (he : b.byHandle handle = some (slot, e))
include he

theorem prefixWalk_reading (h : b.readDone (.walk handle) = false) : b.prefixWalk handle = b := by simp [Block.prefixWalk, he, h]

theorem prefixWalk_ends (hwalk : b.readDone (.walk handle) = true) (htranscript : b.readDone (.transcript handle) = true) :
    b.prefixWalk handle = { b with gr := { b.gr with walks := b.gr.walks.map fun w =>
      if w.handle = handle && !w.finished then { w with finished := true, nodes := b.walk e } else w } } := by
  simp [Block.prefixWalk, he, hwalk, htranscript]

end

end

/-- Settles O37: each command is an event of a live block, and each clause is the case of its event's equation. -/
theorem nodesMoveThroughTheStook : Obligations.NodesMoveThroughTheStook := by
  refine ⟨fun x t hlive => ?_, fun x t hlive => ?_⟩
  · intro b
    refine ⟨fun l tp hl hnext hroom ht => ?_, fun hl => ?_, fun buf hbuf hrun hleft hroom => ?_, fun buf hbuf hall => ?_⟩
    · intro nodes
      rw [exec_timetableInstantiation, event_live hlive, instantiate_makes hl hnext hroom ht]
    · rw [exec_timetableInstantiation, event_live hlive, instantiate_no_log hl]
    · rw [exec_nodeInsert, event_live hlive, insertNode_inserts hbuf hrun hleft hroom]
    · rw [exec_nodeInsert, event_live hlive, insertNode_all_inserted hbuf hall]
  · intro b
    refine ⟨fun tag o ho hrun hready => ?_, fun tag o ho hready => ?_, fun tag o buf since ho hold hbuf hrun hlate => ?_,
      fun tag o buf since ho hold hbuf hearly => ?_, fun handle slot e he hwalk => ?_, fun handle slot e he hwalk htr => ?_⟩
    · rw [exec_drawWaitCompletion, event_live hlive, drawWait_held ho, hrun, hready]; rfl
    · rw [exec_drawWaitCompletion, event_live hlive, drawWait_held ho, hready, Bool.and_false]; rfl
    · rw [exec_itemTimeout, event_live hlive, itemTimeout_oldest ho hold hbuf, hrun, decide_eq_true hlate]; rfl
    · rw [exec_itemTimeout, event_live hlive, itemTimeout_oldest ho hold hbuf, decide_eq_false (Nat.not_lt.2 hearly), Bool.and_false]
      rfl
    · rw [exec_prefixWalk, event_live hlive, prefixWalk_reading he hwalk]
    · rw [exec_prefixWalk, event_live hlive, prefixWalk_ends he hwalk htr]

end Sys2Proof.Machine
end

section
/-! Entry to Buffer Stop and the Dispatcher (R430): what a stop leaves as it was, and that the group runs no longer after it. -/

namespace Sys2Proof.Machine
open Sys2Proof

section
variable {b c d : Block}

/-- The two blocks differ at most in sessions, the Memory Port and the times of the W1C bits: what replies change. -/
def Block.SameButReplies (b c : Block) : Prop := c = { b with ses := c.ses, mp := c.mp, setAt := c.setAt }

theorem Block.SameButReplies.refl (b : Block) : b.SameButReplies b := rfl

theorem Block.SameButReplies.trans (h : b.SameButReplies c) (k : c.SameButReplies d) : b.SameButReplies d := by
  unfold Block.SameButReplies at *
  rw [k, h]

theorem Block.SameButReplies.foldl {α : Type} {f : Block → α → Block} (h : ∀ (b : Block) x, b.SameButReplies (f b x)) (l : List α)
    (b : Block) : b.SameButReplies (l.foldl f b) := by
  induction l generalizing b with
  | nil => exact .refl b
  | cons x l ih => exact (h b x).trans (ih _)

theorem sameButReplies_write (b : Block) (a : Nat) (bs : List Byte) (o : Nat) (f : Option (Nat × Nat)) (r : Bool) :
    b.SameButReplies (b.write a bs o f r) := rfl

theorem sameButReplies_modSession (b : Block) (s : Nat) (f : Session → Session) : b.SameButReplies (b.modSession s f) := rfl

theorem sameButReplies_postReply (b : Block) (s opcode seq : Nat) (e : CmdEntry) (status : Nat) (payload : List Byte) (effective : Nat)
    (deferred : Bool) : b.SameButReplies (b.postReply s opcode seq e status payload effective deferred) := by
  unfold Block.postReply
  extract_lets _ _ _ _ _ _ _ _ packet entry
  have hpacket : b.SameButReplies packet := by
    unfold packet
    split
    · exact .refl b
    · exact sameButReplies_write ..
  have hentry : packet.SameButReplies entry := sameButReplies_write ..
  exact (hpacket.trans hentry).trans rfl

theorem sameButReplies_settleClosing (b : Block) (s : Nat) : b.SameButReplies (b.settleClosing s) := by
  unfold Block.settleClosing
  extract_lets
  split
  · exact .refl b
  · exact (Block.SameButReplies.foldl (fun b d => sameButReplies_postReply b ..) _ b).trans (sameButReplies_modSession ..)

theorem sameButReplies_postDeferred (b : Block) (hit : Nat → Deferred → Bool) (status : Nat) (payload : List Byte) :
    b.SameButReplies (b.postDeferred hit status payload) := by
  refine .foldl (fun b s => ?_) _ b
  extract_lets
  split
  · exact .refl b
  · exact ((sameButReplies_modSession ..).trans (.foldl (fun b d => sameButReplies_postReply b ..) _ _)).trans
      (sameButReplies_settleClosing _ s)

variable (b)

/-- A block as it enters Buffer Stop: its causes, no open formation, and of what waits to be sent or written only HALT, LINKMAP and
what no ring waits for. -/
def Block.stopEntry (c : Cause) (first : Nat) : Block :=
  let former := b.form.isSome && !(b.cp.fresh)
  let unfit := b.unfit
  let base := match b.form with
    | some f => if former then b.flt.back f.former else b.flt
    | none => b.flt
  { b with
    flt := { base.note c.code b.now b.cp.rank with
      own := some (base.own.getD c.code), diag := if unfit then 3 else 0, diagUnit := if unfit then b.flt.diagUnit else 0
      queried := false, enteredAt := b.now, cutTime := none, firstFatal := first, sweep := [], stopEvent := true
      perturbedAt := b.perturbed }
    cp := { b.cp with state := .bufferStop }
    form := none
    mp := { b.mp with writeWait := b.mp.writeWait.filter fun w => !w.ring }
    fab := { b.fab with queue := b.fab.queue.filter fun p => p.cls == 5 || p.cls == 6, selfIn := [] } }

/-- The rest of an entry to Buffer Stop: HALT leaves, and the dumps in flight, the commands and the deferred replies are void. -/
def Block.stopRest (code : Nat) : Block :=
  let b := b.sendHalt code
  let b := b.obs.dumps.foldl (fun (b : Block) d =>
    b.write d.addr (dumpHeader d.step d.layerOperator d.handle (if d.dropped then 3 else 4) d.items d.positions b.now)) b
  let b := { b with obs := { b.obs with dumps := [] } }
  (b.voidCommands.postDeferred (fun _ d => d.opcode != 3) 0x0601 []).postDeferred (fun _ _ => true) 0x0601 []

theorem stop_eq (c : Cause) (source : Nat) (args : List Nat) : b.stop c source args =
    let r := b.logRec source c.code 3 args
    if b.cp.fresh && b.cp.state == .forming && logOnlyWhenFresh c then
      match c with
      | .ctrlUe | .handshake => r.diagFail source
      | _ => r
    else if b.cp.state == .bufferStop then r
    else (((r.leadFault false).noteSet (w1cGroup 1)).stopEntry c b.vlog.length).stopRest c.code := rfl

/-- The Dispatcher, what left at the ports, what the Signal Box holds and the state of the group stay. -/
def Block.SameDispatch (b c : Block) : Prop := c.dsp = b.dsp ∧ c.out = b.out ∧ c.sb = b.sb

theorem stopRest_frame (code : Nat) : b.SameDispatch (b.stopRest code) ∧ (b.stopRest code).cp.state = b.cp.state := by
  have hdumps := fun c : Block => Block.SameButReplies.foldl (fun (b : Block) (d : Dump) => sameButReplies_write b d.addr
    (dumpHeader d.step d.layerOperator d.handle (if d.dropped then 3 else 4) d.items d.positions b.now) 2 none false) b.obs.dumps c
  have hreplies := fun c : Block => (sameButReplies_postDeferred c (fun _ d => d.opcode != 3) 0x0601 []).trans
    (sameButReplies_postDeferred _ (fun _ _ => true) 0x0601 [])
  unfold Block.stopRest
  extract_lets halted ended obs dumped
  have he : (b.sendHalt code).SameButReplies ended := hdumps _
  have h := hreplies dumped.voidCommands
  unfold Block.SameButReplies at h he
  rw [h]
  unfold Block.voidCommands dumped
  rw [he]
  exact ⟨⟨rfl, rfl, rfl⟩, rfl⟩

theorem sameDispatch_leadFault (reused : Bool) : b.SameDispatch (b.leadFault reused) := by
  unfold Block.leadFault
  split <;> exact ⟨rfl, rfl, rfl⟩

theorem sameDispatch_stop (c : Cause) (source : Nat) (args : List Nat) : b.SameDispatch (b.stop c source args) := by
  rw [stop_eq]
  extract_lets r
  split
  · split
    · unfold Block.diagFail; split <;> exact ⟨rfl, rfl, rfl⟩
    · unfold Block.diagFail; split <;> exact ⟨rfl, rfl, rfl⟩
    · exact ⟨rfl, rfl, rfl⟩
  · split
    · exact ⟨rfl, rfl, rfl⟩
    · obtain ⟨⟨hdsp, hout, hsb⟩, -⟩ := stopRest_frame (((r.leadFault false).noteSet (w1cGroup 1)).stopEntry c b.vlog.length) c.code
      obtain ⟨kdsp, kout, ksb⟩ := sameDispatch_leadFault r false
      exact ⟨hdsp.trans kdsp, hout.trans kout, hsb.trans ksb⟩

/-- A cause that does not only enter the log of a fresh block (R475) leaves the group stopped. -/
theorem running_stop {c : Cause} (h : logOnlyWhenFresh c = false) (source : Nat) (args : List Nat) :
    (b.stop c source args).running = false := by
  have hstate : (b.stop c source args).cp.state = .bufferStop := by
    rw [stop_eq, h, Bool.and_false, if_neg Bool.false_ne_true]
    split
    · next hs => exact eq_of_beq hs
    · exact (stopRest_frame _ _).2
  simp [Block.running, hstate]

end

end Sys2Proof.Machine
end

section
/-! Nodes that move through the Stook, and an item that is staged (R133, R134, R137, R142, Table 05-8): what each leaves as it was. -/

namespace Sys2Proof.Machine
open Sys2Proof

section
variable (b : Block) (k : Nat) (body : List Byte)

theorem trace_cases : b.trace k body = b ∨ ∃ ts, b.trace k body = { b with obs := { b.obs with traced := ts } } := by
  unfold Block.trace Block.traceAt
  split
  · exact .inl rfl
  · exact .inr ⟨_, rfl⟩

theorem trace_off (h : bit b.obs.traceMask k = false) : b.trace k body = b := by simp [Block.trace, Block.traceAt, h]

@[simp] theorem trace_dsp : (b.trace k body).dsp = b.dsp := by obtain h | ⟨_, h⟩ := trace_cases b k body <;> rw [h]
@[simp] theorem trace_out : (b.trace k body).out = b.out := by obtain h | ⟨_, h⟩ := trace_cases b k body <;> rw [h]

end

section
variable {b c d : Block}

/-! ### The Stook -/

/-- What has left at the ports, the issue sequence and the open items stay, and runs join the pool at its end. -/
def Block.Ripples (b c : Block) : Prop :=
  c.out = b.out ∧ c.dsp.issueSeq = b.dsp.issueSeq ∧ c.dsp.openItems = b.dsp.openItems ∧ b.dsp.runs <+: c.dsp.runs

theorem Block.Ripples.refl (b : Block) : b.Ripples b := ⟨rfl, rfl, rfl, List.prefix_rfl⟩

theorem Block.Ripples.trans (h : b.Ripples c) (k : c.Ripples d) : b.Ripples d := by
  obtain ⟨hout, hseq, hitems, hruns⟩ := h
  obtain ⟨kout, kseq, kitems, kruns⟩ := k
  exact ⟨kout.trans hout, kseq.trans hseq, kitems.trans hitems, hruns.trans kruns⟩

theorem ripples_modNodeInst (b : Block) (i : Nat) (f : NodeInst → NodeInst) : b.Ripples (b.modNodeInst i f) :=
  ⟨rfl, rfl, rfl, List.prefix_rfl⟩

theorem ripples_enterRuns (b : Block) (i : Nat) (via : Bool) : b.Ripples (b.enterRuns i via) := by
  unfold Block.enterRuns
  split
  · extract_lets rs traced
    have hdsp : traced.dsp = b.dsp := trace_dsp ..
    refine ⟨trace_out .., congrArg (·.issueSeq) hdsp, congrArg (·.openItems) hdsp, ?_⟩
    rw [← hdsp]
    exact List.prefix_append ..
  · exact .refl b

theorem ripples_rippleOne (h : b.rippleOne = some c) : b.Ripples c := by
  unfold Block.rippleOne at h
  dsimp only at h
  split at h
  · split at h
    · split at h
      · cases h
        exact ripples_enterRuns ..
      · cases h
    · cases h
  · split at h
    · cases h
    · split at h
      · cases h
        exact ripples_modNodeInst ..
      · split at h
        · cases h
          exact ripples_enterRuns ..
        · cases h
          exact ripples_modNodeInst ..

theorem ripples_ripple (n : Nat) (b : Block) : b.Ripples (Block.ripple n b) := by
  induction n generalizing b with
  | zero => exact .refl b
  | succ n ih =>
    rw [Block.ripple]
    split
    · next c hc => exact (ripples_rippleOne hc).trans (ih c)
    · exact .refl b

/-- Platforms in service are checked for every run (R149): the group stops, or nothing changes. -/
theorem checkPlatforms_cases (b : Block) : b.checkPlatforms = b ∨ b.checkPlatforms = b.stop .noPlatform srcDispatcher := by
  unfold Block.checkPlatforms
  extract_lets stuck
  split
  · exact .inr rfl
  · exact .inl rfl

theorem sameDispatch_checkPlatforms (b : Block) : b.SameDispatch b.checkPlatforms := by
  obtain h | h := checkPlatforms_cases b
  · rw [h]; exact ⟨rfl, rfl, rfl⟩
  · rw [h]; exact sameDispatch_stop ..

theorem Block.SameDispatch.ripples (h : b.SameDispatch c) : b.Ripples c := by
  obtain ⟨hdsp, hout, -⟩ := h
  exact ⟨hout, by rw [hdsp], by rw [hdsp], by rw [hdsp]⟩

theorem ripples_settleNodes (b : Block) : b.Ripples b.settleNodes :=
  (ripples_ripple _ b).trans (sameDispatch_checkPlatforms _).ripples

end

/-! ### Staging an item -/

section
variable (b : Block) (r : Run) (p slot item : Nat) (wave : Option Nat)

/-- The tag of the next item staged in a slot of a platform (Table 05-5). -/
def Block.nextTag : Nat := b.dsp.issueSeq % 262144 * 16384 + p * 4 + slot

/-- The step and the epoch that a run's items belong to: a copy item's own, or those of the current step. -/
def Block.stepOf : Nat × Nat := match r.copy, b.dsp.current with
  | some c, _ => (c.step, c.epoch)
  | none, some buf => (buf.junction, buf.epoch)
  | none, none => (0, b.cp.epoch)

/-- The open item that staging makes (R142). -/
def Block.opened : OpenItem :=
  { tag := b.nextTag p slot, node := r.node, item, copy := r.copy, level := r.level, cls := r.cls
    opClass := if r.copy.isSome then 63 else ((b.tnode r.node).getD default).opClass
    energy := b.energyOf r, platform := p, slot, issues := r.issues + 1, left := r.left
    oldestAt := if !(b.dsp.openItems.any fun o => o.platform == p && !o.held) then some b.now else none, held := false
    step := (b.stepOf r).1, current := b.predItem p (b.energyOf r), raw := b.rawItem p (b.energyOf r), collective := r.gang }

/-- A run whose next item has gone to a platform, and the slot reserved there with it. -/
def Run.next (rest : List Nat) : Run := { r with items := rest, reserved := r.reserved.erase p }

/-- The block with an item staged, before its node counts it. -/
def Block.stageOn (rest : List Nat) : Block :=
  let desc := b.descriptor r item (b.nextTag p slot) (b.stepOf r).1 (b.stepOf r).2
  let sent := (b.emit (.stage p slot desc (dispatchCrc p slot 0 desc))).trace 1 (le 1 (r.level + 16 * r.cls) ++
    le 2 (if r.copy.isSome then 0xFFFF else r.node) ++ le 4 (b.nextTag p slot) ++ le 2 p ++ le 1 slot ++
    le 1 (ofBools [r.reissue, (b.emit (.stage p slot desc (dispatchCrc p slot 0 desc))).critOf r, wave.isSome]) ++ le 2 (wave.getD 0xFFFF))
  let b' := (if r.copy.isSome then (sent.count 2).count 7 else sent.count 2).noteWait r
  ({ b' with dsp := { b'.dsp with
    issueSeq := b'.dsp.issueSeq + 1, openItems := b'.dsp.openItems ++ [b.opened r p slot item]
    runs := replaceRun b'.dsp.runs r (r.next p rest) } }.modPlatform p fun x =>
      { x with items := x.items ++ [b.nextTag p slot] }).noteRail p

theorem stageOn_frame (rest : List Nat) : (b.stageOn r p slot item wave rest).out =
      (b.emit (.stage p slot (b.descriptor r item (b.nextTag p slot) (b.stepOf r).1 (b.stepOf r).2)
        (dispatchCrc p slot 0 (b.descriptor r item (b.nextTag p slot) (b.stepOf r).1 (b.stepOf r).2)))).out ∧
    (b.stageOn r p slot item wave rest).dsp.issueSeq = b.dsp.issueSeq + 1 ∧
    (b.stageOn r p slot item wave rest).dsp.openItems = b.dsp.openItems ++ [b.opened r p slot item] ∧
    (b.stageOn r p slot item wave rest).dsp.runs = replaceRun b.dsp.runs r (r.next p rest) := by
  unfold Block.stageOn
  extract_lets desc sent counted
  have hsent : sent.dsp = b.dsp := trace_dsp ..
  have hcounted : counted.dsp = sent.dsp ∧ counted.out = sent.out := by
    unfold counted
    split <;> exact ⟨rfl, rfl⟩
  obtain ⟨hdsp, hout⟩ := hcounted
  rw [hsent] at hdsp
  refine ⟨hout.trans (trace_out ..), ?_, ?_, ?_⟩
  · exact congrArg (·.issueSeq + 1) hdsp
  · exact congrArg (·.openItems ++ [b.opened r p slot item]) hdsp
  · exact congrArg (replaceRun ·.runs r (r.next p rest)) hdsp

variable {b r p slot item wave} {rest : List Nat}

theorem stageItem_eq (hitems : r.items = item :: rest) (hslot : ((List.range 4).find? fun k => !(b.slotsHeld p).contains k) = some slot) :
    b.stageItem r p wave =
      let c := b.stageOn r p slot item wave rest
      if r.copy.isSome then c
      else (if r.reissue then c else c.modNodeInst r.node fun x =>
        { x with staged := x.staged + 1, state := if x.staged + 1 ≥ x.count then .issued else x.state }).settleNodes := by
  unfold Block.stageItem
  rw [hitems, hslot]
  rfl

/-- An item that is staged (R142, R324): its STAGE leaves, the issue sequence moves on, the item is open, and its run goes on without it. -/
theorem stageItem_stages (hitems : r.items = item :: rest)
    (hslot : ((List.range 4).find? fun k => !(b.slotsHeld p).contains k) = some slot) :
    let desc := b.descriptor r item (b.nextTag p slot) (b.stepOf r).1 (b.stepOf r).2
    (b.stageItem r p wave).out = (b.emit (.stage p slot desc (dispatchCrc p slot 0 desc))).out ∧
    (b.stageItem r p wave).dsp.issueSeq = b.dsp.issueSeq + 1 ∧
    (b.stageItem r p wave).dsp.openItems = b.dsp.openItems ++ [b.opened r p slot item] ∧
    replaceRun b.dsp.runs r (r.next p rest) <+: (b.stageItem r p wave).dsp.runs := by
  obtain ⟨hout, hseq, hopen, hruns⟩ := stageOn_frame b r p slot item wave rest
  have hripples : (b.stageOn r p slot item wave rest).Ripples (b.stageItem r p wave) := by
    rw [stageItem_eq hitems hslot]
    dsimp only
    split
    · exact .refl _
    · split
      · exact ripples_settleNodes _
      · exact (ripples_modNodeInst ..).trans (ripples_settleNodes _)
  obtain ⟨kout, kseq, kopen, kruns⟩ := hripples
  exact ⟨kout.trans hout, kseq.trans hseq, kopen.trans hopen, hruns ▸ kruns⟩

end

end Sys2Proof.Machine
end

section
/-! Completion records (R142 to R147, R327, R330): which item a record is of, and what its status decides. -/

namespace Sys2Proof.Machine
open Sys2Proof

section
variable {b : Block} {c : CompletionRec} {o : OpenItem} {crc : Nat} {drawn : Nat → Nat → Bool}

/-- The open item that a record is of: of a CRC_BAD one that of its platform and slot, of another that of its tag (R327). -/
def Block.itemOf (b : Block) (c : CompletionRec) : Option OpenItem :=
  if c.crcBad then b.dsp.openItems.find? fun o => o.platform == c.platform && o.slot == c.slot && !o.held
  else b.dsp.openItems.find? fun o => o.tag == c.itemTag && o.platform == c.platform && !o.held

/-- The record as it counts: a CRC_BAD one as RETRY. -/
def countsAs (c : CompletionRec) : CompletionRec := if c.crcBad then { c with status := 1 } else c

/-- The block once a record has fed its platform's counters and the log (log entry 39). -/
def Block.recorded (b : Block) (c : CompletionRec) (o : OpenItem) : Block :=
  (b.observe c (if o.copy.isSome then 0xFFFF else o.node) o.tag (o.oldestAt.getD b.now)).logDetail c o

/-- What a record's status decides for its item (R330). -/
def Block.byStatus (b : Block) (c : CompletionRec) (o : OpenItem) (drawn : Nat → Nat → Bool) : Block := match c.status with
  | 0 =>
    let b := b.count 3
    if o.copy.isNone && !b.drawsReady o drawn then
      let held := { o with held := true, current := 0 }
      let b := b.closeItem o
      { b with dsp := { b.dsp with openItems := b.dsp.openItems ++ [held] } }
    else b.itemDone o
  | 1 => (b.reissue o).checkPlatforms
  | 2 => b.removePlatform o.platform 2
  | 3 => (b.kvLost o c).itemDone o
  | _ => b.stop .itemFatal srcDispatcher [o.platform, o.tag, c.status, c.endC]

theorem completion_crc_fails (h : crc ≠ crc32c (completionBytes c)) :
    b.completion c crc drawn = (b.count 6).logRec srcDispatcher 0x0112 1 [c.platform, c.slot] := by
  simp [Block.completion, h]

theorem completion_stale (h : b.itemOf c = none) : b.completion c (crc32c (completionBytes c)) drawn = b.staleCompletion c := by
  unfold Block.itemOf at h
  simp [Block.completion, h]

theorem completion_fits {y : Platform} (h : b.itemOf c = some o) (hy : b.platform? o.platform = some y) (hserves : y.inService = true)
    (hrun : (b.recorded (countsAs c) o).running = true) :
    b.completion c (crc32c (completionBytes c)) drawn = (b.recorded (countsAs c) o).byStatus (countsAs c) o drawn := by
  unfold Block.itemOf at h
  unfold Block.completion
  simp only [bne_self_eq_false, Bool.false_eq_true, if_false, h, hy, Option.any_some, hserves, Bool.not_true]
  exact if_neg (by rw [Bool.not_eq_true, Bool.not_eq_false']; exact hrun)

theorem byStatus_ok (h : c.status = 0) (hready : o.copy.isSome = true ∨ (b.count 3).drawsReady o drawn = true) :
    b.byStatus c o drawn = (b.count 3).itemDone o := by
  have hcounts : (o.copy.isNone && !(b.count 3).drawsReady o drawn) = false := by
    obtain hcopy | hdrawn := hready
    · simp [Option.isSome_iff_ne_none.1 hcopy]
    · simp [hdrawn]
  unfold Block.byStatus
  rw [h]
  simp only [hcounts, Bool.false_eq_true, if_false]

theorem byStatus_retry (h : c.status = 1) : b.byStatus c o drawn = (b.reissue o).checkPlatforms := by simp only [Block.byStatus, h]

theorem byStatus_platform (h : c.status = 2) : b.byStatus c o drawn = b.removePlatform o.platform 2 := by
  simp only [Block.byStatus, h]

theorem byStatus_kv (h : c.status = 3) : b.byStatus c o drawn = (b.kvLost o c).itemDone o := by simp only [Block.byStatus, h]

theorem byStatus_fatal (h : 4 ≤ c.status) :
    b.byStatus c o drawn = b.stop .itemFatal srcDispatcher [o.platform, o.tag, c.status, c.endC] := by
  obtain ⟨n, hn⟩ := Nat.exists_eq_add_of_le' h
  unfold Block.byStatus
  rw [hn]
  rfl

end

section
variable {x : State} {t : Time} {c : CompletionRec} {crc : Nat}

theorem exec_completionRecord_serving (h : x.Serving) : exec (.completionRecord t c crc) x =
    .next (x.settled (x.blk.atTime t) ((x.seen t .cp).completion c crc (x.seen t .cp).drawn)) := by
  obtain ⟨hdead, hsafe⟩ := h
  rw [exec_completionRecord, port_serving hdead hsafe]

end

/-- Settles O39: a staged item by the equations of `stageItem`, and a record by the item it is of and then by its status. -/
theorem stagedItemsCompleteByStatus : Obligations.StagedItemsCompleteByStatus := by
  refine ⟨fun b r p slot item rest hitems hslot => ?_, fun x t c hserving => ?_⟩
  · intro tag step epoch desc B
    have hstep : (step, epoch) = b.stepOf r := by
      unfold Block.stepOf step epoch
      cases r.copy <;> cases b.dsp.current <;> rfl
    obtain ⟨hstep, hepoch⟩ := Prod.ext_iff.1 hstep
    obtain ⟨hout, hseq, hopen, -⟩ := stageItem_stages (wave := none) hitems hslot
    rw [← hstep, ← hepoch] at hout
    refine ⟨hout, hseq, b.opened r p slot item, hopen, rfl, rfl, rfl, rfl, rfl, rfl, rfl, rfl, ?_⟩
    cases hidle : b.dsp.openItems.any fun y => y.platform == p && !y.held <;> simp only [Block.opened, hidle] <;> rfl
  · intro b run
    have hrun : run = _ := exec_completionRecord_serving hserving
    refine ⟨fun crc hcrc => ?_, fun o y hbad hitem hy hserves => ?_, fun hgood hitem => ?_, fun o y hgood hitem hy hserves => ?_⟩
    · rw [exec_completionRecord_serving hserving, completion_crc_fails hcrc]
    · intro retry seen hseen
      have hof : b.itemOf c = some o := by rw [Block.itemOf, if_pos hbad, hitem]
      have hcounts : countsAs c = retry := if_pos hbad
      rw [hrun, completion_fits hof hy hserves (hcounts ▸ hseen), hcounts, byStatus_retry rfl]
      rfl
    · have hof : b.itemOf c = none := by rw [Block.itemOf, hgood, if_neg Bool.false_ne_true, hitem]
      rw [hrun, completion_stale hof]
      rfl
    · intro seen hseen
      have hof : b.itemOf c = some o := by rw [Block.itemOf, hgood, if_neg Bool.false_ne_true, hitem]
      have hcounts : countsAs c = c := by rw [countsAs, hgood, if_neg Bool.false_ne_true]
      have hfits : b.completion c (crc32c (completionBytes c)) b.drawn = seen.byStatus c o b.drawn := by
        rw [completion_fits hof hy hserves (by rw [hcounts]; exact hseen), hcounts]
        rfl
      have hrun : run = .next (x.settled (x.blk.atTime t) (seen.byStatus c o b.drawn)) := by rw [hrun, ← hfits]
      refine ⟨fun h hready => ?_, fun h => ?_, fun h => ?_, fun h => ?_, fun h => ?_⟩
      · rw [hrun, byStatus_ok h hready]
      · rw [hrun, byStatus_retry h]
      · rw [hrun, byStatus_platform h]
      · rw [hrun, byStatus_kv h]
      · rw [hrun, byStatus_fatal h]

end Sys2Proof.Machine
end

section
/-! The Dispatcher's stages, gangs and waves (R137 to R139, R257, R262): which platform takes the next item of which run, and what the
staging of a gang opens. -/

namespace Sys2Proof.Machine
open Sys2Proof

/-! ### The offer to a platform (R137, R138, R257) -/

section
variable {b : Block} {wave : Option Nat} {room : StageRoom} {used p : Nat} {y : Platform} {rest : List (Nat × Nat × Platform)} {r : Run}

/-- A run with a slot reserved on one more platform. -/
def Run.reserving (r : Run) (p : Nat) : Run := { r with reserved := r.reserved ++ [p] }

/-- A gang has reserved a slot on a platform. -/
def Block.reserve (b : Block) (r : Run) (p : Nat) : Block :=
  { b with dsp := { b.dsp with runs := replaceRun b.dsp.runs r (r.reserving p) } }

/-- The idle platforms that a gang would fill. -/
def Block.idleReserved (b : Block) (r : Run) : Nat := (r.reserved.filter fun p => (b.slotsHeld p).isEmpty).length

theorem gang_of_gathered (h : r.gathered = true) : r.gang = true := by
  simp only [Run.gathered, Bool.and_eq_true] at h
  obtain ⟨⟨hgang, -⟩, -⟩ := h
  exact hgang

theorem gathered_single (h : r.gang = false) : r.gathered = false := by simp [Run.gathered, h]

theorem gathered_short (h : r.reserved.length < r.items.length) : r.gathered = false := by simp [Run.gathered, h]

/-- A gang whose items are permitted together and fit the room is staged on the platforms it has reserved. -/
theorem tryGang_stages (hgang : r.gang = true) (hfits : b.idleReserved r ≤ room.left)
    (hpermits : b.permitsAll r.reserved (b.energyOf r) true r.node = true) :
    b.tryGang r wave room = (b.stageGang r.arrival r.node wave r.reserved, some (b.idleReserved r)) := by
  unfold Block.idleReserved at hfits
  simp only [Block.tryGang, hgang, hpermits, hfits, decide_true, Bool.true_or, Bool.true_and, if_true, Block.idleReserved]

theorem tryGang_withheld (hgang : r.gang = true) (hpermits : b.permitsAll r.reserved (b.energyOf r) true r.node = false) :
    b.tryGang r wave room = (b, none) := by
  simp [Block.tryGang, hgang, hpermits]

section
variable (hfirst : b.firstRun p y wave.isSome = some r)
include hfirst

theorem offer_single (hgang : r.gang = false) (hroom : 0 < room.left) (hpermits : b.permits p (b.energyOf r) false r.node = true) :
    (Block.offer wave room ((used, p, y) :: rest) b).1 = b.stageItem r p wave := by
  have hidle : b2n (b.slotsHeld p).isEmpty ≤ room.left := le_trans (by cases (b.slotsHeld p).isEmpty <;> decide) hroom
  rw [Block.offer]
  simp only [hfirst, gathered_single hgang, hgang, hidle, hpermits, decide_true, Bool.and_self, Bool.false_eq_true, if_false, if_true]

theorem offer_gathered (h : r.gathered = true) (hfits : b.idleReserved r ≤ room.left)
    (hpermits : b.permitsAll r.reserved (b.energyOf r) true r.node = true) :
    (Block.offer wave room ((used, p, y) :: rest) b).1 = b.stageGang r.arrival r.node wave r.reserved := by
  rw [Block.offer]
  simp only [hfirst, h, if_true, tryGang_stages (gang_of_gathered h) hfits hpermits, Option.isSome_some]

/-- A gang that is not gathered yet reserves a slot. -/
theorem offer_reserves (hgang : r.gang = true) (h : r.gathered = false) :
    Block.offer wave room ((used, p, y) :: rest) b =
      let t := if (r.reserving p).gathered then (b.reserve r p).tryGang (r.reserving p) wave room else (b.reserve r p, none)
      if t.2.isSome then t else Block.offer wave room rest (b.reserve r p) := by
  rw [Block.offer, hfirst]
  dsimp only
  rw [if_neg (ne_true_of_eq_false h), if_pos hgang]
  rfl

theorem offer_incomplete (hgang : r.gang = true) (h : r.gathered = false) (hshort : (r.reserving p).reserved.length < r.items.length) :
    Block.offer wave room ((used, p, y) :: rest) b = Block.offer wave room rest (b.reserve r p) := by
  have hpart : (r.reserving p).gathered = false := gathered_short hshort
  simp [offer_reserves hfirst hgang h, hpart]

theorem offer_completes (h : r.gathered = false) (hwhole : (r.reserving p).gathered = true)
    (hfits : b.idleReserved (r.reserving p) ≤ room.left)
    (hpermits : (b.reserve r p).permitsAll (r.reserving p).reserved (b.energyOf r) true r.node = true) :
    (Block.offer wave room ((used, p, y) :: rest) b).1 =
      (b.reserve r p).stageGang r.arrival r.node wave (r.reserving p).reserved := by
  have hgang : (r.reserving p).gang = true := gang_of_gathered hwhole
  have hstage := tryGang_stages (b := b.reserve r p) (wave := wave) hgang hfits hpermits
  simp only [offer_reserves hfirst hgang h, hwhole, if_true, hstage, Option.isSome_some]
  rfl

theorem offer_withheld (h : r.gathered = false) (hwhole : (r.reserving p).gathered = true)
    (hpermits : (b.reserve r p).permitsAll (r.reserving p).reserved (b.energyOf r) true r.node = false) :
    Block.offer wave room ((used, p, y) :: rest) b = Block.offer wave room rest (b.reserve r p) := by
  have hgang : (r.reserving p).gang = true := gang_of_gathered hwhole
  have hstage := tryGang_withheld (b := b.reserve r p) (wave := wave) (room := room) hgang hpermits
  simp [offer_reserves hfirst hgang h, hwhole, hstage]

end

/-! ### DISPATCH_STAGE and WAVE_RELEASE (R137, R139, R262) -/

theorem mayStage_iff : b.mayStage = true ↔ b.running = true ∧ b.pwr.state ≠ .hold := by simp [Block.mayStage]

theorem dispatchStage_barred (h : b.running = false ∨ b.pwr.state = .hold) : b.dispatchStage = b := by
  have hmay : b.mayStage = false := by
    rw [← Bool.not_eq_true, mayStage_iff]
    rintro ⟨hrun, hhold⟩
    exact h.elim (fun h => by rw [h] at hrun; cases hrun) hhold
  simp [Block.dispatchStage, hmay]

theorem dispatchStage_offers (hrun : b.running = true) (hhold : b.pwr.state ≠ .hold) (hbarrier : b.pwr.barrier = none)
    (hwave : b.idleEligible ≤ b.pwr.global.waveSize) :
    b.dispatchStage = (Block.offer none ⟨b.dsp.platforms.length, false⟩ (b.freePlatforms false false) b).1 := by
  simp [Block.dispatchStage, mayStage_iff.2 ⟨hrun, hhold⟩, barrierMoment_none hbarrier hwave, hbarrier]

/-- A free platform is one of the map. -/
theorem platforms_pos {idleOnly busyOnly : Bool} {x : Nat × Nat × Platform} (h : b.freePlatforms idleOnly busyOnly = x :: rest) :
    0 < b.dsp.platforms.length := by
  refine List.length_pos_iff.2 fun hnil => ?_
  simp [Block.freePlatforms, hnil, sortBy] at h

/-- The items of a barrier's next wave, and the idle platforms that it fills. -/
def Block.waveOf (b : Block) (w : Barrier) : Block × Nat := Block.waveItems w.wave b.pwr.global.waveSize b 0

/-- A wave has been released: the barrier waits WAVE_INTERVAL for the next, or ends (R262). -/
def Block.awaitWave (b : Block) (w : Barrier) : Block :=
  ({ b with pwr := { b.pwr with barrier := some { w with wave := w.wave + 1, nextAt := b.now + b.pwr.global.waveInterval } } } :
    Block).barrierMoment

section
variable (hrun : b.running = true) (hhold : b.pwr.state ≠ .hold)
include hrun hhold

theorem waveRelease_none_eligible (h : b.idleEligible = 0) :
    b.waveRelease = { b with pwr := { b.pwr with barrier := none } } := by
  simp [Block.waveRelease, mayStage_iff.2 ⟨hrun, hhold⟩, Block.barrierMoment, h]

section
variable {w : Barrier} (hbarrier : b.pwr.barrier = some w) (hidle : b.idleEligible ≠ 0)
include hbarrier hidle

theorem waveRelease_early (h : b.now < w.nextAt) : b.waveRelease = b := by
  simp [Block.waveRelease, mayStage_iff.2 ⟨hrun, hhold⟩, Block.barrierMoment, hidle, hbarrier, h]

theorem waveRelease_due (h : w.nextAt ≤ b.now) : b.waveRelease =
    if (b.waveOf w).2 = 0 then (b.waveOf w).1
    else ((b.waveOf w).1.trace 9 (zeros 1 ++ le 2 w.wave ++ le 2 (b.waveOf w).2 ++ zeros 2 ++ le 8 w.start)).awaitWave w := by
  have hmoment : b.barrierMoment = b := by simp [Block.barrierMoment, hidle, hbarrier]
  unfold Block.waveRelease
  rw [if_neg (by rw [mayStage_iff.2 ⟨hrun, hhold⟩]; decide), hmoment]
  dsimp only
  rw [hbarrier]
  dsimp only
  rw [if_neg (Nat.not_lt.2 h)]
  rfl

theorem waveRelease_empty (h : w.nextAt ≤ b.now) (hnone : (b.waveOf w).2 = 0) : b.waveRelease = (b.waveOf w).1 := by
  rw [waveRelease_due hrun hhold hbarrier hidle h, if_pos hnone]

theorem waveRelease_fills (h : w.nextAt ≤ b.now) (hsome : 0 < (b.waveOf w).2) (hmask : bit (b.waveOf w).1.obs.traceMask 9 = false) :
    b.waveRelease = (b.waveOf w).1.awaitWave w := by
  rw [waveRelease_due hrun hhold hbarrier hidle h, if_neg (Nat.pos_iff_ne_zero.1 hsome), trace_off _ _ _ hmask]

end

end

end

/-! ### A gang's items, one on each platform it has reserved (R138, R326) -/

section
variable {l : List Run} {r r' : Run} {f g : Run → Bool}

theorem find?_and_of_find? (h : l.find? f = some r) (hg : g r = true) : l.find? (fun y => f y && g y) = some r := by
  obtain ⟨hf, as, bs, rfl, has⟩ := List.find?_eq_some_iff_append.1 h
  refine List.find?_eq_some_iff_append.2 ⟨by simp [hf, hg], as, bs, rfl, fun a ha => ?_⟩
  have hfa : f a = false := by simpa using has a ha
  simp [hfa]

/-- The first run of a kind, replaced by a run of the kind that still has items, leaves that run the first. -/
theorem find?_replaceRun (h : l.find? f = some r) (hf' : f r' = true) (hitems : r'.items ≠ []) :
    (replaceRun l r r').find? f = some r' := by
  obtain ⟨hf, as, bs, rfl, has⟩ := List.find?_eq_some_iff_append.1 h
  have hkeep : as.map (fun x => if x = r then r' else x) = as := by
    refine List.map_congr_left (fun a ha => if_neg ?_) |>.trans (List.map_id as)
    rintro rfl
    simpa [hf] using has a ha
  rw [replaceRun, if_neg (by simpa using hitems), List.map_append, List.map_cons, if_pos rfl, hkeep]
  exact List.find?_eq_some_iff_append.2 ⟨hf', as, _, rfl, has⟩

end

section
variable {arrival node : Nat} {wave : Option Nat}

/-- The runs of a gang's node under its arrival number. -/
def ofGang (arrival node : Nat) (r : Run) : Bool := r.gang && r.arrival == arrival && r.node == node

theorem slotsHeld_open {b c : Block} {o : OpenItem} {q : Nat} (h : c.dsp.openItems = b.dsp.openItems ++ [o]) (hq : q ≠ o.platform) :
    c.slotsHeld q = b.slotsHeld q := by
  simp [Block.slotsHeld, h, hq.symm]

theorem stageGang_cons {b : Block} {r : Run} {p : Nat} {ps : List Nat} (hfind : b.dsp.runs.find? (ofGang arrival node) = some r)
    (hp : p ∈ r.reserved) : b.stageGang arrival node wave (p :: ps) = (b.stageItem r p wave).stageGang arrival node wave ps := by
  have hrun : (b.dsp.runs.find? fun y => y.gang && y.arrival == arrival && y.node == node && y.reserved.contains p) = some r :=
    find?_and_of_find? hfind (by simpa using hp)
  rw [Block.stageGang, hrun]

/-- A gang's items open in order, one on each platform it has reserved. -/
theorem stageGang_opens (ps : List Nat) (b : Block) (r : Run) (hres : r.reserved = ps)
    (hfind : ps ≠ [] → b.dsp.runs.find? (ofGang arrival node) = some r) (hnodup : ps.Nodup) (hlen : ps.length = r.items.length)
    (hslots : ∀ p ∈ ps, ∃ k, k < 4 ∧ k ∉ b.slotsHeld p) :
    ∃ os, (b.stageGang arrival node wave ps).dsp.openItems = b.dsp.openItems ++ os ∧
      os.map (fun o => (o.platform, o.item)) = ps.zip r.items ∧
      ∀ o ∈ os, o.node = r.node ∧ o.collective = true ∧ o.issues = r.issues + 1 ∧ o.held = false := by
  induction ps generalizing b r with
  | nil => exact ⟨[], by simp [Block.stageGang], by simp, by simp⟩
  | cons p ps ih =>
    have hfind := hfind (List.cons_ne_nil _ _)
    obtain ⟨hp, hnodup⟩ := List.nodup_cons.1 hnodup
    obtain ⟨item, rest, hitems⟩ := List.exists_cons_of_length_pos (l := r.items) (by rw [← hlen]; simp)
    obtain ⟨slot, hslot⟩ : ∃ slot, ((List.range 4).find? fun k => !(b.slotsHeld p).contains k) = some slot := by
      obtain ⟨k, hk, hfree⟩ := hslots p (List.mem_cons_self ..)
      exact Option.isSome_iff_exists.1 (List.find?_isSome.2 ⟨k, List.mem_range.2 hk, by simpa using hfree⟩)
    obtain ⟨-, -, hopen, hruns⟩ := stageItem_stages (wave := wave) hitems hslot
    have hkind : ofGang arrival node r = true := List.find?_some hfind
    have hgang : r.gang = true := by
      simp only [ofGang, Bool.and_eq_true] at hkind
      obtain ⟨⟨hgang, -⟩, -⟩ := hkind
      exact hgang
    have hlen : ps.length = rest.length := by simpa [hitems] using hlen
    have hnext : ps ≠ [] → (b.stageItem r p wave).dsp.runs.find? (ofGang arrival node) = some (r.next p rest) := fun hps => by
      have hleft : (r.next p rest).items ≠ [] := List.ne_nil_of_length_pos (hlen ▸ List.length_pos_iff.2 hps)
      exact List.IsPrefix.find?_eq_some hruns (find?_replaceRun hfind hkind hleft)
    have hfree : ∀ q ∈ ps, ∃ k, k < 4 ∧ k ∉ (b.stageItem r p wave).slotsHeld q := fun q hq => by
      have hne : q ≠ p := fun h => hp (h ▸ hq)
      rw [slotsHeld_open hopen hne]
      exact hslots q (List.mem_cons_of_mem p hq)
    obtain ⟨os, hos, hmap, hall⟩ := ih (b.stageItem r p wave) (r.next p rest) (by simp [Run.next, hres]) hnext hnodup hlen hfree
    refine ⟨b.opened r p slot item :: os, ?_, ?_, List.forall_mem_cons.2 ⟨⟨rfl, hgang, rfl, rfl⟩, hall⟩⟩
    · rw [stageGang_cons hfind (by simp [hres]), hos, hopen, List.append_assoc, List.singleton_append]
    · rw [List.map_cons, hmap, hitems, List.zip_cons_cons]
      rfl

end

section
variable {x : State} {t : Time} (h : x.Serving)
include h

theorem exec_dispatchStage_serving : exec (.dispatchStage t) x =
    .next (x.settled (x.blk.atTime t) (x.seen t .dp).dispatchStage) := by
  obtain ⟨hdead, hsafe⟩ := h
  rw [exec_dispatchStage, port_serving hdead hsafe]

theorem exec_waveRelease_serving : exec (.waveRelease t) x =
    .next (x.settled (x.blk.atTime t) (x.seen t .dp).waveRelease) := by
  obtain ⟨hdead, hsafe⟩ := h
  rw [exec_waveRelease, port_serving hdead hsafe]

end

/-- Settles O38: the offer to the first free platform is one case of `offer` by its first run, a wave one of `waveRelease`, and a gang
opens its items by induction on the platforms it has reserved. -/
theorem theDispatcherStagesInOrder : Obligations.TheDispatcherStagesInOrder := by
  refine ⟨fun x t hserving => ?_, fun b arrival node wave r hfind hnodup hlen hslots =>
    stageGang_opens r.reserved b r rfl (fun _ => hfind) hnodup hlen hslots⟩
  intro b room
  refine ⟨fun used p y rest r hrun hhold hbarrier hwave hfree hfirst => ?_, fun hbarred => ?_, fun w hrun hhold hbarrier hidle => ?_,
    fun w hrun hhold hbarrier hidle hearly => ?_, fun w hrun hhold hbarrier hidle hdue => ?_⟩
  · intro r' b' fits
    have hexec : exec (.dispatchStage t) x =
        .next (x.settled (x.blk.atTime t) (Block.offer none room ((used, p, y) :: rest) b).1) := by
      rw [exec_dispatchStage_serving hserving, dispatchStage_offers hrun hhold hbarrier hwave, hfree]
    refine ⟨fun hgang hpermits => ?_, fun hgang hpart hshort => ?_, fun hpart hwhole hfits hpermits => ?_,
      fun hpart hwhole hpermits => ?_, fun hwhole hfits hpermits => ?_⟩
    · rw [hexec, offer_single hfirst hgang (platforms_pos hfree) hpermits]
    · rw [hexec, offer_incomplete hfirst hgang hpart hshort]; rfl
    · rw [hexec]
      exact congrArg (fun c => Host.Outcome.next (x.settled _ c)) (offer_completes (room := room) hfirst hpart hwhole hfits hpermits)
    · rw [hexec, offer_withheld hfirst hpart hwhole hpermits]; rfl
    · rw [hexec]
      exact congrArg (fun c => Host.Outcome.next (x.settled _ c)) (offer_gathered (room := room) hfirst hwhole hfits hpermits)
  · rw [exec_dispatchStage_serving hserving, dispatchStage_barred hbarred]
  · rw [exec_waveRelease_serving hserving, waveRelease_none_eligible hrun hhold hidle]
  · rw [exec_waveRelease_serving hserving, waveRelease_early hrun hhold hbarrier hidle hearly]
  · intro r later
    refine ⟨fun hnone => ?_, fun hsome hmask => ?_⟩
    · rw [exec_waveRelease_serving hserving, waveRelease_empty hrun hhold hbarrier hidle hdue hnone]; rfl
    · rw [exec_waveRelease_serving hserving, waveRelease_fills hrun hhold hbarrier hidle hdue hsome hmask]; rfl

end Sys2Proof.Machine
end

section
/-! A platform that leaves service (R145 to R149): its open items go back to runs of their own, and what happens after that takes
nothing of it back while the group runs. -/

namespace Sys2Proof.Machine
open Sys2Proof

/-! ### What stays of a block while platforms leave service -/

/-- An open item as it was staged, whenever it became the oldest of its platform. -/
def OpenItem.work (o : OpenItem) : OpenItem := { o with oldestAt := none }

/-- The open items as they were staged. -/
def Block.works (b : Block) : List OpenItem := b.dsp.openItems.map OpenItem.work

/-- What PLATFORM_MAP has settled of a platform: its entry, whether it serves, whether it joins at the next junction. -/
def Platform.shown (x : Platform) : PlatformEntry × Bool × Bool := (x.entry, x.inService, x.joining)

def Block.shown (b : Block) (q : Nat) : Option (PlatformEntry × Bool × Bool) := (b.platform? q).map Platform.shown

/-- A run of its own for an item that is reissued (R145). -/
def Run.Reissues (r : Run) (o : OpenItem) : Prop :=
  r.reissue = true ∧ r.items = [o.item] ∧ r.issues = o.issues ∧ r.level = o.level ∧ r.cls = o.cls ∧
    r.left = o.left ++ [o.platform]

/-- An item is no longer open, its tag is void, and a run of its own holds its work. -/
def Block.Reissued (b : Block) (o : OpenItem) : Prop :=
  (∀ w ∈ b.works, w.tag ≠ o.tag) ∧ o.tag ∈ b.dsp.oldTags ∧ ∃ r ∈ b.dsp.runs, r.reserved = [] ∧ r.Reissues o

/-- c comes of b where platforms leave service: nothing that left at a port, no void tag and no run without a reserved slot is taken
back, no item opens, and a group that had stopped does not run. -/
structure Block.Follows (b c : Block) : Prop where
  out : ∀ m ∈ b.out, m ∈ c.out
  safe : c.sb.safe = b.sb.safe
  running : c.running = true → b.running = true
  works : c.works.Sublist b.works
  oldTags : ∀ t ∈ b.dsp.oldTags, t ∈ c.dsp.oldTags
  runs : ∀ r ∈ b.dsp.runs, r.reserved = [] → r ∈ c.dsp.runs

section
variable {b c d : Block} {o w : OpenItem} {p q cause : Nat} {l : List OpenItem}

theorem Block.Follows.refl (b : Block) : b.Follows b := ⟨fun _ h => h, rfl, id, .refl _, fun _ h => h, fun _ h _ => h⟩

theorem Block.Follows.trans (h : b.Follows c) (k : c.Follows d) : b.Follows d where
  out m hm := k.out m (h.out m hm)
  safe := k.safe.trans h.safe
  running hd := h.running (k.running hd)
  works := k.works.trans h.works
  oldTags t ht := k.oldTags t (h.oldTags t ht)
  runs r hr hfree := k.runs r (h.runs r hr hfree) hfree

theorem Block.Follows.foldl {α : Type} {f : Block → α → Block} (h : ∀ (b : Block) x, b.Follows (f b x)) (l : List α) (b : Block) :
    b.Follows (l.foldl f b) := by
  induction l generalizing b with
  | nil => exact .refl b
  | cons x l ih => exact (h b x).trans (ih _)

theorem Block.Reissued.follows (h : b.Reissued o) (k : b.Follows c) : c.Reissued o := by
  obtain ⟨hgone, htag, r, hr, hfree, hreissues⟩ := h
  exact ⟨fun w hw => hgone w (k.works.subset hw), k.oldTags _ htag, r, k.runs r hr hfree, hfree, hreissues⟩

theorem Block.SameDispatch.follows (h : b.SameDispatch c) (hrun : c.running = true → b.running = true) : b.Follows c := by
  obtain ⟨hdsp, hout, hsb⟩ := h
  have hworks : c.works = b.works := by rw [Block.works, Block.works, hdsp]
  exact ⟨fun _ hm => hout ▸ hm, by rw [hsb], hrun, hworks ▸ .refl _, fun _ ht => hdsp ▸ ht, fun _ hr _ => hdsp ▸ hr⟩

theorem Block.SameDispatch.shown (h : b.SameDispatch c) (q : Nat) : c.shown q = b.shown q := by
  obtain ⟨hdsp, -⟩ := h
  rw [Block.shown, Block.shown, Block.platform?, Block.platform?, hdsp]

theorem Block.SameDispatch.works (h : b.SameDispatch c) : c.works = b.works := by
  obtain ⟨hdsp, -⟩ := h
  rw [Block.works, Block.works, hdsp]

theorem follows_stop {c : Cause} (h : logOnlyWhenFresh c = false) (source : Nat) (args : List Nat) : b.Follows (b.stop c source args) :=
  (sameDispatch_stop ..).follows fun hrun => by rw [running_stop b h] at hrun; cases hrun

theorem follows_checkPlatforms (b : Block) : b.Follows b.checkPlatforms := by
  obtain h | h := checkPlatforms_cases b
  · rw [h]; exact .refl b
  · rw [h]; exact follows_stop rfl ..

/-- A run is left without a platform in service that may take it (R149). -/
def Block.stuck (b : Block) : Bool :=
  b.dsp.runs.any fun r => !r.items.isEmpty && !(b.dsp.platforms.any fun (_, x) => x.inService && b.member r x)

theorem checkPlatforms_eq (b : Block) :
    b.checkPlatforms = if b.stuck && b.running then b.stop .noPlatform srcDispatcher else b := rfl

/-- Where the group runs on, every run has a platform in service that may take it (R149). -/
theorem checkPlatforms_running (h : b.checkPlatforms.running = true) : b.checkPlatforms = b ∧ ∀ r ∈ b.dsp.runs, r.items ≠ [] →
    ∃ y ∈ b.dsp.platforms, y.2.inService = true ∧ b.member r y.2 = true := by
  have hrun : b.running = true := (follows_checkPlatforms b).running h
  rw [checkPlatforms_eq, hrun, Bool.and_true] at h ⊢
  cases hstuck : b.stuck with
  | true =>
    rw [hstuck, if_pos rfl, running_stop b rfl] at h
    cases h
  | false =>
    refine ⟨rfl, fun r hr hitems => ?_⟩
    have hserved := List.any_eq_false.1 hstuck r hr
    simp only [Bool.and_eq_true, Bool.not_eq_true', List.isEmpty_eq_false_iff, not_and, Bool.not_eq_false] at hserved
    obtain ⟨y, hy, hmember⟩ := List.any_eq_true.1 (hserved hitems)
    exact ⟨y, hy, by simpa using hmember⟩

/-! ### An item that is reissued -/

theorem shown_modPlatform {f : Platform → Platform} (hf : ∀ x, (f x).shown = x.shown) (q : Nat) :
    (b.modPlatform p f).shown q = b.shown q := by
  unfold Block.shown Block.platform? Block.modPlatform
  by_cases h : q = p
  · subst h
    simp [Tab.get?_modify, Function.comp_def, hf]
  · rw [Tab.get?_modify_ne h]

theorem closeItem_works (b : Block) (o : OpenItem) : (b.closeItem o).works = b.works.filter fun w => w.tag != o.tag := by
  unfold Block.closeItem Block.works
  extract_lets items rest items'
  have hitems : items'.map OpenItem.work = items.map OpenItem.work := by
    unfold items'
    rw [List.map_map]
    refine List.map_congr_left fun x _ => ?_
    simp only [Function.comp_apply]
    split <;> rfl
  rw [List.filter_map]
  exact hitems

theorem closeItem_shown (b : Block) (o : OpenItem) (q : Nat) : (b.closeItem o).shown q = b.shown q :=
  shown_modPlatform (b := b) (p := o.platform) (f := fun x => { x with items := x.items.filter fun t => t != o.tag }) (fun _ => rfl) q

theorem reissue_limit (h : 3 ≤ o.issues) : b.reissue o = b.stop .reissueLimit srcDispatcher [o.platform, o.tag] := if_pos h

/-- An item issued fewer than three times is closed, its tag is void, and a run of its own goes ahead (R145). -/
theorem reissue_goes (h : o.issues < 3) : ∃ r : Run, (b.reissue o).dsp.runs = r :: b.dsp.runs ∧ r.reserved = [] ∧ r.Reissues o ∧
    (b.reissue o).dsp.oldTags = b.dsp.oldTags ++ [o.tag] ∧ (b.reissue o).works = (b.closeItem o).works ∧
    (b.reissue o).dsp.platforms = (b.closeItem o).dsp.platforms ∧ (b.reissue o).out = b.out ∧ (b.reissue o).sb = b.sb ∧
    (b.reissue o).running = b.running := by
  unfold Block.reissue
  rw [if_neg (Nat.not_le.2 h)]
  exact ⟨_, rfl, rfl, ⟨rfl, rfl, rfl, rfl, rfl, rfl⟩, rfl, rfl, rfl, rfl, rfl, rfl⟩

theorem follows_reissue (b : Block) (o : OpenItem) : b.Follows (b.reissue o) := by
  obtain h | h := Nat.lt_or_ge o.issues 3
  · obtain ⟨r, hruns, -, -, htags, hworks, -, hout, hsb, hrun⟩ := reissue_goes (b := b) h
    refine ⟨fun _ hm => hout ▸ hm, by rw [hsb], fun k => hrun ▸ k, ?_, fun _ ht => ?_, fun _ hr _ => ?_⟩
    · rw [hworks, closeItem_works]
      exact List.filter_sublist
    · rw [htags]
      exact List.mem_append_left _ ht
    · rw [hruns]
      exact List.mem_cons_of_mem _ hr
  · rw [reissue_limit h]
    exact follows_stop rfl ..

theorem reissue_shown (b : Block) (o : OpenItem) (q : Nat) : (b.reissue o).shown q = b.shown q := by
  obtain h | h := Nat.lt_or_ge o.issues 3
  · obtain ⟨r, -, -, -, -, -, hplatforms, -⟩ := reissue_goes (b := b) h
    rw [← closeItem_shown b o q, Block.shown, Block.platform?, hplatforms]
    rfl
  · rw [reissue_limit h]
    exact (sameDispatch_stop ..).shown q

theorem mem_reissue_works (hw : w ∈ b.works) (htag : w.tag ≠ o.tag) : w ∈ (b.reissue o).works := by
  obtain h | h := Nat.lt_or_ge o.issues 3
  · obtain ⟨r, -, -, -, -, hworks, -⟩ := reissue_goes (b := b) h
    rw [hworks, closeItem_works]
    exact List.mem_filter.2 ⟨hw, by simpa using htag⟩
  · rw [reissue_limit h, (sameDispatch_stop ..).works]
    exact hw

theorem reissued_reissue (hrun : (b.reissue o).running = true) : (b.reissue o).Reissued o := by
  obtain h | h := Nat.lt_or_ge o.issues 3
  · obtain ⟨r, hruns, hfree, hreissues, htags, hworks, -⟩ := reissue_goes (b := b) h
    refine ⟨fun w hw => ?_, by simp [htags], r, by simp [hruns], hfree, hreissues⟩
    rw [hworks, closeItem_works] at hw
    simpa using (List.mem_filter.1 hw).2
  · rw [reissue_limit h, running_stop b rfl] at hrun
    cases hrun

/-! ### Items reissued in turn -/

theorem reissueAll_shown (l : List OpenItem) (b : Block) (q : Nat) : (l.foldl Block.reissue b).shown q = b.shown q := by
  induction l generalizing b with
  | nil => rfl
  | cons o l ih => exact (ih _).trans (reissue_shown b o q)

theorem mem_reissueAll_works (hw : w ∈ b.works) (htag : ∀ o ∈ l, w.tag ≠ o.tag) : w ∈ (l.foldl Block.reissue b).works := by
  induction l generalizing b with
  | nil => exact hw
  | cons o l ih =>
    obtain ⟨ho, hl⟩ := List.forall_mem_cons.1 htag
    exact ih (mem_reissue_works hw ho) hl

theorem reissued_reissueAll (ho : o ∈ l) (hrun : (l.foldl Block.reissue b).running = true) : (l.foldl Block.reissue b).Reissued o := by
  induction l generalizing b with
  | nil => cases ho
  | cons x l ih =>
    obtain rfl | ho := List.mem_cons.1 ho
    · have hrest := Block.Follows.foldl follows_reissue l (b.reissue o)
      exact (reissued_reissue (hrest.running hrun)).follows hrest
    · exact ih ho hrun

end

/-! ### A platform that is removed (R147) -/

section
variable {b : Block} {o w : OpenItem} {p q cause : Nat} {x : Platform}

/-- The items open on a platform. -/
def Block.opensOn (b : Block) (p : Nat) : List OpenItem := b.dsp.openItems.filter fun o => o.platform == p && !o.held

/-- A platform without service; an item that waits for its end snapshot has none (R445). -/
def Platform.withdrawn (x : Platform) : Platform :=
  { x with inService := false, entry := { x.entry with inService := false }
           counters := { x.counters with waiting := none, lastEnd := if x.counters.waiting.isSome then none else x.counters.lastEnd } }

/-- A platform out of service, before its items are reissued: REVOKE is sent, the removal logged, and no gang keeps a slot there. -/
def Block.revoked (b : Block) (p cause : Nat) (x : Platform) : Block :=
  let opens := b.opensOn p
  let c := x.counters
  let start := match c.waiting, c.last with
    | some _, some s => s
    | _, _ => (0, 0, 0)
  let lastEnd := c.lastEnd.getD (0, 0, 0)
  let b := b.modPlatform p Platform.withdrawn
  let b := b.emit (.revoke p (dispatchCrc p 0 1 (zeros 32)))
  let b := b.logRec srcDispatcher 0x0110 2 ([p, cause, opens.length, (opens.head?.map (·.tag)).getD 0xFFFFFFFF,
    start.1, start.2.1, start.2.2, lastEnd.1, lastEnd.2.1, lastEnd.2.2, c.lastTime])
  { b with dsp := { b.dsp with runs := b.dsp.runs.map fun r => { r with reserved := r.reserved.filter fun q => q != p } } }

theorem removePlatform_idle (h : (b.platform? p).any (·.inService) = false) : b.removePlatform p cause = b := by
  unfold Block.removePlatform
  split
  · rfl
  · next y hy =>
    rw [hy, Option.any_some] at h
    simp [h]

theorem removePlatform_serving (hx : b.platform? p = some x) (hs : x.inService = true) :
    b.removePlatform p cause = ((b.opensOn p).reverse.foldl Block.reissue (b.revoked p cause x)).checkPlatforms := by
  unfold Block.removePlatform
  rw [hx]
  dsimp only
  rw [hs, if_neg (by decide)]
  rfl

theorem follows_revoked (b : Block) (p cause : Nat) (x : Platform) : b.Follows (b.revoked p cause x) where
  out m hm := by
    show m ∈ (b.emit _).out
    rw [Block.emit_out]
    split
    · exact hm
    · exact List.mem_append_left _ hm
  safe := rfl
  running := id
  works := .refl _
  oldTags _ ht := ht
  runs r hr hfree := List.mem_map.2 ⟨r, hr, by rw [hfree, List.filter_nil, ← hfree]⟩

theorem removePlatform_cases (b : Block) (p cause : Nat) :
    ((b.platform? p).any (·.inService) = false ∧ b.removePlatform p cause = b) ∨
    ∃ x, b.platform? p = some x ∧ x.inService = true ∧
      b.removePlatform p cause = ((b.opensOn p).reverse.foldl Block.reissue (b.revoked p cause x)).checkPlatforms := by
  cases hs : (b.platform? p).any (·.inService) with
  | false => exact .inl ⟨rfl, removePlatform_idle hs⟩
  | true =>
    obtain ⟨x, hx, hs⟩ := (Option.any_eq_true ..).1 hs
    exact .inr ⟨x, hx, hs, removePlatform_serving hx hs⟩

/-- What comes of the items of a removed platform, and after it, follows on the revocation. -/
theorem follows_revoked_removed (b : Block) (p cause : Nat) (x : Platform) :
    (b.revoked p cause x).Follows ((b.opensOn p).reverse.foldl Block.reissue (b.revoked p cause x)).checkPlatforms :=
  (Block.Follows.foldl follows_reissue _ _).trans (follows_checkPlatforms _)

theorem follows_removePlatform (b : Block) (p cause : Nat) : b.Follows (b.removePlatform p cause) := by
  obtain ⟨-, h⟩ | ⟨x, -, -, h⟩ := removePlatform_cases b p cause
  · rw [h]; exact .refl b
  · rw [h]; exact (follows_revoked b p cause x).trans (follows_revoked_removed b p cause x)

theorem revoked_platforms (b : Block) (p cause : Nat) (x : Platform) :
    (b.revoked p cause x).dsp.platforms = Tab.modify p Platform.withdrawn b.dsp.platforms := rfl

theorem revoked_shown_ne (h : q ≠ p) : (b.revoked p cause x).shown q = b.shown q := by
  rw [Block.shown, Block.platform?, revoked_platforms, Tab.get?_modify_ne h]
  rfl

theorem removed_shown (b : Block) (p cause : Nat) (x : Platform) (q : Nat) :
    ((b.opensOn p).reverse.foldl Block.reissue (b.revoked p cause x)).checkPlatforms.shown q = (b.revoked p cause x).shown q := by
  rw [(sameDispatch_checkPlatforms _).shown, reissueAll_shown]

theorem removePlatform_shown_ne (h : q ≠ p) : (b.removePlatform p cause).shown q = b.shown q := by
  obtain ⟨-, hb⟩ | ⟨x, -, -, hb⟩ := removePlatform_cases b p cause
  · rw [hb]
  · rw [hb, removed_shown, revoked_shown_ne h]

/-- A platform that has been removed does not serve. -/
theorem removePlatform_not_serving (b : Block) (p cause : Nat) : ((b.removePlatform p cause).platform? p).any (·.inService) = false := by
  obtain ⟨hidle, hb⟩ | ⟨x, hx, -, hb⟩ := removePlatform_cases b p cause
  · rw [hb, hidle]
  · have hshown : (b.removePlatform p cause).shown p = some ({ x.entry with inService := false }, false, x.joining) := by
      rw [hb, removed_shown, Block.shown, Block.platform?, revoked_platforms, Tab.get?_modify,
        show Tab.get? p b.dsp.platforms = some x from hx]
      rfl
    obtain ⟨y, hy, hout⟩ := Option.map_eq_some_iff.1 hshown
    obtain ⟨-, hserves⟩ := Prod.ext_iff.1 hout
    rw [hy, Option.any_some]
    exact (Prod.ext_iff.1 hserves).1

/-- The work of other platforms stays open. -/
theorem mem_removePlatform_works (hw : w ∈ b.works) (hp : w.platform ≠ p) (hnodup : (b.works.map (·.tag)).Nodup) :
    w ∈ (b.removePlatform p cause).works := by
  obtain ⟨-, hb⟩ | ⟨x, -, -, hb⟩ := removePlatform_cases b p cause
  · rwa [hb]
  · rw [hb, (sameDispatch_checkPlatforms _).works]
    refine mem_reissueAll_works hw fun o ho htag => hp ?_
    obtain ⟨ho, hon⟩ := List.mem_filter.1 (List.mem_reverse.1 ho)
    have hsame : w = o.work := List.inj_on_of_nodup_map hnodup hw (List.mem_map_of_mem ho) htag
    rw [hsame]
    exact eq_of_beq (Bool.and_elim_left hon)

section
variable (hx : b.platform? p = some x) (hs : x.inService = true)
include hx hs

theorem revoke_mem_removePlatform (hsafe : b.sb.safe = false) :
    Out.revoke p (dispatchCrc p 0 1 (zeros 32)) ∈ (b.removePlatform p cause).out := by
  rw [removePlatform_serving hx hs]
  refine (follows_revoked_removed b p cause x).out _ ?_
  show _ ∈ (b.emit _).out
  simp [hsafe]

/-- Each item open on a platform that is removed is reissued, where the group goes on (R147). -/
theorem reissued_removePlatform (hw : w ∈ b.works) (hp : w.platform = p) (hheld : w.held = false)
    (hrun : (b.removePlatform p cause).running = true) : (b.removePlatform p cause).Reissued w := by
  rw [removePlatform_serving hx hs] at hrun ⊢
  obtain ⟨o, ho, rfl⟩ := List.mem_map.1 hw
  have hon : o ∈ (b.opensOn p).reverse := List.mem_reverse.2 (List.mem_filter.2 ⟨ho, by
    rw [show o.platform = p from hp, show o.held = false from hheld, BEq.rfl]; rfl⟩)
  exact (reissued_reissueAll hon ((follows_checkPlatforms _).running hrun)).follows (follows_checkPlatforms _)

end

end

end Sys2Proof.Machine
end

section
/-! PLATFORM_MAP and the observation commands (R146 to R148, R242, R393, R432, R454, R461, R467, R468): what each does with the
parameters of its packet. -/

namespace Sys2Proof.Machine
open Sys2Proof

/-! ### One entry of a PLATFORM_MAP write (R147, R148) -/

section
variable {b : Block} {e : PlatformEntry} {w : OpenItem} {z : Platform} {p q : Nat}

/-- A written entry takes its platform out of service: it clears IN_SERVICE or changes KIND (log entry 75). -/
def Block.takesOut (b : Block) (p : Nat) (e : PlatformEntry) : Bool := !e.inService || e.kind != (b.mapEntry p).kind

/-- The block with a platform out of service where its written entry says so. -/
def Block.clearedFor (b : Block) (p : Nat) (e : PlatformEntry) : Block := if b.takesOut p e then b.removePlatform p 0xFE else b

/-- The platform of a written entry: with the state it had, or new. -/
def Block.entered (b : Block) (p : Nat) (e : PlatformEntry) : Platform :=
  let x := (b.platform? p).getD { entry := e, inService := false, joining := false, items := [], counters := {} }
  { x with entry := e, joining := e.inService && !x.inService }

theorem writePlatform_eq (b : Block) (p : Nat) (e : PlatformEntry) : b.writePlatform p e =
    { b.clearedFor p e with dsp := { (b.clearedFor p e).dsp with
        platforms := Tab.set p ((b.clearedFor p e).entered p e) (b.clearedFor p e).dsp.platforms } } := rfl

theorem follows_clearedFor (b : Block) (p : Nat) (e : PlatformEntry) : b.Follows (b.clearedFor p e) := by
  unfold Block.clearedFor
  split
  · exact follows_removePlatform ..
  · exact .refl b

theorem clearedFor_writePlatform_follows (b : Block) (p : Nat) (e : PlatformEntry) : (b.clearedFor p e).Follows (b.writePlatform p e) := by
  rw [writePlatform_eq]
  exact ⟨fun _ h => h, rfl, id, .refl _, fun _ h => h, fun _ h _ => h⟩

theorem follows_writePlatform (b : Block) (p : Nat) (e : PlatformEntry) : b.Follows (b.writePlatform p e) :=
  (follows_clearedFor b p e).trans (clearedFor_writePlatform_follows b p e)

theorem writePlatform_shown_ne (h : q ≠ p) : (b.writePlatform p e).shown q = b.shown q := by
  have hcleared : (b.clearedFor p e).shown q = b.shown q := by
    unfold Block.clearedFor
    split
    · exact removePlatform_shown_ne h
    · rfl
  rw [← hcleared, writePlatform_eq, Block.shown, Block.platform?, Tab.get?_set_ne h.symm]
  rfl

theorem any_getD_inService (x : Option Platform) (d : Platform) (hd : d.inService = false) :
    (x.getD d).inService = x.any (·.inService) := by
  cases x <;> simp [hd]

/-- A platform goes on in service where it served, its entry keeps it there, and its KIND stays. -/
def Block.goesOn (b : Block) (p : Nat) (e : PlatformEntry) : Bool :=
  (b.platform? p).any fun z => z.inService && e.inService && e.kind == z.entry.kind

theorem goesOn_eq (b : Block) (p : Nat) (e : PlatformEntry) :
    b.goesOn p e = (b.shown p).any fun s => s.2.1 && e.inService && e.kind == s.1.kind := by
  rw [Block.goesOn, Block.shown, Option.any_map]
  rfl

theorem clearedFor_serves (b : Block) (p : Nat) (e : PlatformEntry) :
    ((b.clearedFor p e).platform? p).any (·.inService) = b.goesOn p e := by
  unfold Block.clearedFor Block.goesOn
  cases hout : b.takesOut p e with
  | true =>
    rw [if_pos rfl, removePlatform_not_serving]
    unfold Block.takesOut Block.mapEntry at hout
    cases hz : b.platform? p with
    | none => rfl
    | some z =>
      rw [hz] at hout
      obtain h | h : e.inService = false ∨ e.kind ≠ z.entry.kind := by simpa using hout
      · simp [h]
      · simp [h]
  | false =>
    rw [if_neg Bool.false_ne_true]
    unfold Block.takesOut Block.mapEntry at hout
    cases hz : b.platform? p with
    | none => rfl
    | some z =>
      rw [hz] at hout
      obtain ⟨hserve, hkind⟩ : e.inService = true ∧ e.kind = z.entry.kind := by simpa using hout
      simp [hserve, hkind]

/-- A written entry is in the map; its platform goes on, or joins at the next junction where the entry is in service (R148). -/
theorem writePlatform_shown_self (b : Block) (p : Nat) (e : PlatformEntry) :
    (b.writePlatform p e).shown p = some (e, b.goesOn p e, e.inService && !b.goesOn p e) := by
  rw [writePlatform_eq, Block.shown, Block.platform?, Tab.get?_set_self, ← clearedFor_serves]
  simp only [Option.map_some, Platform.shown, Block.entered, any_getD_inService]

theorem mem_writePlatform_works (hw : w ∈ b.works) (hp : w.platform ≠ p) (hnodup : (b.works.map (·.tag)).Nodup) :
    w ∈ (b.writePlatform p e).works := by
  have hcleared : w ∈ (b.clearedFor p e).works := by
    unfold Block.clearedFor
    split
    · exact mem_removePlatform_works hw hp hnodup
    · exact hw
  rwa [writePlatform_eq]

section
variable (hz : b.platform? p = some z) (hout : e.inService = false ∨ e.kind ≠ z.entry.kind)
include hz hout

theorem clearedFor_takes_out : b.clearedFor p e = b.removePlatform p 0xFE := by
  refine if_pos ?_
  simpa [Block.takesOut, Block.mapEntry, hz] using hout

variable (hs : z.inService = true)
include hs

theorem revoke_mem_writePlatform (hsafe : b.sb.safe = false) :
    Out.revoke p (dispatchCrc p 0 1 (zeros 32)) ∈ (b.writePlatform p e).out := by
  refine (clearedFor_writePlatform_follows b p e).out _ ?_
  rw [clearedFor_takes_out hz hout]
  exact revoke_mem_removePlatform hz hs hsafe

theorem reissued_writePlatform (hw : w ∈ b.works) (hp : w.platform = p) (hheld : w.held = false)
    (hrun : (b.writePlatform p e).running = true) : (b.writePlatform p e).Reissued w := by
  have hfollows := clearedFor_writePlatform_follows b p e
  have hrun := hfollows.running hrun
  rw [clearedFor_takes_out hz hout] at hrun hfollows
  exact (reissued_removePlatform hz hs hw hp hheld hrun).follows hfollows

end

end

/-! ### A PLATFORM_MAP write as a whole (R146) -/

section
variable {b : Block} {e : PlatformEntry} {es : List PlatformEntry} {w : OpenItem} {z : Platform} {first i q s : Nat}

/-- Entries written one after another, from platform `first` on. -/
def Block.writeMap (b : Block) (first : Nat) : List PlatformEntry → Block
  | [] => b
  | e :: es => (b.writePlatform first e).writeMap (first + 1) es

theorem foldl_writePlatform (b : Block) (first : Nat) (es : List PlatformEntry) :
    ((List.range es.length).zip es).foldl (fun (b : Block) x => b.writePlatform (first + x.1) x.2) b = b.writeMap first es := by
  induction es generalizing b first with
  | nil => rfl
  | cons e es ih =>
    rw [List.length_cons, List.range_succ_eq_map, List.zip_cons_cons, List.foldl_cons, List.zip_map_left, List.foldl_map, Block.writeMap,
      ← ih]
    simp only [Prod.map_fst, Prod.map_snd, id_eq, Nat.succ_eq_add_one, Nat.add_zero, Nat.add_right_comm, Nat.add_assoc]

theorem follows_writeMap (b : Block) (first : Nat) (es : List PlatformEntry) : b.Follows (b.writeMap first es) := by
  induction es generalizing b first with
  | nil => exact .refl b
  | cons e es ih => exact (follows_writePlatform b first e).trans (ih _ _)

/-- The platforms outside the written range stay. -/
theorem writeMap_shown_outside (h : q < first ∨ first + es.length ≤ q) : (b.writeMap first es).shown q = b.shown q := by
  induction es generalizing b first with
  | nil => rfl
  | cons e es ih =>
    rw [List.length_cons] at h
    rw [Block.writeMap, ih (by omega), writePlatform_shown_ne (by omega)]

theorem writeMap_shown (he : es[i]? = some e) :
    (b.writeMap first es).shown (first + i) = some (e, b.goesOn (first + i) e, e.inService && !b.goesOn (first + i) e) := by
  induction es generalizing b first i with
  | nil => cases he
  | cons x es ih =>
    rw [Block.writeMap]
    cases i with
    | zero =>
      obtain rfl : x = e := by simpa using he
      rw [writeMap_shown_outside (.inl (by omega)), Nat.add_zero first, writePlatform_shown_self]
    | succ i =>
      have hsame : (b.writePlatform first x).goesOn (first + (i + 1)) e = b.goesOn (first + (i + 1)) e := by
        rw [goesOn_eq, goesOn_eq, writePlatform_shown_ne (by omega)]
      have hrest := ih (b := b.writePlatform first x) (first := first + 1) (i := i) (by simpa using he)
      rw [show first + 1 + i = first + (i + 1) by omega, hsame] at hrest
      exact hrest

/-- A serving platform whose entry takes it out: REVOKE is sent, and each of its items is reissued where the group goes on (R147). -/
theorem writeMap_takes_out (he : es[i]? = some e) (hz : b.platform? (first + i) = some z) (hs : z.inService = true)
    (hout : e.inService = false ∨ e.kind ≠ z.entry.kind) :
    (b.sb.safe = false → Out.revoke (first + i) (dispatchCrc (first + i) 0 1 (zeros 32)) ∈ (b.writeMap first es).out) ∧
    ((b.writeMap first es).running = true → (b.works.map (·.tag)).Nodup →
      ∀ w ∈ b.works, w.platform = first + i → w.held = false → (b.writeMap first es).Reissued w) := by
  induction es generalizing b first i z with
  | nil => cases he
  | cons x es ih =>
    rw [Block.writeMap]
    cases i with
    | zero =>
      obtain rfl : x = e := by simpa using he
      have hrest := follows_writeMap (b.writePlatform first x) (first + 1) es
      exact ⟨fun hsafe => hrest.out _ (revoke_mem_writePlatform hz hout hs hsafe), fun hrun _ w hw hp hheld =>
        (reissued_writePlatform hz hout hs hw hp hheld (hrest.running hrun)).follows hrest⟩
    | succ i =>
      have hfollows := follows_writePlatform b first x
      have hshown : (b.writePlatform first x).shown (first + 1 + i) = some z.shown := by
        rw [writePlatform_shown_ne (by omega), show first + 1 + i = first + (i + 1) by omega, Block.shown, hz, Option.map_some]
      obtain ⟨y, hy, hyz⟩ := Option.map_eq_some_iff.1 hshown
      obtain ⟨hentry, hserves⟩ := Prod.ext_iff.1 hyz
      obtain ⟨hserves, -⟩ := Prod.ext_iff.1 hserves
      have hentry : y.entry = z.entry := hentry
      have hserves : y.inService = z.inService := hserves
      obtain ⟨hrevoke, hreissue⟩ := ih (z := y) (i := i) (by simpa using he) hy (hserves.trans hs) (by rwa [hentry])
      rw [show first + 1 + i = first + (i + 1) by omega] at hrevoke hreissue
      refine ⟨fun hsafe => hrevoke (hfollows.safe.trans hsafe), fun hrun hnodup w hw hp hheld => ?_⟩
      exact hreissue hrun (hnodup.sublist (hfollows.works.map _)) w (mem_writePlatform_works hw (by omega) hnodup) hp hheld

/-- The block after a write of the map as a whole, its platforms checked for the runs that are left (R149). -/
def Block.writtenMap (b : Block) (first : Nat) (es : List PlatformEntry) : Block := (b.writeMap first es).checkPlatforms

theorem writtenMap_shown (b : Block) (first : Nat) (es : List PlatformEntry) (q : Nat) :
    (b.writtenMap first es).shown q = (b.writeMap first es).shown q := (sameDispatch_checkPlatforms _).shown q

theorem writtenMap_entry (he : es[i]? = some e) : ∃ y, (b.writtenMap first es).platform? (first + i) = some y ∧ y.entry = e ∧
    y.inService = b.goesOn (first + i) e ∧ y.joining = (e.inService && !y.inService) := by
  have hshown := writeMap_shown (b := b) (first := first) he
  rw [← writtenMap_shown] at hshown
  obtain ⟨y, hy, hout⟩ := Option.map_eq_some_iff.1 hshown
  have hserves : y.inService = b.goesOn (first + i) e := congrArg (fun s => s.2.1) hout
  have hjoins : y.joining = (e.inService && !b.goesOn (first + i) e) := congrArg (fun s => s.2.2) hout
  exact ⟨y, hy, congrArg (fun s => s.1) hout, hserves, hserves ▸ hjoins⟩

theorem writtenMap_shown_outside (h : q < first ∨ first + es.length ≤ q) : (b.writtenMap first es).shown q = b.shown q :=
  (writtenMap_shown ..).trans (writeMap_shown_outside h)

theorem works_tags (b : Block) : b.works.map (·.tag) = b.dsp.openItems.map (·.tag) := by
  rw [Block.works, List.map_map]
  rfl

/-- A serving platform that a write takes out: REVOKE is sent, and each of its open items is closed, its tag void and its work in a run of
its own again, where the group goes on (R147). -/
theorem writtenMap_takes_out (he : es[i]? = some e) (hz : b.platform? (first + i) = some z) (hs : z.inService = true)
    (hout : e.inService = false ∨ e.kind ≠ z.entry.kind) :
    (b.sb.safe = false → Out.revoke (first + i) (dispatchCrc (first + i) 0 1 (zeros 32)) ∈ (b.writtenMap first es).out) ∧
    ((b.writtenMap first es).running = true → (b.dsp.openItems.map (·.tag)).Nodup →
      ∀ o ∈ b.dsp.openItems, o.platform = first + i → o.held = false →
        (∀ o' ∈ (b.writtenMap first es).dsp.openItems, o'.tag ≠ o.tag) ∧ o.tag ∈ (b.writtenMap first es).dsp.oldTags ∧
        ∃ r ∈ (b.writtenMap first es).dsp.runs, r.Reissues o) := by
  have hfollows := follows_checkPlatforms (b.writeMap first es)
  obtain ⟨hrevoke, hreissue⟩ := writeMap_takes_out (es := es) he hz hs hout
  refine ⟨fun hsafe => hfollows.out _ (hrevoke hsafe), fun hrun hnodup o ho hp hheld => ?_⟩
  have hdone := (hreissue (hfollows.running hrun) (works_tags b ▸ hnodup) o.work (List.mem_map_of_mem ho) hp hheld).follows hfollows
  obtain ⟨hgone, htag, r, hr, -, hreissues⟩ := hdone
  exact ⟨fun o' ho' => hgone o'.work (List.mem_map_of_mem ho'), htag, r, hr, hreissues⟩

theorem writtenMap_running (h : (b.writtenMap first es).running = true) : b.running = true ∧
    ∀ r ∈ (b.writtenMap first es).dsp.runs, r.items ≠ [] →
      ∃ y ∈ (b.writtenMap first es).dsp.platforms, y.2.inService = true ∧ (b.writtenMap first es).member r y.2 = true := by
  obtain ⟨hsame, hserved⟩ := checkPlatforms_running h
  refine ⟨(follows_writeMap b first es).running ((follows_checkPlatforms _).running h), ?_⟩
  rw [Block.writtenMap, hsame]
  exact hserved

theorem platformMap_read {n : Nat} (h0 : 0 < n) (h : first + n ≤ 4096) :
    b.platformMap s first n true es = b.reply s 0 ((List.range n).flatMap fun i => platformBytes (b.mapEntry (first + i))) := by
  have hn : ¬ n > 4096 := by omega
  simp [Block.platformMap, Nat.pos_iff_ne_zero.1 h0, hn, Nat.not_lt.2 h]

theorem map_kind_eq_self (h : ∀ e ∈ es, e.kind < 4) : es.map (fun e => { e with kind := e.kind % 4 }) = es :=
  (List.map_congr_left fun e he => by rw [Nat.mod_eq_of_lt (h e he), id_eq]).trans (List.map_id es)

theorem platformMap_refused {n : Nat} {read : Bool}
    (h : n = 0 ∨ 4096 < first + n ∨ (read = false ∧ (∀ e ∈ es, e.kind < 4) ∧ es.any platformBad = true)) :
    b.platformMap s first n read es = b.reply s 0x0103 := by
  unfold Block.platformMap
  split
  · rfl
  · next hrange =>
    obtain h | h | ⟨hread, hkinds, hbad⟩ := h
    · simp [h] at hrange
    · simp [h] at hrange
    · simp only [hread, Bool.false_eq_true, if_false, map_kind_eq_self hkinds, hbad, if_true]

theorem platformMap_writes (h0 : 0 < es.length) (h : first + es.length ≤ 4096) (hkinds : ∀ e ∈ es, e.kind < 4)
    (hgood : es.any platformBad = false) :
    b.platformMap s first es.length false es = (b.writtenMap first es).reply s 0 := by
  have hn : ¬ es.length > 4096 := by omega
  simp only [Block.platformMap, Nat.pos_iff_ne_zero.1 h0, hn, Nat.not_lt.2 h, decide_false, Bool.or_self, Bool.false_eq_true, if_false,
    map_kind_eq_self hkinds, hgood, foldl_writePlatform, Block.writtenMap]

end

/-! ### LINK_MAP, TRACE_CONFIG, CENSUS_CONFIG, HANG_DUMP and QUIESCENCE (R242, R432, R454, R461, R467, R468) -/

section
variable {b : Block} {s a n i mask cut : Nat} {w : Bool}

theorem linkMap_eq (b : Block) (s n : Nat) (rs : List (List (List Nat))) : b.linkMap s n rs =
    if n = 0 ∨ 512 < n then b.reply s 0x0103
    else if b.cp.state = .running then b.reply s 0x0402
    else ({ b with fab := { b.fab with routes := rs }, ap := { b.ap with routesLoaded := some n } } : Block).reply s 0 := by
  unfold Block.linkMap
  by_cases hn : n = 0 ∨ 512 < n
  · rw [if_pos hn, if_pos (by simpa using hn)]
  · rw [if_neg hn, if_neg (by simpa using hn)]
    by_cases hrun : b.cp.state = .running <;> simp [hrun]

theorem traceConfig_taken (hn : n % 4096 = 0) (hmin : 65536 ≤ n) (hmax : n ≤ 1073741824) (ha : a % 4096 = 0) :
    b.traceConfig s mask a n = (({ b with
      mp := { b.mp with writeWait := b.mp.writeWait.filter fun w => w.order != 1 }
      obs := { b.obs with
        traceMask := mask, traceAddr := a, traceCap := n / 32, traceWrite := 0, traceLost := 0, traced := []
        cores := [{}, {}, {}, {}] } } : Block).reply s 0) := by
  unfold Block.traceConfig
  rw [if_neg (by simp [hn, ha, hmin, hmax])]
  rfl

section
variable (hmin : 10000 ≤ i) (hmax : i ≤ 1000000000) (hn : 34880 ≤ n)
include hmin hmax hn

theorem censusConfig_on : b.censusConfig s 1 i a n =
    if b.cp.state == .running then b.reply s 0x0402
    else ({ b with obs := { b.obs with
      censusOn := true, censusInterval := i, censusAddr := a, censusCap := n / 34880, censusWrite := 0, censusLeft := none
      censusAt := b.now, waits := [], busy := [] } } : Block).reply s 0 := by
  unfold Block.censusConfig
  rw [if_neg (by decide), if_neg (by decide), if_neg (by simp [censusBytes, Nat.not_lt.2 hmin, Nat.not_lt.2 hmax, Nat.not_lt.2 hn])]
  rfl

end

theorem hangDump_eq : b.hangDump s a n w = if b.cp.state != .bufferStop then b.reply s 0x0402
    else match b.flt.cutTime with
      | none => b
      | some cut => b.writeDump s cut a n w := rfl

theorem hangDump_stopped (h : b.cp.state = .bufferStop) : b.hangDump s a n w = match b.flt.cutTime with
    | none => b
    | some cut => b.writeDump s cut a n w := by
  simp [hangDump_eq, h]

end

/-! ### The commands -/

section
variable {x : State} {t s : Nat} {c : Current} (h : x.Carries t s c)
include h

theorem exec_linkMap_carries {n : Nat} {rs : List (List (List Nat))} (hp : c.pkt.params = .linkMap n rs) :
    exec (.linkMap t s) x = .next (x.settled (x.blk.atTime t) ((x.blk.atTime t).linkMap s n rs)) := by
  rw [exec_linkMap, command_carries h (by rw [hp])]

theorem exec_platformMap_carries {first n : Nat} {read : Bool} {es : List PlatformEntry}
    (hp : c.pkt.params = .platformMap first n read es) :
    exec (.platformMap t s) x = .next (x.settled (x.blk.atTime t) ((x.blk.atTime t).platformMap s first n read es)) := by
  rw [exec_platformMap, command_carries h (by rw [hp])]

theorem exec_traceConfig_carries {mask a n : Nat} (hp : c.pkt.params = .traceConfig mask a n) :
    exec (.traceConfig t s) x = .next (x.settled (x.blk.atTime t) ((x.blk.atTime t).traceConfig s mask a n)) := by
  rw [exec_traceConfig, command_carries h (by rw [hp])]

theorem exec_censusConfig_carries {on i a n : Nat} (hp : c.pkt.params = .censusConfig on i a n) :
    exec (.censusConfig t s) x = .next (x.settled (x.blk.atTime t) ((x.blk.atTime t).censusConfig s on i a n)) := by
  rw [exec_censusConfig, command_carries h (by rw [hp])]

theorem exec_hangDump_carries {a n : Nat} {w : Bool} (hp : c.pkt.params = .hangDump a n w) :
    exec (.hangDump t s) x = .next (x.settled (x.blk.atTime t) ((x.blk.atTime t).hangDump s a n w)) := by
  rw [exec_hangDump, command_carries h (by rw [hp])]

theorem carries_live : x.Live := by
  obtain ⟨hlive, -⟩ := h
  exact hlive

end

/-- QUIESCENCE with one session whose HANG_DUMP waits: the cut is taken, and the dump of it written (R432, R468). -/
theorem quiescence_dumps {b : Block} {s a n : Nat} {w : Bool} {c : Current} (hstop : b.cp.state = .bufferStop) (hcut : b.flt.cutTime = none)
    (hdiag : b.flt.diag = 0) (hses : b.ses = [(s, b.session s)]) (hcur : (b.session s).current = some c)
    (hp : c.pkt.params = .hangDump a n w) :
    b.quiescence = ({ b with flt := { b.flt with diag := if b.sb.phase = .recovery then 0 else 1 } } :
      Block).takeCut.writeDump s b.now a n w := by
  have hdiag : (if b.flt.diag = 0 && b.sb.phase != BootPhase.recovery then 1 else b.flt.diag) =
      if b.sb.phase = .recovery then 0 else 1 := by
    by_cases h : b.sb.phase = .recovery <;> simp [h, hdiag]
  unfold Block.quiescence
  rw [if_neg (by simp [hstop, hcut]), hdiag]
  extract_lets _ cut
  have hkeys : Tab.keys cut.ses = [s] := by
    rw [show cut.ses = b.ses from rfl, hses]
    rfl
  have hcurrent : (cut.session s).current = some c := hcur
  rw [hkeys, List.foldl_cons, List.foldl_nil, hcurrent]
  dsimp only
  rw [hp]
  exact hangDump_stopped (b := cut) hstop

/-- Settles O28: a PLATFORM_MAP write by induction on its entries, and each other clause is the case of its command's equation. -/
theorem mapAndObservationCommandsAct : Obligations.MapAndObservationCommandsAct := by
  refine ⟨fun x t s c h => ?_, fun x t s c h => ?_, fun x t s a n w c h hp => ?_⟩
  · intro b
    refine ⟨fun n rs hp => ?_, fun first n es hp h0 hrange => ?_, fun first n read es hp hbad => ?_,
      fun first es hp h0 hrange hkinds hgood => ?_⟩
    · rw [exec_linkMap_carries h hp]
      rw [linkMap_eq]
    · rw [exec_platformMap_carries h hp, platformMap_read h0 hrange]
    · rw [exec_platformMap_carries h hp, platformMap_refused hbad]
    · rw [exec_platformMap_carries h hp, platformMap_writes h0 hrange hkinds hgood]
      exact ⟨_, rfl, fun i e he => writtenMap_entry he, fun q hq => writtenMap_shown_outside hq,
        fun i e z he hz hs hout => writtenMap_takes_out he hz hs hout, writtenMap_running⟩
  · intro b
    refine ⟨fun mask a n hp hn hmin hmax ha => ?_, fun i a n hp hmin hmax hn hstate => ?_, fun i a n hp => ?_,
      fun i a n hp hmin hmax hn hstate => ?_⟩
    · rw [exec_traceConfig_carries h hp, traceConfig_taken hn hmin hmax ha]
    · rw [exec_censusConfig_carries h hp, censusConfig_on hmin hmax hn, if_neg fun he => hstate (eq_of_beq he)]
    · rw [exec_censusConfig_carries h hp]; rfl
    · rw [exec_censusConfig_carries h hp, censusConfig_on hmin hmax hn, if_pos (beq_iff_eq.2 hstate)]
  · intro b
    refine ⟨fun hstate => ?_, fun hstop hcut => ?_, fun cut hstop hcut => ?_, fun hstop hcut hdiag hses => ⟨rfl, ?_⟩⟩
    · rw [exec_hangDump_carries h hp, hangDump_eq, if_pos (bne_iff_ne.2 hstate)]
    · rw [exec_hangDump_carries h hp, hangDump_stopped hstop, hcut]
    · rw [exec_hangDump_carries h hp, hangDump_stopped hstop, hcut]
    · rw [exec_quiescence, event_live (carries_live h), quiescence_dumps hstop hcut hdiag hses (carries_current h) hp]

end Sys2Proof.Machine
end

section
/-! The order key (R167): the bit patterns that have one, the values that they stand for, and that a larger key is a larger value. -/

namespace Sys2Proof.Machine
open Sys2Proof

/-! ### Keys and patterns -/

section
variable {v w : F32} {key : Nat}

/-- A value's pattern as it is keyed: -0 as +0. -/
def keyedBits (v : F32) : Nat := if v.toNat = 2 ^ 31 then 0 else v.toNat

theorem orderKey_eq (v : F32) : orderKey v = if 2 ^ 31 ≤ keyedBits v then 2 ^ 32 - 1 - keyedBits v else keyedBits v + 2 ^ 31 := by
  by_cases h : v = 0x80000000#32
  · subst h; decide
  · have hne : v.toNat ≠ 2 ^ 31 := fun hv => h (BitVec.eq_of_toNat_eq hv)
    simp only [orderKey, keyedBits, h, hne, if_false, BitVec.msb_eq_decide, BitVec.toNat_not, decide_eq_true_eq]
    rfl

theorem keyValue_toNat (h : key < 2 ^ 32) : (keyValue key).toNat = if 2 ^ 31 ≤ key then key - 2 ^ 31 else 2 ^ 32 - 1 - key := by
  have hbit : bit key 31 = decide (2 ^ 31 ≤ key) := by
    rw [bit, Bool.eq_iff_iff, beq_iff_eq, decide_eq_true_eq]
    omega
  unfold keyValue
  rw [hbit]
  by_cases hk : 2 ^ 31 ≤ key
  · simp only [hk, decide_true, if_true, BitVec.toNat_ofNat]
    omega
  · simp only [hk, decide_false, Bool.false_eq_true, if_false, BitVec.toNat_not, BitVec.toNat_ofNat]
    omega

theorem F.isNaN_eq (v : F32) : F.isNaN v = decide (0x7F800000 < v.toNat % 2 ^ 31) := by
  have := v.isLt
  have he : bits v.toNat 30 23 = 255 ↔ 0x7F800000 ≤ v.toNat % 2 ^ 31 := by unfold bits; omega
  have hf : bits v.toNat 30 23 = 255 → (bits v.toNat 22 0 = 0 ↔ v.toNat % 2 ^ 31 = 0x7F800000) := by unfold bits; omega
  rw [F.isNaN, Bool.eq_iff_iff, beq_iff_eq, decide_eq_true_eq, F.dec]
  split_ifs <;> simp <;> omega

/-- The values that take a key: neither NaN nor -inf. -/
theorem keyed_iff : (F.isNaN v = false ∧ v ≠ F.negInf) ↔ v.toNat ≤ 0x7F800000 ∨ 2 ^ 31 ≤ v.toNat ∧ v.toNat < 0xFF800000 := by
  have := v.isLt
  have hinf : v = F.negInf ↔ v.toNat = 0xFF800000 := ⟨fun h => h ▸ rfl, fun h => BitVec.eq_of_toNat_eq h⟩
  rw [F.isNaN_eq, ne_eq, hinf, decide_eq_false_iff_not]
  omega

theorem orderKey_range (h : F.isNaN v = false) (hinf : v ≠ F.negInf) : 0x00800000 ≤ orderKey v ∧ orderKey v ≤ 0xFF800000 := by
  have := keyed_iff.1 ⟨h, hinf⟩
  rw [orderKey_eq, keyedBits]
  split_ifs <;> omega

theorem keyValue_orderKey (h : F.isNaN v = false) (hinf : v ≠ F.negInf) :
    keyValue (orderKey v) = if v.toNat = 2 ^ 31 then F.zero else v := by
  have hrange := orderKey_range h hinf
  apply BitVec.eq_of_toNat_eq
  rw [keyValue_toNat (by omega), apply_ite BitVec.toNat, show F.zero.toNat = 0 from rfl, orderKey_eq, keyedBits]
  have := v.isLt
  split_ifs <;> omega

end

/-! ### Patterns and values -/

section
variable {v w : F32}

/-- The magnitude of a finite pattern without its sign, in units of 2^-149. -/
def F.magnitude (n : Nat) : Nat := if n < 2 ^ 23 then n else (n % 2 ^ 23 + 2 ^ 23) * 2 ^ (n / 2 ^ 23 - 1)

/-- A finite value in units of 2^-149. -/
def F.units (v : F32) : Int := if 2 ^ 31 ≤ v.toNat then -(F.magnitude (v.toNat % 2 ^ 31) : Int) else F.magnitude (v.toNat % 2 ^ 31)

theorem F.magnitude_lt_next_binade (n : Nat) : F.magnitude n < 2 ^ 23 * 2 ^ (n / 2 ^ 23) := by
  unfold F.magnitude
  split_ifs with h
  · rwa [Nat.div_eq_of_lt h]
  · have hexp : 2 ^ (n / 2 ^ 23) = 2 * 2 ^ (n / 2 ^ 23 - 1) := by rw [← Nat.pow_succ', Nat.succ_eq_add_one, Nat.sub_add_cancel (by omega)]
    rw [hexp, ← Nat.mul_assoc]
    exact Nat.mul_lt_mul_of_pos_right (by omega) (Nat.two_pow_pos _)

theorem F.magnitude_strictMono : StrictMono F.magnitude := by
  intro a b hab
  obtain hexp | hexp := Nat.lt_or_eq_of_le (Nat.div_le_div_right (c := 2 ^ 23) hab.le)
  · refine (F.magnitude_lt_next_binade a).trans_le ?_
    have hb : ¬ b < 2 ^ 23 := by omega
    rw [F.magnitude, if_neg hb]
    exact Nat.mul_le_mul (Nat.le_add_left ..) (Nat.pow_le_pow_right (by decide) (by omega))
  · unfold F.magnitude
    rw [← hexp]
    split_ifs
    · exact hab
    · omega
    · omega
    · exact Nat.mul_lt_mul_of_pos_right (by omega) (Nat.two_pow_pos _)

theorem F.dec_finite (h : v.toNat % 2 ^ 31 < 0x7F800000) : ∃ m e, F.dec v = .fin (decide (2 ^ 31 ≤ v.toNat)) m e ∧ -149 ≤ e ∧
    m * 2 ^ (e + 149).toNat = F.magnitude (v.toNat % 2 ^ 31) := by
  have := v.isLt
  have hneg : bit v.toNat 31 = decide (2 ^ 31 ≤ v.toNat) := by
    rw [bit, Bool.eq_iff_iff, beq_iff_eq, decide_eq_true_eq]
    omega
  have he : bits v.toNat 30 23 = v.toNat % 2 ^ 31 / 2 ^ 23 := by unfold bits; omega
  have hf : bits v.toNat 22 0 = v.toNat % 2 ^ 31 % 2 ^ 23 := by unfold bits; omega
  unfold F.dec F.magnitude
  simp only [hneg, he, hf]
  rw [if_neg (by omega)]
  by_cases hsub : v.toNat % 2 ^ 31 < 2 ^ 23
  · rw [if_pos (by omega), if_pos hsub]
    exact ⟨_, _, rfl, le_refl _, by simp; omega⟩
  · rw [if_neg (by omega), if_neg hsub]
    refine ⟨_, _, rfl, by simp only [Int.ofNat_eq_natCast]; omega, ?_⟩
    congr 2
    simp only [Int.ofNat_eq_natCast]
    omega

/-- Aligned finite values compare as they do in units of 2^-149. -/
theorem F.align_lt_iff {s1 s2 : Bool} {m1 m2 : Nat} {e1 e2 : Int} (h1 : -149 ≤ e1) (h2 : -149 ≤ e2) :
    (F.align s1 m1 e1 s2 m2 e2).1 < (F.align s1 m1 e1 s2 m2 e2).2.1 ↔
      (if s1 then -((m1 * 2 ^ (e1 + 149).toNat : Nat) : Int) else (m1 * 2 ^ (e1 + 149).toNat : Nat)) <
      (if s2 then -((m2 * 2 ^ (e2 + 149).toNat : Nat) : Int) else (m2 * 2 ^ (e2 + 149).toNat : Nat)) := by
  have hsplit : ∀ (m : Nat) (e : Int), min e1 e2 ≤ e →
      m * 2 ^ (e + 149).toNat = m * 2 ^ (e - min e1 e2).toNat * 2 ^ (min e1 e2 + 149).toNat := by
    intro m e he
    rw [Nat.mul_assoc, ← Nat.pow_add]
    congr 2
    omega
  rw [hsplit m1 e1 (min_le_left ..), hsplit m2 e2 (min_le_right ..)]
  have hpos : (0 : Int) < (2 ^ (min e1 e2 + 149).toNat : Nat) := by exact_mod_cast Nat.two_pow_pos _
  generalize 2 ^ (min e1 e2 + 149).toNat = c at hpos
  unfold F.align
  simp only [Int.ofNat_eq_natCast]
  generalize m1 * 2 ^ (e1 - min e1 e2).toNat = x
  generalize m2 * 2 ^ (e2 - min e1 e2).toNat = y
  push_cast
  have hsign : ∀ (s : Bool) (z : Int), (if s then -(z * c) else z * c) = (if s then -z else z) * c := by
    intro s z; cases s <;> simp
  rw [hsign, hsign]
  exact (mul_lt_mul_iff_of_pos_right hpos).symm

theorem F.lt_finite_iff (hv : v.toNat % 2 ^ 31 < 0x7F800000) (hw : w.toNat % 2 ^ 31 < 0x7F800000) :
    F.lt v w = true ↔ F.units v < F.units w := by
  obtain ⟨m1, e1, hdec1, he1, hmag1⟩ := F.dec_finite hv
  obtain ⟨m2, e2, hdec2, he2, hmag2⟩ := F.dec_finite hw
  have halign := F.align_lt_iff (s1 := decide (2 ^ 31 ≤ v.toNat)) (s2 := decide (2 ^ 31 ≤ w.toNat)) (m1 := m1) (m2 := m2) he1 he2
  simp only [hmag1, hmag2, decide_eq_true_eq] at halign
  rw [F.lt, hdec1, hdec2, decide_eq_true_eq]
  exact halign

theorem F.finite_lt_posInf (hv : v.toNat % 2 ^ 31 < 0x7F800000) : F.lt v F.posInf = true := by
  obtain ⟨m, e, hdec, -⟩ := F.dec_finite hv
  rw [F.lt, hdec, show F.dec F.posInf = .inf false from by decide]
  rfl

theorem F.posInf_not_lt (h : F.isNaN w = false) : F.lt F.posInf w = false := by
  rw [F.lt, show F.dec F.posInf = .inf false from by decide]
  cases hd : F.dec w with
  | nan => simp [F.isNaN, hd] at h
  | inf s => rfl
  | fin s m e => rfl

theorem F.units_lt_iff (hv : F.isNaN v = false) (hv' : v ≠ F.negInf) (hw : F.isNaN w = false) (hw' : w ≠ F.negInf) :
    F.units v < F.units w ↔ orderKey v < orderKey w := by
  have hlt : ∀ a b, F.magnitude a < F.magnitude b ↔ a < b := fun _ _ => F.magnitude_strictMono.lt_iff_lt
  have hpos : ∀ a, 0 < F.magnitude a ↔ 0 < a := hlt 0
  have hv := keyed_iff.1 ⟨hv, hv'⟩
  have hw := keyed_iff.1 ⟨hw, hw'⟩
  have hvw := hlt (v.toNat % 2 ^ 31) (w.toNat % 2 ^ 31)
  have hwv := hlt (w.toNat % 2 ^ 31) (v.toNat % 2 ^ 31)
  have hw0 := hpos (w.toNat % 2 ^ 31)
  have hv0 := hpos (v.toNat % 2 ^ 31)
  simp only [F.units, orderKey_eq, keyedBits]
  have := v.isLt
  have := w.isLt
  generalize F.magnitude (v.toNat % 2 ^ 31) = x at *
  generalize F.magnitude (w.toNat % 2 ^ 31) = y at *
  split_ifs <;> omega

/-- A larger key means a larger value (R167). -/
theorem orderKey_lt_iff (hv : F.isNaN v = false) (hv' : v ≠ F.negInf) (hw : F.isNaN w = false) (hw' : w ≠ F.negInf) :
    orderKey v < orderKey w ↔ F.lt v w = true := by
  have hinf : ∀ {u : F32}, F.isNaN u = false → u ≠ F.negInf → u = F.posInf ∨ u.toNat % 2 ^ 31 < 0x7F800000 := by
    intro u hu hu'
    have := keyed_iff.1 ⟨hu, hu'⟩
    obtain h | h : u.toNat = 0x7F800000 ∨ u.toNat ≠ 0x7F800000 := eq_or_ne ..
    · exact .inl (BitVec.eq_of_toNat_eq h)
    · exact .inr (by omega)
  obtain rfl | hvfin := hinf hv hv'
  · have hkey : orderKey F.posInf = 0xFF800000 := by decide
    have := orderKey_range hw hw'
    rw [F.posInf_not_lt hw, hkey]
    simp only [Bool.false_eq_true, iff_false]
    omega
  · obtain rfl | hwfin := hinf hw hw'
    · have hkey : orderKey F.posInf = 0xFF800000 := by decide
      rw [F.finite_lt_posInf hvfin, hkey, orderKey_eq, keyedBits]
      have := keyed_iff.1 ⟨hv, hv'⟩
      simp only [iff_true]
      split_ifs <;> omega
    · rw [F.lt_finite_iff hvfin hwfin, F.units_lt_iff hv hv' hw hw']

end

/-! ### Rank order -/

/-- x ranks before y, or is y: by descending key, then ascending index (R167). -/
def RankLe (x y : Nat × Nat) : Prop := y.1 < x.1 ∨ x.1 = y.1 ∧ x.2 ≤ y.2

theorem not_rankLt_iff {x y : Nat × Nat} : (!rankLt y x) = true ↔ RankLe x y := by
  simp only [rankLt, RankLe, Bool.not_eq_true', Bool.or_eq_false_iff, Bool.and_eq_false_iff, decide_eq_false_iff_not, beq_eq_false_iff_ne]
  omega

theorem rankSort_perm (l : List (Nat × Nat)) : (rankSort l).Perm l := List.mergeSort_perm ..

theorem rankSort_sorted (l : List (Nat × Nat)) : (rankSort l).Pairwise RankLe := by
  refine (List.pairwise_mergeSort ?_ ?_ l).imp not_rankLt_iff.1
  · intro a b c
    simp only [not_rankLt_iff, RankLe]
    omega
  · intro a b
    simp only [Bool.or_eq_true, not_rankLt_iff, RankLe]
    omega

/-! ### A beat's elements (R161, R167) -/

section
variable (a : RowAcc) (p : Sampling) (cnt : Nat → Nat) (places base : Nat) (vs : List F32)

/-- The elements of a beat, each under its index, after the penalties. -/
def penalised (p : Sampling) (cnt : Nat → Nat) (base : Nat) (vs : List F32) : List (Nat × F32) :=
  ((List.range vs.length).zip vs).map fun x => (base + x.1, penalise p (cnt (base + x.1)) x.2)

/-- What a beat gathers: the keys of its valid elements, and the counts of those that have none. -/
def RowAcc.gathers (a : RowAcc) (ws : List (Nat × F32)) : RowAcc :=
  { a with
    vals := ((ws.filter fun x => !F.isNaN x.2 && x.2 != F.negInf).map fun x => (orderKey x.2, x.1)).reverse ++ a.vals
    nan := a.nan + (ws.filter fun x => F.isNaN x.2).length
    negInf := a.negInf + (ws.filter fun x => x.2 == F.negInf).length }

/-- A beat gathers its elements; of the rest of the row it moves the running maximum and the running mass alone. -/
theorem beat_gathers : a.beat p cnt places base vs = { a.gathers (penalised p cnt base vs) with
    m := (a.beat p cnt places base vs).m, s := (a.beat p cnt places base vs).s } := by
  unfold RowAcc.beat
  dsimp only
  split
  · rfl
  · split_ifs <;> rfl

end

/-- Settles O8: keys by the patterns that have one, in the order of the values that these stand for; a beat by what it gathers. -/
theorem orderKeysRankTheValues : Obligations.OrderKeysRankTheValues := by
  refine ⟨orderKey_eq, fun _ => keyValue_toNat, fun v hv hinf => ?_, by decide, by decide,
    fun v w hv hv' hw hw' => orderKey_lt_iff hv hv' hw hw', fun a p cnt places base vs => ?_,
    fun l => ⟨rankSort_perm l, rankSort_sorted l⟩⟩
  · obtain ⟨hlo, hhi⟩ := orderKey_range hv hinf
    exact ⟨hlo, hhi, keyValue_orderKey hv hinf⟩
  · intro ws c
    rw [show c = _ from beat_gathers a p cnt places base vs]
    exact ⟨rfl, rfl, rfl⟩

end Sys2Proof.Machine
end

section
/-! Selection (R168 to R170, R173 to R175): the thresholds as what the k-th entry in rank order fixes, the entries that selection
returns, and the partial result of a closed row. -/

namespace Sys2Proof.Machine
open Sys2Proof

/-! ### Entries in rank order -/

section
variable {es : List (Nat × Nat)} {e : Nat × Nat} {k : Nat} {P : Nat × Nat → Bool}

theorem RankLe.antisymm {x y : Nat × Nat} (h : RankLe x y) (h' : RankLe y x) : x = y := by
  unfold RankLe at h h'
  exact Prod.ext (by omega) (by omega)

theorem rankSort_unique {l m : List (Nat × Nat)} (h : l.Perm m) (hm : m.Pairwise RankLe) : rankSort l = m :=
  List.Perm.eq_of_pairwise (fun _ _ _ _ => RankLe.antisymm) (rankSort_sorted l) hm ((rankSort_perm l).trans h)

theorem rankSort_congr {l m : List (Nat × Nat)} (h : l.Perm m) : rankSort l = rankSort m :=
  rankSort_unique (h.trans (rankSort_perm m).symm) (rankSort_sorted m)

theorem rankSort_length (l : List (Nat × Nat)) : (rankSort l).length = l.length := (rankSort_perm l).length_eq

theorem rankSort_filter (P : Nat × Nat → Bool) (l : List (Nat × Nat)) : rankSort (l.filter P) = (rankSort l).filter P :=
  rankSort_unique ((rankSort_perm l).symm.filter P) ((rankSort_sorted l).filter P)

theorem key_le_of_rankLe {x y : Nat × Nat} (h : RankLe x y) : y.1 ≤ x.1 := by unfold RankLe at h; omega

/-- The entries at the k-th place and before it have a key no smaller than its. -/
theorem key_ge_of_mem_take (he : (rankSort es)[k - 1]? = some e) {x : Nat × Nat} (hx : x ∈ (rankSort es).take k) : e.1 ≤ x.1 := by
  obtain ⟨i, hi, rfl⟩ := List.mem_iff_getElem.1 hx
  obtain ⟨hk, rfl⟩ := List.getElem?_eq_some_iff.1 he
  rw [List.length_take] at hi
  rw [List.getElem_take]
  obtain h | h : i = k - 1 ∨ i < k - 1 := by omega
  · subst h; exact le_refl _
  · exact key_le_of_rankLe (List.pairwise_iff_getElem.1 (rankSort_sorted es) i (k - 1) (by omega) hk h)

/-- The entries at the k-th place and after it have a key no larger than its. -/
theorem key_le_of_mem_drop (he : (rankSort es)[k - 1]? = some e) {x : Nat × Nat} (hx : x ∈ (rankSort es).drop (k - 1)) : x.1 ≤ e.1 := by
  obtain ⟨i, hi, rfl⟩ := List.mem_iff_getElem.1 hx
  obtain ⟨hk, rfl⟩ := List.getElem?_eq_some_iff.1 he
  rw [List.length_drop] at hi
  rw [List.getElem_drop]
  obtain rfl | h := i.eq_zero_or_pos
  · exact le_refl _
  · exact key_le_of_rankLe (List.pairwise_iff_getElem.1 (rankSort_sorted es) (k - 1) (k - 1 + i) hk (by omega) (by omega))

section
variable (hk : 0 < k) (he : (rankSort es)[k - 1]? = some e)
include hk he

theorem length_of_kth : k ≤ es.length := by
  obtain ⟨h, -⟩ := List.getElem?_eq_some_iff.1 he
  rw [rankSort_length] at h
  omega

/-- A predicate that every key from the k-th entry's on meets takes in the first k. -/
theorem take_filter_of_kth (hP : ∀ x ∈ es, e.1 ≤ x.1 → P x = true) : ((rankSort es).filter P).take k = (rankSort es).take k := by
  have hfirst : ((rankSort es).take k).filter P = (rankSort es).take k :=
    List.filter_eq_self.2 fun x hx => hP x ((rankSort_perm es).mem_iff.1 (List.mem_of_mem_take hx)) (key_ge_of_mem_take he hx)
  have hlen : ((rankSort es).take k).length = k := by
    rw [List.length_take, rankSort_length]
    exact Nat.min_eq_left (length_of_kth hk he)
  conv_lhs => rw [← List.take_append_drop k (rankSort es), List.filter_append, hfirst]
  exact List.take_left' hlen

theorem kth_le_count (hP : ∀ x ∈ es, e.1 ≤ x.1 → P x = true) : k ≤ (es.filter P).length := by
  have htake := congrArg List.length (take_filter_of_kth hk he hP)
  have := length_of_kth hk he
  rw [List.length_take, List.length_take, rankSort_length, ((rankSort_perm es).filter P).length_eq] at htake
  omega

/-- A predicate that only keys beyond the k-th entry's meet takes in fewer than k. -/
theorem count_lt_kth (hP : ∀ x ∈ es, P x = true → e.1 < x.1) : (es.filter P).length < k := by
  have hrest : ((rankSort es).drop (k - 1)).filter P = [] := List.filter_eq_nil_iff.2 fun x hx hPx => by
    have := hP x ((rankSort_perm es).mem_iff.1 (List.mem_of_mem_drop hx)) hPx
    have := key_le_of_mem_drop he hx
    omega
  rw [← ((rankSort_perm es).filter P).length_eq, ← List.take_append_drop (k - 1) (rankSort es), List.filter_append, hrest, List.append_nil]
  have := (List.length_filter_le P ((rankSort es).take (k - 1))).trans (List.length_take_le ..)
  omega

end

end

/-! ### The thresholds (R168) -/

section
variable {k base t : Nat} {f : Nat × Nat → Nat} {l : List (Nat × Nat)}

/-- The highest number below n that meets a predicate. -/
theorem find?_reverse_range {p : Nat → Bool} {n : Nat} (ht : t < n) (hp : p t = true) (hnext : ∀ b, t < b → p b = false) :
    (List.range n).reverse.find? p = some t := by
  induction n with
  | zero => omega
  | succ n ih =>
    rw [List.range_succ, List.reverse_append, List.reverse_singleton, List.singleton_append, List.find?_cons]
    obtain rfl | hlt := Nat.eq_or_lt_of_le (Nat.le_of_lt_succ ht)
    · rw [hp]
    · rw [hnext n hlt]
      exact ih hlt

theorem threshold_eq (ht : t < 256) (hk : k ≤ base + (l.filter fun e => f e ≥ t).length)
    (hnext : ∀ b, t < b → base + (l.filter fun e => f e ≥ b).length < k) : threshold k base f l = t := by
  rw [threshold, find?_reverse_range ht (decide_eq_true hk) fun b hb => decide_eq_false (Nat.not_le.2 (hnext b hb))]
  rfl

theorem threshold_short (h : base + l.length < k) : threshold k base f l = 0 := by
  have hnone : ((List.range 256).reverse.find? fun b => decide (base + (l.filter fun e => f e ≥ b).length ≥ k)) = none := by
    refine List.find?_eq_none.2 fun b _ => ?_
    have := List.length_filter_le (fun e => decide (f e ≥ b)) l
    rw [decide_eq_true_eq]
    omega
  rw [threshold, hnone]
  rfl

end

/-- Two filters that together take each element of a third once. -/
theorem filter_append_filter_perm {α : Type} {l : List α} {p q r : α → Bool} (hp : ∀ x ∈ l, p x = true → r x = true)
    (hq : ∀ x ∈ l, q x = (r x && !p x)) : (l.filter p ++ l.filter q).Perm (l.filter r) := by
  have hleft : (l.filter r).filter p = l.filter p := by
    rw [List.filter_filter]
    refine List.filter_congr fun x hx => ?_
    cases hpx : p x
    · rfl
    · rw [hp x hx hpx]; rfl
  have hright : ((l.filter r).filter fun x => !p x) = l.filter q := by
    rw [List.filter_filter]
    exact List.filter_congr fun x hx => by rw [hq x hx, Bool.and_comm]
  rw [← hleft, ← hright]
  exact List.filter_append_perm ..

section
variable {es : List (Nat × Nat)} {e : Nat × Nat} {k : Nat}

/-- The byte of a key by which the finer histogram counts (R168). -/
def subByte (e : Nat × Nat) : Nat := bits e.1 23 16

/-- The entries above a coarse bucket, and those of it that a predicate takes. -/
def aboveAnd (es : List (Nat × Nat)) (t : Nat) (q : Nat × Nat → Bool) : List (Nat × Nat) :=
  (es.filter fun x => topByte x > t) ++ (es.filter fun x => topByte x == t).filter q

theorem aboveAnd_perm (t : Nat) (q : Nat × Nat → Bool) {r : Nat × Nat → Bool}
    (hr : ∀ x ∈ es, r x = (decide (topByte x > t) || (topByte x == t && q x))) : (aboveAnd es t q).Perm (es.filter r) := by
  rw [aboveAnd, List.filter_filter]
  refine filter_append_filter_perm (fun x hx h => ?_) fun x hx => ?_
  · rw [hr x hx, h]; rfl
  · rw [hr x hx]
    by_cases h : t < topByte x
    · simp [h, h.ne']
    · simp [h, Bool.and_comm]

end

/-- The elements above a number and those at it are the elements from it on. -/
theorem filter_gt_append_eq_perm {α : Type} (g : α → Nat) (t : Nat) (l : List α) :
    ((l.filter fun x => g x > t) ++ l.filter fun x => g x == t).Perm (l.filter fun x => g x ≥ t) :=
  filter_append_filter_perm (fun x _ h => by simp only [decide_eq_true_eq] at h ⊢; omega) fun x _ => by
    rw [Bool.eq_iff_iff]
    simp only [beq_iff_eq, Bool.and_eq_true, Bool.not_eq_true', decide_eq_true_eq, decide_eq_false_iff_not]
    omega

section
variable {es : List (Nat × Nat)} {k t0 t1 : Nat}

/-- TIE_COUNT: the valid entries that share the key of the last one returned (R175). -/
def tieCount (es ret : List (Nat × Nat)) : Nat := match ret.getLast? with
  | none => 0
  | some l => (es.filter fun x => x.1 == l.1).length

/-- The entries of the two threshold buckets. -/
def subBucket (es : List (Nat × Nat)) (t0 t1 : Nat) : List (Nat × Nat) := (es.filter fun x => topByte x == t0).filter fun x => subByte x == t1

/-- Selection under its two thresholds: beyond the buffer at the coarse level it descends, beyond it at the finer one too it keeps of the
threshold sub-bucket the entries of lowest index (R168). -/
theorem selectTop_eq (h0 : threshold k 0 topByte es = t0)
    (h1 : threshold k (es.filter fun x => topByte x > t0).length subByte (es.filter fun x => topByte x == t0) = t1) :
    selectTop k es =
      let descent := decide (512 < (es.filter fun x => topByte x ≥ t0).length)
      if descent && decide (512 < (aboveAnd es t0 fun x => subByte x ≥ t1).length) then
        let above := aboveAnd es t0 fun x => subByte x > t1
        let here := subBucket es t0 t1
        (rankSort (above ++ (here.mergeSort fun x y => decide (x.2 ≤ y.2)).take (k - above.length)), descent, true, here.length)
      else
        let ret := (rankSort (if descent then aboveAnd es t0 fun x => subByte x ≥ t1 else es.filter fun x => topByte x ≥ t0)).take
          (min k es.length)
        (ret, descent, false, tieCount es ret) := by
  have hcoarse := filter_gt_append_eq_perm topByte t0 es
  have hfine : (aboveAnd es t0 (fun x => subByte x > t1) ++ subBucket es t0 t1).Perm (aboveAnd es t0 fun x => subByte x ≥ t1) := by
    rw [aboveAnd, subBucket, List.append_assoc]
    exact (filter_gt_append_eq_perm subByte t1 _).append_left _
  have hsort : ∀ d : Bool,
      rankSort (if d then aboveAnd es t0 fun x => subByte x ≥ t1 else es.filter fun x => topByte x ≥ t0) =
      rankSort (if d then aboveAnd es t0 (fun x => subByte x > t1) ++ subBucket es t0 t1
        else (es.filter fun x => topByte x > t0) ++ es.filter fun x => topByte x == t0)
    | false => (rankSort_congr hcoarse).symm
    | true => (rankSort_congr hfine).symm
  dsimp only
  rw [← hcoarse.length_eq, ← hfine.length_eq, List.length_append, List.length_append, hsort]
  subst h0 h1
  rfl

end

/-! ### What selection returns (R168 to R170) -/

section
variable {es : List (Nat × Nat)} {e : Nat × Nat} {k : Nat}

/-- A row of fewer than k valid entries returns them all. -/
theorem selectTop_short (hshort : es.length < k) (hk : k ≤ 512) : selectTop k es = (rankSort es, false, false, tieCount es (rankSort es)) := by
  have hall : (es.filter fun x => topByte x ≥ 0) = es := List.filter_eq_self.2 fun _ _ => decide_eq_true (Nat.zero_le _)
  rw [selectTop_eq (threshold_short (by omega)) rfl]
  simp only [hall, Nat.not_lt.2 (hshort.le.trans hk), decide_false, Bool.false_and, Bool.false_eq_true, if_false,
    Nat.min_eq_right hshort.le, List.take_of_length_le (rankSort_length es).le]

theorem topByte_eq {x : Nat × Nat} (h : x.1 < 2 ^ 32) : topByte x = x.1 / 16777216 := by unfold topByte bits; omega

theorem key_upper_half {x : Nat × Nat} (h : x.1 < 2 ^ 32) : x.1 / 65536 = topByte x * 256 + subByte x := by
  unfold topByte subByte bits
  omega

theorem subByte_lt (x : Nat × Nat) : subByte x < 256 := Nat.mod_lt _ (by decide)

theorem kth_key_lt (he : (rankSort es)[k - 1]? = some e) (hkeys : ∀ x ∈ es, x.1 < 2 ^ 32) : e.1 < 2 ^ 32 :=
  hkeys e ((rankSort_perm es).mem_iff.1 (List.mem_of_getElem? he))

section
variable (hk : 0 < k) (he : (rankSort es)[k - 1]? = some e) (hkeys : ∀ x ∈ es, x.1 < 2 ^ 32)
include hk he hkeys

theorem threshold_topByte : threshold k 0 topByte es = topByte e := by
  have he' := kth_key_lt he hkeys
  refine threshold_eq (by rw [topByte_eq he']; omega) ?_ fun b hb => ?_
  · rw [Nat.zero_add]
    refine kth_le_count hk he fun x hx h => ?_
    rw [decide_eq_true_eq, topByte_eq he', topByte_eq (hkeys x hx)]
    omega
  · rw [Nat.zero_add]
    refine count_lt_kth hk he fun x hx h => ?_
    rw [decide_eq_true_eq, topByte_eq (hkeys x hx)] at h
    rw [topByte_eq he'] at hb
    omega

theorem threshold_subByte : threshold k (es.filter fun x => topByte x > topByte e).length subByte
    (es.filter fun x => topByte x == topByte e) = subByte e := by
  have he' := key_upper_half (kth_key_lt he hkeys)
  have hcount : ∀ b, (es.filter fun x => topByte x > topByte e).length +
      ((es.filter fun x => topByte x == topByte e).filter fun x => subByte x ≥ b).length =
      (es.filter fun x => decide (topByte x > topByte e) || (topByte x == topByte e && decide (subByte x ≥ b))).length := fun b => by
    rw [← List.length_append]
    exact (aboveAnd_perm _ _ fun _ _ => rfl).length_eq
  refine threshold_eq (subByte_lt e) ?_ fun b hb => ?_
  · rw [hcount]
    refine kth_le_count hk he fun x hx h => ?_
    have := key_upper_half (hkeys x hx)
    have := subByte_lt x
    have := subByte_lt e
    simp only [Bool.or_eq_true, Bool.and_eq_true, decide_eq_true_eq, beq_iff_eq]
    omega
  · rw [hcount]
    refine count_lt_kth hk he fun x hx h => ?_
    have := key_upper_half (hkeys x hx)
    have := subByte_lt x
    have := subByte_lt e
    simp only [Bool.or_eq_true, Bool.and_eq_true, decide_eq_true_eq, beq_iff_eq] at h
    omega

end

theorem above_subByte_ge (hkeys : ∀ x ∈ es, x.1 < 2 ^ 32) (t0 : Nat) {t : Nat} (ht : t ≤ 256) : (aboveAnd es t0 fun x => subByte x ≥ t).Perm
    (es.filter fun x => decide (t0 * 256 + t ≤ x.1 / 65536)) :=
  aboveAnd_perm _ _ fun x hx => by
    have := subByte_lt x
    rw [Bool.eq_iff_iff, key_upper_half (hkeys x hx)]
    simp only [Bool.or_eq_true, Bool.and_eq_true, decide_eq_true_eq, beq_iff_eq]
    omega

section
variable (he : e.1 < 2 ^ 32) (hkeys : ∀ x ∈ es, x.1 < 2 ^ 32)
include he hkeys

theorem filter_topByte_ge : (es.filter fun x => topByte x ≥ topByte e) = es.filter fun x => decide (e.1 / 16777216 ≤ x.1 / 16777216) :=
  List.filter_congr fun x hx => by rw [topByte_eq he, topByte_eq (hkeys x hx)]

theorem subBucket_eq : subBucket es (topByte e) (subByte e) = es.filter fun x => x.1 / 65536 == e.1 / 65536 := by
  rw [subBucket, List.filter_filter]
  refine List.filter_congr fun x hx => ?_
  have := subByte_lt x
  have := subByte_lt e
  rw [Bool.eq_iff_iff, key_upper_half he, key_upper_half (hkeys x hx)]
  simp only [Bool.and_eq_true, beq_iff_eq]
  omega

end

section
variable (hk : 0 < k) (he : (rankSort es)[k - 1]? = some e)
include hk he

theorem take_rankSort_filter_of_kth {P : Nat × Nat → Bool} (hP : ∀ x ∈ es, e.1 ≤ x.1 → P x = true) :
    (rankSort (es.filter P)).take (min k es.length) = (rankSort es).take k := by
  rw [Nat.min_eq_left (length_of_kth hk he), rankSort_filter, take_filter_of_kth hk he hP]

theorem tieCount_take : tieCount es ((rankSort es).take k) = (es.filter fun x => x.1 == e.1).length := by
  have hlast : ((rankSort es).take k).getLast? = some e := by
    rw [List.getLast?_take, if_neg hk.ne', he, Option.some_or]
  rw [tieCount, hlast]

/-- Selection of a row with a k-th entry: the first k in rank order, or the approximation about its upper half (R168, R169). -/
theorem selectTop_kth (hkeys : ∀ x ∈ es, x.1 < 2 ^ 32) : selectTop k es =
    let descent := decide (512 < (es.filter fun x => decide (e.1 / 16777216 ≤ x.1 / 16777216)).length)
    if descent && decide (512 < (es.filter fun x => decide (e.1 / 65536 ≤ x.1 / 65536)).length) then
      let above := es.filter fun x => decide (e.1 / 65536 < x.1 / 65536)
      let here := es.filter fun x => x.1 / 65536 == e.1 / 65536
      (rankSort (above ++ (here.mergeSort fun x y => decide (x.2 ≤ y.2)).take (k - above.length)), true, true, here.length)
    else ((rankSort es).take k, descent, false, (es.filter fun x => x.1 == e.1).length) := by
  have he32 := kth_key_lt he hkeys
  have hgt : (aboveAnd es (topByte e) fun x => subByte x > subByte e).Perm (es.filter fun x => decide (e.1 / 65536 < x.1 / 65536)) := by
    rw [key_upper_half he32]
    exact above_subByte_ge hkeys _ (subByte_lt e)
  have hge : (aboveAnd es (topByte e) fun x => subByte x ≥ subByte e).Perm (es.filter fun x => decide (e.1 / 65536 ≤ x.1 / 65536)) := by
    rw [key_upper_half he32]
    exact above_subByte_ge hkeys _ (subByte_lt e).le
  have hret : ∀ d : Bool, (rankSort (if d then aboveAnd es (topByte e) fun x => subByte x ≥ subByte e
      else es.filter fun x => decide (e.1 / 16777216 ≤ x.1 / 16777216))).take (min k es.length) = (rankSort es).take k
    | false => take_rankSort_filter_of_kth hk he fun x _ h => decide_eq_true (Nat.div_le_div_right h)
    | true => by
      rw [if_pos rfl, rankSort_congr hge]
      exact take_rankSort_filter_of_kth hk he fun x _ h => decide_eq_true (Nat.div_le_div_right h)
  rw [selectTop_eq (threshold_topByte hk he hkeys) (threshold_subByte hk he hkeys)]
  dsimp only
  rw [filter_topByte_ge he32 hkeys, hge.length_eq, hgt.length_eq, subBucket_eq he32 hkeys, hret, tieCount_take hk he]
  refine ite_congr rfl (fun h => ?_) fun _ => rfl
  rw [(Bool.and_eq_true _ _).mp h |>.1, rankSort_congr (hgt.append_right _)]

end

end

/-! ### The partial result of a closed row (R173 to R175) -/

theorem length_filter_pos_eq_any {α : Type} (q : α → Bool) (l : List α) : decide (0 < (l.filter q).length) = l.any q := by
  rw [Bool.eq_iff_iff, decide_eq_true_eq, List.length_pos_iff_exists_mem, List.any_eq_true]
  simp only [List.mem_filter]

/-- The masses of a row with a +inf entry are numbers of its +inf entries, those of another its accumulated mass and what of it was
selected: REF_MAX, TOTAL_MASS, SELECTED_MASS and LEFT_MASS (R174, R175). -/
def RowAcc.masses (a : RowAcc) (p : Sampling) (ret : List (Nat × Nat)) : F32 × F32 × F32 × F32 :=
  let infs := (a.vals.reverse.filter fun e => e.1 == infKey).length
  let infRet := (ret.filter fun e => e.1 == infKey).length
  let selected := sumF (ret.map fun e => F.scale (temperatureOf p) (F.sub (keyValue e.1) a.m))
  if infs > 0 then (F.posInf, F.ofNat infs, F.ofNat infRet, F.ofNat (infs - infRet))
  else (a.m, a.s, selected, max0 (F.sub a.s selected))

/-- Settles O31: the thresholds lie at the k-th entry's bytes, and a closed row carries what selection returns. -/
theorem selectionKeepsTheLargest : Obligations.SelectionKeepsTheLargest := by
  refine ⟨fun k es hshort hk => ?_, fun k es e hk _ _ hkeys he => selectTop_kth hk he hkeys, fun a p row step shard portError slabError => ?_⟩
  · rw [selectTop_short hshort hk, tieCount]
    cases (rankSort es).getLast? <;> rfl
  · intro r es k sel inf infs infRet
    have hinf : decide (infs > 0) = inf := length_filter_pos_eq_any _ _
    have hmasses : (r.refMax, r.totalMass, r.selectedMass, r.leftMass) = a.masses p sel.1 := rfl
    refine ⟨rfl, rfl, rfl, rfl, rfl, rfl, rfl, rfl, rfl, ?_, fun h => ?_, fun h => ?_⟩
    · have hempty : es.isEmpty = (es.length == 0) := by cases es <;> rfl
      rw [hempty, ← hinf]
      rfl
    · rw [RowAcc.masses, if_pos (of_decide_eq_true (hinf.trans h))] at hmasses
      simpa only [Prod.mk.injEq] using hmasses
    · rw [RowAcc.masses, if_neg (of_decide_eq_false (hinf.trans h))] at hmasses
      obtain ⟨hmax, htotal, hselected, hleft⟩ := by simpa only [Prod.mk.injEq] using hmasses
      exact ⟨hmax, htotal, hselected, by rw [hleft, hselected]⟩

end Sys2Proof.Machine
end

section
/-! Logit segments (R154 to R157, R166, R323): the queue a segment comes to and leaves, what the segment at its head does, and a row that
closes. -/

namespace Sys2Proof.Machine
open Sys2Proof

section
variable {b : Block} {port : Nat} {seg : Segment} {h : RowHeader} {r : RowRec} {c : RowContext}

/-! ### A port's queue (R323) -/

/-- A segment in the queue of a port where none waits. -/
def Block.queued (b : Block) (port : Nat) (seg : Segment) : Block := { b with thr := { b.thr with skid := [(port, seg, b.knownTag seg)] } }

/-- The block once a segment has left its port's queue. -/
def Block.without (b : Block) (x : Nat × Segment × Bool) : Block := { b with thr := { b.thr with skid := b.thr.skid.erase x } }

/-- A segment at a port where none waits: it leaves its queue where it is taken, and else stays in it. -/
theorem segment_eq (hrun : b.running = true) (hepoch : b.cp.epoch ≠ 0) (hskid : b.thr.skid = []) : b.segment port seg =
    ((b.queued port seg).headSegment port seg (b.knownTag seg)).elim (b.queued port seg) (·.without (port, seg, b.knownTag seg)) := by
  have hstate : (b.cp.state == .bufferStop) = false := by
    cases hs : b.cp.state <;> simp [Block.running, hs] at hrun ⊢
  have hdrains : b.segment port seg = Block.drainPort port 1 (b.queued port seg) := by
    simp only [Block.segment, hstate, hrun, hepoch, hskid, Bool.false_eq_true, if_false, Bool.not_true, decide_false, Bool.or_self]
    rfl
  have hrun' : (b.queued port seg).running = true := hrun
  have hfirst : (b.queued port seg).thr.skid.find? (fun x => x.1 == port) = some (port, seg, b.knownTag seg) :=
    List.find?_cons_of_pos (beq_self_eq_true port)
  rw [hdrains]
  simp only [Block.drainPort, hrun', Bool.not_true, Bool.false_eq_true, if_false, hfirst]
  cases (b.queued port seg).headSegment port seg (b.knownTag seg) <;> rfl

/-! ### The head of a port's queue (R154 to R156, R166) -/

/-- The context that a row opens with its first segment (R155). -/
def Block.firstContext (b : Block) (port : Nat) (h : RowHeader) (r : RowRec) : RowContext :=
  { port := port, row := h.row, tag := h.itemTag, format := h.format, nextIndex := 0, acc := {}, portError := false
    slabError := b.thr.slabBad.contains r.handle }

/-- What becomes of a segment of an open row under a tag of the step. -/
def Block.openSegment (b : Block) (port : Nat) (h : RowHeader) (seg : Segment) (r : RowRec) : Option Block :=
  let ctx := b.thr.contexts.find? fun c => c.row == h.row
  if b.segmentFault port h ctx then some (b.stop .logitProtocol srcThresher [port, h.itemTag, h.row])
  else if !b.slabStaged r.handle then none
  else match ctx with
  | some c => some (b.takeSegment h seg r c)
  | none => if (b.thr.contexts.filter fun c => c.port == port).length ≥ 16 then none
    else some (b.takeSegment h seg r (b.firstContext port h r))

theorem headSegment_stale (hheader : seg.header = some h) (hstep : h.step16 = b.consistNow.step % 65536) (hrow : b.rowAt h.row = some r)
    (hsample : r.sample = true) (hshard : (shardOf (b.mapOf r) b.cp.rank).isSome = true) (hold : b.dsp.oldTags.contains h.itemTag = true)
    (known : Bool) : b.headSegment port seg known = some (b.discardSegment port h true) := by
  simp only [Block.headSegment, hheader, hstep, bne_self_eq_false, Bool.false_eq_true, if_false, hrow, hsample, Bool.not_true, Bool.false_or,
    Option.isNone_eq_false_iff.2 hshard, hold, if_true]

section
variable (hstreams : b.Streams h r)
include hstreams

theorem knownTag_of_streams (hheader : seg.header = some h) : b.knownTag seg = true := by
  obtain ⟨-, -, -, -, -, -, -, htag, -⟩ := hstreams
  rw [Block.knownTag, hheader]
  exact htag

theorem headSegment_open (hheader : seg.header = some h) : b.headSegment port seg true = b.openSegment port h seg r := by
  obtain ⟨-, -, hstep, hrow, hsample, hshard, hnew, -, hopen⟩ := hstreams
  simp only [Block.headSegment, hheader, hstep, bne_self_eq_false, Bool.false_eq_true, if_false, hrow, hsample, Bool.not_true, Bool.false_or,
    Option.isNone_eq_false_iff.2 hshard, hnew, hopen]
  rfl

theorem segmentFault_of_broken (hbroken : h.segFirst = true ∨ c.port ≠ port ∨ c.format ≠ h.format ∨ c.tag ≠ h.itemTag ∨ headerElems h = 0 ∨
    headerBase h < c.nextIndex ∨ b.vocab r < headerBase h + headerElems h) : b.segmentFault port h (some c) = true := by
  obtain ⟨-, -, -, hrow, -⟩ := hstreams
  simp only [Block.segmentFault, hrow, Bool.or_eq_true, bne_iff_ne, decide_eq_true_eq]
  tauto

end

theorem openSegment_faults (hfault : b.segmentFault port h (b.thr.contexts.find? fun c => c.row == h.row) = true) :
    b.openSegment port h seg r = some (b.stop .logitProtocol srcThresher [port, h.itemTag, h.row]) := if_pos hfault

section
variable {ctx : Option RowContext} (hctx : b.thr.contexts.find? (fun k => k.row == h.row) = ctx) (hgood : b.segmentFault port h ctx = false)
include hctx hgood

theorem openSegment_unstaged (hslab : b.slabStaged r.handle = false) : b.openSegment port h seg r = none := by
  simp [Block.openSegment, hctx, hgood, hslab]

theorem openSegment_full (hnone : ctx = none) (hfull : 16 ≤ (b.thr.contexts.filter fun c => c.port == port).length) :
    b.openSegment port h seg r = none := by
  subst hnone
  simp [Block.openSegment, hctx, hgood, hfull]

theorem openSegment_continues (hsome : ctx = some c) (hslab : b.slabStaged r.handle = true) :
    b.openSegment port h seg r = some (b.takeSegment h seg r c) := by
  subst hsome
  simp [Block.openSegment, hctx, hgood, hslab]

theorem openSegment_starts (hnone : ctx = none) (hslab : b.slabStaged r.handle = true)
    (hroom : (b.thr.contexts.filter fun c => c.port == port).length < 16) :
    b.openSegment port h seg r = some (b.takeSegment h seg r (b.firstContext port h r)) := by
  subst hnone
  simp [Block.openSegment, hctx, hgood, hslab, hroom]

end

end

/-! ### A segment that is taken (R155, R157) -/

section
variable {b : Block} {seg : Segment} {h : RowHeader} {r : RowRec} {c : RowContext}

/-- What selection has gathered of a row with a segment: its elements where its CRC holds (R157). -/
def Block.accWith (b : Block) (h : RowHeader) (seg : Segment) (r : RowRec) (c : RowContext) : RowAcc :=
  let count := fun k => (((b.slab (slotOf r.handle)).find? fun y => y.2.token == k).map (·.2.count)).getD 0
  if segmentIntact h seg then RowAcc.beats (b.ent (slotOf r.handle)).sampling count h.format c.acc (headerBase h) (headerElems h) seg.beats
  else c.acc

/-- A row's context with a segment. -/
def Block.contextWith (b : Block) (h : RowHeader) (seg : Segment) (r : RowRec) (c : RowContext) : RowContext :=
  { c with
    nextIndex := headerBase h + headerElems h, beats := c.beats + seg.beats.length, acc := b.accWith h seg r c
    portError := c.portError || !segmentIntact h seg }

/-- The descents of a segment are counted (log entry 112). -/
def Block.descendsWith (b : Block) (h : RowHeader) (seg : Segment) (r : RowRec) (c : RowContext) : Block :=
  let acc := b.accWith h seg r c
  if acc.descents = c.acc.descents then b else b.count 13 (acc.descents - c.acc.descents)

/-- The contexts of the other rows. -/
def Block.otherContexts (b : Block) (row : Nat) : List RowContext := b.thr.contexts.filter fun x => x.row != row

theorem descendsWith_frame (b : Block) (h : RowHeader) (seg : Segment) (r : RowRec) (c : RowContext) :
    ∃ obs, b.descendsWith h seg r c = { b with obs } := by
  unfold Block.descendsWith
  dsimp only
  split
  · exact ⟨b.obs, rfl⟩
  · exact ⟨_, rfl⟩

/-- The partial result of a row that closes with a segment. -/
def Block.resultWith (b : Block) (h : RowHeader) (seg : Segment) (r : RowRec) (c : RowContext) : PartialResult :=
  let next := b.contextWith h seg r c
  next.acc.close (b.ent (slotOf r.handle)).sampling h.row (b.consistNow.step % 65536) ((shardOf (b.mapOf r) b.cp.rank).getD 0) next.portError
    next.slabError

theorem takeSegment_before_last (hlast : h.segLast = false) : b.takeSegment h seg r c =
    let d := b.descendsWith h seg r c
    { d with thr := { d.thr with contexts := b.otherContexts h.row ++ [b.contextWith h seg r c] } } := by
  have htake : b.takeSegment h seg r c =
      let d := b.descendsWith h seg r c
      { d with thr := { d.thr with contexts := d.otherContexts h.row ++ [b.contextWith h seg r c] } } := if_neg (Bool.eq_false_iff.1 hlast)
  obtain ⟨obs, hd⟩ := descendsWith_frame b h seg r c
  rw [htake, hd]
  rfl

theorem takeSegment_last (hlast : h.segLast = true) : b.takeSegment h seg r c =
    let d := b.descendsWith h seg r c
    (({ d with thr := { d.thr with contexts := b.otherContexts h.row } } : Block).closeRow h.row h.format (b.resultWith h seg r c)).setShadow
      (shadowOf c.port h) := by
  have htake : b.takeSegment h seg r c =
      let d := b.descendsWith h seg r c
      let next := b.contextWith h seg r c
      (({ d with thr := { d.thr with contexts := d.otherContexts h.row } } : Block).closeRow h.row h.format
        (next.acc.close (b.ent (slotOf r.handle)).sampling h.row (d.consistNow.step % 65536) ((shardOf (d.mapOf r) d.cp.rank).getD 0)
          next.portError next.slabError)).setShadow (shadowOf c.port h) := if_pos hlast
  obtain ⟨obs, hd⟩ := descendsWith_frame b h seg r c
  rw [htake, hd]
  rfl

end

/-! ### A row that closes (R157, R186) -/

/-- The copies of a row's result that other ranks have asked for go out when it closes (R187). -/
def Block.answerAsked (b : Block) (row step fmt : Nat) (p : PartialResult) : Block :=
  let mine := b.gln.asked.filter fun a => a.1 == row && a.2.2 == step % 4294967296
  let c := mine.foldl (fun (b : Block) a => b.send (some a.2.1) (.gleanData row step fmt p)) b
  { c with gln := { c.gln with asked := c.gln.asked.filter fun a => !mine.contains a } }

theorem answerAsked_none {b : Block} {row step fmt : Nat} {p : PartialResult} (h : b.gln.asked = []) : b.answerAsked row step fmt p = b := by
  simp only [Block.answerAsked, h, List.filter_nil, List.foldl_nil]
  rw [← h]

theorem closeRow_sends {b : Block} {row format : Nat} {p : PartialResult} {d : Nat × Descriptor} (hmain : b.mainModel = some d)
    (hasked : b.gln.asked = []) : b.closeRow row format p =
      ({ b.write (d.2.stage.gleanBase + row * 576) (padTo 576 (partialBytes p)) with
          thr := { b.thr with closed := b.thr.closed ++ [row], contexts := b.thr.contexts.filter fun c => c.row != row }
          gln := { b.gln with resend := Tab.set row (b.consistNow.step, format, p) b.gln.resend } } : Block).send none
        (.gleanData row b.consistNow.step format p) := by
  refine .trans ?_ (answerAsked_none (row := row) (step := b.consistNow.step) (fmt := format) (p := p) ?_)
  · unfold Block.closeRow
    rw [hmain]
    rfl
  · exact hasked

/-! ### The command -/

section
variable {x : State} {t : Time} {port : Nat} {seg : Segment}

theorem exec_logitSegment_serving (hserves : x.Serving) : exec (.logitSegment t port seg) x =
    .next (x.settled (x.blk.atTime t) ((x.seen t (if port = 0 then .ls0 else .ls1)).segment port seg)) := by
  obtain ⟨hdead, hsafe⟩ := hserves
  have hclock : (if port = 0 then some PortClock.ls0 else some .ls1) = some (if port = 0 then .ls0 else .ls1) := by split <;> rfl
  rw [exec_logitSegment, hclock, port_serving hdead hsafe]

end

/-- Settles O30: a segment comes to the head of its port's queue, where it waits or leaves by what it is; a row that closes is sent on. -/
theorem segmentsBecomePartialResults : Obligations.SegmentsBecomePartialResults := by
  refine ⟨fun x t port seg h r hserves _ hheader hskid => ?_, fun b row format p d hmain hasked => closeRow_sends hmain hasked⟩
  intro b q leave run ctx
  have hrun : run = .next (x.settled (x.blk.atTime t) (b.segment port seg)) := exec_logitSegment_serving hserves
  have hhead : b.running = true → b.cp.epoch ≠ 0 → run = .next (x.settled (x.blk.atTime t)
      ((q.headSegment port seg (b.knownTag seg)).elim q leave)) := fun hrunning hepoch => by
    rw [hrun, segment_eq hrunning hepoch hskid]
    rfl
  have hopen : b.Streams h r → run = .next (x.settled (x.blk.atTime t) ((q.openSegment port h seg r).elim q leave)) := fun hs => by
    have ⟨hrunning, hepoch, _⟩ := hs
    rw [hhead hrunning hepoch, knownTag_of_streams hs hheader, headSegment_open (b := q) hs hheader]
  refine ⟨fun c hs hctx hgood hslab => ?_, fun hs hctx hgood hslab hroom => ?_, fun hs hgood hwait => ?_, fun c hs hctx hbroken => ?_,
    fun hrunning hepoch hstep hrow hsample hshard hold => ?_⟩
  · intro e count acc next rest d
    rw [hopen hs, openSegment_continues (b := q) hctx hgood rfl hslab]
    refine ⟨fun hlast => ?_, fun hlast => ?_⟩
    · rw [takeSegment_before_last hlast]
      rfl
    · rw [takeSegment_last hlast]
      rfl
  · rw [hopen hs, openSegment_starts (b := q) hctx hgood rfl hslab hroom]
    rfl
  · have hstays : q.openSegment port h seg r = none := by
      obtain hslab | ⟨hnone, hfull⟩ := hwait
      · exact openSegment_unstaged (b := q) rfl hgood hslab
      · exact openSegment_full (b := q) rfl hgood hnone hfull
    rw [hopen hs, hstays]
    rfl
  · have hfault : q.segmentFault port h (q.thr.contexts.find? fun k => k.row == h.row) = true := by
      rw [show q.thr.contexts.find? (fun k => k.row == h.row) = some c from hctx]
      exact segmentFault_of_broken (b := q) hs hbroken
    rw [hopen hs, openSegment_faults hfault]
    rfl
  · rw [hhead hrunning hepoch, headSegment_stale (b := q) hheader hstep hrow hsample hshard hold]
    rfl

end Sys2Proof.Machine
end

section
/-! Contributions and verdicts at the Glean (R164, R189 to R192): what a GLEAN_DATA is refused for, what one that is kept leaves, and the
lead's verdict. -/

namespace Sys2Proof.Machine
open Sys2Proof

/-! ### A row of the Glean -/

section
variable {b : Block} {row : Nat} {f g : GleanRow → GleanRow}

theorem gleanRow_modGlean (b : Block) (row : Nat) (f : GleanRow → GleanRow) : (b.modGlean row f).gleanRow row = f (b.gleanRow row) :=
  Tab.getD_set_self ..

theorem modGlean_congr (h : f (b.gleanRow row) = g (b.gleanRow row)) : b.modGlean row f = b.modGlean row g := by
  simp only [Block.gleanRow] at h
  simp only [Block.modGlean, Tab.upd, h]

end

/-! ### A contribution (R164, R189, R191) -/

section
variable {b : Block} {src row step fmt s : Nat} {p : PartialResult} {r : RowRec}

/-- Why the contribution of shard s is discarded: it is of another step, or held, or its row's list or verdict leaves it out. -/
def Block.refusesContrib (b : Block) (row step s : Nat) : Bool :=
  let g := b.gleanRow row
  step % 4294967296 != b.consistNow.step % 4294967296 || Tab.has s g.contribs || g.final.isSome ||
    g.verdict.any fun v => v.outcome == 1 || !bit v.used s

theorem refusesContrib_iff : b.refusesContrib row step s = true ↔
    step % 4294967296 ≠ b.consistNow.step % 4294967296 ∨ Tab.has s (b.gleanRow row).contribs = true ∨ (b.gleanRow row).final.isSome = true ∨
      ∃ v, (b.gleanRow row).verdict = some v ∧ (v.outcome = 1 ∨ bit v.used s = false) := by
  simp only [Block.refusesContrib, Bool.or_eq_true, bne_iff_ne, Option.any_eq_true, beq_iff_eq, Bool.not_eq_true', or_assoc]

theorem takes_new_contrib (hstep : step = b.consistNow.step) (hnew : Tab.has s (b.gleanRow row).contribs = false)
    (hfinal : (b.gleanRow row).final = none) (hverdict : (b.gleanRow row).verdict = none) : b.refusesContrib row step s = false := by
  simp [Block.refusesContrib, hstep, hnew, hfinal, hverdict]

/-- A row with one more contribution: its timers start with its first. -/
def Block.withContrib (b : Block) (s fmt : Nat) (p : PartialResult) (g : GleanRow) : GleanRow :=
  { g with
    contribs := Tab.set s (fmt, p) g.contribs, first := g.first.orElse fun _ => some b.now
    resendAt := g.resendAt.orElse fun _ => some (b.now + b.mdl.glean.resendAfter * 1000) }

/-- The block with a contribution kept, a SLAB_ERROR noted. -/
def Block.keepContrib (b : Block) (row s fmt handle : Nat) (p : PartialResult) : Block :=
  let c := b.modGlean row (b.withContrib s fmt p)
  if p.flags.slabError then c.slabBroken handle else c

theorem keepContrib_frame (b : Block) (row s fmt handle : Nat) (p : PartialResult) :
    ∃ gr, b.keepContrib row s fmt handle p = { b.modGlean row (b.withContrib s fmt p) with gr } := by
  unfold Block.keepContrib
  split
  · exact ⟨_, rfl⟩
  · exact ⟨b.gr, rfl⟩

/-- GLEAN_DATA of a sampled row from a rank that holds a shard of its model. -/
theorem gleanData_eq (hrun : b.running = true) (hview : b.viewed src 3 = b) (hrow : b.rowAt row = some r) (hsample : r.sample = true)
    (hshard : shardOf (b.mapOf r) src = some s) : b.gleanData src row step fmt p =
      if b.refusesContrib row step s then { b with gln := { b.gln with discarded := b.gln.discarded + 1 } }
      else (b.keepContrib row s fmt r.handle p).gleanAdvance row := by
  unfold Block.gleanData Block.refusesContrib
  simp only [hrun, hview, hrow, hshard, hsample, Bool.not_true, Bool.false_eq_true, if_false, Bool.false_or, Bool.or_assoc]
  cases step % 4294967296 != b.consistNow.step % 4294967296 <;> rfl

theorem keepContrib_row (b : Block) (row s fmt handle : Nat) (p : PartialResult) :
    (b.keepContrib row s fmt handle p).gleanRow row = b.withContrib s fmt p (b.gleanRow row) := by
  obtain ⟨gr, h⟩ := keepContrib_frame b row s fmt handle p
  rw [h]
  exact gleanRow_modGlean ..

theorem keepContrib_same (b : Block) (row s fmt handle : Nat) (p : PartialResult) (r : RowRec) :
    (b.keepContrib row s fmt handle p).cp = b.cp ∧ (b.keepContrib row s fmt handle p).rowAt row = b.rowAt row ∧
    (b.keepContrib row s fmt handle p).mapOf r = b.mapOf r := by
  obtain ⟨gr, h⟩ := keepContrib_frame b row s fmt handle p
  rw [h]
  exact ⟨rfl, rfl, rfl⟩

end

/-! ### A row moves on (R189, R190) -/

section
variable {b : Block} {row : Nat} {r : RowRec}

theorem isLead_of_cp {c : Block} (h : c.cp = b.cp) : c.isLead = b.isLead := by rw [Block.isLead, Block.isLead, h]

section
variable (hrow : b.rowAt row = some r) (hfinal : (b.gleanRow row).final = none) (hverdict : (b.gleanRow row).verdict = none)
include hrow hfinal hverdict

theorem gleanAdvance_waits (hlead : b.isLead = false) : b.gleanAdvance row = b := by
  simp [Block.gleanAdvance, hrow, hfinal, hverdict, hlead]

theorem gleanAdvance_settles {u : Nat} (hlead : b.isLead = true) (hcollect : b.cp.collect = none)
    (hused : usedNow (replicaSets (b.mapOf r)) (b.gleanRow row) = some u) : b.gleanAdvance row = b.leadVerdict row r (some u) := by
  simp [Block.gleanAdvance, hrow, hfinal, hverdict, hlead, hcollect, hused]

end

/-- The lead's verdict over contributions that merge without a mismatch (R189, R190). -/
theorem leadVerdict_merges {used : Nat} {f : PartialResult} (hmerge : b.mergeUsed row r used = some (f, []))
    (hmask : bit b.obs.traceMask 7 = false) :
    let v : Verdict := { outcome := 0, used, missing := 0, digest := crc64 (partialBytes f) }
    b.leadVerdict row r (some used) =
      ((b.modGlean row fun g => { g with verdict := some v, verdictAt := some b.now }).send none
        (.gleanVerdict row b.consistNow.step v)).rowEffect row r f [] := by
  intro v
  have htrace : verdictTrace (b.modGlean row fun g => { g with verdict := some v, verdictAt := some b.now }) row v = _ := trace_off _ _ _ hmask
  unfold Block.leadVerdict
  simp only [hmerge, Option.map_some, Nat.zero_ne_one, if_false]
  rw [htrace]

end

/-! ### The command -/

section
variable {x : State} {t : Time} {rx : Rx} {row step fmt : Nat} {p : PartialResult}

theorem viewed_taken (b : Block) (rx : Rx) (c : Nat) (st : Option Nat) : (b.taken rx c st).viewed rx.src c = b.taken rx c st := by
  unfold Block.taken
  split <;> simp [Block.viewed]

theorem exec_gleanData_whole (hserves : x.Serving) (h : x.blk.Whole rx 3 (some step)) : exec (.gleanData t rx row step fmt p) x =
    .next (x.settled (x.blk.atTime t) ((x.got t rx 3 (some step)).gleanData rx.src row step fmt p)) := by
  obtain ⟨hdead, hsafe⟩ := hserves
  have hwhole : (x.seen t .fp).Whole rx 3 (some step) := h
  rw [exec_gleanData, port_serving hdead hsafe, rx_whole hwhole]
  rfl

end

/-- Settles O33: a contribution by what refuses it, else by how its row moves on; and the lead's verdict. -/
theorem contributionsSettleRows : Obligations.ContributionsSettleRows := by
  refine ⟨fun x t row step format s rx p r hserves hwhole => ?_, fun b row used r f hmerge hmask => leadVerdict_merges hmerge hmask⟩
  intro b hrun hrow hsample hshard g run noted
  have hrun : run = .next (x.settled (x.blk.atTime t) (if b.refusesContrib row step s
      then { b with gln := { b.gln with discarded := b.gln.discarded + 1 } }
      else (b.keepContrib row s format r.handle p).gleanAdvance row)) := by
    rw [← gleanData_eq hrun (viewed_taken ..) hrow hsample hshard]
    exact exec_gleanData_whole hserves hwhole
  have hkept : b.refusesContrib row step s = false →
      run = .next (x.settled (x.blk.atTime t) ((b.keepContrib row s format r.handle p).gleanAdvance row)) := fun h => by
    rw [hrun, h, if_neg Bool.false_ne_true]
  have hgrow := keepContrib_row b row s format r.handle p
  obtain ⟨hcp, hrow', hmap⟩ := keepContrib_same b row s format r.handle p r
  rw [hrow] at hrow'
  refine ⟨fun hstep hnew hfinal hverdict hfirst hresend hlead => ?_, fun u hstep hnew hfinal hverdict hlead hcollect => ?_, fun h => ?_⟩
  · have hstarts : b.modGlean row (b.withContrib s format p) = b.modGlean row fun g => { g with
        contribs := Tab.set s (format, p) g.contribs, first := some b.now, resendAt := some (b.now + b.mdl.glean.resendAfter * 1000) } :=
      modGlean_congr (by rw [Block.withContrib, show (b.gleanRow row).first = none from hfirst,
        show (b.gleanRow row).resendAt = none from hresend]; rfl)
    rw [hkept (takes_new_contrib hstep hnew hfinal hverdict), gleanAdvance_waits hrow' ((congrArg GleanRow.final hgrow).trans hfinal)
      ((congrArg GleanRow.verdict hgrow).trans hverdict) ((isLead_of_cp hcp).trans hlead), Block.keepContrib, hstarts]
    rfl
  · intro kept hused
    have hkeep : kept = b.keepContrib row s format r.handle p := rfl
    rw [hkeep, ← hmap] at hused
    rw [hkept (takes_new_contrib hstep hnew hfinal hverdict), gleanAdvance_settles hrow' ((congrArg GleanRow.final hgrow).trans hfinal)
      ((congrArg GleanRow.verdict hgrow).trans hverdict) ((isLead_of_cp hcp).trans hlead) (by rw [hcp, hcollect]) hused, hkeep]
  · rw [hrun, if_pos (refusesContrib_iff.2 h)]

end Sys2Proof.Machine
end

section
/-! The decision (R176 to R179, R205, R206): where the kept set ends, the place that a draw gives, the token of a final list, and the
children of a spine node. -/

namespace Sys2Proof.Machine
open Sys2Proof

/-! ### Running sums -/

/-- The sum of the first n of some weights, in their order, from c on. -/
def runSum (c : F32) (ws : List F32) (n : Nat) : F32 := (ws.take n).foldl F.add c

theorem sumF_eq_runSum (ws : List F32) : sumF ws = runSum F.zero ws ws.length := by rw [runSum, List.take_length, sumF]

/-! ### The kept set (R176) -/

section
variable {p : Sampling} {f : PartialResult}

/-- The entries that a final list returns. -/
def returnedOf (f : PartialResult) : List (Nat × Nat) := f.entries.take f.returned

/-- Their weights, relative to the first. -/
def weights (p : Sampling) (f : PartialResult) : List F32 :=
  (returnedOf f).map fun e => F.scale (temperatureOf p) (F.sub (keyValue e.1) (keyValue ((returnedOf f).headD (padKey, 0)).1))

/-- How many entries TOP_P leaves. -/
def topPrefix (p : Sampling) (f : PartialResult) : Nat :=
  if p.topP = F.one then (returnedOf f).length else keptSet.go (F.mul p.topP f.totalMass) (weights p f) F.zero 0

/-- How many entries MIN_P leaves. -/
def minPrefix (p : Sampling) (f : PartialResult) : Nat := ((weights p f).takeWhile fun x => F.le p.minP x).length

theorem weights_length : (weights p f).length = (returnedOf f).length := List.length_map ..

theorem keptSet_finite (h : f.flags.inf = false) :
    keptSet p f = (((returnedOf f).map (·.2)).zip (weights p f)).take (min (topPrefix p f) (minPrefix p f)) :=
  if_neg (Bool.eq_false_iff.1 h)

/-- The walk to a target ends where the running sum first reaches it, or with the list. -/
theorem keptSet_go_spec (target : F32) : ∀ (ws : List F32) (c : F32) (i : Nat), ∃ n ≤ ws.length, keptSet.go target ws c i = i + n ∧
    (∀ j < n, 0 < j → F.le target (runSum c ws j) = false) ∧ (n = ws.length ∨ 0 < n ∧ F.le target (runSum c ws n) = true)
  | [], c, i => ⟨0, le_refl _, rfl, fun _ h => absurd h (Nat.not_lt_zero _), .inl rfl⟩
  | x :: xs, c, i => by
    cases hx : F.le target (F.add c x)
    case true => exact ⟨1, Nat.le_add_left .., by simp [keptSet.go, hx], fun j hj h => by omega, .inr ⟨Nat.one_pos, hx⟩⟩
    case false =>
      obtain ⟨n, hn, hgo, hbefore, hend⟩ := keptSet_go_spec target xs (F.add c x) (i + 1)
      refine ⟨n + 1, Nat.succ_le_succ hn, by simp [keptSet.go, hx, hgo]; omega, fun j hj hpos => ?_, ?_⟩
      · match j with
        | 1 => exact hx
        | j + 2 => exact hbefore (j + 1) (by omega) (Nat.succ_pos j)
      · exact hend.imp (congrArg (· + 1)) fun h => ⟨Nat.succ_pos n, h.2⟩

theorem topPrefix_spec : topPrefix p f ≤ (returnedOf f).length ∧
    (p.topP ≠ F.one → ∀ i < topPrefix p f, 0 < i → F.le (F.mul p.topP f.totalMass) (runSum F.zero (weights p f) i) = false) ∧
    (topPrefix p f = (returnedOf f).length ∨ p.topP ≠ F.one ∧ 0 < topPrefix p f ∧
      F.le (F.mul p.topP f.totalMass) (runSum F.zero (weights p f) (topPrefix p f)) = true) := by
  by_cases h : p.topP = F.one
  · rw [topPrefix, if_pos h]
    exact ⟨le_refl _, fun hne => absurd h hne, .inl rfl⟩
  · obtain ⟨n, hn, hgo, hbefore, hend⟩ := keptSet_go_spec (F.mul p.topP f.totalMass) (weights p f) F.zero 0
    rw [weights_length] at hn hend
    rw [topPrefix, if_neg h, hgo, Nat.zero_add]
    exact ⟨hn, fun _ => hbefore, hend.imp_right fun he => ⟨h, he⟩⟩

theorem takeWhile_stops {α : Type} (P : α → Bool) : ∀ l : List α, (l.takeWhile P).length = l.length ∨
    ∃ x, l[(l.takeWhile P).length]? = some x ∧ P x = false
  | [] => .inl rfl
  | a :: l => by
    cases ha : P a
    case true =>
      rw [List.takeWhile_cons_of_pos ha]
      exact (takeWhile_stops P l).imp (congrArg (· + 1)) id
    case false =>
      rw [List.takeWhile_cons_of_neg (Bool.eq_false_iff.1 ha)]
      exact .inr ⟨a, rfl, ha⟩

theorem minPrefix_spec : minPrefix p f ≤ (returnedOf f).length ∧ (∀ x ∈ (weights p f).take (minPrefix p f), F.le p.minP x = true) ∧
    (minPrefix p f = (returnedOf f).length ∨ ∃ x, (weights p f)[minPrefix p f]? = some x ∧ F.le p.minP x = false) := by
  have hprefix := List.takeWhile_prefix (l := weights p f) fun x => F.le p.minP x
  rw [← weights_length (p := p)]
  refine ⟨hprefix.length_le, fun x hx => ?_, takeWhile_stops ..⟩
  rw [minPrefix, ← List.prefix_iff_eq_take.1 hprefix] at hx
  exact List.mem_takeWhile_imp (p := fun x => F.le p.minP x) hx

/-- The kept set of a list without +inf entries: the shorter of its two prefixes. -/
theorem keptSet_cut (h : f.flags.inf = false) : ∃ n ≤ (returnedOf f).length,
    keptSet p f = (((returnedOf f).map (·.2)).zip (weights p f)).take n ∧
    (∀ x ∈ (weights p f).take n, F.le p.minP x = true) ∧
    (p.topP ≠ F.one → ∀ i < n, 0 < i → F.le (F.mul p.topP f.totalMass) (runSum F.zero (weights p f) i) = false) ∧
    (n = (returnedOf f).length ∨ (∃ x, (weights p f)[n]? = some x ∧ F.le p.minP x = false) ∨
      p.topP ≠ F.one ∧ 0 < n ∧ F.le (F.mul p.topP f.totalMass) (runSum F.zero (weights p f) n) = true) := by
  obtain ⟨htop, hbefore, hreached⟩ := topPrefix_spec (p := p) (f := f)
  obtain ⟨-, hmass, hstop⟩ := minPrefix_spec (p := p) (f := f)
  refine ⟨_, (Nat.min_le_left ..).trans htop, keptSet_finite h, fun x hx => hmass x ?_, fun hne i hi => hbefore hne i ?_, ?_⟩
  · exact (List.take_subset_take_left _ (Nat.min_le_right ..)) hx
  · exact hi.trans_le (Nat.min_le_left ..)
  · obtain hmin | hmin := Nat.le_total (topPrefix p f) (minPrefix p f)
    · rw [Nat.min_eq_left hmin]
      exact hreached.imp_right .inr
    · rw [Nat.min_eq_right hmin]
      exact hstop.imp_right .inl

end

/-! ### The draw (R178) -/

section
variable {target : F32}

theorem inverseCdf_go_hit : ∀ (ws : List F32) (c : F32) (i j : Nat), j < ws.length →
    (∀ l < j, F.lt target (runSum c ws (l + 1)) = false) → F.lt target (runSum c ws (j + 1)) = true →
    inverseCdf.go target ws c i = i + j
  | x :: xs, c, i, 0, _, _, hhit => if_pos hhit
  | x :: xs, c, i, j + 1, hj, hbefore, hhit => by
    have hx : ¬ F.lt target (F.add c x) = true := Bool.eq_false_iff.1 (hbefore 0 (Nat.succ_pos j))
    calc inverseCdf.go target (x :: xs) c i = inverseCdf.go target xs (F.add c x) (i + 1) := if_neg hx
      _ = i + 1 + j := inverseCdf_go_hit xs _ _ j (Nat.lt_of_succ_lt_succ hj) (fun l hl => hbefore (l + 1) (Nat.succ_lt_succ hl)) hhit
      _ = i + (j + 1) := by omega

theorem inverseCdf_go_miss : ∀ (ws : List F32) (c : F32) (i : Nat), (∀ j < ws.length, F.lt target (runSum c ws (j + 1)) = false) →
    inverseCdf.go target ws c i = i + ws.length - 1
  | [], c, i, _ => rfl
  | x :: xs, c, i, hmiss => by
    have hx : ¬ F.lt target (F.add c x) = true := Bool.eq_false_iff.1 (hmiss 0 (Nat.succ_pos _))
    calc inverseCdf.go target (x :: xs) c i = inverseCdf.go target xs (F.add c x) (i + 1) := if_neg hx
      _ = i + 1 + xs.length - 1 := inverseCdf_go_miss xs _ _ fun j hj => hmiss (j + 1) (Nat.succ_lt_succ hj)
      _ = i + (x :: xs).length - 1 := by rw [List.length_cons, Nat.add_right_comm, Nat.add_assoc]

theorem inverseCdf_go_le : ∀ (ws : List F32) (c : F32) (i : Nat), inverseCdf.go target ws c i ≤ i + ws.length - 1
  | [], c, i => le_refl _
  | x :: xs, c, i => by
    have ih := inverseCdf_go_le xs (F.add c x) (i + 1)
    simp only [inverseCdf.go, List.length_cons]
    split <;> omega

/-- A draw among some entries gives the place of one of them. -/
theorem inverseCdf_lt {l : List (Nat × F32)} (u : F32) (h : l ≠ []) : inverseCdf (l.map (·.2)) u < l.length := by
  have hpos := List.length_pos_iff.2 h
  have : inverseCdf (l.map (·.2)) u ≤ 0 + (l.map (·.2)).length - 1 := inverseCdf_go_le _ F.zero 0
  rw [List.length_map] at this
  omega

end

/-! ### The token and its row (R178, R179) -/

section
variable {p : Sampling} {f : PartialResult}

theorem drawToken_drawn {seed position side : Nat} (hmode : bit p.sampleMode 0 = false) (hinf : f.flags.inf = false) (hkept : keptSet p f ≠ []) :
    ∃ e, (keptSet p f)[inverseCdf ((keptSet p f).map (·.2)) (drawU seed position 0 side)]? = some e ∧
      drawToken p seed position side f = e.1 := by
  have hlt := inverseCdf_lt (drawU seed position 0 side) hkept
  refine ⟨_, List.getElem?_eq_getElem hlt, ?_⟩
  rw [drawToken, hmode, hinf, Bool.or_self, if_neg Bool.false_ne_true, List.getD_eq_getElem _ _ hlt]

theorem noTokenCause_eq (g : ResultFlags) : noTokenCause g =
    ([(g.empty, 1), (g.contribLost, 2), (g.portError, 3), (g.slabError, 4)].filter (·.1)).head?.map (·.2) := by
  unfold noTokenCause
  cases g.empty <;> cases g.contribLost <;> cases g.portError <;> cases g.slabError <;> rfl

variable {b : Block} {row slot : Nat} {r : RowRec} {e : Entry}

/-- The counters of a final list that takes effect (log entry 110). -/
def Block.rowCounted (b : Block) (f : PartialResult) : Block :=
  let b := b.count 9
  let b := if f.flags.approx then b.count 10 else b
  let b := if f.flags.inf then b.count 11 else b
  let b := if f.flags.empty then b.count 12 else b
  if f.nanCount > 0 then b.count 14 f.nanCount else b

theorem rowCounted_gr (b : Block) (f : PartialResult) : (b.rowCounted f).gr = b.gr := by
  simp only [Block.rowCounted, apply_ite Block.gr, Block.count_gr, ite_self]

@[simp] theorem trace_gr (b : Block) (kind : Nat) (body : List Byte) : (b.trace kind body).gr = b.gr := by
  obtain h | ⟨_, h⟩ := trace_cases b kind body <;> rw [h]

@[simp] theorem slabBroken_results (b : Block) (h : Nat) : (b.slabBroken h).gr.results = b.gr.results := rfl

/-- What a decision leaves for the junction: the token drawn, or the cause that there is none (R179). -/
def rowResult (e : Entry) (r : RowRec) (f : PartialResult) : StepResult :=
  let pos := r.firstPos + r.posCount
  { handle := r.handle, noToken := (noTokenCause f.flags).map fun c => (pos, c)
    tokens := if (noTokenCause f.flags).isSome then []
      else [{ token := drawToken e.sampling e.seed pos 0 f, inf := f.flags.inf, approx := f.flags.approx }] }

theorem settleRow_results (he : b.byHandle r.handle = some (slot, e)) (hkind : r.kind ≤ 2) :
    (b.settleRow row r f).gr.results = b.gr.results ++ [rowResult e r f] := by
  have hcounted : (b.rowCounted f).byHandle r.handle = some (slot, e) := by
    rw [← he, Block.byHandle, Block.byHandle, rowCounted_gr]
  have hresults : (if f.flags.slabError then (b.rowCounted f).slabBroken r.handle else b.rowCounted f).gr.results = b.gr.results := by
    rw [apply_ite Block.gr, apply_ite Granary.results, slabBroken_results, ite_self, rowCounted_gr]
  unfold Block.settleRow
  extract_lets _ _ _ _ c _ _ d
  rw [show c.byHandle r.handle = some (slot, e) from hcounted]
  simp only [show r.kind ≠ 4 by omega, show r.kind ≠ 3 by omega, if_false, trace_gr, show d.gr.results = b.gr.results from hresults]
  rfl

end

/-! ### The children of a spine node (R205, R206) -/

section
variable {p : Sampling} {f : PartialResult} {seed pos w : Nat}

/-- STOCHASTIC children are entries drawn without replacement. -/
theorem drawChildren_subperm (seed pos : Nat) : ∀ (n i : Nat) (left : List (Nat × F32)),
    (drawChildren seed pos n i left).length = min n left.length ∧
    ((drawChildren seed pos n i left).map (·.1)).Subperm (left.map (·.1))
  | 0, _, left => ⟨(Nat.zero_min _).symm, List.nil_subperm⟩
  | n + 1, _, [] => ⟨rfl, List.nil_subperm⟩
  | n + 1, i, x :: xs => by
    have hlt := inverseCdf_lt (l := x :: xs) (drawU seed pos i 1) (List.cons_ne_nil _ _)
    obtain ⟨hlen, hsub⟩ := drawChildren_subperm seed pos n (i + 1) ((x :: xs).eraseIdx (inverseCdf ((x :: xs).map (·.2)) (drawU seed pos i 1)))
    simp only [drawChildren]
    generalize inverseCdf ((x :: xs).map (·.2)) (drawU seed pos i 1) = k at hlt hlen hsub
    rw [List.getD_eq_getElem _ _ hlt]
    refine ⟨?_, ?_⟩
    · rw [List.length_cons, hlen, List.length_eraseIdx_of_lt hlt, List.length_cons]
      omega
    · have hperm := (List.getElem_cons_eraseIdx_perm hlt).map (·.1)
      exact ((List.subperm_cons _).2 hsub).trans hperm.subperm

theorem keptProb_take (kept : List (Nat × F32)) (w : Nat) : (keptProb kept).take w = (kept.take w).map fun e => (e.1, F.div e.2 (keptSum kept)) := by
  rw [keptProb, List.map_take]

theorem childTokens_ranked (h : bit p.sampleMode 0 = true ∨ verifyMode p = 1) :
    childTokens p seed pos w f = ((keptSet p f).take w).map fun e => (e.1, F.div e.2 (keptSum (keptSet p f))) := by
  rw [childTokens, if_pos (by simpa using h), keptProb_take]

theorem childTokens_drawn (hmode : bit p.sampleMode 0 = false) (hverify : verifyMode p ≠ 1) :
    childTokens p seed pos w f = drawChildren seed pos w 0 (keptSet p f) := by
  rw [childTokens, if_neg (by simp [hmode, hverify])]

/-- The children of a spine node are distinct kept entries, as many as its width where so many are kept. -/
theorem childTokens_subperm : (childTokens p seed pos w f).length = min w (keptSet p f).length ∧
    ((childTokens p seed pos w f).map (·.1)).Subperm ((keptSet p f).map (·.1)) := by
  by_cases h : bit p.sampleMode 0 = true ∨ verifyMode p = 1
  · rw [childTokens_ranked h, List.length_map, List.length_take, List.map_map]
    exact ⟨rfl, ((List.take_sublist w (keptSet p f)).map (·.1)).subperm⟩
  · rw [not_or, Bool.not_eq_true] at h
    rw [childTokens_drawn h.1 h.2]
    exact drawChildren_subperm ..

theorem childTokens_head (hmode : bit p.sampleMode 0 = false) (hverify : verifyMode p ≠ 1) (hw : 0 < w) {e : Nat × F32}
    (he : (keptSet p f)[inverseCdf ((keptSet p f).map (·.2)) (drawU seed pos 0 1)]? = some e) :
    (childTokens p seed pos w f).head? = some (e.1, F.div e.2 (keptSum (keptSet p f))) := by
  obtain ⟨w, rfl⟩ := Nat.exists_eq_add_of_lt hw
  rw [childTokens_drawn hmode hverify]
  generalize keptSet p f = kept at he
  match kept with
  | x :: xs =>
    rw [Nat.zero_add]
    simp only [drawChildren, List.getD_eq_getElem?_getD, he, Option.getD_some, List.head?_cons]

end

/-- Settles O35: the kept set by its two prefixes, a draw by the place that it gives, and the children of a node as draws in turn. -/
theorem tokensAreDrawnFromTheKeptSet : Obligations.TokensAreDrawnFromTheKeptSet := by
  refine ⟨fun p f => ⟨fun h => if_pos h, keptSet_cut⟩, fun _ _ _ _ => rfl, fun ws u => ?_, fun p seed position side f => ?_, noTokenCause_eq,
    fun b row slot r f e he hkind => settleRow_results he hkind, fun p seed pos w f => ?_⟩
  · intro cum i
    have hcum : cum ws.length = sumF ws := (sumF_eq_runSum ws).symm
    rw [hcum]
    exact ⟨fun j hj hbefore hhit => (inverseCdf_go_hit ws F.zero 0 j hj hbefore hhit).trans (Nat.zero_add j),
      fun hmiss => (inverseCdf_go_miss ws F.zero 0 hmiss).trans (by rw [Nat.zero_add])⟩
  · exact ⟨fun h => if_pos (by simpa using h), drawToken_drawn⟩
  · obtain ⟨hlen, hsub⟩ := childTokens_subperm (p := p) (f := f) (seed := seed) (pos := pos) (w := w)
    refine ⟨hlen, fun c hc => List.mem_map.1 (hsub.subset (List.mem_map_of_mem hc)), fun hnodup => ?_, childTokens_ranked,
      fun hmode hverify hw e he => childTokens_head hmode hverify hw he⟩
    obtain ⟨l, hperm, hkept⟩ := hsub
    exact hperm.nodup (hnodup.sublist hkept)

end Sys2Proof.Machine
end

section
/-! The merge of a row's contributions (R192 to R195): the candidates as the first entry of each index, the reports of a mismatch, and what
the final list holds. -/

namespace Sys2Proof.Machine
open Sys2Proof

/-! ### The candidates, entry by entry (R192, R193) -/

/-- What the contributions list, in ascending rank: (KEY, INDEX, rank). -/
def offers (used : List (Nat × Nat × PartialResult)) : List (Nat × Nat × Nat) :=
  used.flatMap fun u => (partialReal u.2.2).map fun e => (e.1, e.2, u.1)

/-- One more entry: a candidate where its index has none, else a report where the values mismatch. -/
def mergeEntry (fmt : Option Nat) (acc : List (Nat × Nat × Nat) × List Report) (e : Nat × Nat × Nat) :
    List (Nat × Nat × Nat) × List Report :=
  match acc.1.find? fun d => d.2.1 == e.2.1 with
  | some d => (acc.1, if fmt.any fun f => mismatch f (keyValue d.1) (keyValue e.1) then acc.2 ++ [(e.2.1, d.2.2, e.2.2)] else acc.2)
  | none => (acc.1 ++ [e], acc.2)

/-- The candidates and the reports that a list of entries leaves. -/
def gathered (fmt : Option Nat) (l : List (Nat × Nat × Nat)) : List (Nat × Nat × Nat) × List Report := l.foldl (mergeEntry fmt) ([], [])

/-- The FORMAT of the values: that of the first clean contribution (R193). -/
def mergeFormat (used : List (Nat × Nat × PartialResult)) : Option Nat := (used.find? fun u => partialClean u.2.2).map (·.2.1)

theorem mergeOne_eq_foldl (fmt : Option Nat) (acc : List (Nat × Nat × Nat) × List Report) (r : Nat) (es : List (Nat × Nat)) :
    mergeOne fmt acc r es = (es.map fun e => (e.1, e.2, r)).foldl (mergeEntry fmt) acc := by
  rw [mergeOne, List.foldl_map]
  congr 1
  funext ⟨cand, rep⟩ e
  dsimp only [mergeEntry]
  cases cand.find? fun d => d.2.1 == e.2 with
  | none => rfl
  | some d => cases fmt with
    | none => rfl
    | some f => cases h : mismatch f (keyValue d.1) (keyValue e.1) <;> simp [h]

theorem foldl_mergeOne (fmt : Option Nat) (used : List (Nat × Nat × PartialResult)) :
    used.foldl (fun acc u => mergeOne fmt acc u.1 (partialReal u.2.2)) ([], []) = gathered fmt (offers used) := by
  simp only [mergeOne_eq_foldl, gathered, offers, List.foldl_flatMap]

section
variable {fmt : Option Nat} {l : List (Nat × Nat × Nat)}

theorem gathered_concat (fmt : Option Nat) (l : List (Nat × Nat × Nat)) (e : Nat × Nat × Nat) :
    gathered fmt (l ++ [e]) = mergeEntry fmt (gathered fmt l) e := List.foldl_concat ..

/-- The candidate of an index is the first entry that lists it. -/
theorem find?_gathered (fmt : Option Nat) (l : List (Nat × Nat × Nat)) (i : Nat) :
    (gathered fmt l).1.find? (fun d => d.2.1 == i) = l.find? (fun d => d.2.1 == i) := by
  induction l using List.reverseRecOn with
  | nil => rfl
  | append_singleton l e ih =>
    rw [gathered_concat, mergeEntry, List.find?_append, ← ih]
    by_cases hi : e.2.1 = i
    · subst hi
      cases h : (gathered fmt l).1.find? fun d => d.2.1 == e.2.1 with
      | none => rw [List.find?_append, h]
      | some d => exact h
    · have hnone : [e].find? (fun d => d.2.1 == i) = none := by simp [hi]
      cases (gathered fmt l).1.find? fun d => d.2.1 == e.2.1 with
      | none => rw [List.find?_append]
      | some d => rw [hnone, Option.or_none]

/-- No index has two candidates. -/
theorem gathered_nodup (fmt : Option Nat) (l : List (Nat × Nat × Nat)) : ((gathered fmt l).1.map (·.2.1)).Nodup := by
  induction l using List.reverseRecOn with
  | nil => exact List.nodup_nil
  | append_singleton l e ih =>
    rw [gathered_concat, mergeEntry]
    cases h : (gathered fmt l).1.find? fun d => d.2.1 == e.2.1 with
    | some d => exact ih
    | none =>
      rw [List.map_append, List.map_singleton, ← List.concat_eq_append, List.nodup_concat]
      refine ⟨fun hmem => ?_, ih⟩
      obtain ⟨d, hd, hde⟩ := List.mem_map.1 hmem
      exact List.find?_eq_none.1 h d hd (beq_iff_eq.2 hde)

/-- Ranks ascend along the entries, and no rank lists an index twice. -/
def InRankOrder (l : List (Nat × Nat × Nat)) : Prop := l.Pairwise fun x y => x.2.2 ≤ y.2.2 ∧ (x.2.1 = y.2.1 → x.2.2 < y.2.2)

theorem mem_gathered_concat (e : Nat × Nat × Nat) (rep : Report) : rep ∈ (gathered fmt (l ++ [e])).2 ↔ rep ∈ (gathered fmt l).2 ∨
    ∃ f ∈ fmt, ∃ d, l.find? (fun d => d.2.1 == e.2.1) = some d ∧ mismatch f (keyValue d.1) (keyValue e.1) = true ∧
      rep = (e.2.1, d.2.2, e.2.2) := by
  rw [gathered_concat, mergeEntry, find?_gathered]
  cases l.find? fun d => d.2.1 == e.2.1 with
  | none => simp
  | some d => cases fmt with
    | none => simp
    | some f => cases h : mismatch f (keyValue d.1) (keyValue e.1) <;> simp [h]

/-- A pair of ranks is reported where the first entry of an index and a later one of it mismatch. -/
theorem mem_reports_iff (hl : InRankOrder l) {i r1 r2 : Nat} : (i, r1, r2) ∈ (gathered fmt l).2 ↔
    ∃ f ∈ fmt, ∃ x y, l.find? (fun d => d.2.1 == i) = some x ∧ y ∈ l ∧ y.2.1 = i ∧ x.2.2 = r1 ∧ y.2.2 = r2 ∧ r1 < r2 ∧
      mismatch f (keyValue x.1) (keyValue y.1) = true := by
  induction l using List.reverseRecOn with
  | nil => simp [gathered]
  | append_singleton l e ih =>
    obtain ⟨hl, -, hlast⟩ := List.pairwise_append.1 hl
    rw [mem_gathered_concat, ih hl]
    constructor
    · rintro (⟨f, hf, x, y, hx, hy, h⟩ | ⟨f, hf, d, hd, hmis, hrep⟩)
      · exact ⟨f, hf, x, y, by rw [List.find?_append, hx, Option.some_or], List.mem_append_left _ hy, h⟩
      · obtain ⟨rfl, rfl, rfl⟩ : i = e.2.1 ∧ r1 = d.2.2 ∧ r2 = e.2.2 := by simpa using hrep
        have hde : d.2.1 = e.2.1 := by simpa using List.find?_some hd
        have hlt := (hlast d (List.mem_of_find?_eq_some hd) e (List.mem_singleton_self e)).2 hde
        exact ⟨f, hf, d, e, by rw [List.find?_append, hd, Option.some_or], List.mem_concat_self, rfl, rfl, rfl, hlt, hmis⟩
    · rintro ⟨f, hf, x, y, hx, hy, rfl, rfl, rfl, hlt, hmis⟩
      have hfirst : l.find? (fun d => d.2.1 == y.2.1) = some x := by
        rw [List.find?_append] at hx
        cases h : l.find? (fun d => d.2.1 == y.2.1) with
        | some d => rwa [h, Option.some_or] at hx
        | none =>
          have hye : y = e := (List.mem_append.1 hy).elim (fun hy => absurd (beq_self_eq_true y.2.1) (List.find?_eq_none.1 h y hy))
            List.mem_singleton.1
          rw [h, Option.none_or] at hx
          rw [hye, List.mem_singleton.1 (List.mem_of_find?_eq_some hx)] at hlt
          exact absurd hlt (lt_irrefl _)
      obtain hy | hy := List.mem_append.1 hy
      · exact .inl ⟨f, hf, x, y, hfirst, hy, rfl, rfl, rfl, hlt, hmis⟩
      · obtain rfl := List.mem_singleton.1 hy
        exact .inr ⟨f, hf, x, hfirst, hmis, rfl⟩

/-- The first entry of an index is the one of the lowest rank that lists it. -/
theorem find?_eq_some_iff_lowest (hl : InRankOrder l) {i : Nat} {x : Nat × Nat × Nat} : l.find? (fun d => d.2.1 == i) = some x ↔
    x ∈ l ∧ x.2.1 = i ∧ ∀ y ∈ l, y.2.1 = i → x.2.2 ≤ y.2.2 := by
  induction l with
  | nil => simp
  | cons e l ih =>
    obtain ⟨hfirst, hl⟩ := List.pairwise_cons.1 hl
    by_cases he : e.2.1 = i
    · rw [List.find?_cons_of_pos (by simpa using he), Option.some_inj]
      constructor
      · rintro rfl
        exact ⟨List.mem_cons_self, he, List.forall_mem_cons.2 ⟨fun _ => le_rfl, fun y hy _ => (hfirst y hy).1⟩⟩
      · rintro ⟨hx, rfl, hlow⟩
        obtain rfl | hx := List.mem_cons.1 hx
        · rfl
        · exact absurd ((hfirst x hx).2 he) (hlow e List.mem_cons_self he).not_gt
    · rw [List.find?_cons_of_neg (by simpa using he), ih hl, List.forall_mem_cons]
      constructor
      · rintro ⟨hx, hxi, hlow⟩
        exact ⟨List.mem_cons_of_mem _ hx, hxi, fun h => absurd h he, hlow⟩
      · rintro ⟨hx, hxi, -, hlow⟩
        exact ⟨(List.mem_cons.1 hx).resolve_left fun h => he (h ▸ hxi), hxi, hlow⟩

end

/-! ### The contributions' entries -/

section
variable {used : List (Nat × Nat × PartialResult)}

theorem offers_map (used : List (Nat × Nat × PartialResult)) :
    (offers used).map (fun c => (c.1, c.2.1)) = used.flatMap fun u => partialReal u.2.2 := by
  simp [offers, List.map_flatMap, Function.comp_def]

theorem mem_offers {c : Nat × Nat × Nat} : c ∈ offers used ↔ ∃ u ∈ used, u.1 = c.2.2 ∧ (c.1, c.2.1) ∈ partialReal u.2.2 := by
  obtain ⟨k, i, r⟩ := c
  simp only [offers, List.mem_flatMap, List.mem_map, Prod.mk.injEq]
  constructor
  · rintro ⟨u, hu, e, he, rfl, rfl, rfl⟩
    exact ⟨u, hu, rfl, he⟩
  · rintro ⟨u, hu, rfl, he⟩
    exact ⟨u, hu, _, he, rfl, rfl, rfl⟩

theorem offers_inRankOrder (hranks : (used.map (·.1)).Pairwise (· < ·)) (hlists : ∀ u ∈ used, ((partialReal u.2.2).map (·.2)).Nodup) :
    InRankOrder (offers used) := by
  refine List.pairwise_flatMap.2 ⟨fun u hu => ?_, (List.pairwise_map.1 hranks).imp fun {u v} huv => ?_⟩
  · exact List.pairwise_map.2 ((List.pairwise_map.1 (hlists u hu)).imp fun h => ⟨le_rfl, fun h' => absurd h' h⟩)
  · intro x hx y hy
    obtain ⟨d, -, rfl⟩ := List.mem_map.1 hx
    obtain ⟨e, -, rfl⟩ := List.mem_map.1 hy
    exact ⟨huv.le, fun _ => huv⟩

/-- The reports of the contributions: a pair of ranks for each index of which they list values that mismatch, the first of them the
lowest that lists it. -/
theorem mem_mergeReports_iff (hl : InRankOrder (offers used)) {i r1 r2 : Nat} :
    (i, r1, r2) ∈ (gathered (mergeFormat used) (offers used)).2 ↔
      ∃ c ∈ used.find? (fun u => partialClean u.2.2), ∃ u ∈ used, ∃ v ∈ used, u.1 = r1 ∧ v.1 = r2 ∧ r1 < r2 ∧
        (∀ w ∈ used, w.1 < r1 → ∀ x ∈ partialReal w.2.2, x.2 ≠ i) ∧
        ∃ d ∈ partialReal u.2.2, ∃ e ∈ partialReal v.2.2, d.2 = i ∧ e.2 = i ∧ mismatch c.2.1 (keyValue d.1) (keyValue e.1) = true := by
  rw [mem_reports_iff hl]
  constructor
  · rintro ⟨f, hf, x, y, hx, hy, rfl, rfl, rfl, hlt, hmis⟩
    obtain ⟨c, hc, rfl⟩ := Option.map_eq_some_iff.1 hf
    obtain ⟨hx, hxi, hlow⟩ := (find?_eq_some_iff_lowest hl).1 hx
    obtain ⟨u, hu, hur, hd⟩ := mem_offers.1 hx
    obtain ⟨v, hv, hvr, he⟩ := mem_offers.1 hy
    refine ⟨c, hc, u, hu, v, hv, hur, hvr, hlt, fun w hw hwr z hz hzi => ?_, _, hd, _, he, hxi, rfl, hmis⟩
    exact hwr.not_ge (hlow (z.1, z.2, w.1) (mem_offers.2 ⟨w, hw, rfl, hz⟩) hzi)
  · rintro ⟨c, hc, u, hu, v, hv, rfl, rfl, hlt, hlow, d, hd, e, he, rfl, hei, hmis⟩
    refine ⟨c.2.1, Option.mem_map_of_mem _ hc, (d.1, d.2, u.1), (e.1, e.2, v.1), ?_, mem_offers.2 ⟨v, hv, rfl, he⟩, hei, rfl, rfl, hlt, hmis⟩
    refine (find?_eq_some_iff_lowest hl).2 ⟨mem_offers.2 ⟨u, hu, rfl, hd⟩, rfl, fun y hy hyi => ?_⟩
    obtain ⟨w, hw, hwr, hz⟩ := mem_offers.1 hy
    exact not_lt.1 fun h => hlow w hw (hwr.trans_lt h) _ hz hyi

/-- The candidates of the contributions, without their ranks. -/
def candidates (used : List (Nat × Nat × PartialResult)) : List (Nat × Nat) :=
  (gathered (mergeFormat used) (offers used)).1.map fun c => (c.1, c.2.1)

theorem candidates_nodup (used : List (Nat × Nat × PartialResult)) : ((candidates used).map (·.2)).Nodup := by
  rw [candidates, List.map_map]
  exact gathered_nodup ..

theorem find?_candidates (used : List (Nat × Nat × PartialResult)) (i : Nat) :
    (candidates used).find? (fun x => x.2 == i) = (used.flatMap fun u => partialReal u.2.2).find? fun x => x.2 == i := by
  rw [candidates, ← offers_map, List.find?_map, List.find?_map]
  exact congrArg _ (find?_gathered ..)

/-- An entry is a candidate where it is the first of its index. -/
theorem mem_candidates_iff {e : Nat × Nat} :
    e ∈ candidates used ↔ (used.flatMap fun u => partialReal u.2.2).find? (fun x => x.2 == e.2) = some e := by
  rw [← find?_candidates]
  constructor
  · intro he
    obtain ⟨d, hd⟩ := Option.isSome_iff_exists.1 (List.find?_isSome (p := fun x => x.2 == e.2).2 ⟨e, he, by simp⟩)
    have hde : d.2 = e.2 := by simpa using List.find?_some hd
    rw [hd, List.inj_on_of_nodup_map (candidates_nodup used) (List.mem_of_find?_eq_some hd) he hde]
  · exact List.mem_of_find?_eq_some

end

/-! ### The first k in rank order -/

section
variable {cs : List (Nat × Nat)} {k : Nat}

/-- x ranks before y (R167). -/
def RankLt (x y : Nat × Nat) : Prop := y.1 < x.1 ∨ x.1 = y.1 ∧ x.2 < y.2

theorem RankLe.lt_of_ne {x y : Nat × Nat} (h : RankLe x y) (hne : x.2 ≠ y.2) : RankLt x y :=
  h.imp_right fun h => ⟨h.1, lt_of_le_of_ne h.2 hne⟩

variable (hcs : (cs.map (·.2)).Nodup)
include hcs

theorem rankSort_nodup : ((rankSort cs).map (·.2)).Nodup := ((rankSort_perm cs).map (·.2)).nodup_iff.2 hcs

theorem rankSort_strict : (rankSort cs).Pairwise RankLt :=
  ((rankSort_sorted cs).and (List.pairwise_map.1 (rankSort_nodup hcs))).imp fun h => h.1.lt_of_ne h.2

/-- An entry left out of the first k ranks after all of them. -/
theorem rankLt_of_not_mem_take {e : Nat × Nat} (he : e ∈ cs) (hout : e ∉ (rankSort cs).take k) :
    ((rankSort cs).take k).length = k ∧ ∀ x ∈ (rankSort cs).take k, RankLt x e := by
  have hdrop : e ∈ (rankSort cs).drop k := by
    have h := (rankSort_perm cs).mem_iff.2 he
    rw [← List.take_append_drop k (rankSort cs), List.mem_append] at h
    exact h.resolve_left hout
  have hlen := List.length_pos_of_mem hdrop
  rw [List.length_drop] at hlen
  have hstrict := rankSort_strict hcs
  rw [← List.take_append_drop k (rankSort cs), List.pairwise_append] at hstrict
  obtain ⟨-, -, hbefore⟩ := hstrict
  exact ⟨by rw [List.length_take]; omega, fun x hx => hbefore x hx e hdrop⟩

end

/-! ### The final list -/

section
variable (p : Sampling) (row step : Nat) (used : List (Nat × Nat × PartialResult)) (sources : List Nat)

/-- The entries of the final list: the first k candidates in rank order. -/
def mergeList (p : Sampling) (used : List (Nat × Nat × PartialResult)) : List (Nat × Nat) := (rankSort (candidates used)).take (topKOf p)

theorem mergeRow_lists : (mergeRow p row step used sources).1.entries = padEntries (topKOf p) (mergeList p used) ∧
    (mergeRow p row step used sources).1.returned = (mergeList p used).length ∧
    (mergeRow p row step used sources).2 = (gathered (mergeFormat used) (offers used)).2 := by
  simp only [mergeRow, foldl_mergeOne]
  exact ⟨rfl, rfl, rfl⟩

/-- The entries that count as returned are the list without its pads (R170). -/
theorem mergeRow_take : (mergeRow p row step used sources).1.entries.take (mergeRow p row step used sources).1.returned = mergeList p used := by
  obtain ⟨hentries, hret, -⟩ := mergeRow_lists p row step used sources
  rw [hentries, hret, padEntries, List.take_left]

theorem foldl_sum (f : PartialResult → Nat) (us : List (Nat × Nat × PartialResult)) :
    us.foldl (fun n u => n + f u.2.2) 0 = (us.map fun u => f u.2.2).sum := by
  rw [List.sum_eq_foldl, List.foldl_map]

/-- Counts are summed over the mass sources (R194). -/
theorem mergeRow_counts : let F := (mergeRow p row step used sources).1
    let src := used.filter fun u => sources.contains u.1
    F.validCount = (src.map fun u => u.2.2.validCount).sum ∧ F.nanCount = (src.map fun u => u.2.2.nanCount).sum ∧
    F.negInfCount = (src.map fun u => u.2.2.negInfCount).sum :=
  ⟨foldl_sum .., foldl_sum .., foldl_sum ..⟩

/-- Flags are joined over all contributions, INF over the mass sources (R194). -/
theorem mergeRow_flags : let M := mergeRow p row step used sources
    M.1.flags = { empty := M.1.returned == 0, mismatch := !M.2.isEmpty, contribLost := false
                  slabError := used.any (·.2.2.flags.slabError), portError := used.any (·.2.2.flags.portError)
                  descent := used.any (·.2.2.flags.descent), nanSeen := decide (0 < M.1.nanCount)
                  short := decide (M.1.returned < topKOf p), inf := (used.filter fun u => sources.contains u.1).any (·.2.2.flags.inf)
                  approx := used.any (·.2.2.flags.approx) } := by
  have hempty : ∀ l : List (Nat × Nat), l.isEmpty = (l.length == 0) := fun l => by cases l <;> rfl
  simp only [mergeRow, hempty]

/-- The masses of a list without an entry (R195). -/
theorem mergeRow_empty (h : mergeList p used = []) : let F := (mergeRow p row step used sources).1
    F.refMax = Machine.F.negInf ∧ F.totalMass = Machine.F.zero ∧ F.selectedMass = Machine.F.zero ∧ F.leftMass = Machine.F.zero := by
  simp only [mergeList, candidates, mergeFormat] at h
  simp only [mergeRow, foldl_mergeOne, h, List.isEmpty_nil, if_true, and_self]

/-- The masses of a list with an entry (R195). -/
theorem mergeRow_masses {e : Nat × Nat} {es : List (Nat × Nat)} (h : mergeList p used = e :: es) :
    let F := (mergeRow p row step used sources).1
    F.leftMass = max0 (Machine.F.sub F.totalMass F.selectedMass) ∧
    F.refMax = if F.flags.inf then Machine.F.posInf else keyValue e.1 := by
  simp only [mergeList, candidates, mergeFormat] at h
  simp only [mergeRow, foldl_mergeOne, h]
  refine ⟨rfl, ?_⟩
  split_ifs <;> rfl

end

/-- Settles O32: the final list is the first k candidates in rank order, the candidates are the first entries of their indices, and
the reports stand against these. -/
theorem mergesKeepEachIndexOnce : Obligations.MergesKeepEachIndexOnce := by
  intro p row step used sources M F k ret all src
  obtain ⟨hentries, hreturned, hreports⟩ := mergeRow_lists p row step used sources
  have hret : ret = mergeList p used := mergeRow_take ..
  have hcand := candidates_nodup used
  obtain ⟨hvalid, hnan, hneg⟩ := mergeRow_counts p row step used sources
  refine ⟨rfl, rfl, rfl, rfl, by rw [hret]; exact hreturned.symm, hreturned.trans_le (List.length_take_le ..), ?_, ?_, ?_, ?_, ?_, ?_,
    hvalid, hnan, hneg, ?_, ?_, ?_⟩
  · rw [hret, show F.returned = _ from hreturned]
    exact hentries
  · rw [hret]
    exact (rankSort_nodup hcand).sublist ((List.take_sublist ..).map _)
  · rw [hret]
    exact (rankSort_strict hcand).sublist (List.take_sublist ..)
  · rw [hret]
    exact fun e he => mem_candidates_iff.1 ((rankSort_perm _).mem_iff.1 (List.mem_of_mem_take he))
  · rw [hret]
    intro e he hout
    obtain ⟨hlen, hafter⟩ := rankLt_of_not_mem_take hcand (mem_candidates_iff.2 he) hout
    exact ⟨hreturned.trans hlen, hafter⟩
  · intro hranks hlists i r1 r2
    rw [show M.2 = _ from hreports]
    exact mem_mergeReports_iff (offers_inRankOrder hranks hlists)
  · exact mergeRow_flags p row step used sources
  · rw [hret]
    exact fun h => mergeRow_empty p row step used sources h
  · rw [hret]
    intro hne
    obtain ⟨e, es, h⟩ := List.exists_cons_of_ne_nil hne
    obtain ⟨hleft, hmax⟩ := mergeRow_masses p row step used sources h
    refine ⟨hleft, fun hinf => ?_, fun hinf => ?_⟩
    · rw [show F.refMax = _ from hmax, if_pos hinf]
    · rw [show F.refMax = _ from hmax, if_neg (by rw [hinf]; exact Bool.false_ne_true), h, List.headD_cons]

end Sys2Proof.Machine
end

section
/-! Verdicts, requests to send again, and the Glean's timers (R187, R189 to R191, R221, R429): what each does where its condition holds. -/

namespace Sys2Proof.Machine
open Sys2Proof

/-! ### A packet of class 3 -/

section
variable {x : State} {t : Time} {rx : Rx} {row step : Nat}

theorem port_glean_whole {k : Block → Block} (hserves : x.Serving) (h : x.blk.Whole rx 3 (some step)) :
    x.port t (some .fp) (fun _ b => b.rx rx 3 k (some step)) = x.settled (x.blk.atTime t) (k (x.got t rx 3 (some step))) := by
  obtain ⟨hdead, hsafe⟩ := hserves
  have hwhole : (x.seen t .fp).Whole rx 3 (some step) := h
  rw [port_serving hdead hsafe, rx_whole hwhole]
  rfl

theorem exec_gleanVerdict_whole (v : Verdict) (hserves : x.Serving) (h : x.blk.Whole rx 3 (some step)) :
    exec (.gleanVerdict t rx row step v) x =
      .next (x.settled (x.blk.atTime t) ((x.got t rx 3 (some step)).gleanVerdict rx.src row step v)) := by
  rw [exec_gleanVerdict, port_glean_whole hserves h]

theorem exec_gleanResendReq_whole (hserves : x.Serving) (h : x.blk.Whole rx 3 (some step)) : exec (.gleanResendReq t rx row step) x =
    .next (x.settled (x.blk.atTime t) ((x.got t rx 3 (some step)).gleanResend rx.src row step)) := by
  rw [exec_gleanResendReq, port_glean_whole hserves h]

/-- The step that a message names shows in its fragments alone. -/
theorem got_step (x : State) (t : Time) (rx : Rx) (c : Nat) (st st' : Option Nat) (row : Nat) :
    (x.got t rx c st').running = (x.got t rx c st).running ∧ (x.got t rx c st').consistNow = (x.got t rx c st).consistNow ∧
    (x.got t rx c st').rowAt row = (x.got t rx c st).rowAt row := by
  unfold State.got Block.taken
  split <;> exact ⟨rfl, rfl, rfl⟩

end

/-! ### A row with a verdict moves on (R190) -/

section
variable {b : Block} {row : Nat} {r : RowRec} {v : Verdict} (hrow : b.rowAt row = some r) (hfinal : (b.gleanRow row).final = none)
  (hverdict : (b.gleanRow row).verdict = some v)
include hrow hfinal hverdict

theorem gleanAdvance_lost (hlost : v.outcome = 1) : b.gleanAdvance row =
    b.rowEffect row r (lostList row (b.consistNow.step % 65536) (topKOf (b.ent (slotOf r.handle)).sampling)) [] := by
  simp [Block.gleanAdvance, hrow, hfinal, hverdict, hlost]

theorem gleanAdvance_digest {f : PartialResult} {reports : List Report} (hheld : v.outcome ≠ 1)
    (hmerge : b.mergeUsed row r v.used = some (f, reports)) (hdigest : crc64 (partialBytes f) ≠ v.digest) :
    b.gleanAdvance row = b.stop .verdictDigest srcGlean [row] := by
  simp [Block.gleanAdvance, hrow, hfinal, hverdict, hheld, hmerge, hdigest]

end

/-! ### GLEAN_VERDICT (R190, R191, R221) -/

section
variable {b : Block} {src row step : Nat} {r : RowRec} {v : Verdict}

/-- A row with its verdict, and the time it came. -/
def Block.withVerdict (b : Block) (row : Nat) (v : Verdict) : Block :=
  b.modGlean row fun g => { g with verdict := some v, verdictAt := some b.now }

theorem withVerdict_row (b : Block) (row : Nat) (v : Verdict) :
    (b.withVerdict row v).gleanRow row = { b.gleanRow row with verdict := some v, verdictAt := some b.now } := gleanRow_modGlean ..

section
variable (hrun : b.running = true) (hview : b.viewed src 3 = b)
include hrun hview

theorem gleanVerdict_unsampled (h : ∀ r, b.rowAt row = some r → r.sample = false) :
    b.gleanVerdict src row step v = b.stop .couplingProtocol srcGlean [row] := by
  cases hrow : b.rowAt row with
  | none => simp [Block.gleanVerdict, hrun, hview, hrow]
  | some r => simp [Block.gleanVerdict, hrun, hview, hrow, h r hrow]

variable (hrow : b.rowAt row = some r) (hsample : r.sample = true)
include hrow hsample

theorem gleanVerdict_stale (h : step % 4294967296 ≠ b.consistNow.step % 4294967296) :
    b.gleanVerdict src row step v = { b with gln := { b.gln with discarded := b.gln.discarded + 1 } } := by
  simp [Block.gleanVerdict, hrun, hview, hrow, hsample, h]

variable (hstep : step = b.consistNow.step) (hcollect : b.cp.collect = none)
include hstep hcollect

theorem gleanVerdict_ignored (h : src ≠ b.cp.leadRank ∨ (b.gleanRow row).verdict.isSome = true) : b.gleanVerdict src row step v = b := by
  have : (src != b.cp.leadRank || (b.gleanRow row).verdict.isSome) = true := by simpa using h
  simp [Block.gleanVerdict, hrun, hview, hrow, hsample, hstep, hcollect, this]

variable (hlead : src = b.cp.leadRank) (hverdict : (b.gleanRow row).verdict = none) (hmask : bit b.obs.traceMask 7 = false)
include hlead hverdict hmask

/-- The lead's verdict is kept, a lost row counted, and the row moves on. -/
theorem gleanVerdict_kept : b.gleanVerdict src row step v =
    (if v.outcome = 1 then (b.withVerdict row v).count 20 else b.withVerdict row v).gleanAdvance row := by
  have htrace : ∀ c : Block, c.obs.traceMask = b.obs.traceMask → verdictTrace c row v = c := fun c hc =>
    trace_off _ _ _ (by rw [hc, hmask])
  subst hlead
  simp only [Block.gleanVerdict, hrun, hview, hrow, hsample, hstep, hcollect, hverdict, Bool.not_true, Bool.false_eq_true, if_false,
    bne_self_eq_false, Option.isSome_none, Bool.or_self]
  rw [htrace _ (by split_ifs <;> rfl)]
  rfl

variable (hfinal : (b.gleanRow row).final = none)
include hfinal

/-- With the outcome LOST the row's list is the lost list (R189, R190). -/
theorem gleanVerdict_lost (hlost : v.outcome = 1) : b.gleanVerdict src row step v =
    ((b.withVerdict row v).count 20).rowEffect row r
      (lostList row (step % 65536) (topKOf (b.ent (slotOf r.handle)).sampling)) [] := by
  rw [gleanVerdict_kept hrun hview hrow hsample hstep hcollect hlead hverdict hmask, if_pos hlost, hstep]
  have hkept : ((b.withVerdict row v).count 20).gleanRow row = _ := withVerdict_row b row v
  exact gleanAdvance_lost hrow (by rw [hkept]; exact hfinal) (by rw [hkept]) hlost

/-- Contributions whose merge has another digest: Buffer Stop (R190). -/
theorem gleanVerdict_digest {f : PartialResult} {reports : List Report} (hheld : v.outcome ≠ 1)
    (hmerge : (b.withVerdict row v).mergeUsed row r v.used = some (f, reports)) (hdigest : crc64 (partialBytes f) ≠ v.digest) :
    b.gleanVerdict src row step v = (b.withVerdict row v).stop .verdictDigest srcGlean [row] := by
  rw [gleanVerdict_kept hrun hview hrow hsample hstep hcollect hlead hverdict hmask, if_neg hheld]
  have hkept := withVerdict_row b row v
  exact gleanAdvance_digest hrow (by rw [hkept]; exact hfinal) (by rw [hkept]) hheld hmerge hdigest

end

/-! ### GLEAN_RESEND_REQ (R187) -/

/-- The copy kept is read and sent. -/
theorem gleanResend_held {fmt : Nat} {p : PartialResult} (hrun : b.running = true) (h : Tab.get? row b.gln.resend = some (step, fmt, p)) :
    b.gleanResend src row step =
      (b.ask 63 ((b.mainModel.map fun d => d.2.stage.gleanBase).getD 0 + row * 576) 576 .other).send (some src) (.gleanData row step fmt p) := by
  cases hmodel : b.mainModel <;> simp [Block.gleanResend, hrun, h, hmodel, Option.filter]

/-- A row of the step that has not closed here is answered when it closes. -/
theorem gleanResend_open (hrun : b.running = true) (hnone : Tab.get? row b.gln.resend = none) (hstep : step = b.consistNow.step)
    (hopen : b.openRows.contains row = true) : b.gleanResend src row step = { b with gln := { b.gln with
      asked := (b.gln.asked.filter fun a => a != (row, src, step % 4294967296)) ++ [(row, src, step % 4294967296)] } } := by
  unfold Block.gleanResend
  rw [hnone, hstep]
  simp only [hrun, hopen, Bool.not_true, Bool.false_eq_true, if_false, if_true, Option.filter_none]

end

/-! ### The timers (R187, R189, R190) -/

section
variable {b : Block} {row : Nat} {r : RowRec}

theorem gleanResendTimer_due {due i : Nat} {s : Shard} (hrun : b.running = true) (hrow : b.rowAt row = some r)
    (hat : (b.gleanRow row).resendAt = some due) (hdue : due ≤ b.now) (hneeds : b.needed row r = [i]) (hshard : (b.mapOf r)[i]? = some s) :
    b.gleanResendTimer row = ((b.send (some s.rank) (.gleanResendReq row b.consistNow.step i)).count 19).modGlean
      row fun g => { g with resendAt := some (b.now + b.mdl.glean.resendAfter * 1000) } := by
  simp only [Block.gleanResendTimer, hrow, hat, hrun, hdue.not_gt, decide_false, Bool.not_true, Bool.or_self, Bool.false_eq_true, if_false,
    hneeds, List.foldl_cons, List.foldl_nil, hshard]
  rfl

theorem gleanResendTimer_early {due : Nat} (hrow : b.rowAt row = some r) (hat : (b.gleanRow row).resendAt = some due) (h : b.now < due) :
    b.gleanResendTimer row = b := by
  simp [Block.gleanResendTimer, hrow, hat, h]

theorem gleanTimeout_due {first : Nat} (hrun : b.running = true) (hrow : b.rowAt row = some r) (hsince : b.gln.since = 0)
    (hfirst : (b.gleanRow row).first = some first) (hverdict : (b.gleanRow row).verdict = none) (hlead : b.isLead = true)
    (hcollect : b.cp.collect = none) (hsample : r.sample = true) (hdue : first + b.mdl.glean.gleanTimeout * 1000 ≤ b.now) :
    b.gleanTimeout row = b.leadVerdict row r none := by
  simp [Block.gleanTimeout, hrow, hsince, hfirst, hrun, hlead, hcollect, hsample, hverdict, hdue]

theorem gleanWait_due {at_ : Nat} (hrun : b.running = true) (hat : (b.gleanRow row).verdictAt = some at_) (hlead : b.isLead = false)
    (hfinal : (b.gleanRow row).final = none) (hdue : at_ + 2 * b.mdl.glean.gleanTimeout * 1000 ≤ b.now) :
    b.gleanWait row = b.stop .gleanMissing srcGlean [row] := by
  simp [Block.gleanWait, hat, hrun, hlead, hfinal, hdue]

end

/-- Settles O34: a verdict by what it finds at its row, a request to send again by the copy kept, and each timer where it is due. -/
theorem verdictsAndTimersDecideRows : Obligations.VerdictsAndTimersDecideRows := by
  refine ⟨fun x t row step rx v r hserves hwhole => ?_, fun x t row r hlive => ?_⟩
  · intro b hstep hrun hcollect hrow hsample kept run
    have hview : b.viewed rx.src 3 = b := viewed_taken ..
    have hexec : run = .next (x.settled (x.blk.atTime t) (b.gleanVerdict rx.src row step v)) := exec_gleanVerdict_whole v hserves hwhole
    refine ⟨fun hlead hverdict hfinal hlost hmask => ?_, fun f hlead hverdict hfinal hheld hmask hmerge hdigest => ?_, fun h => ?_,
      fun other h => ?_, fun other hwhole' hother => ?_, fun fmt p h => ?_, fun hnone hopen => ?_⟩
    · rw [hexec, gleanVerdict_lost hrun hview hrow hsample hstep hcollect hlead hverdict hmask hfinal hlost]
      rfl
    · rw [hexec, gleanVerdict_digest hrun hview hrow hsample hstep hcollect hlead hverdict hmask hfinal (by rw [hheld]; exact zero_ne_one)
        hmerge hdigest]
      rfl
    · rw [hexec, gleanVerdict_ignored hrun hview hrow hsample hstep hcollect h]
    · rw [exec_gleanVerdict_whole v hserves hwhole, gleanVerdict_unsampled hrun hview h]
    · intro c
      obtain ⟨hrun', hconsist', hrow'⟩ := got_step x t rx 3 (some step) (some other) row
      have hstale : other % 4294967296 ≠ c.consistNow.step % 4294967296 := by rwa [hconsist', ← hstep]
      rw [exec_gleanVerdict_whole v hserves hwhole', gleanVerdict_stale (hrun'.trans hrun) (viewed_taken ..) (hrow'.trans hrow) hsample hstale]
    · rw [exec_gleanResendReq_whole hserves hwhole, gleanResend_held hrun h]
    · rw [exec_gleanResendReq_whole hserves hwhole, gleanResend_open hrun hnone hstep hopen]
  · intro b g hrun hrow
    refine ⟨fun due i s hat hdue hneeds hshard => ?_, fun due hat h => ?_, fun first hsince hfirst hverdict hlead hcollect hsample hdue => ?_,
      fun at_ hat hlead hfinal hdue => ?_, ?_⟩
    · rw [exec_gleanResendTimer, event_live hlive, gleanResendTimer_due hrun hrow hat hdue hneeds hshard]
    · rw [exec_gleanResendTimer, event_live hlive, gleanResendTimer_early hrow hat h]
    · rw [exec_gleanTimeout, event_live hlive, gleanTimeout_due hrun hrow hsince hfirst hverdict hlead hcollect hsample hdue]
    · rw [exec_gleanVerdictWaitTimeout, event_live hlive, gleanWait_due hrun hat hlead hfinal hdue]
    · rw [exec_gleanMismatchWindow, event_live hlive]
      rfl

end Sys2Proof.Machine
end

section
/-! Trees (R210 to R213, R216): what an entry to Buffer Stop leaves of the Granary, the children that a walk finds at a node, what it does
there, the path that it accepts, and the statistics of a verify step. -/

namespace Sys2Proof.Machine
open Sys2Proof

/-! ### The Granary at an entry to Buffer Stop and when an item is queued -/

section
variable {b c : Block}

theorem Block.SameButReplies.gr (h : b.SameButReplies c) : c.gr = b.gr := by
  unfold Block.SameButReplies at h
  rw [h]

theorem stopRest_gr (b : Block) (code : Nat) : (b.stopRest code).gr = b.gr := by
  unfold Block.stopRest
  extract_lets halted ended obs dumped
  have hended : ended.gr = b.gr := (Block.SameButReplies.foldl (fun c d => sameButReplies_write c ..) _ halted).gr
  calc _ = dumped.voidCommands.gr := ((sameButReplies_postDeferred ..).trans (sameButReplies_postDeferred ..)).gr
    _ = b.gr := hended

theorem leadFault_gr (b : Block) (reused : Bool) : (b.leadFault reused).gr = b.gr := by
  unfold Block.leadFault
  split <;> rfl

theorem diagFail_gr (b : Block) (unit : Nat) : (b.diagFail unit).gr = b.gr := by
  unfold Block.diagFail
  split <;> rfl

/-- An entry to Buffer Stop leaves the Granary as it was. -/
theorem stop_gr (b : Block) (c : Cause) (source : Nat) (args : List Nat) : (b.stop c source args).gr = b.gr := by
  rw [stop_eq]
  extract_lets r
  split
  · split
    · exact diagFail_gr r source
    · exact diagFail_gr r source
    · rfl
  · split
    · rfl
    · exact (stopRest_gr ..).trans (leadFault_gr r false)

theorem checkPlatforms_gr (b : Block) : b.checkPlatforms.gr = b.gr := by
  obtain h | h := checkPlatforms_cases b
  · rw [h]
  · rw [h, stop_gr]

@[simp] theorem queueCopy_gr (b : Block) (c : CopyItem) (level cls : Nat) : (b.queueCopy c level cls).gr = b.gr := rfl

end

/-! ### The STOCHASTIC test (R210) -/

section
variable {seed pos m : Nat} {c : TreeNode} {cs : List (Nat × TreeNode)} {p q : List (Nat × F32)}

/-- The weight of a token in a list of weights. -/
def weightAt (l : List (Nat × F32)) (v : Nat) : F32 := ((l.find? fun e => e.1 == v).map (·.2)).getD F.zero

/-- A child passes its test where its draw, scaled by the weight it was drawn with, lies below the weight it is verified with. -/
def passes (seed pos : Nat) (c : TreeNode) (p q : List (Nat × F32)) : Bool :=
  F.lt (F.mul (drawU seed (pos + 1) (64 + c.sibling) 0) (weightAt q (c.token.getD 0))) (weightAt p (c.token.getD 0))

theorem stochastic_accept (h : passes seed pos c p q = true) : stochastic seed pos ((m, c) :: cs) p q = .inl m := if_pos h

theorem stochastic_reject (h : passes seed pos c p q = false) :
    stochastic seed pos ((m, c) :: cs) p q = stochastic seed pos cs (residual p q) (removeDraft q (c.token.getD 0)) :=
  if_neg (Bool.eq_false_iff.1 h)

/-- A child that the test accepts is one of those it was given. -/
theorem stochastic_mem (h : stochastic seed pos cs p q = .inl m) : ∃ c, (m, c) ∈ cs := by
  induction cs generalizing p q with
  | nil => cases h
  | cons k cs ih =>
    obtain ⟨m', c⟩ := k
    cases hc : passes seed pos c p q
    case true =>
      rw [stochastic_accept hc] at h
      cases h
      exact ⟨c, List.mem_cons_self⟩
    case false =>
      rw [stochastic_reject hc] at h
      obtain ⟨c', hmem⟩ := ih h
      exact ⟨c', List.mem_cons_of_mem _ hmem⟩

/-- What each kept weight leaves above the weight drafted, not normalised. -/
def leftOver (p q : List (Nat × F32)) : List F32 := p.map fun e => max0 (F.sub e.2 (weightAt q e.1))

theorem keptSum_leftOver (p q : List (Nat × F32)) :
    keptSum (p.map fun e => (e.1, max0 (F.sub e.2 (weightAt q e.1)))) = sumF (leftOver p q) := by
  rw [keptSum, List.map_map]
  rfl

/-- Where nothing is left over, the weights stay as they are. -/
theorem residual_of_zero (h : F.eq (sumF (leftOver p q)) F.zero = true) : residual p q = p :=
  if_pos (by rw [← h, ← keptSum_leftOver]; rfl)

/-- What is left over, normalised. -/
theorem residual_of_left (h : F.eq (sumF (leftOver p q)) F.zero = false) :
    residual p q = p.map fun e => (e.1, F.div (max0 (F.sub e.2 (weightAt q e.1))) (sumF (leftOver p q))) := by
  rw [← keptSum_leftOver] at h ⊢
  calc residual p q = _ := if_neg (Bool.eq_false_iff.1 h)
    _ = _ := List.map_map

theorem residual_tokens (p q : List (Nat × F32)) : (residual p q).map (·.1) = p.map (·.1) := by
  cases h : F.eq (sumF (leftOver p q)) F.zero with
  | true => rw [residual_of_zero h]
  | false =>
    rw [residual_of_left h, List.map_map]
    rfl

theorem residual_weights (h : F.eq (sumF (leftOver p q)) F.zero = false) :
    (residual p q).map (·.2) = (leftOver p q).map fun x => F.div x (sumF (leftOver p q)) := by
  rw [residual_of_left h, leftOver, List.map_map, List.map_map]
  rfl

theorem removeDraft_tokens (q : List (Nat × F32)) (v : Nat) : (removeDraft q v).map (·.1) = q.map (·.1) := by
  have hzeroed : (q.map fun e => if e.1 = v then (e.1, F.zero) else e).map (·.1) = q.map (·.1) := by
    rw [List.map_map]
    exact List.map_congr_left fun e _ => by simp only [Function.comp_apply]; split <;> rfl
  unfold removeDraft
  extract_lets zeroed s
  split
  · rw [List.map_map]
    exact hzeroed
  · exact hzeroed

end

/-! ### The walk at a node (R210, R211, R213) -/

section
variable {b : Block} {t : Tree} {e : Entry} {fuel x : Nat} {acc : List Nat} {toks : List GenToken} {f : PartialResult}

/-- The children of a node that are not void, with their numbers. -/
def Tree.kids (t : Tree) (x : Nat) : List (Nat × TreeNode) :=
  ((List.range t.nodes.length).zip t.nodes).filter fun n => n.2.parent == x && !n.2.void && n.1 != 0

theorem Tree.mem_kids {m : Nat} {n : TreeNode} (h : (m, n) ∈ t.kids x) :
    t.nodes[m]? = some n ∧ n.parent = x ∧ n.void = false ∧ m ≠ 0 := by
  obtain ⟨hmem, hkid⟩ := List.mem_filter.1 h
  obtain ⟨i, hi⟩ := List.mem_iff_getElem?.1 hmem
  obtain ⟨hrange, hnode⟩ := List.getElem?_zip_eq_some.1 hi
  obtain ⟨hi', him⟩ := List.getElem?_eq_some_iff.1 hrange
  rw [List.getElem_range] at him
  subst him
  simp only [Bool.and_eq_true, beq_iff_eq, Bool.not_eq_true', bne_iff_ne] at hkid
  obtain ⟨⟨hparent, hvoid⟩, hne⟩ := hkid
  exact ⟨hnode, hparent, hvoid, hne⟩

/-- The final list of a node's row. -/
def Block.nodeFinal (b : Block) (t : Tree) (x : Nat) : Option PartialResult :=
  b.finalOf ((b.rowsWhere fun r => r.handle == t.handle && r.kind == 3 && r.treeNode % 128 == x).headD 0)

/-- The depth of a node. -/
def Tree.depthOf (t : Tree) (x : Nat) : Nat := (t.nodes[x]?.map (·.depth)).getD 0

/-- A request verifies its trees by the token drawn. -/
def greedyVerify (e : Entry) : Bool := bit e.sampling.sampleMode 0 || verifyMode e.sampling == 1

/-- The token drawn at a node's position. -/
def nodeDraw (e : Entry) (t : Tree) (x : Nat) (f : PartialResult) : Nat :=
  drawToken e.sampling e.seed (t.rootPos + t.depthOf x + 1) 0 f

/-- A token with the flags of the final list it comes from. -/
def genToken (f : PartialResult) (v : Nat) (bonus : Bool) : GenToken := { token := v, inf := f.flags.inf, approx := f.flags.approx, bonus }

/-- The test of a node's children against its kept probabilities and the draft set of its depth. -/
def nodeTest (e : Entry) (t : Tree) (x : Nat) (f : PartialResult) : Nat ⊕ List (Nat × F32) :=
  stochastic e.seed (t.rootPos + t.depthOf x) (t.kids x) (keptProb (keptSet e.sampling f)) (Tab.getD (t.depthOf x) [] t.sets)

/-- The token drawn from the residual weights. -/
def residualDraw (e : Entry) (t : Tree) (x : Nat) (w : List (Nat × F32)) : Nat :=
  (w.getD (inverseCdf (w.map (·.2)) (drawU e.seed (t.rootPos + t.depthOf x + 1) 128 0)) (0, F.zero)).1

theorem walkTree_unfinished (hfinal : b.nodeFinal t x = none) : b.walkTree t e (fuel + 1) x acc toks = (acc, toks, none) := by
  unfold Block.nodeFinal at hfinal
  simp only [Block.walkTree, hfinal]

section
variable (hfinal : b.nodeFinal t x = some f)
include hfinal

theorem walkTree_noToken {c : Nat} (hcause : noTokenCause f.flags = some c) :
    b.walkTree t e (fuel + 1) x acc toks = (acc, toks, some (t.rootPos + t.depthOf x + 1, c)) := by
  unfold Block.nodeFinal at hfinal
  simp only [Block.walkTree, hfinal, hcause]
  rfl

variable (hyields : noTokenCause f.flags = none)
include hyields

/-- What the walk does at a node whose row yields a token. -/
theorem walkTree_yields : b.walkTree t e (fuel + 1) x acc toks =
    if (t.kids x).isEmpty then (acc, toks ++ [genToken f (nodeDraw e t x f) (!acc.isEmpty)], none)
    else if greedyVerify e then
      match (t.kids x).find? fun k => k.2.token == some (nodeDraw e t x f) with
      | some k => b.walkTree t e fuel k.1 (acc ++ [k.1]) (toks ++ [genToken f (nodeDraw e t x f) false])
      | none => (acc, toks ++ [genToken f (nodeDraw e t x f) false], none)
    else
      match nodeTest e t x f with
      | .inl m => b.walkTree t e fuel m (acc ++ [m]) (toks ++ [genToken f ((t.nodes[m]?.bind (·.token)).getD 0) false])
      | .inr w => (acc, toks ++ [genToken f (residualDraw e t x w) false], none) := by
  unfold Block.nodeFinal at hfinal
  rw [Block.walkTree]
  simp only [hfinal, hyields]
  rfl

theorem walkTree_leaf (hkids : t.kids x = []) :
    b.walkTree t e (fuel + 1) x acc toks = (acc, toks ++ [genToken f (nodeDraw e t x f) (!acc.isEmpty)], none) := by
  rw [walkTree_yields hfinal hyields, hkids]
  rfl

section
variable (hgreedy : greedyVerify e = true)
include hgreedy

theorem walkTree_greedy_child {k : Nat × TreeNode} (hk : ((t.kids x).find? fun k => k.2.token == some (nodeDraw e t x f)) = some k) :
    b.walkTree t e (fuel + 1) x acc toks =
      b.walkTree t e fuel k.1 (acc ++ [k.1]) (toks ++ [genToken f (nodeDraw e t x f) false]) := by
  have hkids : (t.kids x).isEmpty = false := List.isEmpty_eq_false_iff_exists_mem.2 ⟨k, List.mem_of_find?_eq_some hk⟩
  simp only [walkTree_yields hfinal hyields, hkids, hgreedy, hk, Bool.false_eq_true, if_false, if_true]

theorem walkTree_greedy_end (hkids : t.kids x ≠ []) (hnone : ∀ k ∈ t.kids x, k.2.token ≠ some (nodeDraw e t x f)) :
    b.walkTree t e (fuel + 1) x acc toks = (acc, toks ++ [genToken f (nodeDraw e t x f) false], none) := by
  have hfind : ((t.kids x).find? fun k => k.2.token == some (nodeDraw e t x f)) = none :=
    List.find?_eq_none.2 fun k hk => by simpa using hnone k hk
  simp only [walkTree_yields hfinal hyields, List.isEmpty_eq_false_iff.2 hkids, hgreedy, hfind, Bool.false_eq_true, if_false, if_true]

end

section
variable (hkids : t.kids x ≠ []) (hgreedy : greedyVerify e = false)
include hkids hgreedy

theorem walkTree_stochastic_child {m : Nat} (hm : nodeTest e t x f = .inl m) : b.walkTree t e (fuel + 1) x acc toks =
    b.walkTree t e fuel m (acc ++ [m]) (toks ++ [genToken f ((t.nodes[m]?.bind (·.token)).getD 0) false]) := by
  simp only [walkTree_yields hfinal hyields, List.isEmpty_eq_false_iff.2 hkids, hgreedy, hm, Bool.false_eq_true, if_false]

theorem walkTree_stochastic_end {w : List (Nat × F32)} (hw : nodeTest e t x f = .inr w) :
    b.walkTree t e (fuel + 1) x acc toks = (acc, toks ++ [genToken f (residualDraw e t x w) false], none) := by
  simp only [walkTree_yields hfinal hyields, List.isEmpty_eq_false_iff.2 hkids, hgreedy, hw, Bool.false_eq_true, if_false]

end

end

/-- At a node the walk ends without a token or with one, or goes on to a child whose token it gives. -/
theorem walkTree_step (b : Block) (t : Tree) (e : Entry) (fuel x : Nat) (acc : List Nat) (toks : List GenToken) :
    (∃ c, b.walkTree t e (fuel + 1) x acc toks = (acc, toks, c)) ∨
    (∃ g, b.walkTree t e (fuel + 1) x acc toks = (acc, toks ++ [g], none)) ∨
    ∃ m n g, (m, n) ∈ t.kids x ∧ g.bonus = false ∧ (∀ v, n.token = some v → g.token = v) ∧
      b.walkTree t e (fuel + 1) x acc toks = b.walkTree t e fuel m (acc ++ [m]) (toks ++ [g]) := by
  cases hfinal : b.nodeFinal t x with
  | none => exact .inl ⟨_, walkTree_unfinished hfinal⟩
  | some f =>
  cases hyields : noTokenCause f.flags with
  | some c => exact .inl ⟨_, walkTree_noToken hfinal hyields⟩
  | none =>
  by_cases hkids : t.kids x = []
  · exact .inr (.inl ⟨_, walkTree_leaf hfinal hyields hkids⟩)
  cases hgreedy : greedyVerify e with
  | true =>
    cases hfind : (t.kids x).find? fun k => k.2.token == some (nodeDraw e t x f) with
    | some k =>
      have htoken : k.2.token = some (nodeDraw e t x f) := by simpa using List.find?_some hfind
      exact .inr (.inr ⟨k.1, k.2, _, List.mem_of_find?_eq_some hfind, rfl, fun v hv => Option.some.inj (htoken.symm.trans hv),
        walkTree_greedy_child hfinal hyields hgreedy hfind⟩)
    | none =>
      have hnone : ∀ k ∈ t.kids x, k.2.token ≠ some (nodeDraw e t x f) := fun k hk => by simpa using List.find?_eq_none.1 hfind k hk
      exact .inr (.inl ⟨_, walkTree_greedy_end hfinal hyields hgreedy hkids hnone⟩)
  | false =>
    cases htest : nodeTest e t x f with
    | inl m =>
      obtain ⟨n, hmem⟩ := stochastic_mem htest
      obtain ⟨hnode, -⟩ := Tree.mem_kids hmem
      exact .inr (.inr ⟨m, n, _, hmem, rfl, fun v hv => by simp [genToken, hnode, hv],
        walkTree_stochastic_child hfinal hyields hkids hgreedy htest⟩)
    | inr w => exact .inr (.inl ⟨_, walkTree_stochastic_end hfinal hyields hkids hgreedy htest⟩)

end

/-! ### The path that a walk accepts (R212, R213) -/

section
variable {t : Tree} {x m : Nat} {n : TreeNode} {g : GenToken} {ms : List Nat} {gs : List GenToken}

/-- The nodes ms lead down from node x, none of them void, and carry the tokens gs. -/
def Tree.Accepts (t : Tree) (x : Nat) (ms : List Nat) (gs : List GenToken) : Prop :=
  ∀ i m : Nat, ms[i]? = some m → m ≠ 0 ∧ ∃ (n : TreeNode) (g : GenToken), t.nodes[m]? = some n ∧ n.void = false ∧
    (x :: ms)[i]? = some n.parent ∧ gs[i]? = some g ∧ g.bonus = false ∧ ∀ v, n.token = some v → g.token = v

theorem Tree.accepts_nil (t : Tree) (x : Nat) (gs : List GenToken) : t.Accepts x [] gs := fun _ _ h => by cases h

theorem Tree.Accepts.cons (h : t.Accepts m ms gs) (hmem : (m, n) ∈ t.kids x) (hbonus : g.bonus = false)
    (htoken : ∀ v, n.token = some v → g.token = v) : t.Accepts x (m :: ms) (g :: gs)
  | 0, _, rfl => by
    obtain ⟨hnode, hparent, hvoid, hne⟩ := Tree.mem_kids hmem
    exact ⟨hne, n, g, hnode, hvoid, congrArg some hparent.symm, rfl, hbonus, htoken⟩
  | i + 1, m', hm => h i m' hm

/-- A walk accepts a path from its node, and ends with one token more, or with none, then perhaps for a cause. -/
theorem walkTree_accepts (b : Block) (t : Tree) (e : Entry) (fuel x : Nat) (acc : List Nat) (toks : List GenToken) :
    ∃ ms gs c, b.walkTree t e fuel x acc toks = (acc ++ ms, toks ++ gs, c) ∧ t.Accepts x ms gs ∧
      (gs.length = ms.length ∨ gs.length = ms.length + 1 ∧ c = none) := by
  induction fuel generalizing x acc toks with
  | zero => exact ⟨[], [], none, by simp [Block.walkTree], t.accepts_nil x [], .inl rfl⟩
  | succ fuel ih =>
    obtain ⟨c, h⟩ | ⟨g, h⟩ | ⟨m, n, g, hmem, hbonus, htoken, h⟩ := walkTree_step b t e fuel x acc toks
    · exact ⟨[], [], c, by simp [h], t.accepts_nil x [], .inl rfl⟩
    · exact ⟨[], [g], none, by simp [h], t.accepts_nil x [g], .inr ⟨rfl, rfl⟩⟩
    · obtain ⟨ms, gs, c, hwalk, hpath, hlen⟩ := ih m (acc ++ [m]) (toks ++ [g])
      exact ⟨m :: ms, g :: gs, c, by simp [h, hwalk], hpath.cons hmem hbonus htoken,
        hlen.imp (congrArg (· + 1)) (.imp_left (congrArg (· + 1)))⟩

end

/-! ### The result of a tree (R212, R213) -/

section
variable {b : Block} {h i slot : Nat} {t : Tree} {e : Entry}

/-- What the walk of a tree leaves for the junction. -/
def treeResult (t : Tree) (w : List Nat × List GenToken × Option (Nat × Nat)) : StepResult :=
  { handle := t.handle, tokens := w.2.1, noToken := if w.1 = [] then w.2.2 else none
    verify := if 1 < t.nodes.length then some w.1.length else none
    committedAt := if w.2.2.isSome = true ∧ w.1 ≠ [] then some (t.rootPos + w.1.length) else none }

/-- A tree walked: its result is staged, and its record read. -/
def Block.treeWalked (b : Block) (i : Nat) (t : Tree) (res : StepResult) : Block :=
  let b := { b with gr := { b.gr with results := b.gr.results ++ [res] }, trees := b.trees.set i { t with walked := true } }
  b.ask 61 (b.treeAddr b.consistNow.step i) (64 + 32 * t.nodes.length) .other

/-- The COMPACT item of the last node accepted, where its position is in a scratch page and its token stands (R214). -/
def Block.compactLast (b : Block) (slot : Nat) (t : Tree) (e : Entry) (w : List Nat × List GenToken × Option (Nat × Nat)) : Block :=
  match w.1.getLast?.bind fun m => t.nodes[m]? with
  | some n => match n.scratch with
    | some s =>
      let g := b.pageTokens
      let pos := t.rootPos + n.depth
      if w.2.2.isSome || t.rootPos + (cutTokens e (w.2.1.map (·.token))).length ≤ pos then b else
      let c : CopyItem :=
        { kind := 2, src := (b.ent slot).scratch.getD (s / g) 0, dst := (b.ent slot).pages.getD (pos / g) 0
          srcOffset := s % g, dstOffset := pos % g, posCount := 1, handle := t.handle, seq := none, step := b.consistNow.step
          epoch := b.consistNow.epoch }
      (b.queueCopy c 0 (classOf e.classPrio)).checkPlatforms
    | none => b
  | none => b

theorem compactLast_gr (b : Block) (slot : Nat) (t : Tree) (e : Entry) (w : List Nat × List GenToken × Option (Nat × Nat)) :
    (b.compactLast slot t e w).gr = b.gr := by
  unfold Block.compactLast
  split
  · split
    · extract_lets
      split
      · rfl
      · rw [checkPlatforms_gr, queueCopy_gr]
    · rfl
  · rfl

theorem treeResult_eq (t : Tree) (w : List Nat × List GenToken × Option (Nat × Nat)) : treeResult t w =
    { handle := t.handle, tokens := w.2.1, noToken := if w.1.length = 0 then w.2.2 else none
      verify := if t.nodes.length > 1 then some w.1.length else none
      committedAt := match w.2.2 with
        | some _ => if w.1.length > 0 then some (t.rootPos + w.1.length) else none
        | none => none } := by
  obtain ⟨acc, toks, _ | c⟩ := w <;> simp [treeResult, List.length_pos_iff]

/-- The tree found for a handle carries it. -/
theorem tree_handle (hi : (b.trees.findIdx? fun t => t.handle == h) = some i) (ht : b.trees[i]? = some t) : t.handle = h := by
  obtain ⟨hlt, hhandle, -⟩ := List.findIdx?_eq_some_iff_getElem.1 hi
  rw [List.getElem?_eq_getElem hlt] at ht
  exact Option.some.inj ht ▸ eq_of_beq hhandle

section
variable (hi : (b.trees.findIdx? fun u => u.handle == t.handle) = some i) (ht : b.trees[i]? = some t)
  (he : b.byHandle t.handle = some (slot, e)) (hwalked : t.walked = false)
  (hrows : ∀ row ∈ b.rowsWhere fun r => r.handle == t.handle && r.kind == 3, (b.finalOf row).isSome = true)
include hi ht he hwalked hrows

/-- A tree whose rows all have their final lists is walked, and its last node's position moved. -/
theorem verifyTree_walks : b.verifyTree t.handle =
    (b.treeWalked i t (treeResult t (b.walkTree t e 17 0 [] []))).compactLast slot t e (b.walkTree t e 17 0 [] []) := by
  have hdone : (b.rowsWhere fun r => r.handle == t.handle && r.kind == 3).any (fun r => (b.finalOf r).isNone) = false := by
    simpa [Option.isSome_iff_ne_none] using hrows
  simp only [Block.verifyTree, hi, he, ht, hwalked, hdone, Bool.or_self, Bool.false_eq_true, if_false]
  rw [treeResult_eq]
  rfl

theorem verifyTree_results : (b.verifyTree t.handle).gr.results = b.gr.results ++ [treeResult t (b.walkTree t e 17 0 [] [])] := by
  rw [verifyTree_walks hi ht he hwalked hrows, compactLast_gr]
  rfl

end

end

/-! ### The statistics of a verify step (R200, R216, R217) -/

section
variable {b : Block} {slot n a : Nat}

/-- An entry after a verify step with n accepted nodes, its limits not yet kept. -/
def verified (e : Entry) (n : Nat) : Entry := { e with
  stepsVerified := add32 e.stepsVerified 1
  tokensAccepted := add32 e.tokensAccepted n
  acceptEma := ((e.acceptEma : Int) + (((n * 256 : Nat) : Int) - e.acceptEma).shiftRight 2).toNat
  zeroAcceptRun := if n = 0 then min 255 (e.zeroAcceptRun + 1) else 0 }

theorem verified_acceptEma (e : Entry) (n : Nat) :
    ((verified e n).acceptEma : Int) = max 0 ((e.acceptEma : Int) + ((n : Int) * 256 - e.acceptEma) / 4) := by
  have hshift : ∀ x : Int, x.shiftRight 2 = x / 4 := fun x => Int.shiftRight_eq_div_pow x 2
  rw [verified, Int.toNat_eq_max, hshift, Nat.cast_mul, max_comm]
  rfl

/-- Keeping the limits changes the depth and the width alone, within those of the model. -/
theorem keepLimits_spec (sp : SpecBlock) (e : Entry) : ∃ d ≤ max 1 sp.depthMax, ∃ w ≤ sp.widthMax,
    keepLimits sp e = { e with treeDepth := d, treeWidth := w } := by
  unfold keepLimits
  split
  · exact ⟨0, Nat.zero_le _, 0, Nat.zero_le _, rfl⟩
  · exact ⟨_, max_le_max_left 1 (Nat.min_le_left ..), _, Nat.min_le_left .., rfl⟩

theorem suspend_ent (b : Block) (slot a : Nat) : ∃ x y, (b.suspend slot a).ent slot = { b.ent slot with
    flags := { (b.ent slot).flags with specPlain := true }, probeCountdown := 64, treeDepth := 0, treeWidth := 0
    eventProd := x, eventsDropped := y } := by
  obtain ⟨x, y, h⟩ := post_ent (b := b.setEnt slot { b.ent slot with
    flags := { (b.ent slot).flags with specPlain := true }, probeCountdown := 64, treeDepth := 0, treeWidth := 0 }) (slot := slot)
    { code := 0x0E, handle := (b.ent slot).handle, time := a, arg0 := 0, arg1 := (b.ent slot).zeroAcceptRun }
  exact ⟨x, y, by rw [Block.suspend, h, ent_setEnt]⟩

theorem verifyStats_suspends (h : 8 ≤ (verified (b.ent slot) n).zeroAcceptRun) : ∃ x y,
    (b.verifyStats slot n a).ent slot = { verified (b.ent slot) n with
      flags := { (b.ent slot).flags with specPlain := true }, probeCountdown := 64, treeDepth := 0, treeWidth := 0
      eventProd := x, eventsDropped := y } := by
  have hstats : b.verifyStats slot n a = (b.setEnt slot (verified (b.ent slot) n)).suspend slot a := if_pos h
  obtain ⟨x, y, hent⟩ := suspend_ent (b.setEnt slot (verified (b.ent slot) n)) slot a
  exact ⟨x, y, by rw [hstats, hent, ent_setEnt]; rfl⟩

theorem verifyStats_keeps (h : (verified (b.ent slot) n).zeroAcceptRun < 8) : ∃ d ≤ max 1 b.mdl.spec.depthMax, ∃ w ≤ b.mdl.spec.widthMax,
    (b.verifyStats slot n a).ent slot = { verified (b.ent slot) n with treeDepth := d, treeWidth := w } := by
  have hstats : b.verifyStats slot n a = (b.setEnt slot (verified (b.ent slot) n)).modEnt slot (keepLimits b.mdl.spec) := if_neg h.not_ge
  obtain ⟨d, hd, w, hw, hkeep⟩ := keepLimits_spec b.mdl.spec (verified (b.ent slot) n)
  exact ⟨d, hd, w, hw, by rw [hstats, Block.modEnt, ent_setEnt, ent_setEnt, hkeep]⟩

end

/-- Settles O36: the path by induction on the walk's fuel, each node and each test by its equation, and the statistics by the run of steps
that accepted nothing. -/
theorem treesAreVerified : Obligations.TreesAreVerified := by
  refine ⟨fun b t e => ?_, fun b t e fuel x acc toks f hfinal => ?_, fun seed pos m c cs p q => ?_, fun _ _ _ _ => rfl,
    fun b h i slot t e hi ht => ?_, fun b slot n a => ?_⟩
  · obtain ⟨ms, gs, c, hwalk, hpath, hlen⟩ := walkTree_accepts b t e 17 0 [] []
    simp only [hwalk, List.nil_append]
    exact ⟨hlen, hpath⟩
  · exact ⟨fun c => walkTree_noToken hfinal, fun hyields => ⟨walkTree_leaf hfinal hyields,
      fun hkids hgreedy => walkTree_greedy_end hfinal hyields hgreedy hkids,
      fun hgreedy k => walkTree_greedy_child hfinal hyields hgreedy,
      fun hkids hgreedy => ⟨fun m => walkTree_stochastic_child hfinal hyields hkids hgreedy,
        fun w => walkTree_stochastic_end hfinal hyields hkids hgreedy⟩⟩⟩
  · exact ⟨stochastic_accept, fun h => ⟨_, _, stochastic_reject h, residual_tokens p q, removeDraft_tokens q _, residual_of_zero,
      residual_weights⟩⟩
  · obtain rfl := tree_handle hi ht
    exact verifyTree_results hi ht
  · intro e u run
    have hema := verified_acceptEma e n
    obtain hrun | hrun := Nat.lt_or_ge run 8
    · obtain ⟨d, hd, w, hw, hu⟩ := verifyStats_keeps (b := b) (a := a) (show (verified e n).zeroAcceptRun < 8 from hrun)
      rw [show u = _ from hu]
      exact ⟨rfl, rfl, rfl, hema, fun h => absurd hrun h.not_gt, fun _ => ⟨rfl, hd, hw⟩⟩
    · obtain ⟨x, y, hu⟩ := verifyStats_suspends (b := b) (a := a) (show 8 ≤ (verified e n).zeroAcceptRun from hrun)
      rw [show u = _ from hu]
      exact ⟨rfl, rfl, rfl, hema, fun _ => ⟨rfl, rfl, rfl, rfl⟩, fun h => absurd h hrun.not_gt⟩

end Sys2Proof.Machine
end

section
/-! The packets of the Coupling Unit at the Fabric Port (R221, R340, R342): what each whole message does, and what its term decides. -/

namespace Sys2Proof.Machine
open Sys2Proof

/-! ### A message as its last packet brings it -/

section
variable {x : State} {t : Time} {rx : Rx} {cls : Nat} (hserves : x.Serving)
include hserves

theorem fabric_port {f : Memory → Block → Block} : x.port t (some .fp) f = x.settled (x.blk.atTime t) (f x.view (x.seen t .fp)) := by
  obtain ⟨hdead, hsafe⟩ := hserves
  exact port_serving hdead hsafe

theorem port_rx_whole {k : Memory → Block → Block} (h : x.blk.Whole rx cls) :
    x.port t (some .fp) (fun m b => b.rx rx cls (k m)) = x.settled (x.blk.atTime t) (k x.view (x.got t rx cls)) := by
  have hwhole : (x.seen t .fp).Whole rx cls := h
  rw [fabric_port hserves, rx_whole hwhole]
  rfl

section
variable (h : x.blk.Whole rx 1)
include h

theorem exec_junctionReady_whole (j term done crc mv : Nat) : exec (.junctionReady t rx j term done crc mv false) x =
    .next (x.settled (x.blk.atTime t) ((x.got t rx 1).readyIn rx.src j term ⟨done, crc, mv⟩)) := by
  rw [exec_junctionReady, port_rx_whole hserves h]
  rfl

theorem exec_junctionDigest_whole (j term d : Nat) : exec (.junctionDigest t rx j term d) x =
    .next (x.settled (x.blk.atTime t) ((x.got t rx 1).digestIn rx.src j term d)) := by
  rw [exec_junctionDigest, port_rx_whole hserves h]

theorem exec_takeover_whole (j term old : Nat) : exec (.takeover t rx j term old) x =
    .next (x.settled (x.blk.atTime t) ((x.got t rx 1).takeoverIn rx.src j term old)) := by
  rw [exec_takeover, port_rx_whole hserves h]

theorem exec_takeoverAck_whole (term copies : Nat) : exec (.takeoverAck t rx term copies) x =
    .next (x.settled (x.blk.atTime t) ((x.got t rx 1).takeoverAckIn rx.src term copies)) := by
  rw [exec_takeoverAck, port_rx_whole hserves h]

end

section
variable (h : x.blk.Whole rx 2)
include h

theorem exec_logReceived_whole (frag count : Nat) (l : JLog) (reserved : Bool) : exec (.logReceived t rx frag count l reserved) x =
    .next (x.settled (x.blk.atTime t) ((x.got t rx 2).logIn rx.src frag count l reserved)) := by
  rw [exec_logReceived, port_rx_whole hserves h]

theorem exec_logResendRequest_whole (id first count : Nat) : exec (.logResendRequest t rx id first count) x =
    .next (x.settled (x.blk.atTime t) ((x.got t rx 2).logResend rx.src id first count)) := by
  rw [exec_logResendRequest, port_rx_whole hserves h]

end

section
variable (h : x.blk.Whole rx 4) (hd : EpochHead)
include h

theorem exec_propose_whole (c : CmdRecord) : exec (.propose t rx hd c) x =
    .next (x.settled (x.blk.atTime t) ((x.got t rx 4).proposeIn x.view rx.src hd c)) := by
  rw [exec_propose, port_rx_whole (k := fun m b => b.proposeIn m rx.src hd c) hserves h]

theorem exec_prepared_whole (mem page fixed : Nat) : exec (.prepared t rx hd mem page fixed) x =
    .next (x.settled (x.blk.atTime t) ((x.got t rx 4).preparedIn rx.src hd (mem, page, fixed))) := by
  rw [exec_prepared, port_rx_whole hserves h]

theorem exec_refused_whole (status detail : Nat) : exec (.refused t rx hd status detail) x =
    .next (x.settled (x.blk.atTime t) ((x.got t rx 4).refusedIn rx.src hd status detail)) := by
  rw [exec_refused, port_rx_whole hserves h]

theorem exec_capReport_whole (cap seq : Nat) : exec (.capReport t rx hd cap seq) x =
    .next (x.settled (x.blk.atTime t) ((x.got t rx 4).epochIn hd fun b => b.capReport rx.src cap seq)) := by
  rw [exec_capReport, port_rx_whole hserves h]

theorem exec_capSet_whole (c : GroupCap) (seq effective : Nat) : exec (.capSet t rx hd c seq effective) x =
    .next (x.settled (x.blk.atTime t) ((x.got t rx 4).epochIn hd fun b => b.capSet c.cap c.rank seq effective)) := by
  rw [exec_capSet, port_rx_whole hserves h]

theorem exec_lossReport_whole (r : LossReport) : exec (.lossReport t rx hd r) x =
    .next (x.settled (x.blk.atTime t) ((x.got t rx 4).lossReportIn hd r)) := by
  rw [exec_lossReport, port_rx_whole hserves h]

end

theorem exec_haltReceived_whole (reason rank at_ : Nat) (h : x.blk.Whole rx 5) : exec (.haltReceived t rx reason rank at_) x =
    .next (x.settled (x.blk.atTime t) ((x.got t rx 5).haltReceived reason rank at_)) := by
  rw [exec_haltReceived, port_rx_whole hserves h]

theorem exec_linkmap_whole (report : LinkReport) (h : x.blk.Whole rx 6) : exec (.linkmap t rx report) x =
    .next (x.settled (x.blk.atTime t) ((x.got t rx 6).linkFails report.link report.time)) := by
  rw [exec_linkmap, port_rx_whole hserves h]

end

/-! ### The LEAD_TERM check of R221 -/

section
variable {b : Block} {term : Nat} {k : Block → Block} (hrun : b.running = true)
include hrun

theorem inTerm_older (h : term < b.cp.term) : b.inTerm term k = b.count 22 := by simp [Block.inTerm, hrun, h]

theorem inTerm_newer (h : b.cp.term < term) : b.inTerm term k = b.stop .couplingProtocol srcCoupling [term] := by
  simp [Block.inTerm, hrun, h, h.le]

end

/-- A message with the head of Table 12-14 is of the term that its head gives. -/
theorem epochIn_inTerm (b : Block) (h : EpochHead) (k : Block → Block) : b.epochIn h k = b.inTerm h.leadTerm k := rfl

end Sys2Proof.Machine
end

section
/-! Messages of other terms, failed links, HALT and transmit credits (R221, R243, R340, R345, R430, R431). -/

namespace Sys2Proof.Machine
open Sys2Proof

/-! ### A link fails (R243, R345) -/

section
variable {b : Block} {link time : Nat}

/-- A block with one link more out of service. -/
def Block.withoutLink (b : Block) (link : Nat) : Block :=
  { b with fab := { b.fab with linksOut := b.fab.linksOut ++ [link], linkAt := Tab.set link b.now b.fab.linkAt } }

/-- The failure of a link in service is logged and told to every rank. -/
def Block.tellLinkOut (b : Block) (link time : Nat) : Block :=
  ((b.withoutLink link).logRec srcFabric 0x0120 2 [link, (b.routesOver link).length]).send none (.linkmap link b.cp.rank time)

theorem linkFails_already_out (h : b.fab.linksOut.contains link = true) : b.linkFails link time = b := if_pos h

section
variable (hlink : b.fab.linksOut.contains link = false) (hstate : b.cp.state ≠ .forming)
include hlink hstate

/-- Outside FORMING every rank is told, and a running group that has lost its last route to a rank stops. -/
theorem linkFails_in_service : b.linkFails link time =
    if b.running && (b.routesOver link).any fun r => ((b.withoutLink link).lowRoute r.1).isNone then
      (b.tellLinkOut link time).stop .routeLost srcCoupling [link]
    else b.tellLinkOut link time := by
  have hforming : (b.cp.state == GroupState.forming) = false := beq_false_of_ne hstate
  unfold Block.linkFails
  rw [if_neg (Bool.eq_false_iff.1 hlink)]
  extract_lets gone fab out logged told
  have htold : told = b.tellLinkOut link time := if_neg (Bool.eq_false_iff.1 hforming)
  rw [htold]
  rfl

theorem linkFails_other_routes (hroutes : ∀ r ∈ b.routesOver link, ((b.withoutLink link).lowRoute r.1).isSome = true) :
    b.linkFails link time = b.tellLinkOut link time := by
  have hnone : ((b.routesOver link).any fun r => ((b.withoutLink link).lowRoute r.1).isNone) = false := by
    simpa [Option.isSome_iff_ne_none] using hroutes
  rw [linkFails_in_service hlink hstate, hnone, Bool.and_false]
  rfl

theorem linkFails_last_route {r : Nat × Nat} (hrun : b.running = true) (hr : r ∈ b.routesOver link)
    (hlost : (b.withoutLink link).lowRoute r.1 = none) :
    b.linkFails link time = (b.tellLinkOut link time).stop .routeLost srcCoupling [link] := by
  have hany : ((b.routesOver link).any fun r => ((b.withoutLink link).lowRoute r.1).isNone) = true :=
    List.any_eq_true.2 ⟨r, hr, by rw [hlost]; rfl⟩
  rw [linkFails_in_service hlink hstate, hrun, hany]
  rfl

end

end

/-! ### HALT and transmit credits (R340, R430, R431) -/

section
variable {b : Block}

theorem running_of_state (h : b.cp.state = .running) : b.running = true := by simp [Block.running, h]

/-- A HALT counted. -/
def Block.haltCounted (b : Block) : Block := { b with flt := { b.flt with halts := satInc 65535 b.flt.halts } }

theorem haltReceived_stops (h : b.cp.state ≠ .bufferStop) (reason rank at_ : Nat) :
    b.haltReceived reason rank at_ =
      { b.haltCounted.stop .haltReceived srcFabric [reason, rank] with
        flt := (b.haltCounted.stop .haltReceived srcFabric [reason, rank]).flt.note reason at_ rank } :=
  if_neg (Bool.eq_false_iff.1 (beq_false_of_ne h))

theorem haltReceived_stopped (h : b.cp.state = .bufferStop) (reason rank at_ : Nat) :
    b.haltReceived reason rank at_ = { b.haltCounted with flt := b.haltCounted.flt.note reason at_ rank } :=
  if_pos (beq_iff_eq.2 h)

theorem returnCredit_of_class {cls : Nat} (hpos : 0 < cls) (hmax : cls ≤ 6) :
    b.returnCredit cls = { b with fab := { b.fab with credits := b.fab.credits.modify cls (· + 1) } } := by
  have hclass : ¬ (decide (cls = 0) || decide (cls > 6)) = true := by simp; omega
  exact if_neg hclass

end

/-- Settles O42: every message that carries a term is checked for it before anything else; a link's failure, HALT and a credit by the
state of the link, of the group and the class. -/
theorem fabricMessagesReachTheInstance : Obligations.FabricMessagesReachTheInstance := by
  refine ⟨fun x t rx i term cls hserves hwhole hi => ?_, fun x t hserves => ?_⟩
  · intro b hrun
    have hterm : ∃ c k, exec i x = .next (x.settled (x.blk.atTime t) c) ∧ c = b.inTerm term k := by
      obtain ⟨j, d, c, m, rfl, rfl⟩ | ⟨j, d, rfl, rfl⟩ | ⟨k, rfl, rfl⟩ | ⟨f, n, l, rfl, rfl, rfl⟩ | ⟨h, c, rfl, rfl, rfl⟩ |
        ⟨h, p, q, r, rfl, rfl, rfl⟩ | ⟨h, s, d, rfl, rfl, rfl⟩ | ⟨h, c, s, rfl, rfl, rfl⟩ | ⟨h, c, s, e, rfl, rfl, rfl⟩ |
        ⟨h, r, rfl, rfl, rfl⟩ := hi
      · exact ⟨_, _, exec_junctionReady_whole hserves hwhole .., rfl⟩
      · exact ⟨_, _, exec_junctionDigest_whole hserves hwhole .., rfl⟩
      · exact ⟨_, _, exec_takeoverAck_whole hserves hwhole .., rfl⟩
      · exact ⟨_, _, exec_logReceived_whole hserves hwhole .., rfl⟩
      · exact ⟨_, _, exec_propose_whole hserves hwhole .., epochIn_inTerm ..⟩
      · exact ⟨_, _, exec_prepared_whole hserves hwhole .., epochIn_inTerm ..⟩
      · exact ⟨_, _, exec_refused_whole hserves hwhole .., epochIn_inTerm ..⟩
      · exact ⟨_, _, exec_capReport_whole hserves hwhole .., epochIn_inTerm ..⟩
      · exact ⟨_, _, exec_capSet_whole hserves hwhole .., epochIn_inTerm ..⟩
      · exact ⟨_, _, exec_lossReport_whole hserves hwhole .., epochIn_inTerm ..⟩
    obtain ⟨c, k, hexec, hc⟩ := hterm
    exact ⟨fun h => by rw [hexec, hc, inTerm_older hrun h], fun h => by rw [hexec, hc, inTerm_newer hrun h]⟩
  · intro result b
    have hreport (link : Nat) : exec (.linkFailReport t link) x = result (b.linkFails link b.now) := by
      rw [exec_linkFailReport, fabric_port hserves]
    refine ⟨fun link hlink hstate => ?_, fun link r hlink hstate => ?_, fun rx link at_ hwhole hlink hstate => ?_,
      fun rx link at_ hwhole hlink => ⟨?_, ?_⟩, fun rx reason rank at_ hwhole hstate => ?_,
      fun rx reason rank at_ hwhole hstate => ?_, fun cls hpos hmax => ?_⟩
    · intro out hroutes
      rw [hreport, linkFails_other_routes hlink hstate hroutes]
      rfl
    · intro out hr hlost
      rw [hreport, linkFails_last_route hlink (by rw [hstate]; decide) (running_of_state hstate) hr hlost]
      rfl
    · intro heard out hroutes
      rw [exec_linkmap_whole hserves _ hwhole, linkFails_other_routes (b := x.got t rx 6) hlink hstate hroutes]
      rfl
    · rw [hreport, linkFails_already_out hlink]
    · rw [exec_linkmap_whole hserves _ hwhole, linkFails_already_out (b := x.got t rx 6) hlink]
      rfl
    · have hheard : (x.got t rx 5).cp.state ≠ .bufferStop := fun h => GroupState.noConfusion (hstate.symm.trans h)
      rw [exec_haltReceived_whole hserves _ _ _ hwhole, haltReceived_stops hheard]
      rfl
    · rw [exec_haltReceived_whole hserves _ _ _ hwhole, haltReceived_stopped (b := x.got t rx 5) hstate]
      rfl
    · rw [exec_txCreditReturn, fabric_port hserves, returnCredit_of_class hpos hmax]

end Sys2Proof.Machine
end

section
/-! READY, the agreement on a junction, and DIGEST (R118, R225, R226, R228, R229). -/

namespace Sys2Proof.Machine
open Sys2Proof

theorem Tab.mem_set_self {α : Type} (k : Nat) (v : α) (t : Table α) : (k, v) ∈ Tab.set k v t := by
  induction t with
  | nil => exact List.mem_cons_self
  | cons p r ih =>
    rw [Tab.set]
    split
    · exact List.mem_cons_self
    · split
      · exact List.mem_cons_self
      · exact List.mem_cons_of_mem _ ih

/-! ### READY is sent, sent again, and waited for (R225, R229) -/

section
variable {b : Block}

/-- The READY of the next junction, for a step that is complete since `done`. -/
def Block.readyFor (b : Block) (l : JLog) (done : Nat) : Ready := { doneTime := done, logCrc := logCrc l, moveSeq := moveSeqOf b }

theorem readySend_due {l : JLog} {done : Nat} (hlog : b.cp.log = some l) (hdone : b.cp.stepDone = some done) (hdue : b.readyDue = true) :
    b.readySend = Block.sendSent
      { b with cp := { b.cp with sent := some (b.readyFor l done), readySent := some b.now, readyAt := b.now } }
      none (b.cp.applied + 1) (b.readyFor l done) := by
  simp only [Block.readySend, hlog, hdone, hdue, Bool.not_true, Bool.false_eq_true, if_false]
  rfl

theorem readySend_not_due (h : b.readyDue = false) : b.readySend = b := by
  unfold Block.readySend
  split
  · exact if_pos (by rw [h]; rfl)
  · rfl

theorem readyResend_due {r : Ready} (hsent : b.cp.sent = some r) (hrun : b.running = true) (hdue : b.cp.readyAt + 20000 ≤ b.now) :
    b.readyResend = Block.sendSent { b with cp := { b.cp with readyAt := b.now } } none (b.cp.applied + 1) r := by
  have hpassed : (b.running && decide (b.now ≥ b.cp.readyAt + resendNs)) = true := by
    rw [hrun, Bool.true_and]
    exact decide_eq_true hdue
  simp only [Block.readyResend, hsent, hpassed, if_true]

section
variable {since : Nat} (hsent : b.cp.readySent = some since)
include hsent

theorem junctionWatchdog_expired (hrun : b.running = true) (h : since + b.mdl.watchdog * 1000 ≤ b.now) :
    b.junctionWatchdog = b.stop .junctionWatchdog srcCoupling [b.cp.applied + 1] := by
  simp [Block.junctionWatchdog, hsent, hrun, h]

theorem junctionWatchdog_waits (h : b.now < since + b.mdl.watchdog * 1000) : b.junctionWatchdog = b := by
  simp [Block.junctionWatchdog, hsent, h.not_ge]

end

end

/-! ### The READYs held agree, or not yet, or not at all (R226) -/

section
variable {b : Block}

/-- The READYs held carry the CRC of one log. -/
def Block.readysAgree (b : Block) : Prop := ∀ p ∈ b.cp.ready, ∀ q ∈ b.cp.ready, q.2.logCrc = p.2.logCrc

theorem readysAgree_iff : b.readysAgree ↔
    ((Tab.vals b.cp.ready).any fun r => (Tab.vals b.cp.ready).any fun q => q.logCrc != r.logCrc) = false := by
  simp [Block.readysAgree, Tab.vals]

theorem agree_differing (h : ¬ b.readysAgree) : b.agree = b.stop .logCrcMismatch srcCoupling [b.cp.applied + 1] := by
  rw [readysAgree_iff, Bool.not_eq_false] at h
  exact if_pos h

section
variable (hsame : b.readysAgree)
include hsame

theorem agree_missing {k : Nat} (hk : k < b.cp.n) (hmissing : Tab.has k b.cp.ready = false) : b.agree = b := by
  have hnot : (!(List.range b.cp.n).all fun r => Tab.has r b.cp.ready) = true := by
    rw [Bool.not_eq_true', List.all_eq_false]
    exact ⟨k, List.mem_range.2 hk, by simp [hmissing]⟩
  rw [readysAgree_iff] at hsame
  simp only [Block.agree, hsame, Bool.false_eq_true, if_false, hnot, if_true]

theorem agree_all {l : JLog} (hlog : b.cp.log = some l) (hall : ∀ k, k < b.cp.n → Tab.has k b.cp.ready = true) :
    b.agree = b.applyJunction l ((Tab.vals b.cp.ready).foldl (fun m r => max m r.doneTime) 0)
      ((minBy before32 ((Tab.vals b.cp.ready).map (·.moveSeq))).getD b.pg.nextMoveSeq) := by
  have hheld : ((List.range b.cp.n).all fun r => Tab.has r b.cp.ready) = true :=
    List.all_eq_true.2 fun k hk => hall k (List.mem_range.1 hk)
  rw [readysAgree_iff] at hsame
  simp only [Block.agree, hsame, Bool.false_eq_true, if_false, hheld, Bool.not_true, hlog]

end

/-- A READY of the next junction from a rank that has sent none is held, and agreement tried; the log is here already. -/
theorem readyIn_first {src : Nat} {r : Ready} {l : JLog} (hrun : b.running = true) (hlog : b.cp.log = some l) (hsrc : src < b.cp.n)
    (hnew : Tab.has src b.cp.ready = false) : b.readyIn src (b.cp.applied + 1) b.cp.term r =
      Block.agree { b with cp := { b.cp with ready := Tab.set src r b.cp.ready } } := by
  rw [Block.readyIn, inTerm_now hrun]
  simp [hlog, hnew, hsrc]

theorem readysAgree_set {src : Nat} {r : Ready} : Block.readysAgree { b with cp := { b.cp with ready := Tab.set src r b.cp.ready } } ↔
    ∀ p ∈ Tab.set src r b.cp.ready, p.2.logCrc = r.logCrc :=
  ⟨fun h p hp => h (src, r) (Tab.mem_set_self ..) p hp, fun h p hp q hq => (h q hq).trans (h p hp).symm⟩

end

/-! ### DIGEST (R228) -/

section
variable {b : Block} {src d : Nat}

section
variable (hrun : b.running = true) (hlead : b.isLead = true) (hsrc : src ≠ b.cp.rank)
include hrun hlead hsrc

theorem digestIn_lead_same (hd : d = b.cp.digest) : b.digestIn src b.cp.applied b.cp.term d =
    { b with cp := { b.cp with digests := Tab.set src d b.cp.digests } } := by
  rw [Block.digestIn, inTerm_now hrun]
  simp [hlead, hsrc, hd]

theorem digestIn_lead_other (hd : d ≠ b.cp.digest) : b.digestIn src b.cp.applied b.cp.term d =
    b.stop .digestMismatch srcCoupling [b.cp.applied, src] := by
  rw [Block.digestIn, inTerm_now hrun]
  simp [hlead, hsrc, hd]

end

/-- The lead's digest of the last junction applied, kept. -/
def Block.withLeadDigest (b : Block) (d : Nat) : Block := { b with cp := { b.cp with leadDigest := some (b.cp.applied, d) } }

section
variable (hlead : b.isLead = false) (hcomplete : b.cp.complete = false)
include hlead hcomplete

/-- A coupled block whose junction is not complete keeps the lead's digest and compares it with its own. -/
theorem digestIn_coupled (hrun : b.running = true) (hsrc : src = b.cp.leadRank) :
    b.digestIn src b.cp.applied b.cp.term d = (b.withLeadDigest d).tryDigest := by
  rw [Block.digestIn, inTerm_now hrun]
  simp [hlead, hsrc, hcomplete, Block.withLeadDigest]

section
variable (hheld : b.cp.leadDigest = some (b.cp.applied, d))
include hheld

theorem tryDigest_same (hd : d = b.cp.digest) : b.tryDigest =
    b.completeJunction.send (some b.cp.leadRank) (.digest b.cp.applied b.cp.term b.cp.digest) := by
  simp [Block.tryDigest, hheld, hlead, hcomplete, hd]

theorem tryDigest_other (hd : d ≠ b.cp.digest) : b.tryDigest = b.stop .digestMismatch srcCoupling [b.cp.applied] := by
  simp [Block.tryDigest, hheld, hlead, hcomplete, hd]

end

end

/-- The one rank that has not answered is asked again. -/
theorem digestResend_silent {r : Nat} (hlead : b.isLead = true) (hrun : b.running = true) (hcomplete : b.cp.complete = true)
    (happlied : 0 < b.cp.applied) (hdue : b.cp.digestSentAt + 20000 ≤ b.now)
    (hsilent : (b.peers.filter fun r => !Tab.has r b.cp.digests) = [r]) : b.digestResend = b.sendDigest (some r) := by
  have hpassed : (b.isLead && b.running && b.cp.complete && decide (b.cp.applied > 0) && decide (b.now ≥ b.cp.digestSentAt + resendNs)) =
      true := by
    rw [hlead, hrun, hcomplete, decide_eq_true happlied]
    exact decide_eq_true hdue
  rw [Block.digestResend, if_pos hpassed, hsilent]
  rfl

end

/-- Settles O43: READY and its timers by what is due, an agreement by the READYs held with the one that comes, and a digest by the role of
the block and its own digest. -/
theorem junctionsAreAgreedOnce : Obligations.JunctionsAreAgreedOnce := by
  refine ⟨fun x t hlive => ?_, fun x t done crc mv rx l hserves hwhole => ?_, fun x t d rx hserves hwhole => ?_⟩
  · intro b
    refine ⟨fun l done hlog hdone hdue => ?_, fun h => ?_, fun r hsent hrun hdue => ?_, fun since hsent hrun h => ?_, fun since hsent h => ?_⟩
    · rw [exec_readySend, event_live hlive, readySend_due hlog hdone hdue]
      rfl
    · rw [exec_readySend, event_live hlive, readySend_not_due h]
    · rw [exec_readyResendTimer, event_live hlive, readyResend_due hsent hrun hdue]
      rfl
    · rw [exec_junctionWatchdog, event_live hlive, junctionWatchdog_expired hsent hrun h]
    · rw [exec_junctionWatchdog, event_live hlive, junctionWatchdog_waits hsent h]
  · intro b hrun hlog hsrc hnew held kept run result same
    have hexec : run = result kept.agree := by
      rw [← readyIn_first hrun hlog hsrc hnew]
      exact exec_junctionReady_whole hserves hwhole ..
    have hsame : same ↔ kept.readysAgree := readysAgree_set.symm
    refine ⟨fun k h hk hmissing => ?_, fun h hall => ?_, fun h => ?_⟩
    · rw [hexec, agree_missing (hsame.1 h) hk hmissing]
    · rw [hexec, agree_all (hsame.1 h) hlog hall]
    · rw [hexec, agree_differing (fun ha => h (hsame.2 ha))]
  · intro b run result hrun
    have hexec : run = result (b.digestIn rx.src b.cp.applied b.cp.term d) := exec_junctionDigest_whole hserves hwhole ..
    refine ⟨fun hlead hsrc hd => ?_, fun hlead hsrc hd => ?_, fun hlead hsrc hcomplete hd => ?_, fun hlead hsrc hcomplete hd => ?_,
      fun r hlead hrun' hcomplete happlied hdue hsilent => ?_⟩
    · rw [hexec, digestIn_lead_same hrun hlead hsrc hd]
    · rw [hexec, digestIn_lead_other hrun hlead hsrc hd]
    · rw [hexec, digestIn_coupled hlead hcomplete hrun hsrc, tryDigest_same (b := b.withLeadDigest d) hlead hcomplete rfl hd, hd]
      rfl
    · rw [hexec, digestIn_coupled hlead hcomplete hrun hsrc, tryDigest_other (b := b.withLeadDigest d) hlead hcomplete rfl hd]
      rfl
    · have hserved := digestResend_silent (b := x.blk.atTime t) hlead hrun' hcomplete happlied hdue hsilent
      obtain ⟨hlive, -⟩ := hserves
      rw [exec_digestResendTimer, event_live hlive, hserved]
      rfl

end Sys2Proof.Machine
end

section
/-! Logs in parts: what a part that comes first does, and what is asked for and sent again (R224, R343). -/

namespace Sys2Proof.Machine
open Sys2Proof

section
variable {b : Block} {src frag count : Nat} {l : JLog}

/-- The log of the next junction is wanted, and of it the first part is held: fragment `frag` of `count`. -/
def Block.withPart (b : Block) (src frag count : Nat) (l : JLog) : Block :=
  { b with cp := { b.cp with parts := [{ src, log := l, count, got := [frag] }], logAskedAt := some b.now } }

section
variable (hrun : b.running = true) (hparts : b.cp.parts = []) (hasked : b.cp.logAskedAt = none) (hterm : l.leadTerm = b.cp.term)
  (hjunction : l.junction = b.cp.applied + 1) (hlog : b.cp.log = none) (hfrag : frag < count)
include hrun hparts hasked hterm hjunction hlog hfrag

/-- The first part of the next log is held; a log of one part is whole with it. -/
theorem logIn_first (reserved : Bool) : b.logIn src frag count l reserved =
    if count = 1 ∧ reserved = true then (b.withPart src frag count l).stop .couplingProtocol srcCoupling [l.junction]
    else (b.withPart src frag count l).takeLog := by
  rw [Block.logIn, hterm, inTerm_now hrun]
  simp [hparts, hasked, hjunction, hlog, hfrag.not_ge, Block.wantLog, Block.withPart, @eq_comm _ 1 count]

end

theorem takeLog_withPart_more (hcount : 1 < count) : (b.withPart src frag count l).takeLog = b.withPart src frag count l := by
  simp [Block.takeLog, Block.withPart, hcount.ne]

theorem takeLog_withPart_whole (hjunction : l.junction = b.cp.applied + 1) (hstage : b.cp.stageLost = false) : (b.withPart src frag 1 l).takeLog =
    Block.storeLog { b with cp := { b.cp with log := some l, parts := [], logAskedAt := some b.now } } l := by
  have hfind : (b.withPart src frag 1 l).takeLog = (Block.storeLog
      { b with cp := { b.cp with log := some l, parts := [], logAskedAt := some b.now } } l).checkStage l := by
    simp [Block.takeLog, Block.withPart, hjunction]
  rw [hfind, checkStage_kept (by rw [storeLog_cp]; exact hstage)]

end

/-! ### What is asked for and sent again -/

section
variable {b : Block} {src first count : Nat} {l : JLog}

theorem logResend_held (hrun : b.running = true) (hlead : b.isLead = true) (hlog : b.cp.log = some l) :
    b.logResend src (l.junction % 4294967296) first count = (b.readLog l first count).sendFrags src l first count := by
  simp [Block.logResend, hrun, hlead, hlog]

theorem logResendTimer_nothing {asked : Nat} (hrun : b.running = true) (hlead : b.isLead = false) (hlog : b.cp.log = none)
    (hparts : b.cp.parts = []) (hasked : b.cp.logAskedAt = some asked) (hdue : asked + 20000 ≤ b.now) :
    b.logResendTimer = Block.send { b with cp := { b.cp with logAskedAt := some b.now } } (some b.cp.leadRank)
      (.logResend (b.cp.applied + 1) 0 0) := by
  have hpassed : ¬ b.now < asked + resendNs := Nat.not_lt.2 hdue
  simp [Block.logResendTimer, hrun, hlead, hlog, hparts, hasked, hpassed]

end

/-- Settles O44: a first part is held, a part that is the whole log is taken as well, and a request is answered from the log held. -/
theorem logsAreReassembled : Obligations.LogsAreReassembled := by
  intro x t rx l hserves hwhole b result hrun hstage hparts hasked
  refine ⟨fun frag count hterm hjunction hlog hfrag hcount => ?_, fun hterm hjunction hlog => ?_, fun hterm hjunction hlog => ?_,
    fun first count hlead hlog => ?_, fun asked hrun' hlead hlog hparts' hasked' hdue => ?_⟩
  · rw [exec_logReceived_whole hserves hwhole, logIn_first hrun hparts hasked hterm hjunction hlog hfrag, if_neg (by simp),
      takeLog_withPart_more hcount]
    rfl
  · rw [exec_logReceived_whole hserves hwhole, logIn_first hrun hparts hasked hterm hjunction hlog Nat.one_pos, if_neg (by simp),
      takeLog_withPart_whole hjunction hstage]
  · rw [exec_logReceived_whole hserves hwhole, logIn_first hrun hparts hasked hterm hjunction hlog Nat.one_pos, if_pos ⟨rfl, rfl⟩]
    rfl
  · rw [exec_logResendRequest_whole hserves hwhole, logResend_held hrun hlead hlog]
  · obtain ⟨hlive, -⟩ := hserves
    rw [exec_logResendTimer, event_live hlive, logResendTimer_nothing (b := x.blk.atTime t) hrun' hlead hlog hparts' hasked' hdue]

end Sys2Proof.Machine
end

section
/-! A missed lead: the query of its endpoint, the takeover by another rank, its acknowledgements and their timeout (R235 to R238, R346). -/

namespace Sys2Proof.Machine
open Sys2Proof

/-! ### The lead's endpoint is queried (R236, R346) -/

section
variable {b : Block}

theorem leadTimerExpiry_missed (h : b.leadMissed = true) : b.leadTimerExpiry =
    Block.emit { b with fab := { b.fab with query := some (b.cp.leadRank, b.now) } } (.endpointQuery b.cp.leadRank) :=
  if_neg (by simp [h])

theorem leadTimerExpiry_not_missed (h : b.leadMissed = false) : b.leadTimerExpiry = b := if_pos (by simp [h])

/-- No query of an endpoint is open. -/
def Block.withoutQuery (b : Block) : Block := { b with fab := { b.fab with query := none } }

section
variable {r at_ : Nat} (hquery : b.fab.query = some (r, at_))
include hquery

/-- The answer to a query is that of the rank asked about. -/
theorem endpointResponse_queried (alive : Bool) : b.endpointResponse r alive = b.endpointAnswer alive :=
  if_pos (by simp [hquery])

/-- A live endpoint is taken over from; a dead one stops the group. -/
theorem endpointAnswer_queried (hrun : b.running = true) (alive : Bool) : b.endpointAnswer alive =
    if alive then b.withoutQuery.send none (.takeover (b.cp.applied + 1) (b.cp.term + 1) r b.cp.applied)
    else b.withoutQuery.stop .leadLost srcCoupling [r] := by
  have hrunning : (!b.withoutQuery.running) = false := congrArg not hrun
  simp only [Block.endpointAnswer, hquery]
  exact if_neg (Bool.eq_false_iff.1 hrunning)

end

section
variable (hquery : b.fab.query = none)
include hquery

theorem endpointAnswer_no_query (alive : Bool) : b.endpointAnswer alive = b := by simp [Block.endpointAnswer, hquery]

theorem endpointResponse_no_query (r : Nat) (alive : Bool) : b.endpointResponse r alive = b := if_neg (by simp [hquery])

end

end

/-! ### TAKEOVER and what it is answered with (R221, R237) -/

section
variable {b : Block} {src junction term old : Nat} (hrun : b.running = true)
include hrun

theorem takeoverIn_older (h : term < b.cp.term) : b.takeoverIn src junction term old = b.count 22 := by
  simp [Block.takeoverIn, hrun, h]

/-- A coupled block without verdicts for the step adopts the term of another rank and reports to it. -/
theorem takeoverIn_newer (h : b.cp.term < term) (hsrc : src ≠ b.cp.rank) (hlead : b.isLead = false) (hcollect : b.cp.collect = none)
    (hverdicts : b.verdictsHeld = []) : b.takeoverIn src junction term old =
      ((Block.send { b.adoptTerm src term old with pwr := { b.pwr with waiting := [] } } (some src)
        (.takeoverAck junction term b.cp.applied 0)).sendCapReport).sendReports fun _ => true := by
  have hother : (src == b.cp.rank) = false := beq_false_of_ne hsrc
  have hkept : (Block.verdictsHeld { b.adoptTerm src term old with pwr := { b.pwr with waiting := [] } }) = [] := hverdicts
  simp only [Block.takeoverIn, hrun, h.not_gt, h.ne', hother, hlead, hcollect, Bool.not_true, Bool.false_eq_true, if_false,
    Option.isSome_none, Bool.or_self]
  rw [show (b.adoptTerm src term old).pwr = b.pwr from rfl, hkept]
  rfl

end

/-! ### TAKEOVER_ACK and TAKEOVER_TIMEOUT (R238) -/

section
variable {b : Block} {c : Collect} (hrun : b.running = true) (hcollect : b.cp.collect = some c)
include hrun hcollect

theorem takeoverAckIn_first {src copies : Nat} (hnew : Tab.has src c.acks = false) (hsrc : src < b.cp.n) :
    b.takeoverAckIn src b.cp.term copies =
      { b with cp := { b.cp with collect := some { c with acks := Tab.set src copies c.acks } } } := by
  rw [Block.takeoverAckIn, inTerm_now hrun]
  simp [hcollect, hnew, hsrc]

theorem takeoverTimeout_expired (h : c.sentAt + 250000 ≤ b.now) :
    b.takeoverTimeout = b.stop .takeoverTimeout srcCoupling [c.junction] := by
  have hpassed : c.sentAt + takeoverNs ≤ b.now := h
  simp [Block.takeoverTimeout, hcollect, hrun, hpassed]

end

/-- Settles O50: the query by what the lead has missed, its answer by whether one is awaited, and a takeover by its term and the collection
that is open. -/
theorem missedLeadsAreReplaced : Obligations.MissedLeadsAreReplaced := by
  refine ⟨fun x t hserves => ?_, fun x t rx hserves hwhole => ?_⟩
  · intro b result
    have hresponse (r : Nat) (alive : Bool) : exec (.endpointResponse t r alive) x = result (b.endpointResponse r alive) := by
      rw [exec_endpointResponse, fabric_port hserves]
    have htimeout : exec (.endpointQueryTimeout t) x = result (b.endpointAnswer false) := by
      rw [exec_endpointQueryTimeout, fabric_port hserves]
    refine ⟨fun h => ?_, fun h => ?_, fun r at_ hquery hrun => ⟨?_, ?_, ?_⟩, fun hquery => ⟨?_, fun r alive => ?_⟩⟩
    · rw [exec_leadTimerExpiry, fabric_port hserves, leadTimerExpiry_missed h]
    · rw [exec_leadTimerExpiry, fabric_port hserves, leadTimerExpiry_not_missed h]
    · rw [hresponse, endpointResponse_queried hquery, endpointAnswer_queried hquery hrun]
      rfl
    · rw [hresponse, endpointResponse_queried hquery, endpointAnswer_queried hquery hrun]
      rfl
    · rw [htimeout, endpointAnswer_queried hquery hrun]
      rfl
    · rw [htimeout, endpointAnswer_no_query hquery]
    · rw [hresponse, endpointResponse_no_query hquery]
  · intro b result hrun
    refine ⟨fun j term old h hsrc hlead hcollect hverdicts => ?_, fun j term old h => ?_, fun c k hcollect hnew hsrc => ?_,
      fun c hcollect hrun' h => ?_⟩
    · rw [exec_takeover_whole hserves hwhole, takeoverIn_newer hrun h hsrc hlead hcollect hverdicts]
      rfl
    · rw [exec_takeover_whole hserves hwhole, takeoverIn_older hrun h]
    · rw [exec_takeoverAck_whole hserves hwhole, takeoverAckIn_first hrun hcollect hnew hsrc]
    · obtain ⟨hlive, -⟩ := hserves
      rw [exec_takeoverTimeout, event_live hlive, takeoverTimeout_expired (b := x.blk.atTime t) hrun' hcollect h]

end Sys2Proof.Machine
end

section
/-! Proposals to the group: what opens one, and when MODEL_LOAD, MODEL_UNLOAD and MODE_SET are proposed or refused (R231, R303, R305,
R311, R484). -/

namespace Sys2Proof.Machine
open Sys2Proof

/-! ### The proposal (R231, R484) -/

section
variable {b : Block}

theorem epochDecided_applied (hdecision : b.seq.decision = none) (hclosed : b.seq.closed = none) : b.epochDecided = b.cp.epoch := by
  simp [Block.epochDecided, hdecision, hclosed]

theorem epochDecided_closed {l : JLog} (hdecision : b.seq.decision = none) (hclosed : b.seq.closed = some l) :
    b.epochDecided = l.epoch := by
  simp [Block.epochDecided, hdecision, hclosed]

/-- The head of the messages of the next proposal. -/
def Block.nextHead (b : Block) (junction : Nat) : EpochHead :=
  { source := b.cp.rank, proposal := (b.seq.proposalNo + 1) % 16777216, leadTerm := b.cp.term, epoch := b.epochDecided + 1, junction }

/-- A command in the sequencer as the open proposal. -/
def Block.withProposal (b : Block) (c : CmdRecord) (junction : Nat) : Block :=
  { b with seq := { b.seq with
      cmds := b.seq.cmds ++ [{ junction, cmd := c, size := (cmdRecordBytes c).length }]
      proposalNo := (b.seq.proposalNo + 1) % 16777216
      proposal := some { number := (b.seq.proposalNo + 1) % 16777216, junction, epoch := b.epochDecided + 1, cmd := c, prepared := []
                         refused := [] } } }

theorem propose_eq (s : Nat) (p : Params) (junction : Nat) : b.propose s p junction =
    ((b.withProposal (b.recordOf s p) junction).defer s junction).send none (.propose (b.nextHead junction) (b.recordOf s p)) := by
  simp only [Block.propose, Block.accept, List.getLast?_concat, Option.getD_some]
  rfl

end

/-! ### The commands, check by check (R303, R305, R311) -/

section
variable {b : Block} {s : Nat}

theorem tooEarly_of_lt {j : Nat} (h : j < b.cp.applied + 3) : tooEarly b j = true := decide_eq_true h

theorem not_tooEarly {j : Nat} (h : b.cp.applied + 3 ≤ j) : tooEarly b j = false := decide_eq_false (Nat.not_lt.2 h)

section
variable {p : LoadParams}

theorem modelLoad_early (h : p.junction < b.cp.applied + 3) : b.modelLoad s p = b.reply s 0x010C := if_pos (tooEarly_of_lt h)

/-- The load of a main model on a group that has none. -/
theorem modelLoad_proposed (hjunction : b.cp.applied + 3 ≤ p.junction) (hd : p.descriptor % 16 ≤ 3) (hgood : loadBad p = false)
    (hmain : isDraftLoad p = false) (hflag : bit p.loadFlags 2 = true) (hnone : b.mdl.active = []) (hopen : b.seq.proposal = none) :
    b.modelLoad s p = b.propose s (.modelLoad p) p.junction := by
  have hmodel : b.mainModel = none := by rw [Block.mainModel, hnone]; rfl
  have hfree : Tab.has (p.descriptor % 16) b.mdl.active = false := by rw [hnone]; rfl
  simp [Block.modelLoad, not_tooEarly hjunction, hd.not_gt, hgood, hmain, hflag, hmodel, hfree, hopen]

end

section
variable {j d : Nat} (hjunction : b.cp.applied + 3 ≤ j) (hd : d ≤ 3) (hactive : Tab.has d b.mdl.active = true)
include hjunction hd hactive

theorem modelUnload_used (hused : b.modelUsed d = true) : b.modelUnload s j d = b.reply s 0x040C := by
  simp [Block.modelUnload, not_tooEarly hjunction, hd.not_gt, hactive, hused]

theorem modelUnload_proposed (hfree : b.modelUsed d = false) (hdraft : b.draftModel = none) (hopen : b.seq.proposal = none) :
    b.modelUnload s j d = b.propose s (.modelUnload j d) j := by
  simp [Block.modelUnload, not_tooEarly hjunction, hd.not_gt, hactive, hfree, hdraft, hopen]

end

/-- A MODE_SET that gives no flag and names an active descriptor is refused only for a proposal that is open. -/
theorem modeSet_unflagged {p : ModeParams} (hjunction : b.cp.applied + 3 ≤ p.junction) (hd : p.descriptor ≤ 3) (hflags : p.flags = 0)
    (hshards : p.shardCount = 0) (hmain : b.mainModel.isSome = true) (hactive : Tab.has p.descriptor b.mdl.active = true) :
    b.modeSet s p = if b.seq.proposal.isSome then b.reply s 0x0406 else b.propose s (.modeSet p) p.junction := by
  have hclear (i : Nat) : bit p.flags i = false := by simp [hflags, bit]
  have hmodel : b.mainModel.isNone = false := by rw [← Option.not_isSome, hmain]; rfl
  have hmod : p.descriptor % 16 = p.descriptor := Nat.mod_eq_of_lt (by omega)
  simp [Block.modeSet, not_tooEarly hjunction, hd.not_gt, hclear, hshards, hmodel, hmod, hactive]

end

/-! ### A carried command acts with the parameters of its packet -/

section
variable {x : State} {t s : Nat} {c : Current} (h : x.Carries t s c)
include h

theorem exec_modelLoad_carries {p : LoadParams} (hp : c.pkt.params = .modelLoad p) :
    exec (.modelLoad t s) x = .next (x.settled (x.blk.atTime t) ((x.blk.atTime t).modelLoad s p)) := by
  rw [exec_modelLoad, command_carries h (by rw [hp])]

theorem exec_modelUnload_carries {j d : Nat} (hp : c.pkt.params = .modelUnload j d) :
    exec (.modelUnload t s) x = .next (x.settled (x.blk.atTime t) ((x.blk.atTime t).modelUnload s j d)) := by
  rw [exec_modelUnload, command_carries h (by rw [hp])]

theorem exec_modeSet_carries {p : ModeParams} (hp : c.pkt.params = .modeSet p) :
    exec (.modeSet t s) x = .next (x.settled (x.blk.atTime t) ((x.blk.atTime t).modeSet s p)) := by
  rw [exec_modeSet, command_carries h (by rw [hp])]

end

/-- Settles O24: a proposal is its command entered with the session's reply deferred, and each command passes its checks or ends at the
first that fails. -/
theorem changesAreProposedToTheGroup : Obligations.ChangesAreProposedToTheGroup := by
  refine ⟨fun b s junction p => ?_, fun x t s c h => ?_⟩
  · intro n r e hd
    exact ⟨fun hdecision hclosed => congrArg (· + 1) (epochDecided_applied hdecision hclosed),
      fun l hdecision hclosed => congrArg (· + 1) (epochDecided_closed hdecision hclosed), propose_eq s p junction⟩
  · intro b proposed
    refine ⟨fun p hp hjunction hd hgood hmain hflag hnone hopen => ?_, fun p hp hearly => ?_,
      fun j d hp hjunction hd hactive hfree hdraft hopen => ?_, fun j d hp hjunction hd hactive hused => ?_,
      fun p hp hjunction hd hflags hshards hmain hactive hopen => ?_, fun p hp hjunction hd hflags hshards hmain hactive hopen => ?_⟩
    · rw [exec_modelLoad_carries h hp, modelLoad_proposed hjunction hd hgood hmain hflag hnone hopen, ← hp]
    · rw [exec_modelLoad_carries h hp, modelLoad_early hearly]
    · rw [exec_modelUnload_carries h hp, modelUnload_proposed hjunction hd hactive hfree hdraft hopen, ← hp]
    · rw [exec_modelUnload_carries h hp, modelUnload_used hjunction hd hactive hused]
    · rw [exec_modeSet_carries h hp, modeSet_unflagged hjunction hd hflags hshards hmain hactive, hopen, ← hp]
      rfl
    · rw [exec_modeSet_carries h hp, modeSet_unflagged hjunction hd hflags hshards hmain hactive, if_pos hopen]

end Sys2Proof.Machine
end

section
/-! The rails of the Gradient (chapter 10): what a rail reads after one is changed, which rails are enabled, what their levels and grants
depend on, and the power commands, the cap sources and the cap deadline (R247, R267, R269, R274). -/

namespace Sys2Proof.Machine
open Sys2Proof

/-! ### Rails -/

section
variable {b c d : Block} {r q k : Nat} {extra : List (Nat × Nat)} {f g : Rail → Rail}

theorem rail_modRail_self (h : r < b.pwr.rails.length) : (b.modRail r f).rail r = f (b.rail r) := by
  simp [Block.rail, List.getD_eq_getElem?_getD, h]

theorem rail_modRail_ne (h : q ≠ r) : (b.modRail q f).rail r = b.rail r := by
  simp [Block.rail, List.getD_eq_getElem?_getD, h]

theorem rail_of_pwr (h : c.pwr = b.pwr) (r : Nat) : c.rail r = b.rail r := by rw [Block.rail, Block.rail, h]

theorem modRail_modRail : (b.modRail r f).modRail r g = b.modRail r fun x => g (f x) := by
  simp only [Block.modRail, List.modify_modify_eq]
  rfl

/-- A change of a rail is what it makes of the rail as it stands. -/
theorem modRail_congr (h : f (b.rail r) = g (b.rail r)) : b.modRail r f = b.modRail r g := by
  have hmodify : b.pwr.rails.modify r f = b.pwr.rails.modify r g := by
    refine List.ext_getElem (by simp) fun i hf hg => ?_
    rw [List.getElem_modify, List.getElem_modify]
    split
    · next hi =>
      subst hi
      rw [List.length_modify] at hf
      rwa [Block.rail, List.getD_eq_getElem _ _ hf] at h
    · rfl
  rw [Block.modRail, hmodify]
  rfl

theorem mem_enabledRails : r ∈ enabledRails b ↔ r < 16 ∧ (b.rail r).cfg.enable = true := by simp [enabledRails]

theorem enable_of_enabledRails (h : enabledRails b = [r]) : (b.rail r).cfg.enable = true :=
  (mem_enabledRails.1 (h ▸ List.mem_singleton_self r)).2

/-- A rail that the configuration does not hold is a disabled one. -/
theorem lt_length_of_enable (h : (b.rail r).cfg.enable = true) : r < b.pwr.rails.length := by
  by_contra hout
  rw [Block.rail, List.getD_eq_default _ _ (Nat.le_of_not_lt hout)] at h
  cases h

/-- A level depends on the items, the groups, and the rail's BASE (R252). -/
theorem level_congr (hdsp : c.dsp = b.dsp) (hgroups : c.pwr.groups = b.pwr.groups) (hbase : (c.rail r).cfg.base = (b.rail r).cfg.base) :
    c.level extra r k = b.level extra r k := by
  simp only [Block.level, Block.groupsOf, Block.groupCurrent, Block.committed, Block.group, hdsp, hgroups, hbase]

/-- The configuration of the power supply stands as it was, and so does what the levels depend on beside the rails' floors. -/
structure Block.SameSupply (b c : Block) : Prop where
  dsp : c.dsp = b.dsp
  sb : c.sb = b.sb
  groups : c.pwr.groups = b.pwr.groups
  configured : c.pwr.configured = b.pwr.configured
  length : c.pwr.rails.length = b.pwr.rails.length
  cfg : ∀ q, (c.rail q).cfg = (b.rail q).cfg

theorem Block.SameSupply.refl (b : Block) : b.SameSupply b := ⟨rfl, rfl, rfl, rfl, rfl, fun _ => rfl⟩

theorem Block.SameSupply.trans (h : b.SameSupply c) (k : c.SameSupply d) : b.SameSupply d :=
  ⟨k.dsp.trans h.dsp, k.sb.trans h.sb, k.groups.trans h.groups, k.configured.trans h.configured, k.length.trans h.length,
    fun q => (k.cfg q).trans (h.cfg q)⟩

theorem Block.SameSupply.foldl {α : Type} {f : Block → α → Block} (h : ∀ (b : Block) x, b.SameSupply (f b x)) (l : List α) (b : Block) :
    b.SameSupply (l.foldl f b) := by
  induction l generalizing b with
  | nil => exact .refl b
  | cons x l ih => exact (h b x).trans (ih _)

theorem Block.SameSupply.enabledRails (h : b.SameSupply c) : enabledRails c = enabledRails b := by
  simp only [Machine.enabledRails, h.cfg]

theorem Block.SameSupply.group (h : b.SameSupply c) (i : Nat) : c.group i = b.group i := by rw [Block.group, Block.group, h.groups]

theorem Block.SameSupply.level (h : b.SameSupply c) : c.level extra r k = b.level extra r k :=
  level_congr h.dsp h.groups (congrArg RailCfg.base (h.cfg r))

theorem Block.SameSupply.levelNow (h : b.SameSupply c) (hphi : (c.rail r).phi = (b.rail r).phi) : c.levelNow r = b.levelNow r := by
  rw [Block.levelNow, Block.levelNow, h.level, hphi]

theorem cfg_modRail (hf : (f (b.rail r)).cfg = (b.rail r).cfg) (q : Nat) : ((b.modRail r f).rail q).cfg = (b.rail q).cfg := by
  by_cases hq : r = q
  · subst hq
    by_cases hr : r < b.pwr.rails.length
    · rw [rail_modRail_self hr, hf]
    · simp only [Block.rail, Block.modRail_rails, List.getD_eq_default, List.length_modify, Nat.le_of_not_lt hr]
  · rw [rail_modRail_ne hq]

theorem sameSupply_modRail (hf : (f (b.rail r)).cfg = (b.rail r).cfg) : b.SameSupply (b.modRail r f) :=
  ⟨rfl, rfl, rfl, rfl, List.length_modify .., cfg_modRail hf⟩

theorem sameSupply_emit (b : Block) (o : Out) : b.SameSupply (b.emit o) := ⟨rfl, rfl, rfl, rfl, rfl, fun _ => rfl⟩

end

/-! ### POWER_CONFIG, POWER_CALIBRATE and POWER_CAP (R247, R267, R269) -/

section
variable {x : State} {t s : Nat} {c : Current} (h : x.Carries t s c)
include h

theorem exec_powerConfig_carries {p : PowerConfigParams} (hp : c.pkt.params = .powerConfig p) :
    exec (.powerConfig t s) x = .next (x.settled (x.blk.atTime t) ((x.blk.atTime t).powerConfig s p)) := by
  rw [exec_powerConfig, command_carries h (by rw [hp])]

theorem exec_powerCalibrate_carries {r hi : Nat} {es : List EnergyEntry} (hp : c.pkt.params = .powerCalibrate r hi es) :
    exec (.powerCalibrate t s) x = .next (x.settled (x.blk.atTime t) ((x.blk.atTime t).powerCalibrate s r hi es)) := by
  rw [exec_powerCalibrate, command_carries h (by rw [hp])]

theorem exec_powerCap_carries {cap : Nat} (hp : c.pkt.params = .powerCap cap) :
    exec (.powerCap t s) x = .next (x.settled (x.blk.atTime t) ((x.blk.atTime t).powerCap s cap)) := by
  rw [exec_powerCap, command_carries h (by rw [hp])]

end

section
variable {b : Block} {s : Nat} {p : PowerConfigParams}

/-- A POWER_CONFIG inside its tables that maps no engine group is refused by the level of a rail alone. -/
theorem powerConfig_checked (hglobal : ∀ g, p.globalBlock = some g → globalOk g = true) (hrails : ∀ r ∈ p.rails, railCfgOk r.2 = true)
    (hshares : b.shareSum p ≤ 1000) (hgroups : p.groups = none) : b.powerConfig s p =
      if p.rails.any fun x => decide (x.2.hardLimit < b.levelNow x.1) || (!x.2.enable && b.railBusy x.1) then b.reply s 0x0408
      else ({ b with pwr := { b.pwr with pendingCfg := b.pwr.pendingCfg ++ [p] } } : Block).reply s 0 := by
  have hglobal' : p.globalBlock.all globalOk = true := by
    cases hg : p.globalBlock with
    | none => rfl
    | some g => exact hglobal g hg
  have hrails' : (Tab.vals p.rails).all railCfgOk = true := by simpa [Tab.vals] using fun i c hi => hrails (i, c) hi
  have hp : ({ p with groups := p.groups.map fun gs => gs.map fun g => { g with rail := g.rail % 16 } } : PowerConfigParams) = p := by
    cases p
    subst hgroups
    rfl
  unfold Block.powerConfig
  rw [if_neg (by simp [hglobal', hrails', hshares]), if_neg (by simp [hgroups])]
  dsimp only
  rw [hp]

theorem powerConfig_overshared (h : 1000 < b.shareSum p) : b.powerConfig s p = b.reply s 0x010D :=
  if_pos (by simp [Nat.not_le.2 h])

theorem powerCalibrate_rail {r hi : Nat} {es : List EnergyEntry} (h : r < 16) :
    b.powerCalibrate s r hi es = (b.loadTable r hi es).reply s 0 := if_neg (by omega)

end

/-! ### The cap sources (R269, R272, R365) -/

section
variable {b : Block}

theorem formCaps_untouched (h : b.pwr.touched = []) : b.formCaps = b := by simp [Block.formCaps, h]

/-- C_loc as the sources give it at this tick. -/
def Block.formLoc (b : Block) : Block := { b with pwr := { b.pwr with touched := [], loc := b.pwr.local } }

/-- A C_loc that has changed is reported under the next SEQ (R272). -/
def Block.reportLoc (b : Block) : Block :=
  let c := { b.formLoc with pwr := { b.formLoc.pwr with reportSeq := b.pwr.reportSeq + 1 } }
  if b.running then c.sendCapReport else c

theorem formCaps_kept (ht : b.pwr.touched ≠ []) (hcap : min b.pwr.local b.pwr.groupCap = b.pwr.cap) :
    b.formCaps = if b.pwr.local = b.pwr.loc then b.formLoc else b.reportLoc := by
  have ht' : b.pwr.touched.isEmpty = false := by simpa using ht
  unfold Block.formCaps
  extract_lets p loc formed reported
  rw [if_neg (by simp [p, ht']), if_pos hcap]
  rfl

end

/-! ### The cap deadline (R274) -/

section
variable {b : Block} {now last : Nat}

theorem belowCaps_of_above {r : Nat} (hr : r ∈ enabledRails b) (h : (b.rail r).capRail < b.levelNow r) : b.belowCaps = false :=
  List.all_eq_false.2 ⟨r, hr, by simpa using h⟩

theorem deadlineTick_none (h : b.pwr.deadline = none) : b.deadlineTick now last = b := by rw [Block.deadlineTick, h]

theorem deadlineTick_early {d : Nat} (h : b.pwr.deadline = some d) (hearly : now < d) : b.deadlineTick now last = b := by
  rw [Block.deadlineTick, h]
  exact if_pos (by simp [hearly])

theorem deadlineTick_missed {d : Nat} (h : b.pwr.deadline = some d) (hlast : last < d) (hnow : d ≤ now) (hstate : b.pwr.state ≠ .hold)
    (hcaps : b.belowCaps = false) : b.deadlineTick now last = (b.powerNote 3 b.worstRail).setPower .hold := by
  rw [Block.deadlineTick, h]
  exact if_neg (by simp [hlast, hnow, hstate, hcaps])

end

section
variable {x : State} {t : Time} (h : x.Serving)
include h

theorem exec_capStrobe_serving (cap : Nat) (urgent : Bool) : exec (.capStrobe t cap urgent) x =
    .next (x.settled (x.blk.atTime t) ((x.seen t .pw).capStrobe cap urgent)) := by
  obtain ⟨hdead, hsafe⟩ := h
  rw [exec_capStrobe, port_serving hdead hsafe]

theorem exec_capDeadline_serving : exec (.capDeadline t) x = .next (x.settled (x.blk.atTime t) (x.blk.atTime t).capDeadline) := by
  obtain ⟨hdead, -⟩ := h
  rw [exec_capDeadline, event_live hdead]

end

/-- Settles O27: each command acts with the parameters that its session carries, the deadline is a case of `deadlineTick`, and the cap
sources are what `formCaps` makes of them. -/
theorem powerCommandsConfigureRails : Obligations.PowerCommandsConfigureRails := by
  refine ⟨fun x t s c h => ?_, fun x t h => ?_, fun b => ?_⟩
  · intro b
    refine ⟨fun p hp hglobal hrails hshares hgroups hlevels => ?_, fun p hp hshares => ?_,
      fun p r hp hglobal hrails hshares hgroups hr hlevel => ?_, fun r hi es hp hr => ?_, fun cap hp => ?_⟩
    · rw [exec_powerConfig_carries h hp, powerConfig_checked hglobal hrails hshares hgroups, if_neg]
      rw [Bool.not_eq_true, List.any_eq_false]
      intro r hr
      obtain ⟨hlimit, hbusy⟩ := hlevels r hr
      simpa [hlimit, or_iff_not_imp_left] using hbusy
    · rw [exec_powerConfig_carries h hp, powerConfig_overshared hshares]
    · rw [exec_powerConfig_carries h hp, powerConfig_checked hglobal hrails hshares hgroups, if_pos]
      exact List.any_eq_true.2 ⟨r, hr, by simpa using hlevel⟩
    · rw [exec_powerCalibrate_carries h hp, powerCalibrate_rail hr]
      rfl
    · rw [exec_powerCap_carries h hp]
      rfl
  · intro b e
    refine ⟨fun cap urgent => ?_, fun d r hd hlast hnow hstate hr habove => ?_, fun hd => ?_, fun d hd hearly => ?_⟩
    · rw [exec_capStrobe_serving h]
      rfl
    · rw [exec_capDeadline_serving h, Block.capDeadline, deadlineTick_missed hd hlast hnow hstate (belowCaps_of_above hr habove)]
      rfl
    · rw [exec_capDeadline_serving h, Block.capDeadline, deadlineTick_none hd]
    · rw [exec_capDeadline_serving h, Block.capDeadline, deadlineTick_early hd hearly]
  · intro p loc formed again
    refine ⟨formCaps_untouched, fun ht hloc hcap => ?_, fun ht hloc hcap hrun => ?_, fun ht hloc hcap hrun => ?_⟩
    · exact (formCaps_kept ht hcap).trans (if_pos hloc)
    · exact (formCaps_kept ht hcap).trans ((if_neg hloc).trans (if_neg (by simp [hrun])))
    · exact (formCaps_kept ht hcap).trans ((if_neg hloc).trans (if_pos hrun))

end Sys2Proof.Machine
end

section
/-! The tick of the Gradient where one rail is enabled (R253, R254, R256, R259, R264, R270): what each stage leaves of the power supply,
what the rail holds after it, and a changed cap. -/

namespace Sys2Proof.Machine
open Sys2Proof

/-! ### A rail enters HARD, stays in it, or follows the envelope (R256, R259) -/

/-- The average of the last 4 samples exceeds HARD_LIMIT outside HARD. -/
def Rail.Enters (x : Rail) : Prop := x.hard = false ∧ 4 ≤ x.samples.length ∧ 4 * x.cfg.hardLimit < (x.samples.take 4).sum

/-- The average of the last 4 samples keeps the rail in HARD. -/
def Rail.Stays (x : Rail) : Prop := x.hard = true ∧ 4 * x.cfg.hardRelease * x.cfg.hardLimit < (x.samples.take 4).sum * 1000

section
variable {x : Rail} {b : Block} {r : Nat} {next start : Nat → Nat}

theorem lastFour_eq_sum (x : Rail) : lastFour x = (x.samples.take 4).sum := List.sum_eq_foldl.symm

theorem aboveRelease_iff : x.aboveRelease = true ↔ 4 * x.cfg.hardRelease * x.cfg.hardLimit < (x.samples.take 4).sum * 1000 := by
  rw [Rail.aboveRelease, lastFour_eq_sum, decide_eq_true_eq, gt_iff_lt]

theorem sust_eq_sum (x : Rail) : x.sust = (40 * x.cfg.sustLimit : Nat) - ((x.samples.take 39).sum : Nat) := by
  rw [Rail.sust, List.sum_eq_foldl]

theorem tickRail_enters (h : (b.rail r).Enters) : b.tickRail r next start = b.enterHard r := by
  obtain ⟨hout, hfour, habove⟩ := h
  exact if_pos (by simp [hout, hfour, habove, lastFour_eq_sum])

theorem tickRail_stays (h : (b.rail r).Stays) : b.tickRail r next start = b.hardTick r := by
  obtain ⟨hin, habove⟩ := h
  unfold Block.tickRail
  rw [if_neg (by simp [hin]), if_pos (by simp [hin, aboveRelease_iff, habove])]

theorem tickRail_follows (henters : ¬ (b.rail r).Enters) (hstays : ¬ (b.rail r).Stays) :
    b.tickRail r next start = b.envelope r next start := by
  unfold Block.tickRail
  rw [if_neg, if_neg]
  · simpa [Rail.Stays, aboveRelease_iff] using hstays
  · simp only [Bool.and_eq_true, Bool.not_eq_true', decide_eq_true_eq, lastFour_eq_sum]
    rintro ⟨⟨hout, habove⟩, hfour⟩
    exact henters ⟨hout, hfour, habove⟩

end

/-! ### What the envelope gives a rail (R256, R268) -/

/-- The cap towards which K falls: BASE while a droop ramps (R268). -/
def Block.capNow (b : Block) (r : Nat) : Nat := if b.pwr.ramp then (b.rail r).cfg.base else (b.rail r).capRail

def Block.nextK (b : Block) (r : Nat) : Nat :=
  if (b.rail r).hard then b.levelNow r else if b.pwr.droopEnd then b.capNow r else max (b.capNow r) ((b.rail r).k - (b.rail r).sd)

/-- F[n + FFT] towards a demand of `demand`. -/
def Block.nextFore (b : Block) (r demand : Nat) : Nat :=
  let x := b.rail r
  let prev := x.fore.getLastD x.cfg.base
  let f := min (min x.cfg.hardLimit (max (b.capNow r) (b.nextK r - b.pwr.fft * x.sd))) (min (prev + x.su) (max demand (prev - x.sd)))
  if b.pwr.droop.isSome then min f prev else f

/-- The level that the floor is to hold. -/
def Block.floorTarget (b : Block) (r : Nat) : Nat := if (b.rail r).hard then b.levelNow r else b.levelNow r - (b.rail r).sd

/-- The smallest floor that holds a level, 128 where none does. -/
def Block.floorFor (b : Block) (r target : Nat) : Nat := ((List.range 129).find? fun q => b.level [] r q ≥ target).getD 128

section
variable {b c : Block} {r : Nat} {next start : Nat → Nat}

theorem floorFor_spec (b : Block) (r target : Nat) : b.floorFor r target ≤ 128 ∧ (∀ q < b.floorFor r target, b.level [] r q < target) ∧
    (b.floorFor r target = 128 ∨ target ≤ b.level [] r (b.floorFor r target)) := by
  unfold Block.floorFor
  cases h : (List.range 129).find? fun q => b.level [] r q ≥ target with
  | none =>
    refine ⟨le_rfl, fun q hq => ?_, .inl rfl⟩
    have hq' : q < 129 := Nat.lt_succ_of_lt hq
    simpa using List.find?_range_eq_none.1 h q hq'
  | some i =>
    obtain ⟨hi, hrange, hleast⟩ := List.find?_range_eq_some.1 h
    exact ⟨Nat.le_of_lt_succ (List.mem_range.1 hrange), fun q hq => by simpa using hleast q hq, .inr (by simpa using hi)⟩

theorem envelope_rail (h : r < b.pwr.rails.length) : ∃ w, (b.envelope r next start).rail r =
    let x := { b.rail r with fore := (b.rail r).fore.drop 1 ++ [b.nextFore r (b.dexp r next start)], window := w }
    { x with hard := false, k := b.nextK r, u := x.uOf (b.nextK r), phi := b.floorFor r (b.floorTarget r) } :=
  ⟨_, rail_modRail_self h⟩

theorem hardTick_rail (h : r < b.pwr.rails.length) : ∃ f w, (b.hardTick r).rail r =
    { b.rail r with fore := (b.rail r).fore.drop 1 ++ [f], window := w } :=
  ⟨_, _, rail_modRail_self (b := (b.freeNat 65536).2) h⟩

theorem enterHard_rail (h : r < b.pwr.rails.length) : ∃ f w, (b.enterHard r).rail r =
    { b.rail r with hard := true, hardSince := b.now, phi := 0, window := w
                    fore := ((b.rail r).fore.map fun f => min f (b.rail r).release).drop 1 ++ [f] } := by
  obtain ⟨f, w, htick⟩ := hardTick_rail (b := b.modRail r fun x => { x with
    hard := true, hardSince := b.now, fore := x.fore.map fun f => min f x.release, phi := 0 }) (r := r) (by simpa using h)
  rw [rail_modRail_self h] at htick
  exact ⟨f, w, htick⟩

theorem foldl_ge_start {α : Type} (f : α → Nat) (l : List α) (n : Nat) : n ≤ l.foldl (fun m a => m + f a) n := by
  induction l generalizing n with
  | nil => exact le_rfl
  | cons a l ih => exact (Nat.le_add_right n (f a)).trans (ih _)

theorem base_le_dexp : (b.rail r).cfg.base ≤ b.dexp r next start := by
  unfold Block.dexp
  dsimp only
  split
  · exact le_rfl
  · exact foldl_ge_start _ _ _

theorem dexp_idle (h : b.running = false ∨ b.pwr.ramp = true) : b.dexp r next start = (b.rail r).cfg.base :=
  if_pos (by rcases h with h | h <;> simp [h])

end

/-! ### The stages of a tick -/

section
variable {b c : Block} {r : Nat} {samples : List (Option Nat)} {next start : Nat → Nat}

/-- A rail's samples, latest first, after a tick with or without a valid one (R253). -/
def samplesWith (old : List Nat) : Option Nat → List Nat
  | some s => (s :: old).take 40
  | none => old

/-- What a tick's sample of a rail makes of it (R253). -/
def Rail.takes (x : Rail) (now : Nat) (s : Option Nat) : Rail :=
  { x with samples := samplesWith x.samples s, lastValid := if s.isSome then now else x.lastValid, sampled := s.isSome }

theorem takeSample_eq : b.takeSample samples r = b.modRail r fun x => x.takes b.now (samples.getD r none) := by
  unfold Block.takeSample
  cases samples.getD r none <;> rfl

theorem sameSupply_takeSample : b.SameSupply (b.takeSample samples r) := by
  rw [takeSample_eq]
  exact sameSupply_modRail rfl

theorem sameSupply_accumulate : b.SameSupply (b.accumulate r) := sameSupply_modRail rfl

theorem sameSupply_showRail : b.SameSupply (b.showRail r) := sameSupply_modRail rfl

theorem sameSupply_hardTick : b.SameSupply (b.hardTick r) :=
  (sameSupply_modRail (b := b) (r := r) (f := fun x => { x with
    fore := x.fore.drop 1 ++ [(b.freeNat 65536).1], window := { x.window with hard := true } }) rfl).trans
    ⟨rfl, rfl, rfl, rfl, rfl, fun _ => rfl⟩

theorem sameSupply_enterHard : b.SameSupply (b.enterHard r) :=
  ((sameSupply_modRail (f := fun x => { x with hard := true, hardSince := b.now, fore := x.fore.map fun f => min f x.release, phi := 0 })
    rfl).trans sameSupply_hardTick).trans ⟨rfl, rfl, rfl, rfl, rfl, fun _ => rfl⟩

theorem sameSupply_tickRail : b.SameSupply (b.tickRail r next start) := by
  unfold Block.tickRail
  dsimp only
  split_ifs
  · exact sameSupply_enterHard
  · exact sameSupply_hardTick
  · exact sameSupply_modRail rfl

/-- A tick begins. -/
def Block.tickBegins (b : Block) : Block := { b with pwr := { b.pwr with tick := b.pwr.tick + 1, lastFrame := b.now } }

/-- The block as its one enabled rail is moved: the sample taken, the window's sums added to, the kept caps lowered. -/
def Block.readied (b : Block) (samples : List (Option Nat)) (r : Nat) : Block := ((b.tickBegins.takeSample samples r).accumulate r).tickExempt

/-- What the registers show once the rails have moved (R498). -/
def Block.tickShown (b : Block) : Block :=
  let b := { b with pwr := { b.pwr with droopEnd := false } }
  (List.range 16).foldl Block.showRail { b with pwr := { b.pwr with shownRamp := b.pwr.ramp, shownState := b.pwr.state } }

/-- What the forecast says of the enabled rails (R264). -/
def Block.forecastRails (b : Block) : List (Nat × Nat × Bool) :=
  (enabledRails b).map fun r => let x := b.rail r; (r, x.fore.getLastD x.cfg.base, x.hard)

def Block.forecastDue (b : Block) : Nat := 250 * (tickOf b.now + b.pwr.fft) % 2 ^ 32

theorem sameSupply_tickBegins : b.SameSupply b.tickBegins := ⟨rfl, rfl, rfl, rfl, rfl, fun _ => rfl⟩

theorem sameSupply_readied : b.SameSupply (b.readied samples r) :=
  ((sameSupply_tickBegins.trans sameSupply_takeSample).trans sameSupply_accumulate).trans ⟨rfl, rfl, rfl, rfl, rfl, fun _ => rfl⟩

theorem sameSupply_tickShown : b.SameSupply b.tickShown :=
  Block.SameSupply.trans (c := { b with pwr := { b.pwr with droopEnd := false, shownRamp := b.pwr.ramp, shownState := b.pwr.state } })
    ⟨rfl, rfl, rfl, rfl, rfl, fun _ => rfl⟩ (.foldl (fun _ _ => sameSupply_showRail) _ _)

theorem powerTick_normal (hstate : b.pwr.state = .normal) (hdeadline : b.pwr.deadline = none) (last : Nat) : b.powerTick last = b := by
  simp [Block.powerTick, hstate, deadlineTick_none hdeadline]

/-- The end of a tick: the registers shown, and the forecast sent (R264). -/
def Block.tickEnds (b : Block) : Block :=
  b.tickShown.emit (.forecast b.tickShown.forecastRails b.tickShown.forecastDue (forecastCrc b.tickShown.forecastRails b.tickShown.forecastDue))

section
variable (hone : enabledRails b = [r]) (hpending : b.pwr.pendingCfg = []) (htouched : b.pwr.touched = []) (hstate : b.pwr.state = .normal)
  (hdeadline : b.pwr.deadline = none)
include hone hpending htouched hstate hdeadline

/-- A tick of one enabled rail, where no cap, configuration or deadline waits. -/
theorem tick_one_rail : b.tick samples next start = ((b.readied samples r).tickRail r next start).tickEnds := by
  have htaken : b.SameSupply (b.tickBegins.takeSample samples r) := sameSupply_tickBegins.trans sameSupply_takeSample
  obtain ⟨rails, hpwr⟩ : ∃ rails, (b.tickBegins.takeSample samples r).pwr = { b.tickBegins.pwr with rails := rails } := by
    rw [takeSample_eq]
    exact ⟨_, rfl⟩
  unfold Block.tick
  extract_lets _ configured last _ begun taken capped summed moved _ cleared _ shown forecast due
  have hconfigured : configured = b := by
    simp only [configured, hpending, List.foldl_nil]
    rw [← hpending]
  have hbegun : begun = configured.tickBegins := rfl
  have htaken_eq : taken = b.tickBegins.takeSample samples r := by
    simp only [taken, hbegun, hconfigured, sameSupply_tickBegins.enabledRails, hone, List.foldl_cons, List.foldl_nil]
  have hcapped : capped = b.tickBegins.takeSample samples r := by
    simp only [capped, htaken_eq]
    rw [formCaps_untouched (by rw [hpwr]; exact htouched), powerTick_normal (by rw [hpwr]; exact hstate) (by rw [hpwr]; exact hdeadline)]
  have hsummed : summed = (b.tickBegins.takeSample samples r).accumulate r := by
    simp only [summed, hcapped, htaken.enabledRails, hone, List.foldl_cons, List.foldl_nil]
  have hmoved : moved = (b.readied samples r).tickRail r next start := by
    simp only [moved, hsummed, (htaken.trans sameSupply_accumulate).enabledRails, hone, List.foldl_cons, List.foldl_nil]
    rfl
  clear_value moved
  rw [← hmoved]
  have hshown : shown = moved.tickShown := rfl
  clear_value shown
  rw [Block.tickEnds, ← hshown]
  rfl

end

end

/-! ### The rail after a tick -/

section
variable {b : Block} {r : Nat} {samples : List (Option Nat)} {next start : Nat → Nat}

theorem readied_rail (h : r < b.pwr.rails.length) : ∃ lv sd w, (b.readied samples r).rail r =
    { b.rail r with samples := samplesWith (b.rail r).samples (samples.getD r none), lastValid := lv, sampled := sd, window := w } := by
  have htaken : (b.tickBegins.takeSample samples r).rail r = (b.rail r).takes b.now (samples.getD r none) := by
    rw [takeSample_eq]
    exact rail_modRail_self h
  have hlength : r < (b.tickBegins.takeSample samples r).pwr.rails.length := by
    rw [(sameSupply_tickBegins.trans sameSupply_takeSample).length]
    exact h
  exact ⟨_, _, _, (rail_modRail_self hlength).trans (by rw [htaken]; rfl)⟩

theorem showRail_rail (q : Nat) : ∃ v, (b.showRail q).rail r = { b.rail r with shown := v } := by
  by_cases hq : q = r
  · subst hq
    by_cases hlt : q < b.pwr.rails.length
    · exact ⟨_, rail_modRail_self hlt⟩
    · refine ⟨(b.rail q).shown, ?_⟩
      simp only [Block.showRail, Block.rail, Block.modRail_rails, List.getD_eq_default, List.length_modify, Nat.le_of_not_lt hlt]
  · exact ⟨(b.rail r).shown, rail_modRail_ne hq⟩

theorem tickEnds_rail (b : Block) (q : Nat) : b.tickEnds.rail q = b.tickShown.rail q := rail_of_pwr (Block.emit_pwr ..) q

theorem tickShown_rail (b : Block) (r : Nat) : ∃ v, b.tickShown.rail r = { b.rail r with shown := v } := by
  refine List.foldlRecOn (motive := fun c : Block => ∃ v, c.rail r = { b.rail r with shown := v }) _ _ ⟨(b.rail r).shown, rfl⟩ ?_
  rintro c ⟨v, hc⟩ q -
  obtain ⟨w, hw⟩ := showRail_rail (b := c) (r := r) q
  exact ⟨w, by rw [hw, hc]⟩

theorem readied_pwr (b : Block) (samples : List (Option Nat)) (r : Nat) : ∃ rails exempt, (b.readied samples r).pwr =
    { b.pwr with rails := rails, exempt := exempt, tick := b.pwr.tick + 1, lastFrame := b.now } := by
  rw [Block.readied, takeSample_eq]
  exact ⟨_, _, rfl⟩

theorem readied_now : (b.readied samples r).now = b.now := by
  rw [Block.readied, takeSample_eq]
  rfl

theorem readied_running : (b.readied samples r).running = b.running := by
  rw [Block.readied, takeSample_eq]
  rfl

/-- A tick's sample and sums leave the plan of the envelope as it is. -/
theorem readied_plan (h : r < b.pwr.rails.length) : (b.readied samples r).nextK r = b.nextK r ∧
    (∀ d, (b.readied samples r).nextFore r d = b.nextFore r d) ∧ (b.readied samples r).floorTarget r = b.floorTarget r := by
  obtain ⟨lv, sd, w, hrail⟩ := readied_rail (samples := samples) h
  obtain ⟨rails, exempt, hpwr⟩ := readied_pwr b samples r
  have hlevel : (b.readied samples r).levelNow r = b.levelNow r := sameSupply_readied.levelNow (by rw [hrail])
  have hcap : (b.readied samples r).capNow r = b.capNow r := by
    rw [Block.capNow, hrail, hpwr]
    rfl
  have hk : (b.readied samples r).nextK r = b.nextK r := by
    rw [Block.nextK, hrail, hpwr, hlevel, hcap]
    rfl
  refine ⟨hk, fun d => ?_, ?_⟩
  · rw [Block.nextFore, hrail, hpwr, hk, hcap]
    rfl
  · rw [Block.floorTarget, hrail, hlevel]
    rfl

theorem readied_floorFor (target : Nat) : (b.readied samples r).floorFor r target = b.floorFor r target := by
  simp only [Block.floorFor, sameSupply_readied.level]

/-- Whatever a tick does to a rail, its samples, configuration and cap stand. -/
theorem tickRail_keeps (h : r < b.pwr.rails.length) : let y := (b.tickRail r next start).rail r
    y.samples = (b.rail r).samples ∧ y.cfg = (b.rail r).cfg ∧ y.capRail = (b.rail r).capRail := by
  dsimp only
  by_cases henters : (b.rail r).Enters
  · obtain ⟨f, w, hy⟩ := enterHard_rail h
    rw [tickRail_enters henters, hy]
    exact ⟨rfl, rfl, rfl⟩
  by_cases hstays : (b.rail r).Stays
  · obtain ⟨f, w, hy⟩ := hardTick_rail h
    rw [tickRail_stays hstays, hy]
    exact ⟨rfl, rfl, rfl⟩
  · obtain ⟨w, hy⟩ := envelope_rail (next := next) (start := start) h
    rw [tickRail_follows henters hstays, hy]
    exact ⟨rfl, rfl, rfl⟩

end

/-! ### The grants and the forecast of a tick (R254, R264) -/

section
variable {b c : Block} {r : Nat}

theorem grant_served (hconfigured : b.pwr.configured = true) (hsafe : b.sb.safe = false) {g : Nat} (hg : (b.group g).rail = r) :
    b.grant g = (if (b.rail r).hard then (b.rail r).cfg.hardThrottle else 128, (b.rail r).phi) := by
  rw [Block.grant, hg]
  exact if_neg (by simp [hconfigured, hsafe])

theorem mem_emit (hsafe : b.sb.safe = false) (o : Out) : o ∈ (b.emit o).out := by simp [hsafe]

theorem forecastRails_one (h : enabledRails b = [r]) :
    b.forecastRails = [(r, (b.rail r).fore.getLastD (b.rail r).cfg.base, (b.rail r).hard)] := by
  rw [Block.forecastRails, h]
  rfl

end

/-! ### A changed cap (R270) -/

/-- A changed cap on one rail. -/
def Block.setCapRail (b : Block) (ch : CapChange) (r : Nat) : Block :=
  let x := b.rail r
  let cr := capRailOf x.cfg ch.new_
  let l := b.levelNow r
  let b := b.modRail r fun x => { x with capRail := cr, k := if l > cr then l else cr }
  if infeasible x.cfg ch.new_ then b.powerRecord 8 ch.by r ch.old ch.new_ else b

/-- An enabled rail under a changed cap. -/
def Block.recapped (b : Block) (ch : CapChange) (r : Nat) : Rail :=
  let cr := capRailOf (b.rail r).cfg ch.new_
  { b.rail r with capRail := cr, k := if cr < b.levelNow r then b.levelNow r else cr }

section
variable {b : Block} {ch : CapChange} {r q : Nat}

theorem nodup_enabledRails (b : Block) : (enabledRails b).Nodup := List.nodup_range.filter _

theorem setCapRails_eq : b.setCapRails ch = (enabledRails b).foldl (fun c q => c.setCapRail ch q) b := rfl

/-- What a changed cap does to its rail is what it does to the power supply: the record of a cap below BASE goes to the log alone. -/
theorem setCapRail_pwr (b : Block) (ch : CapChange) (r : Nat) :
    (b.setCapRail ch r).pwr = (b.modRail r fun x => { x with
      capRail := (b.recapped ch r).capRail, k := (b.recapped ch r).k }).pwr := by
  unfold Block.setCapRail
  dsimp only
  split <;> rfl

theorem sameSupply_setCapRail : b.SameSupply (b.setCapRail ch r) := by
  unfold Block.setCapRail
  dsimp only
  split
  · exact (sameSupply_modRail rfl).trans ⟨rfl, rfl, rfl, rfl, rfl, fun _ => rfl⟩
  · exact sameSupply_modRail rfl

theorem setCapRail_rail_self (h : r < b.pwr.rails.length) : (b.setCapRail ch r).rail r = b.recapped ch r :=
  (rail_of_pwr (setCapRail_pwr ..) r).trans (rail_modRail_self h)

theorem setCapRail_rail_ne (h : q ≠ r) : (b.setCapRail ch q).rail r = b.rail r :=
  (rail_of_pwr (setCapRail_pwr ..) r).trans (rail_modRail_ne h)

/-- A rail is recapped alike whatever other rails have been before it. -/
theorem recapped_setCapRail_ne (h : q ≠ r) : (b.setCapRail ch q).recapped ch r = b.recapped ch r := by
  have hlevel : (b.setCapRail ch q).levelNow r = b.levelNow r := sameSupply_setCapRail.levelNow (by rw [setCapRail_rail_ne h])
  rw [Block.recapped, setCapRail_rail_ne h, hlevel]
  rfl

theorem setCapRail_foldl_rail (ch : CapChange) (l : List Nat) (hl : l.Nodup) (b : Block) (h : r < b.pwr.rails.length) :
    (l.foldl (fun c q => c.setCapRail ch q) b).rail r = if r ∈ l then b.recapped ch r else b.rail r := by
  induction l generalizing b with
  | nil => rfl
  | cons q l ih =>
    obtain ⟨hq, hl⟩ := List.nodup_cons.1 hl
    have hlength : r < (b.setCapRail ch q).pwr.rails.length := by rwa [sameSupply_setCapRail.length]
    rw [List.foldl_cons, ih hl _ hlength]
    by_cases hqr : q = r
    · subst hqr
      rw [if_neg hq, if_pos List.mem_cons_self, setCapRail_rail_self h]
    · rw [recapped_setCapRail_ne hqr, setCapRail_rail_ne hqr]
      simp only [List.mem_cons, Ne.symm hqr, false_or]

theorem setCapRails_rail (hr : r < 16) (hlength : r < b.pwr.rails.length) : (b.setCapRails ch).rail r =
    if (b.rail r).cfg.enable then b.recapped ch r else b.rail r := by
  rw [setCapRails_eq, setCapRail_foldl_rail ch _ (nodup_enabledRails b) b hlength]
  simp only [mem_enabledRails, hr, true_and]

end

/-! ### The tick of one rail -/

section
variable {b : Block} {r : Nat} {samples : List (Option Nat)} {next start : Nat → Nat} (hone : enabledRails b = [r])
  (hpending : b.pwr.pendingCfg = []) (htouched : b.pwr.touched = []) (hstate : b.pwr.state = .normal) (hdeadline : b.pwr.deadline = none)
include hone hpending htouched hstate hdeadline

theorem tick_rail : ∃ v, (b.tick samples next start).rail r =
    { ((b.readied samples r).tickRail r next start).rail r with shown := v } := by
  rw [tick_one_rail hone hpending htouched hstate hdeadline, tickEnds_rail]
  exact tickShown_rail ..

theorem tick_supply : b.SameSupply (b.tick samples next start) := by
  rw [tick_one_rail hone hpending htouched hstate hdeadline]
  exact (sameSupply_readied.trans sameSupply_tickRail).trans (sameSupply_tickShown.trans (sameSupply_emit ..))

theorem tick_grant (hconfigured : b.pwr.configured = true) (hsafe : b.sb.safe = false) {g : Nat} (hg : (b.group g).rail = r) :
    let t := b.tick samples next start
    t.grant g = (if (t.rail r).hard then (b.rail r).cfg.hardThrottle else 128, (t.rail r).phi) := by
  have hsame : b.SameSupply (b.tick samples next start) := tick_supply hone hpending htouched hstate hdeadline
  dsimp only
  rw [grant_served (hsame.configured.trans hconfigured) (by rw [hsame.sb, hsafe]) ((congrArg EngineGroup.rail (hsame.group g)).trans hg),
    hsame.cfg]

theorem tick_forecast (hsafe : b.sb.safe = false) : let t := b.tick samples next start
    ∃ due crc, Out.forecast [(r, (t.rail r).fore.getLastD (b.rail r).cfg.base, (t.rail r).hard)] due crc ∈ t.out := by
  have hsame : b.SameSupply ((b.readied samples r).tickRail r next start).tickShown :=
    (sameSupply_readied.trans sameSupply_tickRail).trans sameSupply_tickShown
  have hone' := hsame.enabledRails.trans hone
  dsimp only
  rw [tick_one_rail hone hpending htouched hstate hdeadline, tickEnds_rail, ← hsame.cfg, ← forecastRails_one hone']
  exact ⟨_, _, mem_emit (by rw [hsame.sb, hsafe]) _⟩

end

/-- Settles O54: the tick is its stages one after another, of which one alone moves the rail; the cases of that one are the clauses. -/
theorem ticksMoveTheRails : Obligations.TicksMoveTheRails := by
  refine ⟨fun b samples next start r hone hpending htouched hstate hdeadline hlength => ?_, fun _ _ => rfl,
    fun b ch r hlength hr => setCapRails_rail hr (by omega)⟩
  intro x ss enters stays l t y cr k prev target
  have hr : r < b.pwr.rails.length := lt_length_of_enable (enable_of_enabledRails hone)
  have hr' : r < (b.readied samples r).pwr.rails.length := by rwa [sameSupply_readied.length]
  obtain ⟨lv, sd, w, hc⟩ := readied_rail (samples := samples) hr
  obtain ⟨v, hy⟩ : ∃ v, y = _ := tick_rail (samples := samples) (next := next) (start := start) hone hpending htouched hstate hdeadline
  have henters : enters ↔ ((b.readied samples r).rail r).Enters := by rw [hc]; rfl
  have hstays : stays ↔ ((b.readied samples r).rail r).Stays := by rw [hc]; rfl
  obtain ⟨hsamples, hcfg, hcap⟩ := tickRail_keeps (next := next) (start := start) hr'
  refine ⟨?_, ?_, ?_, fun h => ?_, fun h => ?_, fun hnot hnot' => ?_, fun g hconfigured hsafe hg => ?_, fun hsafe => ?_⟩
  · rw [hy, hsamples, hc]
    rfl
  · rw [hy, hcfg, hc]
  · rw [hy, hcap, hc]
  · obtain ⟨f, w', hmoved⟩ := enterHard_rail hr'
    rw [hy, tickRail_enters (henters.1 h), hmoved, hc, readied_now]
    exact ⟨rfl, rfl, rfl, rfl, f, rfl⟩
  · obtain ⟨f, w', hmoved⟩ := hardTick_rail hr'
    rw [hy, tickRail_stays (hstays.1 h), hmoved, hc]
    obtain ⟨hin, -⟩ := h
    exact ⟨hin, rfl, rfl, rfl, f, rfl⟩
  · obtain ⟨w', hmoved⟩ := envelope_rail (next := next) (start := start) hr'
    obtain ⟨hk, hfore, htarget⟩ := readied_plan (samples := samples) hr
    have hbase := base_le_dexp (b := b.readied samples r) (r := r) (next := next) (start := start)
    rw [hc] at hbase
    rw [hk, hfore, htarget, readied_floorFor, hc] at hmoved
    rw [hy, tickRail_follows (mt henters.2 hnot) (mt hstays.2 hnot'), hmoved]
    refine ⟨rfl, rfl, (b.readied samples r).dexp r next start, hbase, fun hidle => ?_, rfl, ?_, floorFor_spec b r target⟩
    · obtain ⟨rails, exempt, hpwr⟩ := readied_pwr b samples r
      rw [dexp_idle (by rw [readied_running, hpwr]; exact hidle), hc]
    · dsimp only
      rw [Rail.uOf, sust_eq_sum]
      rfl
  · exact tick_grant hone hpending htouched hstate hdeadline hconfigured hsafe hg
  · exact tick_forecast hone hpending htouched hstate hdeadline hsafe

end Sys2Proof.Machine
end

section
/-! Telemetry frames, the calibration window and the droop warning (R253, R260, R265, R266, R268, R276): what each does to the block, one
equation a case. -/

namespace Sys2Proof.Machine
open Sys2Proof

/-! ### Telemetry (R253, R260, R363) -/

section
variable {b : Block} {r : Nat} {f : TelemetryFrame}

theorem telemetry_discarded (h : f.crcOk = false ∨ (0 < b.pwr.tick ∧ tickOf b.now = tickOf b.pwr.lastFrame)) :
    b.telemetry f = b.count 28 := by
  unfold Block.telemetry
  rw [if_pos]
  rcases h with h | h <;> simp [h]

theorem telemetry_taken (hcrc : f.crcOk = true) (hnew : b.pwr.tick = 0 ∨ tickOf b.now ≠ tickOf b.pwr.lastFrame) :
    b.telemetry f = b.tick f.samples b.nextItem b.startItem := by
  unfold Block.telemetry
  rw [if_neg]
  rcases hnew with h | h <;> simp [hcrc, h]

theorem hardStuck_due (hhard : (b.rail r).hard = true) (hdue : (b.rail r).hardSince + b.pwr.global.hardStuck * 1000 ≤ b.now) :
    b.hardStuck r = b.stop .hardStuck srcGradient [r] := if_pos (by simp [hhard, hdue])

theorem hardStuck_not_due (h : (b.rail r).hard = false ∨ b.now < (b.rail r).hardSince + b.pwr.global.hardStuck * 1000) :
    b.hardStuck r = b := if_neg (by rcases h with h | h <;> simp [h])

theorem telemetryLoss_due (hon : (b.rail r).cfg.enable = true) (hdue : (b.rail r).lastValid + 1000 ≤ b.now) :
    b.telemetryLoss r = b.stop .telemetry srcGradient [r] := if_pos (by simp [hon, hdue])

theorem telemetryLoss_not_due (h : (b.rail r).cfg.enable = false ∨ b.now < (b.rail r).lastValid + 1000) :
    b.telemetryLoss r = b := if_neg (by rcases h with h | h <;> simp [h])

end

/-! ### The calibration window (R265, R266) -/

/-- The window that begins where one has ended: the rail as it stands. -/
def Block.windowBegun (b : Block) (r : Nat) : RailWindow :=
  { hard := (b.rail r).hard, peak := b.levelNow r
    classes := ((b.dsp.platforms.filter fun p => (b.groupsOf r).contains p.2.entry.engineGroup).filterMap fun p =>
      (b.dsp.openItems.filter fun o => o.platform == p.1 && !o.held).head?.map (·.energy)).eraseDups }

section
variable {b : Block} {r : Nat}

theorem calibrate_one (h : enabledRails b = [r]) : b.calibrate = b.calibrateRail r := by
  rw [Block.calibrate, h]
  rfl

theorem calibrateRail_idle (h : (b.rail r).window.hard = true ∨ (b.rail r).window.ticks = 0) :
    b.calibrateRail r = b.modRail r fun y => { y with window := b.windowBegun r } := by
  unfold Block.calibrateRail
  extract_lets x w running l begun
  exact (if_pos (by simpa using h)).trans (modRail_congr rfl)

/-- The sample sum of a rail's window above BASE. -/
def Block.windowDraw (b : Block) (r : Nat) : Int :=
  ((b.rail r).window.sample : Int) - (b.rail r).window.ticks * ((b.rail r).cfg.base : Int)

/-- The level sum of a rail's window above BASE. -/
def Block.windowLevel (b : Block) (r : Nat) : Int :=
  ((b.rail r).window.level : Int) - (b.rail r).window.ticks * ((b.rail r).cfg.base : Int)

/-- The window of a rail that is neither in HARD nor under-predicted, and is not to be recalibrated, corrects the classes that ran. -/
theorem calibrateRail_corrects (hr : r < b.pwr.rails.length) (hhard : (b.rail r).window.hard = false) (hticks : (b.rail r).window.ticks ≠ 0)
    (hrecal : (b.rail r).recal = false) (hraw : 0 < (b.rail r).window.raw) (hwindows : b.pwr.global.recalWindows ≠ 0)
    (hlevel : 0 < b.windowLevel r) (herr : (b.windowDraw r - b.windowLevel r) * 1000 ≤ (b.pwr.global.recalErr : Int) * b.windowLevel r) :
    b.calibrateRail r = b.modRail r fun y => { y with
      window := b.windowBegun r, overs := 0
      energy := correctTable y.energy (b.rail r).window.classes (b.windowDraw r - (b.rail r).window.fill - (b.rail r).window.raw)
        ((b.rail r).window.raw * 2 ^ b.pwr.global.onlineShift) } := by
  unfold Block.calibrateRail
  extract_lets x w running l begun t m pg mi praw g overs judged corrected after
  have hovers : overs = 0 := (if_pos hlevel).trans (if_neg (not_lt.2 herr))
  have hjudged : judged = begun.modRail r fun x => { x with overs := 0 } := by
    simp only [judged, hovers]
    have hnone : 0 ≠ g.recalWindows := hwindows.symm
    exact if_neg (by simp [hnone])
  have hcorrected : corrected = begun.modRail r fun x => { x with
      overs := 0, energy := correctTable x.energy w.classes (mi - praw) (praw * 2 ^ g.onlineShift) } :=
    (if_pos (Int.natCast_pos.2 hraw)).trans (by rw [hjudged, modRail_modRail])
  have hafter : corrected = b.modRail r fun x => { x with
      window := b.windowBegun r, overs := 0
      energy := correctTable x.energy w.classes (mi - praw) (praw * 2 ^ g.onlineShift) } := by
    rw [hcorrected]
    exact modRail_modRail.trans (modRail_congr rfl)
  have hstill : after.recal = false := by
    simp only [after, hafter, rail_modRail_self hr, hrecal]
  rw [if_neg (by simp [w, x, hhard, hticks]), if_pos (by simp [hstill])]
  exact hafter

end

/-! ### The droop warning (R268, R276) -/

section
variable {b : Block}

theorem droopAssert_held (h : b.pwr.droop ≠ none) : b.droopAssert = b := if_pos (Option.isSome_iff_ne_none.2 h)

theorem droopAssert_rises (h : b.pwr.droop = none) : b.droopAssert =
    ({ b with pwr := { b.pwr with droop := some b.now } } : Block).powerRecord 7 b.pwr.capBy b.worstRail b.pwr.cap b.pwr.cap :=
  if_neg (by simp [h])

theorem droopDeassert_none (h : b.pwr.droop = none) : b.droopDeassert = b := if_pos (by simp [h])

theorem droopDeassert_falls (h : b.pwr.droop ≠ none) :
    b.droopDeassert = { b with pwr := { b.pwr with droop := none, ramp := false, droopEnd := true } } := if_neg (by simpa using h)

/-- The rails once the droop has held: each K is the smaller of K and L. -/
def Block.rampedRails (b : Block) : List Rail :=
  (b.pwr.rails.zip ((List.range 16).map fun r => min (b.rail r).k (b.levelNow r))).map fun p => { p.1 with k := p.2 }

theorem droopRamp_early {d : Nat} (hd : b.pwr.droop = some d) (h : b.now < d + b.pwr.global.droopRampAfter) : b.droopRamp = b := by
  rw [Block.droopRamp, hd]
  exact if_pos (by simp [h])

theorem droopRamp_held {d : Nat} (hd : b.pwr.droop = some d) (hramp : b.pwr.ramp = false) (h : d + b.pwr.global.droopRampAfter ≤ b.now) :
    b.droopRamp = { b with pwr := { b.pwr with ramp := true, rails := b.rampedRails } } := by
  rw [Block.droopRamp, hd]
  exact if_neg (by simp [hramp, h])

theorem rampedRails_length (h : b.pwr.rails.length = 16) : b.rampedRails.length = 16 := by simp [Block.rampedRails, h]

theorem rampedRails_get (h : b.pwr.rails.length = 16) {r : Nat} (hr : r < 16) :
    b.rampedRails[r]? = some { b.rail r with k := min (b.rail r).k (b.levelNow r) } := by
  have hlt : r < b.pwr.rails.length := by omega
  have hrail : b.pwr.rails[r] = b.rail r := by rw [Block.rail, List.getD_eq_getElem _ _ hlt]
  rw [Block.rampedRails, List.getElem?_eq_getElem (by simpa [h] using hr)]
  simp [hrail]

end

/-! ### The commands -/

section
variable {x : State} {t : Time} (h : x.Serving)
include h

theorem exec_telemetryFrame_serving (f : TelemetryFrame) : exec (.telemetryFrame t f) x =
    .next (x.settled (x.blk.atTime t) ((x.seen t .pw).telemetry f)) := by
  obtain ⟨hdead, hsafe⟩ := h
  rw [exec_telemetryFrame, port_serving hdead hsafe]

theorem exec_hardStuck_serving (r : Nat) : exec (.hardStuck t r) x =
    .next (x.settled (x.blk.atTime t) ((x.blk.atTime t).hardStuck r)) := by
  obtain ⟨hdead, -⟩ := h
  rw [exec_hardStuck, event_live hdead]

theorem exec_telemetryLoss_serving (r : Nat) : exec (.telemetryLoss t r) x =
    .next (x.settled (x.blk.atTime t) ((x.blk.atTime t).telemetryLoss r)) := by
  obtain ⟨hdead, -⟩ := h
  rw [exec_telemetryLoss, event_live hdead]

theorem exec_calibrationWindow_serving : exec (.calibrationWindow t) x =
    .next (x.settled (x.blk.atTime t) (x.blk.atTime t).calibrate) := by
  obtain ⟨hdead, -⟩ := h
  rw [exec_calibrationWindow, event_live hdead]

theorem exec_droopWarningAssert_serving : exec (.droopWarningAssert t) x =
    .next (x.settled (x.blk.atTime t) (x.seen t .pw).droopAssert) := by
  obtain ⟨hdead, hsafe⟩ := h
  rw [exec_droopWarningAssert, port_serving hdead hsafe]

theorem exec_droopWarningDeassert_serving : exec (.droopWarningDeassert t) x =
    .next (x.settled (x.blk.atTime t) (x.seen t .pw).droopDeassert) := by
  obtain ⟨hdead, hsafe⟩ := h
  rw [exec_droopWarningDeassert, port_serving hdead hsafe]

theorem exec_droopRamp_serving : exec (.droopRamp t) x = .next (x.settled (x.blk.atTime t) (x.blk.atTime t).droopRamp) := by
  obtain ⟨hdead, -⟩ := h
  rw [exec_droopRamp, event_live hdead]

end

/-- Settles O53: each command acts on a block that serves its ports, and each clause is the case of its equation. -/
theorem telemetryMovesTheRails : Obligations.TelemetryMovesTheRails := by
  refine ⟨fun x t h => ?_, fun x t h => ?_⟩
  · intro b e
    refine ⟨fun f hf => ?_, fun f hcrc hnew => ?_, fun r hhard hdue => ?_, fun r hr => ?_, fun r hon hdue => ?_, fun r hr => ?_⟩
    · rw [exec_telemetryFrame_serving h, telemetry_discarded hf]
    · rw [exec_telemetryFrame_serving h, telemetry_taken hcrc hnew]
    · rw [exec_hardStuck_serving h, hardStuck_due hhard hdue]
    · rw [exec_hardStuck_serving h, hardStuck_not_due hr]
    · rw [exec_telemetryLoss_serving h, telemetryLoss_due hon hdue]
    · rw [exec_telemetryLoss_serving h, telemetryLoss_not_due hr]
  · intro b e fresh
    refine ⟨fun r hone hidle => ?_, fun r hone => ?_, fun hd => ?_, fun hd => ?_, fun hd => ?_, fun hd => ?_,
      fun d hd hramp hheld hlength => ?_, fun d hd hearly => ?_⟩
    · rw [exec_calibrationWindow_serving h, calibrate_one hone, calibrateRail_idle hidle]
      rfl
    · intro y w m pg hhard hticks hr hrecal hraw hpg hwindows herr
      rw [exec_calibrationWindow_serving h, calibrate_one hone, calibrateRail_corrects hr hhard hticks hrecal hraw hwindows hpg herr]
      rfl
    · rw [exec_droopWarningAssert_serving h, droopAssert_rises hd]
    · rw [exec_droopWarningAssert_serving h, droopAssert_held hd]
    · rw [exec_droopWarningDeassert_serving h, droopDeassert_falls hd]
    · rw [exec_droopWarningDeassert_serving h, droopDeassert_none hd]
    · rw [exec_droopRamp_serving h, droopRamp_held hd hramp hheld]
      exact ⟨_, rfl, rampedRails_length hlength, fun r hr => rampedRails_get hlength hr⟩
    · rw [exec_droopRamp_serving h, droopRamp_early hd hearly]

end Sys2Proof.Machine
end

section
/-! The queue, the canonical form of memory, and blocks that stand still: every command is a reset input, the entry to a test mode, or an
event, of which a transfer at a port is one (Laws/Forms), and each of these forms keeps the queue and the invariant. -/

namespace Sys2Proof.Machine
open Sys2Proof

/-! ### The three forms of a command -/

section
variable {x : State} {t : Nat}

theorem commit_wf_inv {b : Block} (h : Memory.wf x.mem = true) : (x.commit b).Inv := commit_inv (memWriteAll_wf h)

/-- A commit touches the queue at no place. -/
theorem commit_queue (x : State) (q : List Instr) (b : Block) : ({ x with pending := q } : State).commit b = { x.commit b with pending := q } := rfl

/-- A state whose queue is set aside: what is committed or settled on it is what is on the state itself. -/
def QueueFree (f : State → State) : Prop :=
  ∀ (x : State) (q : List Instr), (f x).pending = x.pending ∧ f { x with pending := q } = { f x with pending := q }

/-- What a form leaves is a state that Inv admits, where the memory was in its form. -/
def KeepsForm (f : State → State) : Prop := ∀ x : State, Memory.wf x.mem = true → (f x).Inv

theorem event_queueFree (f : Memory → Block → Block) : QueueFree fun x => x.event t f := by
  intro x q
  cases hdead : x.blk.dead with
  | true =>
    dsimp only
    rw [event_dead hdead, event_dead (x := { x with pending := q }) hdead]
    exact ⟨commit_pending _ _, commit_queue _ _ _⟩
  | false =>
    dsimp only
    rw [event_live hdead, event_live (x := { x with pending := q }) hdead]
    exact ⟨settled_pending _ _ _, settled_queue _ _ _ _⟩

theorem testEvent_queueFree (f : Block → Block) : QueueFree fun x => x.testEvent t f := by
  intro x q
  unfold State.testEvent
  dsimp only
  split
  · exact ⟨commit_pending _ _, commit_queue _ _ _⟩
  · exact ⟨settled_pending _ _ _, settled_queue _ _ _ _⟩

theorem resetInput_queueFree (f : Block → Block) : QueueFree fun x => x.resetInput t f := fun _ _ => ⟨rfl, rfl⟩

theorem event_keepsForm (f : Memory → Block → Block) : KeepsForm fun x => x.event t f := by
  intro x h
  cases hdead : x.blk.dead with
  | true =>
    dsimp only
    rw [event_dead hdead]
    exact commit_wf_inv h
  | false =>
    dsimp only
    rw [event_live hdead]
    exact settled_inv _ _ h

theorem testEvent_keepsForm (f : Block → Block) : KeepsForm fun x => x.testEvent t f := by
  intro x h
  unfold State.testEvent
  dsimp only
  split
  · exact commit_wf_inv h
  · exact settled_inv _ _ h

theorem resetInput_keepsForm (f : Block → Block) : KeepsForm fun x => x.resetInput t f := fun _ h => commit_wf_inv h

end

/-- Every command is one of the three forms, and so neither looks at the queue nor leaves memory out of its form. -/
theorem exec_form (i : Instr) : ∃ f, (∀ s, exec i s = .next (f s)) ∧ QueueFree f ∧ KeepsForm f := by
  cases hreset : isReset i with
  | true =>
    obtain ⟨t, f, hf⟩ := exec_reset hreset
    exact ⟨_, hf, resetInput_queueFree f, resetInput_keepsForm f⟩
  | false =>
    cases htest : isTestEntry i with
    | true =>
      obtain ⟨t, f, hf⟩ := exec_test htest
      exact ⟨_, hf, testEvent_queueFree f, testEvent_keepsForm f⟩
    | false =>
      obtain ⟨t, f, hf⟩ := exec_event hreset htest
      exact ⟨_, hf, event_queueFree f, event_keepsForm f⟩

theorem step_front {s : State} {i : Instr} {rest : List Instr} (h : s.pending = i :: rest) : step s = exec i { s with pending := rest } := by
  unfold step
  rw [h]

theorem step_idle {s : State} (h : s.pending = []) : step s = .next s := by
  unfold step
  rw [h]

/-! ### A block that a reset or a test mode holds -/

/-- Where nothing is posted and no access is in progress, to commit a block at a later time changes the time alone. -/
theorem commit_atTime {s : State} (h : s.Inv) (t : Nat) :
    s.commit (s.blk.atTime t) = { s with blk := { s.blk with now := max s.blk.now t } } := by
  obtain ⟨-, hposted, hagent⟩ := h
  simp [State.commit, Block.atTime, hposted, hagent, memWriteAll]

/-- A held block lets only its time pass (R373, R375): an event finds it dead, and a test entry finds the reset asserted. -/
theorem exec_dead {i : Instr} {s : State} (hdead : s.blk.dead = true) (hreset : isReset i = false)
    (h : s.blk.sb.phase = .held ∨ isTestEntry i = false) : ∃ t, exec i s = .next (s.commit (s.blk.atTime t)) := by
  cases htest : isTestEntry i with
  | true =>
    have hheld : s.blk.sb.phase = .held := h.resolve_right (by simp [htest])
    obtain ⟨t, f, hf⟩ := exec_test htest
    exact ⟨t, by rw [hf, State.testEvent, if_pos (by simpa using hheld)]⟩
  | false =>
    obtain ⟨t, f, hf⟩ := exec_event hreset htest
    exact ⟨t, by rw [hf, event_dead hdead]⟩

/-! ### The obligations -/

/-- Settles O1. -/
theorem stepTakesFrontCommand : Obligations.StepTakesFrontCommand :=
  ⟨fun _ _ _ => step_front, fun _ => step_idle⟩

/-- Settles O2: every form of a command is free of the queue. -/
theorem commandsLeaveTheQueue : Obligations.CommandsLeaveTheQueue := by
  intro i s t q h
  obtain ⟨f, hf, hfree, -⟩ := exec_form i
  obtain ⟨hpending, hqueue⟩ := hfree s q
  obtain rfl : f s = t := Host.Outcome.next.inj ((hf s).symm.trans h)
  exact ⟨hpending, by rw [hf, hqueue]⟩

/-- Settles O3: every form of a command keeps the form of memory and leaves nothing posted. -/
theorem stepKeepsInvariant : Obligations.StepKeepsInvariant := by
  intro s t hinv h
  cases hq : s.pending with
  | nil =>
    obtain rfl : s = t := Host.Outcome.next.inj ((step_idle hq).symm.trans h)
    exact hinv
  | cons i rest =>
    obtain ⟨f, hf, -, hform⟩ := exec_form i
    obtain rfl : f { s with pending := rest } = t := Host.Outcome.next.inj ((hf _).symm.trans ((step_front hq).symm.trans h))
    obtain ⟨hwf, -, -⟩ := hinv
    exact hform _ hwf

/-- Settles O5: a held block commits its new time, and under WS_SAFE a transfer settles the block as its time alone has left it. -/
theorem heldAndSafeBlocksStandStill : Obligations.HeldAndSafeBlocksStandStill := by
  refine ⟨fun i s hinv hdead hreset h => ?_, fun i s hlive hsafe htransfer => ?_⟩
  · obtain ⟨t, ht⟩ := exec_dead hdead hreset h
    exact ⟨max s.blk.now t, le_max_left _ _, by rw [ht, commit_atTime hinv]⟩
  · obtain ⟨t, c, f, hf⟩ := exec_transfer htransfer
    exact ⟨t, by rw [hf, port_safe hlive hsafe]⟩

end Sys2Proof.Machine
end

section
/-! The registers of a doorbell page, the locks and the mailboxes: what a write or a read of each does to the block, one equation a case
(R11, R281, R353, R401, R413 to R417). -/

namespace Sys2Proof.Machine
open Sys2Proof

/-! ### The queue registers of a page (Table 13-4) -/

section
variable {b : Block} {a : HAccess} {s v : Nat}

theorem writeTail_taken (hlow : lowHalf a = true) (h : sub32 (v % 4294967296) (b.session s).fetch ≤ (b.session s).cmdSize) :
    b.writeTail a s v = b.modSession s fun q => { q with tail := v % 4294967296 } := by
  simp [Block.writeTail, hlow, not_lt.2 h]

theorem writeTail_beyond (hlow : lowHalf a = true) (h : (b.session s).cmdSize < sub32 (v % 4294967296) (b.session s).fetch) :
    b.writeTail a s v = b.logAccess (page s) a.agent 281 := by
  simp [Block.writeTail, hlow, h]

theorem writeHead_taken (hlow : lowHalf a = true) (h : sub32 (b.session s).cplTail (v % 4294967296) ≤ (b.session s).cplSize) :
    b.writeHead a s v = b.modSession s fun q => { q with cplHead := v % 4294967296 } := by
  simp [Block.writeHead, hlow, not_lt.2 h]

theorem writeHead_beyond (hlow : lowHalf a = true) (h : (b.session s).cplSize < sub32 (b.session s).cplTail (v % 4294967296)) :
    b.writeHead a s v = b.logAccess (page s + 0x10) a.agent 353 := by
  simp [Block.writeHead, hlow, h]

theorem writeQueue_serving {reg : Nat} (h : (b.session s).state = .opened ∨ (b.session s).state = .closing) :
    b.writeQueue a s reg v = b.logAccess (page s + reg) a.agent 353 := if_pos (by simpa using h)

/-- Where the session neither serves nor closes, an 8-byte write of a queue register is taken whole and restarts the four indices; a
QUEUE_CFG out of its range is logged (R353). -/
theorem writeQueue_idle {r : QueueReg} (h8 : a.size8 = true) (hv : v < 18446744073709551616)
    (h : ¬ ((b.session s).state = .opened ∨ (b.session s).state = .closing)) : b.writeQueue a s (queueReg r) v =
      if r = .cfg ∧ (logOk (bits v 3 0) && logOk (bits v 11 8)) = false then b.logAccess (page s + queueReg r) a.agent 353
      else b.modSession s fun q => { (match r with
        | .cmdBase => { q with cmdBase := v / 64 * 64 }
        | .cplBase => { q with cplBase := v / 64 * 64 }
        | .cfg => { q with cmdLog := bits v 3 0, cplLog := bits v 11 8 }) with tail := 0, fetch := 0, cplHead := 0, cplTail := 0 } := by
  unfold Block.writeQueue
  simp only [mergeWrite_size8 h8 hv, lowHalf_size8 h8]
  rw [if_neg (by simpa using h)]
  cases r with
  | cmdBase | cplBase => simp [queueReg]
  | cfg => cases logOk (bits v 3 0) && logOk (bits v 11 8) <;> simp [queueReg]

theorem writePage_tail : b.writePage a s 0 v = b.writeTail a s v := if_pos rfl
theorem writePage_head : b.writePage a s 0x10 v = b.writeHead a s v := (if_neg (by decide)).trans (if_pos rfl)
theorem writePage_queue (r : QueueReg) : b.writePage a s (queueReg r) v = b.writeQueue a s (queueReg r) v := by
  cases r with
  | cmdBase | cplBase | cfg => rfl

variable {x : State} {t : Time}

theorem exec_cmdTailWrite_ok (hs : s < 256) (h : x.Writes t a (page s)) : exec (.cmdTailWrite t a s v) x =
    .next (x.settled (x.blk.atTime t) (((x.asked t a).writeTail a s v).answered (writeBeat 0))) := by
  rw [exec_cmdTailWrite, page_write_tail hs h, writePage_tail]

theorem exec_cplHeadWrite_ok (hs : s < 256) (h : x.Writes t a (page s + 0x10)) : exec (.cplHeadWrite t a s v) x =
    .next (x.settled (x.blk.atTime t) (((x.asked t a).writeHead a s v).answered (writeBeat 0))) := by
  rw [exec_cplHeadWrite, page_write hs (by decide) h, writePage_head]

theorem exec_queueConfigWrite_ok {r : QueueReg} (hs : s < 256) (h : x.Writes t a (page s + queueReg r)) :
    exec (.queueConfigWrite t a s r v) x =
      .next (x.settled (x.blk.atTime t) (((x.asked t a).writeQueue a s (queueReg r) v).answered (writeBeat 0))) := by
  rw [exec_queueConfigWrite, page_write hs (by cases r <;> decide) h, writePage_queue]

end

/-- Settles O9: each command is a write of its register of the page, and each clause is one case of that write. -/
theorem queueRegistersMoveIndices : Obligations.QueueRegistersMoveIndices := by
  refine ⟨fun x t a s v hs hlow => ?_, fun x t a s v r hs h8 hv hw => ?_⟩
  · refine ⟨fun hw h => ?_, fun hw h => ?_, fun hw h => ?_, fun hw h => ?_⟩
    · rw [exec_cmdTailWrite_ok hs hw, writeTail_taken hlow h]
    · rw [exec_cmdTailWrite_ok hs hw, writeTail_beyond hlow h]
    · rw [exec_cplHeadWrite_ok hs hw, writeHead_taken hlow h]
    · rw [exec_cplHeadWrite_ok hs hw, writeHead_beyond hlow h]
  · intro b restart
    split
    · next hserving => rw [exec_queueConfigWrite_ok hs hw, writeQueue_serving hserving]
    · next hidle =>
      cases r with
      | cmdBase => exact (exec_queueConfigWrite_ok hs hw).trans (by rw [writeQueue_idle h8 hv hidle]; rfl)
      | cplBase => exact (exec_queueConfigWrite_ok hs hw).trans (by rw [writeQueue_idle h8 hv hidle]; rfl)
      | cfg =>
        refine (exec_queueConfigWrite_ok hs hw).trans ?_
        rw [writeQueue_idle h8 hv hidle]
        cases hok : logOk (bits v 3 0) && logOk (bits v 11 8) <;> rfl

/-! ### Locks (R401, R416, R417) -/

section
variable {b : Block} {a : HAccess} {n v : Nat}

theorem lockOffset_low (h : n < 32) : lockOffset n = 0xA000 + n * 8 := by rw [lockOffset, if_pos h, Nat.mul_comm]

theorem lockOffset_high (h : 32 ≤ n) : lockOffset n = 0x4A000 + (n - 32) * 8 := by rw [lockOffset, if_neg (not_lt.2 h), Nat.mul_comm]

/-- The locks lie below the data window and the pages, and no mailbox register lies at one. -/
theorem lockOffset_maps (h : n < 64) :
    lockOffset n < 0x80000 ∧ mailAt (lockOffset n) = none ∧ lockAt (lockOffset n) = some n := by
  by_cases hn : n < 32
  · rw [lockOffset_low hn]
    refine ⟨by omega, ?_, ?_⟩
    · rw [mailAt, if_neg (by simp; omega), if_neg (by simp; omega)]
    · rw [lockAt, if_pos (by simp; omega)]
      congr 1
      omega
  · rw [lockOffset_high (not_lt.1 hn)]
    refine ⟨by omega, ?_, ?_⟩
    · rw [mailAt, if_neg (by simp; omega), if_neg (by simp; omega)]
    · rw [lockAt, if_neg (by simp; omega), if_pos (by simp; omega)]
      congr 1
      omega

theorem window_lockOffset (h : n < 64) : windowOffset (lockOffset n) = false := by
  obtain ⟨hlt, -, -⟩ := lockOffset_maps h
  simp [windowOffset, Nat.not_le.2 hlt]

theorem writeAt_lock (h : n < 64) : b.writeAt a (lockOffset n) v = b.writeLock a n v := by
  obtain ⟨hlt, hmail, hlock⟩ := lockOffset_maps h
  unfold Block.writeAt
  rw [if_neg (by omega), hmail, hlock]

theorem high_lock_denied {write : Bool} (h : 32 ≤ n) (hn : n < 64) (hcore : a.core = false) (hsec : a.secure = false) :
    accessStatus a (lockOffset n) write = 1 := by
  have hoff : secureOffset (lockOffset n) = true := by
    rw [lockOffset_high h, secureOffset, Bool.or_eq_true, Bool.and_eq_true, decide_eq_true_eq, decide_eq_true_eq]
    omega
  simp [accessStatus, hcore, hsec, hoff]

theorem readLock_free (h : b.lockOwner n = 0) : b.readLock a n = (0, b.setLock n a.agent) := if_pos h

theorem readLock_held (h : b.lockOwner n ≠ 0) : b.readLock a n = (b.lockOwner n, b) := if_neg h

theorem writeLock_frees (hlow : lowHalf a = true) (howner : b.lockOwner n = a.agent) (hv : v % 64 = a.agent) (hagent : a.agent ≠ 0) :
    b.writeLock a n v = b.setLock n 0 := by
  simp [Block.writeLock, hlow, howner, hv, hagent]

theorem writeLock_other (hlow : lowHalf a = true) (h : v % 64 ≠ a.agent ∨ b.lockOwner n ≠ a.agent) :
    b.writeLock a n v = b.logAccess (lockOffset n) a.agent 11 := by
  have hno : ¬ (v % 64 = a.agent ∧ v % 64 = b.lockOwner n) := fun ⟨h1, h2⟩ => h.elim (· h1) (· (h2 ▸ h1))
  unfold Block.writeLock
  rw [if_neg (by simp [hlow])]
  exact if_neg fun hyes => hno (by simp only [Bool.and_eq_true, decide_eq_true_eq] at hyes; exact hyes.1)

/-- LOCK_BREAK frees the lock and logs who held it. -/
theorem breakLock_frees (hlow : lowHalf a = true) : b.breakLock a v =
    let logged := (b.count 34).logRec srcAperture 0x0160 1 [0x4A100, a.agent, 417, v % 64, b.lockOwner (v % 64)]
    { logged with ap := { logged.ap with locks := Tab.erase (v % 64) b.ap.locks } } := by
  rw [Block.breakLock, hlow]
  rfl

variable {x : State} {t : Time}

/-- What a reader sees of an 8-byte value: a 4-byte read gives the half that it addresses (R487). -/
def readHalf (a : HAccess) (v : Nat) : Nat := if a.size8 then v else if a.high then v / 4294967296 else v % 4294967296

/-- An OKAY read at the port: its effect, and one beat with the value. -/
theorem readAccess_okay {off : Nat} {k : Block → Nat × Block} (h : x.Reads t a off) :
    (x.host t a fun _ b => b.readAccess a off k) =
      x.settled (x.blk.atTime t) ((k (x.asked t a)).2.answered (readBeat 0 (readHalf a (k (x.asked t a)).1) true)) := by
  obtain ⟨hdead, hsafe, hcore, hroom, hstatus⟩ := h
  rw [host_serving hdead hsafe hcore]
  simp [Block.readAccess, Nat.not_le.2 hroom, hcore, hstatus, Block.answered, readHalf]

theorem exec_lockRead_ok (h : x.Reads t a (lockOffset n)) : exec (.lockRead t a n) x =
    .next (x.settled (x.blk.atTime t) (((x.asked t a).readLock a n).2.answered (readBeat 0 (readHalf a ((x.asked t a).readLock a n).1) true))) := by
  rw [exec_lockRead, readAccess_okay h]

theorem exec_lockRelease_ok (hn : n < 64) (h : x.Writes t a (lockOffset n)) : exec (.lockRelease t a n v) x =
    .next (x.settled (x.blk.atTime t) (((x.asked t a).writeLock a n v).answered (writeBeat 0))) := by
  obtain ⟨hlt, -, -⟩ := lockOffset_maps hn
  rw [exec_lockRelease, registerWrite_ok h (window_lockOffset hn) (by omega), writeAt_lock hn]

theorem exec_lockBreak_ok (h : x.Writes t a 0x4A100) : exec (.lockBreak t a v) x =
    .next (x.settled (x.blk.atTime t) (((x.asked t a).breakLock a v).answered (writeBeat 0))) := by
  rw [exec_lockBreak, registerWrite_ok h rfl (by decide)]
  rfl

/-! A core's access by the internal path (R399, R401) -/

variable {core : Nat}

/-- A core's well-shaped access is OKAY at every register. -/
theorem coreAccess_status {off : Nat} {write : Bool} (h : x.CoreAccess t a core) (hshape : shapeBroken a off = false) (hcrc : a.crcOk = true) :
    accessStatus a off write = 0 := by
  obtain ⟨-, hcore, hlt, hagent, -⟩ := h
  have hdenied : agentDenied a = false := by simp [agentDenied, hcore, hagent]; omega
  simp [accessStatus, hcore, hdenied, hshape, hcrc]

theorem exec_lockRead_core (h : x.CoreAccess t a core) (hstatus : accessStatus a (lockOffset n) false = 0) : exec (.lockRead t a n) x =
    .next (x.settled (x.blk.atTime t) ((({ x.blk.atTime t with agent := a.agent } : Block).readLock a n).2)) := by
  have hcore : a.core = true := h.2.1
  rw [exec_lockRead, host_core h]
  simp [Block.readAccess, hcore, hstatus]

theorem exec_lockRelease_core (hn : n < 64) (h : x.CoreAccess t a core) (hstatus : accessStatus a (lockOffset n) true = 0) :
    exec (.lockRelease t a n v) x =
      .next (x.settled (x.blk.atTime t) (({ x.blk.atTime t with agent := a.agent } : Block).writeLock a n v)) := by
  have hcore : a.core = true := h.2.1
  obtain ⟨hlt, -, -⟩ := lockOffset_maps hn
  have hoff : ¬ 0x200000 ≤ lockOffset n := by omega
  rw [exec_lockRelease, host_core h]
  simp [Block.registerWrite, window_lockOffset hn, hoff, Block.writeAccess, hcore, hstatus, writeAt_lock hn]

end


/-! ### Locks at a reset and a watchdog (R417) -/

section
variable {b c d : Block}

/-- The two blocks differ at most in what an entry to Buffer Stop touches: the log, faults, the group's state and sequencer, sessions, what
waits to be sent, and the dumps. -/
def Block.SameButStop (b c : Block) : Prop := c = { b with
  vlog := c.vlog, flt := c.flt, setAt := c.setAt, cp := c.cp, form := c.form, mp := c.mp, fab := c.fab, seq := c.seq, ses := c.ses
  obs := { b.obs with dumps := c.obs.dumps } }

theorem Block.SameButStop.trans (h : b.SameButStop c) (k : c.SameButStop d) : b.SameButStop d := by
  unfold Block.SameButStop at *
  rw [k, h]

theorem Block.SameButReplies.sameButStop (h : b.SameButReplies c) : b.SameButStop c := by
  unfold Block.SameButReplies at h
  unfold Block.SameButStop
  rw [h]

variable (b)

theorem sameButStop_stopRest (code : Nat) : b.SameButStop (b.stopRest code) := by
  unfold Block.stopRest
  extract_lets halted ended obs dumped
  have hhalted : b.SameButStop halted := rfl
  have hended : halted.SameButStop ended := (Block.SameButReplies.foldl (fun c d => sameButReplies_write c ..) _ halted).sameButStop
  have hdumped : ended.SameButStop dumped := rfl
  have hvoid : dumped.SameButStop dumped.voidCommands := rfl
  exact (((hhalted.trans hended).trans hdumped).trans hvoid).trans
    ((sameButReplies_postDeferred ..).trans (sameButReplies_postDeferred ..)).sameButStop

theorem sameButStop_leadFault (reused : Bool) : b.SameButStop (b.leadFault reused) := by
  unfold Block.leadFault
  split <;> rfl

theorem sameButStop_diagFail (unit : Nat) : b.SameButStop (b.diagFail unit) := by
  unfold Block.diagFail
  split <;> rfl

/-- An entry to Buffer Stop leaves the rest of the block as it was. -/
theorem sameButStop_stop (c : Cause) (source : Nat) (args : List Nat) : b.SameButStop (b.stop c source args) := by
  rw [stop_eq]
  extract_lets r
  have hlogged : b.SameButStop r := rfl
  split
  · split
    · exact hlogged.trans (sameButStop_diagFail r source)
    · exact hlogged.trans (sameButStop_diagFail r source)
    · exact hlogged
  · split
    · exact hlogged
    · have hentry : (r.leadFault false).SameButStop (((r.leadFault false).noteSet (w1cGroup 1)).stopEntry c b.vlog.length) := rfl
      exact ((hlogged.trans (sameButStop_leadFault r false)).trans hentry).trans (sameButStop_stopRest ..)

theorem stop_ap (c : Cause) (source : Nat) (args : List Nat) : (b.stop c source args).ap = b.ap := by
  have h := sameButStop_stop b c source args
  unfold Block.SameButStop at h
  rw [h]

theorem coreWatchdog_ap (core pc : Nat) : (b.coreWatchdog core pc).ap = b.ap := by
  unfold Block.coreWatchdog
  extract_lets runs
  split
  · rfl
  · exact stop_ap ..

end

section
variable {b c d : Block}

/-- The two blocks differ at most in the Memory Port, what leaves at the ports, and the writes carried out: what the port's channels
change. -/
def Block.SameButChannels (b c : Block) : Prop := c = { b with mp := c.mp, out := c.out, posted := c.posted }

theorem Block.SameButChannels.trans (h : b.SameButChannels c) (k : c.SameButChannels d) : b.SameButChannels d := by
  unfold Block.SameButChannels at *
  rw [k, h]

variable (b)

theorem sameButChannels_issueWrite (w : WriteReq) : b.SameButChannels (b.issueWrite w) := rfl

theorem sameButChannels_issueWrites : b.SameButChannels b.issueWrites := by
  unfold Block.issueWrites
  extract_lets ws r
  have hfold : ∀ (l : List WriteReq) (p : Block × List WriteReq), b.SameButChannels p.1 →
      b.SameButChannels (l.foldl (fun (x : Block × List WriteReq) w =>
        if x.1.mayIssue x.2 w then (x.1.issueWrite w, x.2) else (x.1, x.2 ++ [w])) p).1 := by
    intro l
    induction l with
    | nil => exact fun p h => h
    | cons w l ih =>
      intro p h
      refine ih _ ?_
      dsimp only
      split
      · exact h.trans (sameButChannels_issueWrite _ w)
      · exact h
  have hstart : b.SameButChannels ({ b with mp := { b.mp with writeWait := [] } } : Block) := rfl
  exact (hfold ws (_, []) hstart).trans rfl

theorem sameButChannels_nextRead (h : b.nextRead = some c) : b.SameButChannels c := by
  unfold Block.nextRead at h
  obtain ⟨g, -, hg⟩ := List.exists_of_findSome?_eq_some h
  obtain ⟨s, -, hs⟩ := List.exists_of_findSome?_eq_some hg
  split at hs
  · cases hs
  · split at hs
    · obtain ⟨tag, -, rfl⟩ := Option.map_eq_some_iff.1 hs
      rfl
    · cases hs

theorem sameButChannels_issueReads (n : Nat) : b.SameButChannels (Block.issueReads n b) := by
  induction n generalizing b with
  | zero => rfl
  | succ n ih =>
    unfold Block.issueReads
    split
    · rfl
    · split
      · rfl
      · next c h => exact (sameButChannels_nextRead b h).trans (ih c)

/-- The request channels of the Memory Port leave the rest of the block as it was. -/
theorem sameButChannels_memPump : b.SameButChannels b.memPump := (sameButChannels_issueWrites b).trans (sameButChannels_issueReads ..)

theorem memPump_ap : b.memPump.ap = b.ap := by
  have h := sameButChannels_memPump b
  unfold Block.SameButChannels at h
  rw [h]

end

theorem stageRecord_ap (b : Block) (r : LogEntry) : (b.stageRecord r).ap = b.ap := by
  unfold Block.stageRecord
  extract_lets at_
  split
  · rfl
  · split <;> rfl

theorem restage_ap (b : Block) : b.restage.ap = b.ap := by
  unfold Block.restage
  extract_lets owed
  induction owed generalizing b with
  | nil => rfl
  | cons x owed ih => exact (ih _).trans (stageRecord_ap b x.2)

/-- Both resets leave the aperture as a reset gives it. -/
theorem poreset_ap (b : Block) : b.poreset.ap = Block.reset.ap := rfl

theorem wreset_ap (b : Block) : b.wreset.ap = Block.reset.ap := by
  unfold Block.wreset
  extract_lets stopped x
  exact restage_ap _

theorem resetInput_ap (x : State) (t : Nat) (f : Block → Block) : (x.resetInput t f).blk.ap = (f (x.blk.atTime t)).ap := memPump_ap _

/-- Settles O11: a lock's read and write are cases of its register, a core's are the same by the internal path, and neither the resets nor
an entry to Buffer Stop holds a lock otherwise than said. -/
theorem locksAreTakenAndFreed : Obligations.LocksAreTakenAndFreed := by
  refine ⟨⟨fun n => lockOffset_low, fun n => lockOffset_high, fun a n write h hn hcore hsec => high_lock_denied h hn hcore hsec, fun n => rfl,
    fun x t a n v hn => ?_⟩, fun x t => ⟨fun a v hw hlow => ?_, ⟨_, exec_poreset t x, ?_⟩, ⟨_, exec_wreset t x, ?_⟩, fun core pc hlive => ?_⟩⟩
  · intro b
    refine ⟨fun hr hfree => ?_, fun hr hheld => ?_, fun hw hlow howner hv hagent => ?_, fun hw hlow hother => ?_, fun core write h hshape hcrc => ?_⟩
    · rw [exec_lockRead_ok hr, readLock_free hfree]
      simp [readHalf]
    · rw [exec_lockRead_ok hr, readLock_held hheld]
      rfl
    · rw [exec_lockRelease_ok hn hw, writeLock_frees hlow howner hv hagent]
    · rw [exec_lockRelease_ok hn hw, writeLock_other hlow hother]
    · intro c
      have hstatus : ∀ write, accessStatus a (lockOffset n) write = 0 := fun _ => coreAccess_status h hshape hcrc
      have hagent : a.agent = 3 + core := h.2.2.2.1
      refine ⟨hstatus write, fun hfree => ?_, fun hheld => ?_, fun hlow howner hv => ?_⟩
      · rw [exec_lockRead_core h (hstatus false), readLock_free hfree, hagent]
      · rw [exec_lockRead_core h (hstatus false), readLock_held hheld]
      · rw [exec_lockRelease_core hn h (hstatus true), writeLock_frees hlow (howner.trans hagent.symm) (hv.trans hagent.symm) (by omega)]
  · intro b logged
    rw [exec_lockBreak_ok hw, breakLock_frees hlow]
  · rw [resetInput_ap, poreset_ap]
    rfl
  · rw [resetInput_ap, wreset_ap]
    rfl
  · refine ⟨_, ?_, congrArg Aperture.locks (coreWatchdog_ap (x.blk.atTime t) core pc)⟩
    rw [exec_coreWatchdog, event_live hlive]

end Sys2Proof.Machine
end

section
/-! Mailboxes and sensors (R11, R12, R408 to R415): where a channel's registers lie, how a message waits and leaves, and what an inbound
message and a sample do. -/

namespace Sys2Proof.Machine
open Sys2Proof

/-! ### The registers of a channel (Table 15-8) -/

section
variable {b : Block} {a : HAccess} {c v : Nat}

theorem mailOffset_maps {r : Nat} (hc : c < 32) (hr : r < 0x40) :
    mailOffset c + r < 0x80000 ∧ mailAt (mailOffset c + r) = some (c, r) := by
  unfold mailOffset
  split
  · refine ⟨by omega, ?_⟩
    rw [mailAt, if_neg (by simp; omega), if_pos (by simp; omega)]
    congr 2 <;> omega
  · refine ⟨by omega, ?_⟩
    rw [mailAt, if_pos (by simp; omega)]
    congr 2 <;> omega

theorem window_below {off : Nat} (h : off < 0x80000) : windowOffset off = false := by simp [windowOffset, Nat.not_le.2 h]

theorem writeAt_mail {r : Nat} (hc : c < 32) (hr : r < 0x40) : b.writeAt a (mailOffset c + r) v = b.writeMail a c r v := by
  obtain ⟨hlt, hmail⟩ := mailOffset_maps hc hr
  unfold Block.writeAt
  rw [if_neg (by omega), hmail]

theorem mail_write {x : State} {t : Time} {r : Nat} (hc : c < 32) (hr : r < 0x40) (h : x.Writes t a (mailOffset c + r)) :
    (x.host t a fun _ b => b.registerWrite a (mailOffset c + r) v) =
      x.settled (x.blk.atTime t) (((x.asked t a).writeMail a c r v).answered (writeBeat 0)) := by
  obtain ⟨hlt, -⟩ := mailOffset_maps hc hr
  rw [registerWrite_ok h (window_below hlt) (by omega), writeAt_mail hc hr]

theorem writeInCtl_rings (hlow : lowHalf a = true) (hring : bit v 0 = true) (hclear : bit v 1 = false) (h : (b.mailbox c).inPending = false) :
    b.writeInCtl a c v = (b.modMail c fun m => { m with inPending := true, inAgent := a.agent }).ask (60 + c % 4) (b.mailbox c).inPtr 32 .mail := by
  simp [Block.writeInCtl, hlow, hring, hclear, h]

theorem writeInCtl_overruns (hlow : lowHalf a = true) (hring : bit v 0 = true) (hclear : bit v 1 = false) (h : (b.mailbox c).inPending = true) :
    b.writeInCtl a c v = b.modMail c fun m => { m with inOverrun := true } := by
  simp [Block.writeInCtl, hlow, hring, hclear, h]

theorem writeInCtl_clears (hlow : lowHalf a = true) (hring : bit v 0 = false) (hclear : bit v 1 = true) :
    b.writeInCtl a c v = b.modMail c fun m => { m with inOverrun := false } := by
  simp [Block.writeInCtl, hlow, hring, hclear]

/-- A channel's OUT_STATUS after an 8-byte write: the enables, and OUT_PENDING cleared but for what is set at this moment (R12). -/
def Block.outStatusSet (b : Block) (c v : Nat) : Block := b.modMail c fun m =>
  { m with irqEn := bit v 2, outEnable := bit v 1, outPending := b.cleared (w1cMailOut c) m.outPending (bit v 0) }

theorem writeOutStatus_low (hlow : lowHalf a = true) : b.writeOutStatus a c v = (b.outStatusSet c v).mailPump c := by
  simp [Block.writeOutStatus, hlow, Block.outStatusSet]

theorem readOutCtl_size8 (h8 : a.size8 = true) : b.readOutCtl a c =
    ((b.mailbox c).dropped * 2 ^ 48 + (b.mailbox c).outSlot * 2 ^ 36 + (b.mailbox c).subscribe, b.modMail c fun m => { m with dropped := 0 }) := by
  simp [Block.readOutCtl, h8]

/-! ### What waits on a channel (R415) -/

theorem mailPump_idle (h : (b.mailbox c).waiting = []) : b.mailPump c = b := by
  unfold Block.mailPump
  extract_lets x
  split
  · rfl
  · have hx : x.waiting = [] := h
    rw [hx]

theorem mailPump_busy (h : (b.mailbox c).outPending = true ∨ (b.mailbox c).writing.isSome = true ∨ (b.mailbox c).posts = false) :
    b.mailPump c = b := if_pos (by rcases h with h | h | h <;> simp [h])

/-- A free channel that posts writes its oldest message to its next slot. -/
theorem mailPump_writes {msg : MailMsg} {rest : List MailMsg} (hpending : (b.mailbox c).outPending = false) (hwriting : (b.mailbox c).writing = none)
    (hposts : (b.mailbox c).posts = true) (h : (b.mailbox c).waiting = msg :: rest) : b.mailPump c =
      (b.write ((b.mailbox c).outBase + (b.mailbox c).next * 256) (mailBytes b.now msg)).modMail c fun m =>
        { m with waiting := rest, writing := some ((b.mailbox c).outBase + (b.mailbox c).next * 256) } := by
  unfold Block.mailPump
  extract_lets x
  rw [if_neg (by simp [x, hpending, hwriting, hposts])]
  have hx : x.waiting = msg :: rest := h
  rw [hx]

theorem posts_iff {x : Mailbox} : x.posts = true ↔ x.outEnable = true ∧ x.outBase ≠ 0 := by simp [Mailbox.posts]

theorem mailbox_modMail_ne {k : Nat} (h : c ≠ k) (f : Mailbox → Mailbox) : (b.modMail c f).mailbox k = b.mailbox k := Tab.getD_set_ne h _ _ _

@[simp] theorem mailbox_write (addr : Nat) (bs : List Byte) (o k : Nat) (f : Option (Nat × Nat)) (r : Bool) :
    (b.write addr bs o f r).mailbox k = b.mailbox k := rfl

@[simp] theorem mailbox_logRec (s code sev k : Nat) (l : List Nat) : (b.logRec s code sev l).mailbox k = b.mailbox k := rfl

theorem modMail_congr {f g : Mailbox → Mailbox} (h : f (b.mailbox c) = g (b.mailbox c)) : b.modMail c f = b.modMail c g := by
  rw [Block.modMail, h, Block.modMail]

variable {msg : MailMsg}

theorem mailQueue_joins (hroom : (b.mailbox c).waiting.length < 64) (h : (b.mailbox c).outPending = true ∨ (b.mailbox c).writing.isSome = true) :
    b.mailQueue c msg = b.modMail c fun m => { m with waiting := m.waiting ++ [msg] } := by
  rw [Block.mailQueue, if_pos hroom, mailPump_busy]
  rw [mailbox_modMail]
  exact h.imp_right .inl

/-- On a free channel a message goes at once. -/
theorem mailQueue_goes (hempty : (b.mailbox c).waiting = []) (hpending : (b.mailbox c).outPending = false) (hwriting : (b.mailbox c).writing = none)
    (hposts : (b.mailbox c).posts = true) : b.mailQueue c msg =
      (b.write ((b.mailbox c).outBase + (b.mailbox c).next * 256) (mailBytes b.now msg)).modMail c fun m =>
        { m with writing := some (m.outBase + m.next * 256) } := by
  rw [Block.mailQueue, if_pos (by simp [hempty]), mailPump_writes (msg := msg) (rest := [])]
  · have hbox : (b.modMail c fun m => { m with waiting := m.waiting ++ [msg] }).mailbox c = { b.mailbox c with waiting := [msg] } := by
      rw [mailbox_modMail, hempty]
      rfl
    rw [hbox, modMail_write, modMail_write, modMail_modMail]
    refine congrArg (Block.write · _ _ _ _ _) (modMail_congr ?_)
    dsimp only
    rw [← hempty]
  · rwa [mailbox_modMail]
  · rwa [mailbox_modMail]
  · rw [mailbox_modMail]
    exact hposts
  · rw [mailbox_modMail, hempty]
    rfl

theorem mailQueue_full (hfull : (b.mailbox c).waiting.length = 64) (hf : msg.fatal = false) : b.mailQueue c msg = b.mailDrop c := by
  simp [Block.mailQueue, hfull, hf]

theorem dropFirst_append {α : Type} {hit : α → Bool} {older newer : List α} {y : α} (hy : hit y = true) (h : ∀ z ∈ older, hit z = false) :
    dropFirst hit (older ++ y :: newer) = older ++ newer := by
  induction older with
  | nil => simp [dropFirst, hy]
  | cons z older ih =>
    have hz : hit z = false := h z (List.mem_cons_self ..)
    simp [dropFirst, hz, ih fun w hw => h w (List.mem_cons_of_mem _ hw)]

/-- A FATAL message takes the place of the oldest one that is none. -/
theorem mailQueue_displaces {older newer : List MailMsg} {y : MailMsg} (hwaiting : (b.mailbox c).waiting = older ++ y :: newer)
    (hfull : (b.mailbox c).waiting.length = 64) (hf : msg.fatal = true) (hy : y.fatal = false) (holder : ∀ z ∈ older, z.fatal = true) :
    b.mailQueue c msg = (b.modMail c fun m => { m with waiting := older ++ newer ++ [msg] }).mailDrop c := by
  have hall : ((b.mailbox c).waiting.all fun y => y.fatal) = false := by simp [hwaiting, hy]
  have hdrop : dropFirst (fun (y : MailMsg) => !y.fatal) (b.mailbox c).waiting = older ++ newer := by
    rw [hwaiting, dropFirst_append (by simp [hy]) fun z hz => by simp [holder z hz]]
  rw [Block.mailQueue, if_neg (by omega), if_pos hf]
  extract_lets b1
  rw [if_neg (by simp [hall])]
  congr 1
  exact modMail_congr (by rw [hdrop])

theorem dropped_mailDrop : ((b.mailDrop c).mailbox c).dropped = min 65535 ((b.mailbox c).dropped + 1) := by
  simp only [Block.mailDrop, mailbox_logRec, mailbox_modMail, satInc]
  split <;> omega

theorem mailReply_posts {type seq status : Nat} {body : List Byte} (h : (b.mailbox c).posts = true) :
    b.mailReply c type seq status body = b.mailQueue c { type, flags := 1, status, seq, body } := if_pos h

theorem mailReply_drops {type seq status : Nat} {body : List Byte} (h : (b.mailbox c).outEnable = false ∨ (b.mailbox c).outBase = 0) :
    b.mailReply c type seq status body = b.mailDrop c := by
  refine if_neg ?_
  rw [posts_iff]
  rintro ⟨henable, hbase⟩
  rcases h with h | h
  · rw [h] at henable; cases henable
  · exact hbase h

end

/-! ### Notices (R415) -/

section
variable {b : Block} {c type : Nat} {body : List Byte} {fatal : Bool}

/-- Channel k takes notices of a type. -/
def Block.wantsNotice (b : Block) (type k : Nat) : Bool :=
  bit (b.mailbox k).subscribe (type - 0x8001) && (b.mailbox k).posts && (decide (k < 16) || type == 0x8002)

/-- A notice to one channel, which takes the channel's next sequence number. -/
def Block.noticeTo (b : Block) (type : Nat) (body : List Byte) (fatal : Bool) (k : Nat) : Block :=
  if b.wantsNotice type k then
    (b.modMail k fun m => { m with seq := add32 m.seq 1 }).mailQueue k { type, seq := (b.mailbox k).seq, body, fatal }
  else b

theorem notice_eq : b.notice type body fatal = (Tab.keys b.ap.mail).foldl (fun b k => b.noticeTo type body fatal k) b := rfl

theorem noticeTo_unwanted (h : b.wantsNotice type c = false) : b.noticeTo type body fatal c = b := if_neg (by simp [h])

theorem noticeTo_all_unwanted {l : List Nat} (h : ∀ k ∈ l, b.wantsNotice type k = false) :
    l.foldl (fun b k => b.noticeTo type body fatal k) b = b := by
  induction l with
  | nil => rfl
  | cons k l ih =>
    rw [List.foldl_cons, noticeTo_unwanted (h k (List.mem_cons_self ..))]
    exact ih fun j hj => h j (List.mem_cons_of_mem _ hj)

/-- Only channel c's mailbox may differ. -/
def SameOtherMail (c : Nat) (b d : Block) : Prop := ∀ k, k ≠ c → d.mailbox k = b.mailbox k

theorem SameOtherMail.trans {d e : Block} (h : SameOtherMail c b d) (h' : SameOtherMail c d e) : SameOtherMail c b e :=
  fun k hk => (h' k hk).trans (h k hk)

theorem sameOtherMail_modMail (f : Mailbox → Mailbox) : SameOtherMail c b (b.modMail c f) := fun _ hk => mailbox_modMail_ne hk.symm f

theorem sameOtherMail_mailDrop (b : Block) : SameOtherMail c b (b.mailDrop c) :=
  fun _ hk => (mailbox_logRec ..).trans (mailbox_modMail_ne hk.symm _)

theorem sameOtherMail_mailPump (b : Block) : SameOtherMail c b (b.mailPump c) := by
  unfold Block.mailPump
  extract_lets x
  split
  · exact fun _ _ => rfl
  · split
    · exact fun _ _ => rfl
    · exact fun k hk => mailbox_modMail_ne hk.symm _

theorem sameOtherMail_mailQueue (b : Block) (msg : MailMsg) : SameOtherMail c b (b.mailQueue c msg) := by
  unfold Block.mailQueue
  extract_lets x b1
  split
  · exact (sameOtherMail_modMail _).trans (sameOtherMail_mailPump _)
  · split
    · split
      · exact sameOtherMail_modMail _
      · exact (sameOtherMail_modMail _).trans (sameOtherMail_mailDrop _)
    · exact sameOtherMail_mailDrop _

theorem sameOtherMail_noticeTo (b : Block) : SameOtherMail c b (b.noticeTo type body fatal c) := by
  unfold Block.noticeTo
  split
  · exact (sameOtherMail_modMail _).trans (sameOtherMail_mailQueue _ _)
  · exact fun _ _ => rfl

/-- Where no other channel takes a notice, it is the notice to the one. -/
theorem notice_one {pre post : List Nat} (hkeys : Tab.keys b.ap.mail = pre ++ c :: post) (hc : c ∉ post)
    (h : ∀ k ∈ pre ++ post, b.wantsNotice type k = false) : b.notice type body fatal = b.noticeTo type body fatal c := by
  rw [notice_eq, hkeys, List.foldl_append, noticeTo_all_unwanted fun k hk => h k (List.mem_append_left _ hk), List.foldl_cons]
  refine noticeTo_all_unwanted fun k hk => ?_
  have hother : (b.noticeTo type body fatal c).mailbox k = b.mailbox k :=
    sameOtherMail_noticeTo b k fun hkc => hc (hkc ▸ hk)
  rw [Block.wantsNotice, hother]
  exact h k (List.mem_append_right _ hk)

end

/-! ### Inbound messages (R413, R414) -/

section
variable {b : Block} {c : Nat} {m : InMail} {k : Block → Block}

/-- The channel of an inbound message that is taken: IN_PENDING clears, and the agent is the one that rang. -/
def Block.mailRung (b : Block) (c : Nat) : Block :=
  { b.modMail c fun m => { m with inPending := false } with agent := (b.mailbox c).inAgent }

theorem mailRung_inPtr : ((b.mailRung c).mailbox c).inPtr = (b.mailbox c).inPtr := by
  have hbox : (b.mailRung c).mailbox c = { b.mailbox c with inPending := false } :=
    mailbox_modMail b c fun m => { m with inPending := false }
  rw [hbox]

/-- An inbound message as it is taken: its body is read. -/
def Block.mailTaken (b : Block) (c : Nat) (m : InMail) : Block :=
  (b.mailRung c).ask (60 + c % 4) ((b.mailbox c).inPtr + 32) (if m.bodyLen ≤ 4064 then m.bodyLen else 0) .mail

theorem mailIn_read {type lo hi : Nat} (hpending : (b.mailbox c).inPending = true) (hread : m.readOk = true) : b.mailIn c type m lo hi k =
    if type = 0 || type > 3 then (b.mailTaken c m).mailReply c type m.seq 0x0101 []
    else if m.bodyLen < lo || m.bodyLen > hi then (b.mailTaken c m).mailReply c type m.seq 0x0102 []
    else k (b.mailTaken c m) := by
  have hask : (b.mailRung c).ask (60 + c % 4) (((b.mailRung c).mailbox c).inPtr + 32)
      (if m.readOk && m.bodyLen ≤ 4064 then m.bodyLen else 0) .mail = b.mailTaken c m := by
    rw [mailRung_inPtr, hread, Bool.true_and, Block.mailTaken]
    simp only [decide_eq_true_eq]
  unfold Block.mailIn
  extract_lets cleared rung taken
  have htaken : taken = b.mailTaken c m := hask
  rw [if_neg (by simp [hpending]), if_neg (by simp [hread]), htaken]

theorem mailIn_taken {type lo hi : Nat} (hpending : (b.mailbox c).inPending = true) (hread : m.readOk = true) (htype : 1 ≤ type ∧ type ≤ 3)
    (hlen : lo ≤ m.bodyLen ∧ m.bodyLen ≤ hi) : b.mailIn c type m lo hi k = k (b.mailTaken c m) := by
  obtain ⟨hlo, hhi⟩ := hlen
  rw [mailIn_read hpending hread, if_neg (by simp; omega), if_neg (by simp; omega)]

theorem mailIn_unknown {type lo hi : Nat} (hpending : (b.mailbox c).inPending = true) (hread : m.readOk = true) (htype : 3 < type) :
    b.mailIn c type m lo hi k = (b.mailTaken c m).mailReply c type m.seq 0x0101 [] := by
  rw [mailIn_read hpending hread, if_pos (by simp [htype])]

variable {x : State} {t : Time}

theorem firmware_runs {f : Block → Block} (h : b.sb.phase = .firmware) : b.firmware f = f b := by simp [Block.firmware, h]

theorem exec_mail {f : Block → Block} (h : x.Serving) (hfw : x.blk.sb.phase = .firmware) :
    (x.port t (some .mp) fun _ b => b.firmware f) = x.settled (x.blk.atTime t) (f (x.seen t .mp)) := by
  obtain ⟨hdead, hsafe⟩ := h
  rw [port_serving hdead hsafe, firmware_runs (show (x.seen t .mp).sb.phase = _ from hfw)]

end

/-! ### Sensors (R408) -/

section
variable {b : Block} {i v : Nat}

/-- A sensor's register takes the sample. -/
def Block.sensorShown (b : Block) (i v : Nat) : Block :=
  { b with sb := { b.sb with sensors := Tab.set i { valid := true, alarm := alarmOf i v, value := v % 65536 } b.sb.sensors } }

theorem sensorSample_steady (hi : i < 36) (h : alarmOf i v = (b.sensor i).alarm) : b.sensorSample i v = b.sensorShown i v := by
  simp [Block.sensorSample, Nat.not_le.2 hi, h, Block.sensorShown]

/-- The record and the notice of an ALARM that changes. -/
def Block.alarmTold (b : Block) (i v : Nat) : Block :=
  ((b.sensorShown i v).logRec srcSignalBox 0x0171 1 [i, alarmOf i v, v % 65536]).notice 0x8002
    (le 2 i ++ le 2 (alarmOf i v) ++ le 2 v ++ zeros 2) false

theorem sensorSample_changes (hi : i < 36) (h : alarmOf i v ≠ (b.sensor i).alarm) (h3 : alarmOf i v ≠ 3) :
    b.sensorSample i v = b.alarmTold i v := by
  simp only [Block.sensorSample, ge_iff_le, Nat.not_le.2 hi, h, h3, if_false, decide_false, Bool.false_and, Bool.false_eq_true]
  rfl

theorem sensorSample_trips (hi : i < 36) (h3 : alarmOf i v = 3) (h : (b.sensor i).alarm ≠ 3) :
    b.sensorSample i v = (b.alarmTold i v).stop .sensorTrip srcSignalBox [i, 3, v % 65536] := by
  have hne : ¬ 3 = (b.sensor i).alarm := Ne.symm h
  simp only [Block.sensorSample, ge_iff_le, Nat.not_le.2 hi, if_false, h3, hne, Block.alarmTold, Block.sensorShown]
  exact if_pos (by simpa using h)

theorem exec_sensorSample_live {x : State} {t : Time} (h : x.Live) (hfw : x.blk.sb.phase = .firmware) :
    exec (.sensorSample t i v) x = .next (x.settled (x.blk.atTime t) ((x.blk.atTime t).sensorSample i v)) := by
  rw [exec_sensorSample, event_live h, firmware_runs (show (x.blk.atTime t).sb.phase = _ from hfw)]

end


/-- Settles O16: the three commands are accesses of one channel's registers, and each clause is a case of its register. -/
theorem mailboxRegistersPostAndClear : Obligations.MailboxRegistersPostAndClear := by
  intro x t a c v hc h8 hv b
  have hlow := lowHalf_size8 h8
  have hdoorbell : x.Writes t a (mailOffset c + 8) → exec (.mailboxDoorbell t a c v) x =
      .next (x.settled (x.blk.atTime t) ((b.writeInCtl a c v).answered (writeBeat 0))) := fun hw => by
    rw [exec_mailboxDoorbell, mail_write hc (by decide) hw]
    rfl
  have hstatus : x.Writes t a (mailOffset c + 0x20) → exec (.outPendingClear t a c v) x =
      .next (x.settled (x.blk.atTime t) (((b.outStatusSet c v).mailPump c).answered (writeBeat 0))) := fun hw => by
    rw [exec_outPendingClear, mail_write hc (by decide) hw, ← writeOutStatus_low hlow]
    rfl
  refine ⟨fun hw hring hclear h => ?_, fun hw hring hclear h => ?_, fun hw hring hclear => ?_, fun hw hempty => ?_,
    fun msg rest hw hwaiting hwriting hbase hclear henable hset => ?_, fun hr => ?_⟩
  · rw [hdoorbell hw, writeInCtl_rings hlow hring hclear h]
  · rw [hdoorbell hw, writeInCtl_overruns hlow hring hclear h]
  · rw [hdoorbell hw, writeInCtl_clears hlow hring hclear]
  · rw [hstatus hw, mailPump_idle]
    · rfl
    · rw [Block.outStatusSet, mailbox_modMail]
      exact hempty
  · intro slot b2
    have hcleared : b.cleared (w1cMailOut c) (b.mailbox c).outPending (bit v 0) = false := by simp [Block.cleared, hclear, hset]
    have hb2 : b.outStatusSet c v = b2 := modMail_congr (by rw [hcleared, henable])
    have hbox : b2.mailbox c = { b.mailbox c with irqEn := bit v 2, outEnable := true, outPending := false } := mailbox_modMail ..
    rw [hstatus hw, hb2, mailPump_writes (msg := msg) (rest := rest)]
    · rw [hbox]
      rfl
    · rw [hbox]
    · rw [hbox]
      exact hwriting
    · rw [hbox]
      exact posts_iff.2 ⟨rfl, hbase⟩
    · rw [hbox]
      exact hwaiting
  · rw [exec_outDroppedRead, readAccess_okay hr, readOutCtl_size8 h8, readHalf, if_pos h8]

/-- Settles O17: an inbound message is taken and then answered, a message waits or goes by the state of its channel, and a sample is told
where its alarm changes. -/
theorem mailboxMessagesTakeTheirTurn : Obligations.MailboxMessagesTakeTheirTurn := by
  refine ⟨fun x t c m hserving hfw => ?_, fun b c type seq status body => ?_, fun x t i v hlive hfw hi => ?_⟩
  · intro b rung taken hpending hread
    have htaken : b.mailTaken c m = taken := rfl
    refine ⟨fun hlen => ?_, fun hlen => ?_, fun hlo hhi => ?_, fun k hk => ?_⟩
    · rw [exec_ping, exec_mail hserving hfw]
      exact congrArg _ (congrArg _ (mailIn_taken hpending hread (by decide) (by omega)))
    · rw [exec_sensorSnapshot, exec_mail hserving hfw]
      exact congrArg _ (congrArg _ (mailIn_taken hpending hread (by decide) (by omega)))
    · rw [exec_logMark, exec_mail hserving hfw]
      exact congrArg _ (congrArg _ (mailIn_taken hpending hread (by decide) ⟨hlo, hhi⟩))
    · have htype : (if k = 2 || k = 3 then 0 else k) = k := if_neg (by simp; omega)
      rw [exec_ping, exec_mail hserving hfw, Block.mailPing, htype]
      exact congrArg _ (congrArg _ (mailIn_unknown hpending hread hk))
  · intro m msg
    refine ⟨fun henable hbase hroom hbusy => ?_, fun henable hbase hempty hpending hwriting => ?_, mailReply_drops, dropped_mailDrop,
      fun hfull henable hbase => ?_, fun fatal pre post htype hkeys hc => ?_⟩
    · rw [mailReply_posts (posts_iff.2 ⟨henable, hbase⟩), mailQueue_joins hroom hbusy]
    · rw [mailReply_posts (posts_iff.2 ⟨henable, hbase⟩), mailQueue_goes hempty hpending hwriting (posts_iff.2 ⟨henable, hbase⟩)]
    · rw [mailReply_posts (posts_iff.2 ⟨henable, hbase⟩), mailQueue_full hfull rfl]
    · intro wants told numbered hothers
      have hone : b.notice type body fatal = b.noticeTo type body fatal c := notice_one hkeys hc hothers
      have hwanted : wants c = true → b.notice type body fatal = numbered.mailQueue c told := fun h => hone.trans (if_pos h)
      have hbox : numbered.mailbox c = { m with seq := add32 m.seq 1 } := mailbox_modMail ..
      have hposts : wants c = true → (numbered.mailbox c).posts = true := fun h => by
        rw [hbox]
        simp only [wants, Bool.and_eq_true] at h
        exact h.1.2
      refine ⟨fun h => hone.trans (noticeTo_unwanted h), fun h hroom hbusy => ?_, fun h hempty hpending hwriting => ?_, fun h hfull hf => ?_,
        fun older y newer h hwaiting hfull hf hy holder => ?_⟩
      · rw [hwanted h, mailQueue_joins (by rw [hbox]; exact hroom) (by rw [hbox]; exact hbusy)]
      · rw [hwanted h, mailQueue_goes (by rw [hbox]; exact hempty) (by rw [hbox]; exact hpending) (by rw [hbox]; exact hwriting) (hposts h), hbox]
        rfl
      · rw [hwanted h, mailQueue_full (by rw [hbox]; exact hfull) hf]
      · rw [hwanted h, mailQueue_displaces (by rw [hbox]; exact hwaiting) (by rw [hbox]; exact hfull) hf hy holder]
  · intro b now shown
    refine ⟨fun h => ?_, fun h h3 => ?_, fun h3 h => ?_⟩
    · rw [exec_sensorSample_live hlive hfw, sensorSample_steady hi h]
      rfl
    · rw [exec_sensorSample_live hlive hfw, sensorSample_changes hi h h3]
      rfl
    · rw [exec_sensorSample_live hlive hfw, sensorSample_trips hi h3 h, Block.alarmTold, h3]
      rfl

end Sys2Proof.Machine
end

section
/-! Keys (R382 to R385): what the key bootstrap's actions and their ends do, what KEY_PROVISION does, and that no register reads a key. -/

namespace Sys2Proof.Machine
open Sys2Proof

/-! ### The key bootstrap (Table 14-2) -/

section
variable {b : Block} {a : HAccess} {v : Nat}

/-- The block with the two permissions that KB_CTL holds. -/
def Block.permitting (b : Block) (v : Nat) : Block := { b with keys := { b.keys with certWrite := bit v 7, updateDis := bit v 6 } }

/-- A write of an action code sets the permissions of the value and starts the action. -/
theorem writeKbCtl_action {n : Nat} (h8 : a.size8 = true) (hagent : a.agent = 2) (hn : n < 4) :
    b.writeKbCtl a (v / 4 * 4 + n) = (b.permitting v).kbAction n := by
  have h7 : bit (v / 4 * 4 + n) 7 = bit v 7 := by
    simp only [bit, Nat.reducePow]
    rw [show (v / 4 * 4 + n) / 128 = v / 128 by omega]
  have h6 : bit (v / 4 * 4 + n) 6 = bit v 6 := by
    simp only [bit, Nat.reducePow]
    rw [show (v / 4 * 4 + n) / 64 = v / 64 by omega]
  have hmod : (v / 4 * 4 + n) % 4 = n := by omega
  simp [Block.writeKbCtl, hagent, lowHalf_size8 h8, h7, h6, hmod, Block.permitting]

theorem kbAction_unwraps {w : List Byte} (haction : b.keys.action = none) (hlocked : b.keys.locked = false)
    (hkey : Tab.has 0 b.keys.channel = false) (hleft : 0 < b.keys.attempts) (hwrap : b.keys.bootWrap = some w) :
    b.kbAction 1 = { b with keys := { b.keys with action := some (1, Aes.unwrap w (b.keys.blob.take 40)) } } := by
  simp [Block.kbAction, haction, hlocked, hkey, hleft, hwrap]

theorem kbAction_programs (haction : b.keys.action = none) (hlocked : b.keys.locked = false) (hkey : Tab.has 0 b.keys.channel = false)
    (hwrap : b.keys.bootWrap = none) :
    b.kbAction 2 = { b with keys := { b.keys with action := some (2, some (b.keys.blob.take 32)) } } := by
  simp [Block.kbAction, haction, hlocked, hkey, hwrap]

theorem kbAction_unwrap_fails (h : b.keys.action.isSome = true ∨ b.keys.locked = true ∨ b.keys.bootWrap = none ∨ b.keys.attempts = 0 ∨
    Tab.has 0 b.keys.channel = true) : b.kbAction 1 = { b with keys := { b.keys with fail := true } } := by
  unfold Block.kbAction
  extract_lets k locked ok result
  have hok : ok = false := by
    simp only [ok, locked, k]
    rcases h with h | h | h | h | h
    · simp [Option.isSome_iff_ne_none.1 h]
    · simp [h]
    · simp [h]
    · simp [h]
    · simp [h]
  rw [if_neg (by decide), if_pos (by rw [hok]; rfl)]

theorem kbAction_program_fails (h : b.keys.action.isSome = true ∨ b.keys.locked = true ∨ b.keys.bootWrap.isSome = true) :
    b.kbAction 2 = { b with keys := { b.keys with fail := true } } := by
  unfold Block.kbAction
  extract_lets k locked ok result
  have hok : ok = false := by
    simp only [ok, locked, k]
    rcases h with h | h | h
    · simp [Option.isSome_iff_ne_none.1 h]
    · simp [h]
    · obtain ⟨w, hw⟩ := Option.isSome_iff_exists.1 h
      simp [hw]
  rw [if_neg (by decide), if_pos (by rw [hok]; rfl)]

theorem kbComplete_unwrapped {key : List Byte} (h : b.keys.action = some (1, some key)) : b.kbComplete =
    { b with keys := { b.keys with action := none, channel := Tab.set 0 key b.keys.channel, locked := true } } := by
  rw [Block.kbComplete, h]
  rfl

theorem kbComplete_failed (h : b.keys.action = some (1, none)) : b.kbComplete =
    ({ b with keys := { b.keys with action := none, attempts := b.keys.attempts - 1, fail := true
                                    locked := b.keys.locked || b.keys.attempts - 1 == 0 } } : Block).noteSet w1cKey := by
  rw [Block.kbComplete, h]
  rfl

theorem kbComplete_programmed {key : Option (List Byte)} (h : b.keys.action = some (2, key)) : b.kbComplete =
    { b with keys := { b.keys with action := none, bootWrap := key } } := by
  rw [Block.kbComplete, h]
  rfl

variable {x : State} {t : Time}

theorem exec_kbUnwrap_ok (h8 : a.size8 = true) (h : x.Writes t a 0x47000) (hagent : a.agent = 2) : exec (.kbUnwrap t a v) x =
    .next (x.settled (x.blk.atTime t) ((((x.asked t a).permitting v).kbAction 1).answered (writeBeat 0))) := by
  rw [exec_kbUnwrap, registerWrite_ok h rfl (by decide), ← writeKbCtl_action h8 hagent (by decide)]
  rfl

theorem exec_kbProgramWrapKey_ok (h8 : a.size8 = true) (h : x.Writes t a 0x47000) (hagent : a.agent = 2) :
    exec (.kbProgramWrapKey t a v) x =
    .next (x.settled (x.blk.atTime t) ((((x.asked t a).permitting v).kbAction 2).answered (writeBeat 0))) := by
  rw [exec_kbProgramWrapKey, registerWrite_ok h rfl (by decide), ← writeKbCtl_action h8 hagent (by decide)]
  rfl

theorem exec_kbActionComplete_live (h : x.Live) (hfw : x.blk.sb.phase = .firmware) : exec (.kbActionComplete t) x =
    .next (x.settled (x.blk.atTime t) (x.blk.atTime t).kbComplete) := by
  rw [exec_kbActionComplete, event_live h, firmware_runs (show (x.blk.atTime t).sb.phase = _ from hfw)]

end

/-! ### KEY_PROVISION -/

section
variable {b : Block} {s kind index flags seq : Nat} {wrapped : List Byte}

/-- A key of a place that is there, and that may be provisioned or deleted: a channel key (kind 1) or a tenant key (kind 2). -/
def provisions (kind index flags : Nat) : Prop :=
  kind = 1 ∧ index < 16 ∧ ¬ (bit flags 0 = true ∧ index = 0) ∨ kind = 2 ∧ index < 4096

/-- A table of keys after a key's installation or deletion. -/
def putKey (index flags : Nat) (key : List Byte) (k : Table (List Byte)) : Table (List Byte) :=
  if bit flags 0 then Tab.erase index k else Tab.set index key k

/-- The keys with one channel or tenant key installed or deleted, and the record of it. -/
def Block.provisioned (b : Block) (kind index flags : Nat) (key : List Byte) : Block :=
  Block.logRec { b with keys :=
    if kind = 1 then { b.keys with channel := putKey index flags key b.keys.channel }
    else { b.keys with tenant := putKey index flags key b.keys.tenant } } srcSecurity 0x0162 0 [kind, index]

/-- Whether the key was there before. -/
def Block.hadKey (b : Block) (kind index : Nat) : Bool :=
  if kind = 1 then Tab.has index b.keys.channel else Tab.has index b.keys.tenant

theorem keyProvision_unreadable (h : provisions kind index flags) (hkey : Aes.unwrap (wrapKey (b.session s).ks seq) wrapped = none) :
    b.keyProvision s kind index wrapped flags seq = b.reply s 0x0201 := by
  unfold Block.keyProvision
  rcases h with ⟨rfl, hlt, hdel⟩ | ⟨rfl, hlt⟩
  · simp [Nat.not_le.2 hlt, hdel, hkey]
  · simp [Nat.not_le.2 hlt, hkey]

theorem keyProvision_done {key : List Byte} (h : provisions kind index flags)
    (hkey : Aes.unwrap (wrapKey (b.session s).ks seq) wrapped = some key) : b.keyProvision s kind index wrapped flags seq =
      (if b.hadKey kind index then (b.provisioned kind index flags key).closeUnder (decide (kind = 1)) index s
       else b.provisioned kind index flags key).reply s 0 := by
  unfold Block.keyProvision
  rcases h with ⟨rfl, hlt, hdel⟩ | ⟨rfl, hlt⟩
  · rw [if_neg (by decide), if_neg (by simpa using hlt), if_neg (by simpa using hdel)]
    simp only [hkey]
    rfl
  · rw [if_neg (by decide), if_neg (by simpa using hlt), if_neg (by simp)]
    simp only [hkey]
    rfl

theorem keyProvision_keeps_first (hdel : bit flags 0 = true) : b.keyProvision s 1 0 wrapped flags seq = b.reply s 0x0103 := by
  simp [Block.keyProvision, hdel]

end

/-- Settles O14: the bootstrap's writes and ends, and the provision of a key, each by the equation of its case. -/
theorem keysAreInstalledByBootstrapAndProvision : Obligations.KeysAreInstalledByBootstrapAndProvision := by
  refine ⟨fun x t a v h8 hv => ?_, fun x t s kind index flags wrapped c h => ?_⟩
  · intro b k
    refine ⟨fun w hw hagent haction hlocked hkey hleft hwrap => ?_, fun hw hagent haction hlocked hkey hwrap => ?_, fun hw hagent hno => ?_,
      fun hw hagent hno => ?_, fun key hlive hfw hdone => ?_, fun hlive hfw hdone => ?_, fun key hlive hfw hdone => ?_⟩
    · rw [exec_kbUnwrap_ok h8 hw hagent, kbAction_unwraps (b := b.permitting v) haction hlocked hkey hleft hwrap]
      rfl
    · rw [exec_kbProgramWrapKey_ok h8 hw hagent, kbAction_programs (b := b.permitting v) haction hlocked hkey hwrap]
      rfl
    · rw [exec_kbUnwrap_ok h8 hw hagent, kbAction_unwrap_fails (b := b.permitting v) hno]
      rfl
    · rw [exec_kbProgramWrapKey_ok h8 hw hagent, kbAction_program_fails (b := b.permitting v) hno]
      rfl
    · rw [exec_kbActionComplete_live hlive hfw, kbComplete_unwrapped (b := x.blk.atTime t) hdone]
      rfl
    · rw [exec_kbActionComplete_live hlive hfw, kbComplete_failed (b := x.blk.atTime t) hdone]
      rfl
    · rw [exec_kbActionComplete_live hlive hfw, kbComplete_programmed (b := x.blk.atTime t) hdone]
      rfl
  · intro b wk delete put channel tenant hp
    have hexec : exec (.keyProvision t s) x = .next (x.settled b (b.keyProvision s kind index wrapped flags c.pkt.seq)) := by
      rw [exec_keyProvision, command_carries h (by rw [hp])]
    refine ⟨fun key hkind hlt hdel hkey hhad => ?_, fun key hkind hlt hdel hkey hhad => ?_, fun key hkind hlt hkey hhad => ?_,
      fun key hkind hlt hkey hhad => ?_, fun hok hkey => ?_, fun hkind hindex hdel => ?_⟩
    · subst hkind
      rw [hexec, keyProvision_done (.inl ⟨rfl, hlt, hdel⟩) hkey, if_neg (by simpa [Block.hadKey] using hhad)]
      rfl
    · subst hkind
      rw [hexec, keyProvision_done (.inl ⟨rfl, hlt, hdel⟩) hkey, if_pos (by simpa [Block.hadKey] using hhad)]
      rfl
    · subst hkind
      rw [hexec, keyProvision_done (.inr ⟨rfl, hlt⟩) hkey, if_neg (by simpa [Block.hadKey] using hhad)]
      rfl
    · subst hkind
      rw [hexec, keyProvision_done (.inr ⟨rfl, hlt⟩) hkey, if_pos (by simpa [Block.hadKey] using hhad)]
      rfl
    · rw [hexec, keyProvision_unreadable hok hkey]
    · subst hkind hindex
      rw [hexec, keyProvision_keeps_first hdel]

/-! ### What the registers show of the keys (R382) -/

section
variable (b : Block) (channel tenant : Table (List Byte)) (wrap : Option (List Byte))

/-- The block with other keys. -/
def Block.otherKeys : Block := { b with keys := { b.keys with channel, tenant, bootWrap := wrap } }

/-- The bootstrap's registers show whether channel key 0 and the wrap key are there, and no more. -/
theorem readKb_otherKeys (hchannel : Tab.has 0 channel = Tab.has 0 b.keys.channel) (hwrap : wrap.isSome = b.keys.bootWrap.isSome) (reg : Nat) :
    (b.otherKeys channel tenant wrap).readKb reg = b.readKb reg := by
  simp only [Block.readKb, Block.otherKeys, hchannel, hwrap]
  rfl

theorem readRegister_otherKeys (hchannel : Tab.has 0 channel = Tab.has 0 b.keys.channel) (hwrap : wrap.isSome = b.keys.bootWrap.isSome)
    (off : Nat) : (b.otherKeys channel tenant wrap).readRegister off = b.readRegister off := by
  unfold Block.readRegister
  rw [readKb_otherKeys b channel tenant wrap hchannel hwrap]
  rfl

end

/-- Settles O15: of all registers only the bootstrap's look at the keys. -/
theorem registersReadNoKey : Obligations.RegistersReadNoKey :=
  fun b channel tenant wrap off hchannel hwrap => readRegister_otherKeys b channel tenant wrap hchannel hwrap off

end Sys2Proof.Machine
end

section
/-! Sessions: the packet of a reply and its completion entry (R282, R285), the handshake and its times (R380, R386, R387). -/

namespace Sys2Proof.Machine
open Sys2Proof

/-! ### Replies (Tables 11-2 and 11-4) -/

section
variable {b : Block} {s opcode seq status effective : Nat} {e : CmdEntry} {payload : List Byte} {deferred : Bool}

theorem replyHeader_length (n : Nat) : (b.replyHeader opcode status s deferred seq effective n).length = 32 := by
  simp [Block.replyHeader]

/-- EFFECTIVE as a reply shows it (log entry 49). -/
def shownEffective (status effective : Nat) : Nat := if status = 0 ∨ status = 0x308 then effective else 0

/-- The packet of a reply: the header, and what fits of the payload. -/
def Block.replyPacket (b : Block) (s opcode seq : Nat) (e : CmdEntry) (status : Nat) (payload : List Byte) (effective : Nat) (deferred : Bool) :
    List Byte :=
  b.replyHeader opcode status s deferred seq (shownEffective status effective) payload.length ++ payload.take (e.replyMax - 32)

theorem replyPacket_length (hmax : 32 ≤ e.replyMax) :
    (b.replyPacket s opcode seq e status payload effective deferred).length = min e.replyMax (32 + payload.length) := by
  simp only [Block.replyPacket, List.length_append, replyHeader_length, List.length_take]
  omega

/-- With room for the header, a reply writes its packet and then its completion entry, which the session uses up. -/
theorem postReply_eq (hmax : 32 ≤ e.replyMax) : b.postReply s opcode seq e status payload effective deferred =
    let q := b.session s
    let packet := b.replyPacket s opcode seq e status payload effective deferred
    let flags := ofBools [false, deferred, decide (e.replyMax - 32 < payload.length)] + 32768 * b2n (q.cplTail / q.cplSize % 2 == 0)
    (((b.write e.replyAddr packet 0).write (q.cplBase + q.cplTail % q.cplSize * 16)
      (le 8 seq ++ le 2 status ++ le 2 flags ++ le 4 packet.length) 0 (some (e.replyAddr, packet.length))).noteSet (w1cSession s)).modSession s
        fun q => { q with cplTail := add32 q.cplTail 1, reserved := q.reserved - 1, cplPending := true } := by
  extract_lets q packet flags
  unfold Block.postReply
  extract_lets shown full noReply bytes i phase flags' posted entered
  have hshown : shown = shownEffective status effective := by simp only [shown, shownEffective, Bool.or_eq_true, decide_eq_true_eq]
  have hroom : noReply = false := by simp [noReply, hmax]
  have hfull : full.length = 32 + payload.length := by simp [full, replyHeader_length]
  have hbytes : bytes = packet := by
    simp only [bytes, hroom, Bool.false_eq_true, if_false, hfull, full, List.take_append, replyHeader_length]
    rw [List.take_of_length_le (by rw [replyHeader_length]; omega), hshown]
    refine congrArg _ ?_
    by_cases hfits : 32 + payload.length ≤ e.replyMax
    · rw [Nat.min_eq_right hfits, Nat.add_sub_cancel_left, List.take_of_length_le le_rfl, List.take_of_length_le (by omega)]
    · rw [Nat.min_eq_left (by omega)]
  have hlength : bytes.length = min e.replyMax (32 + payload.length) := by rw [hbytes]; exact replyPacket_length hmax
  have hne : bytes.isEmpty = false := by
    rw [List.isEmpty_eq_false_iff, ← List.length_pos_iff, hlength]
    omega
  have hflags : flags' = flags := by
    have htruncated : decide (bytes.length < full.length) = decide (e.replyMax - 32 < payload.length) := by
      rw [decide_eq_decide, hlength, hfull]
      omega
    simp only [flags', flags, hroom, htruncated, Bool.not_false, Bool.true_and]
    rfl
  have hposted : posted = b.write e.replyAddr packet 0 := (if_neg (by simp [hne])).trans (by rw [hbytes])
  simp only [entered, hposted, hflags, hbytes]
  rfl

theorem reply_current {c : Current} (h : (b.session s).current = some c) : b.reply s status payload effective =
    (b.postReply s (opcodeOf c.pkt.params) c.pkt.seq c.entry status payload effective false).modSession s fun x => { x with current := none } := by
  rw [Block.reply, h]

end

/-- Settles O19. -/
theorem repliesUseTheirCompletionEntry : Obligations.RepliesUseTheirCompletionEntry := by
  intro b s status payload effective c hc hmax q forming header packet truncated phase
  have hheader : header = b.replyHeader (opcodeOf c.pkt.params) status s false c.pkt.seq (shownEffective status effective) payload.length := by
    simp only [header, Block.replyHeader, shownEffective, forming, beq_iff_eq]
    rfl
  have hpacket : packet = b.replyPacket s (opcodeOf c.pkt.params) c.pkt.seq c.entry status payload effective false := by
    rw [Block.replyPacket, ← hheader]
  refine ⟨by rw [hheader, replyHeader_length], by rw [hpacket, replyPacket_length hmax], ?_⟩
  rw [reply_current hc, postReply_eq hmax, ← hpacket, modSession_modSession]
  have hflags : ofBools [false, false, truncated] + 32768 * b2n phase = 4 * b2n truncated + 32768 * b2n phase := by
    cases truncated <;> rfl
  rw [← hflags]
  rfl

/-! ### The handshake (Table 14-4) -/

section
variable {b : Block} {s tenant minor : Nat} {nonce proof : List Byte}

/-- SESSION_OPEN may lead to OPENING: the DRBG is healthy, and no lockout holds in CLOSED (R387). -/
def Block.opens (b : Block) (s : Nat) : Prop :=
  ((b.session s).state = .closed ∧ b.lockedOut s = false ∨ (b.session s).state = .opening) ∧ b.keys.drbgOk = true

theorem sessionOpen_barred (h : b.keys.drbgOk = false ∨ (b.session s).state = .closed ∧ b.lockedOut s = true) :
    b.sessionOpen s tenant minor nonce = b.reply s 0x0206 :=
  if_pos (by rcases h with h | ⟨h, hl⟩ <;> simp [*])

/-- The tenant that an opening session keeps. -/
def heldTenant (s tenant : Nat) : Nat := if s < 16 then 0 else tenant

/-- CTX of a session opened with major version 1 and minor version 0 (R386). -/
def openCtx (rank s tenant : Nat) : List Byte := le 2 rank ++ le 1 s ++ le 1 1 ++ le 1 0 ++ zeros 1 ++ le 2 (heldTenant s tenant)

theorem ctxOf_open (rank : Nat) : ctxOf rank s 1 0 (heldTenant s tenant) = openCtx rank s tenant := by
  have hheld : (if secureSession s then 0 else heldTenant s tenant) = heldTenant s tenant := by
    unfold heldTenant secureSession
    by_cases hs : s < 16 <;> simp [hs]
  rw [ctxOf, hheld, openCtx]

/-- The open nonce of a session: bytes that nothing fixes. -/
def Block.ownNonce (b : Block) : List Byte := (List.range 32).map fun i => Config.freeByte b.fresh i

theorem sessionOpen_carried {c : Current} {k : List Byte} (hopens : b.opens s) (hc : (b.session s).current = some c)
    (hkey : b.keyFor s tenant = some k) : b.sessionOpen s tenant minor nonce =
      if macOf k c.pkt = c.pkt.mac then
        let ks := sessionKey k (padTo 32 nonce) b.ownNonce (openCtx b.cp.rank s tenant)
        (({ b with fresh := b.fresh + 1 } : Block).modSession s fun q => { q with
          state := .opening, tenant := heldTenant s tenant, major := 1, minor := 0, ks, openedAt := b.now, expected := 1 }).reply s 0
          (b.ownNonce ++ cheldoProof ks (openCtx b.cp.rank s tenant) ++ le 1 1 ++ le 1 0 ++ zeros 6)
      else (b.countFail s).reply s 0x0201 := by
  obtain ⟨hstate, hdrbg⟩ := hopens
  have hbarred : (!b.keys.drbgOk || ((b.session s).state == .closed && b.lockedOut s)) = false := by
    rcases hstate with ⟨hclosed, hfree⟩ | hopening
    · simp [hdrbg, hfree]
    · simp [hdrbg, hopening]
  have hmac : ((b.session s).current.any fun c => macOf k c.pkt != c.pkt.mac) = !decide (macOf k c.pkt = c.pkt.mac) := by
    rw [hc]
    rw [Option.any_some, bne, ← Bool.beq_eq_decide_eq]
  have hheld : (if secureSession s then 0 else tenant) = heldTenant s tenant := by
    simp only [heldTenant, secureSession, decide_eq_true_eq]
  unfold Block.sessionOpen
  rw [if_neg (by simp [hbarred]), hkey]
  dsimp only
  rw [hmac]
  by_cases hok : macOf k c.pkt = c.pkt.mac
  · rw [if_neg (by simp [hok]), if_pos hok, hheld, Nat.min_zero, ctxOf_open]
    rfl
  · rw [if_pos (by simp [hok]), if_neg hok]

theorem sessionConfirm_closed (h : (b.session s).state = .closed) : b.sessionConfirm s proof = b.reply s 0x0203 := if_pos (by simp [h])

theorem sessionConfirm_serving (h : (b.session s).state = .opened ∨ (b.session s).state = .closing) :
    b.sessionConfirm s proof = b.reply s 0x0402 := by
  unfold Block.sessionConfirm
  rw [if_neg (by rcases h with h | h <;> simp [h]), if_pos (by rcases h with h | h <;> simp [h])]

theorem sessionConfirm_proved (h : (b.session s).state = .opening) (hproof : proof = hostProof (b.session s).ks (b.ctx s)) :
    b.sessionConfirm s proof = (b.modSession s fun q => { q with state := .opened, fails := 0 }).reply s 0 := by
  unfold Block.sessionConfirm
  rw [if_neg (by simp [h]), if_neg (by simp [h]), if_pos hproof]

theorem sessionConfirm_refuted (h : (b.session s).state = .opening) (hproof : proof ≠ hostProof (b.session s).ks (b.ctx s)) :
    b.sessionConfirm s proof = ((b.modSession s fun q => { q with state := .closed, ks := [] }).countFail s).reply s 0x0206 := by
  unfold Block.sessionConfirm
  rw [if_neg (by simp [h]), if_neg (by simp [h]), if_neg hproof]

theorem countFail_below (h : (b.session s).fails + 1 < 16) :
    b.countFail s = b.modSession s fun q => { q with fails := q.fails + 1 } := if_neg (not_le.2 h)

theorem countFail_last (h : (b.session s).fails + 1 = 16) :
    b.countFail s = (b.modSession s fun q => { q with fails := 0, lockedAt := some b.now }).logRec srcSecurity 0x0161 1 [s] :=
  if_pos (le_of_eq h.symm)

/-- The deferred reply of a SESSION_CLOSE. -/
def closeDeferred (c : Current) : Deferred :=
  { opcode := opcodeOf c.pkt.params, seq := c.pkt.seq, entry := c.entry, effective := 0, params := c.pkt.params, assigned := 0 }

/-- A session that SESSION_CLOSE has asked to close: its reply is deferred until no other one is. -/
def Session.closeAsked (c : Current) (q : Session) : Session :=
  { q with state := .closing, current := none, deferred := q.deferred ++ [closeDeferred c] }

theorem closed_of_closeAsked {c : Current} {q : Session} (h : q.deferred = []) :
    (if (q.closeAsked c).state == .closing then { q.closeAsked c with deferred := [], state := .closed, ks := [] }
     else { q.closeAsked c with deferred := [] }) = { q with current := none, state := .closed, ks := [] } := by
  refine (if_pos rfl).trans ?_
  rw [Session.closeAsked, ← h]

theorem closing_deferred {c : Current} (hc : (b.session s).current = some c) :
    (b.modSession s fun q => { q with state := .closing }).defer s 0 = b.modSession s (Session.closeAsked c) := by
  have hcurrent : ((b.modSession s fun q => { q with state := .closing }).session s).current = some c := by rw [session_modSession, hc]
  rw [Block.defer, hcurrent]
  dsimp only
  rw [modSession_modSession]
  rfl

theorem sessionClose_waits {c : Current} (hc : (b.session s).current = some c) (h : ∃ d ∈ (b.session s).deferred, d.opcode ≠ 3) :
    b.sessionClose s = (b.modSession s fun q => { q with state := .closing }).defer s 0 := by
  obtain ⟨d, hd, hop⟩ := h
  rw [Block.sessionClose, closing_deferred hc, Block.settleClosing]
  refine if_pos ?_
  rw [session_modSession, Bool.or_eq_true]
  exact .inr (List.any_eq_true.2 ⟨d, List.mem_append_left _ hd, by simp [hop]⟩)

/-- A session whose completion entry i has been used. -/
def Session.completed (i : Nat) (q : Session) : Session := { q with cplTail := add32 i 1, reserved := q.reserved - 1, cplPending := true }

theorem modSession_congr {f g : Session → Session} (h : f (b.session s) = g (b.session s)) : b.modSession s f = b.modSession s g := by
  rw [Block.modSession, h, Block.modSession]

theorem modSession_noteSet (f : Session → Session) (k : Nat) : (b.noteSet k).modSession s f = (b.modSession s f).noteSet k := rfl

/-- A reply does not look at what of its session it leaves alone: a change of that may come after it. -/
theorem postReply_modSession {f : Session → Session} {op seq st eff : Nat} {e : CmdEntry} {pl : List Byte} {d : Bool}
    (hf : ∀ q, (f q).cplTail = q.cplTail ∧ (f q).cplLog = q.cplLog ∧ (f q).cplBase = q.cplBase)
    (hg : ∀ i q, (f q).completed i = f (q.completed i)) :
    (b.modSession s f).postReply s op seq e st pl eff d = (b.postReply s op seq e st pl eff d).modSession s f := by
  obtain ⟨htail, hlog, hbase⟩ := hf (b.session s)
  have hsize : (f (b.session s)).cplSize = (b.session s).cplSize := by rw [Session.cplSize, hlog, Session.cplSize]
  have hheader : ∀ eff' n, (b.modSession s f).replyHeader op st s d seq eff' n = b.replyHeader op st s d seq eff' n := fun _ _ => rfl
  unfold Block.postReply
  simp only [session_modSession, htail, hsize, hbase, hheader]
  generalize (if decide (e.replyMax < 32) = true then [] else _) = bytes
  have hboth : ∀ c : Block, (c.modSession s f).modSession s (Session.completed (b.session s).cplTail) =
      (c.modSession s (Session.completed (b.session s).cplTail)).modSession s f := fun c => by
    rw [modSession_modSession, modSession_modSession]
    exact modSession_congr (hg _ _)
  cases bytes.isEmpty with
  | true =>
    simp only [if_true, ← modSession_write, ← modSession_noteSet]
    exact hboth _
  | false =>
    simp only [Bool.false_eq_true, if_false, ← modSession_write, ← modSession_noteSet]
    exact hboth _

theorem deferred_postReply {op seq st eff : Nat} {e : CmdEntry} {pl : List Byte} {d : Bool} :
    ((b.postReply s op seq e st pl eff d).session s).deferred = (b.session s).deferred := by
  unfold Block.postReply
  simp only [session_modSession, session_noteSet, session_write]
  generalize (if decide (e.replyMax < 32) = true then [] else _) = bytes
  split <;> rfl

/-- With no reply deferred, SESSION_CLOSE is answered at once, as a deferred reply, and the session closes (R387). -/
theorem sessionClose_at_once {c : Current} (hc : (b.session s).current = some c) (hop : opcodeOf c.pkt.params = 3)
    (h : (b.session s).deferred = []) : b.sessionClose s =
      (b.postReply s 3 c.pkt.seq c.entry 0 [] 0 true).modSession s fun q => { q with current := none, state := .closed, ks := [] } := by
  have hdeferred : ((b.modSession s (Session.closeAsked c)).session s).deferred = [closeDeferred c] := by
    rw [session_modSession, Session.closeAsked, h]
    rfl
  rw [Block.sessionClose, closing_deferred hc, Block.settleClosing, hdeferred]
  refine (if_neg (by simp [closeDeferred, hop])).trans ?_
  rw [List.foldl_cons, List.foldl_nil, postReply_modSession (f := Session.closeAsked c) (fun _ => ⟨rfl, rfl, rfl⟩) fun _ _ => rfl, modSession_modSession]
  refine (modSession_congr ?_).trans (congrArg (fun op => (b.postReply s op c.pkt.seq c.entry 0 [] 0 true).modSession s _) hop)
  have hnone : ((b.postReply s (closeDeferred c).opcode (closeDeferred c).seq (closeDeferred c).entry 0 [] 0 true).session s).deferred = [] :=
    deferred_postReply.trans h
  exact closed_of_closeAsked hnone

/-! Its times (R387). -/

theorem openingTimeout_due (h : (b.session s).state = .opening) (hdue : (b.session s).openedAt + 100000000 ≤ b.now) :
    b.openingTimeout s = b.modSession s fun q => { q with state := .closed, ks := [] } := if_pos (by simp [h, hdue, openingNs])

theorem openingTimeout_not_due (h : (b.session s).state ≠ .opening ∨ b.now < (b.session s).openedAt + 100000000) :
    b.openingTimeout s = b := if_neg (by rcases h with h | h <;> simp [h, openingNs])

theorem lockoutEnd_due {since : Nat} (h : (b.session s).lockedAt = some since) (hdue : since + 1000000000 ≤ b.now) :
    b.lockoutEnd s = b.modSession s fun q => { q with lockedAt := none } := by
  rw [Block.lockoutEnd, h]
  exact if_pos hdue

theorem lockoutEnd_not_due {since : Nat} (h : (b.session s).lockedAt = some since) (hdue : b.now < since + 1000000000) :
    b.lockoutEnd s = b := by
  rw [Block.lockoutEnd, h]
  exact if_neg (not_le.2 hdue)

theorem lockoutEnd_none (h : (b.session s).lockedAt = none) : b.lockoutEnd s = b := by rw [Block.lockoutEnd, h]

end

section
variable {x : State} {t s : Nat} {c : Current}

theorem exec_sessionOpen_carries (h : x.Carries t s c) {tenant major minor : Nat} {nonce : List Byte}
    (hp : c.pkt.params = .sessionOpen tenant major minor nonce) :
    exec (.sessionOpen t s) x = .next (x.settled (x.blk.atTime t) ((x.blk.atTime t).sessionOpen s tenant minor nonce)) := by
  rw [exec_sessionOpen, command_carries h (by rw [hp])]

theorem exec_sessionConfirm_carries (h : x.Carries t s c) {proof : List Byte} (hp : c.pkt.params = .sessionConfirm proof) :
    exec (.sessionConfirm t s) x = .next (x.settled (x.blk.atTime t) ((x.blk.atTime t).sessionConfirm s proof)) := by
  rw [exec_sessionConfirm, command_carries h (by rw [hp])]

theorem exec_sessionClose_carries (h : x.Carries t s c) (hp : c.pkt.params = .sessionClose) :
    exec (.sessionClose t s) x = .next (x.settled (x.blk.atTime t) ((x.blk.atTime t).sessionClose s)) := by
  rw [exec_sessionClose, command_carries h (by rw [hp])]

theorem exec_sessionOpeningTimeout_live (h : x.Live) :
    exec (.sessionOpeningTimeout t s) x = .next (x.settled (x.blk.atTime t) ((x.blk.atTime t).openingTimeout s)) := by
  rw [exec_sessionOpeningTimeout, event_live h]

theorem exec_sessionLockoutEnd_live (h : x.Live) :
    exec (.sessionLockoutEnd t s) x = .next (x.settled (x.blk.atTime t) ((x.blk.atTime t).lockoutEnd s)) := by
  rw [exec_sessionLockoutEnd, event_live h]

end

/-- Settles O20: each command is the operation of its name on the carried parameters, and each clause one of that operation's cases. -/
theorem sessionsOpenAndExpire : Obligations.SessionsOpenAndExpire := by
  refine ⟨fun x t s c h => ?_, fun x t s hlive => ?_⟩
  · intro b q
    have hc : (b.session s).current = some c := carries_current h
    refine ⟨fun tenant major minor nonce k hp hstate hdrbg hkey hmac => ?_, fun tenant major minor nonce k hp hstate hdrbg hkey hmac => ?_,
      fun tenant major minor nonce hp hbarred => ?_, fun proof hp hstate hproof => ?_, fun proof hp hstate hproof hfails => ?_,
      fun proof hp hstate hproof hfails => ?_, fun proof hp hstate => ?_, fun proof hp hstate => ?_, fun hp hstate hnone => ?_,
      fun hp hstate hwait => ?_⟩
    · intro own held ctx ks
      rw [exec_sessionOpen_carries h hp, sessionOpen_carried ⟨hstate, hdrbg⟩ hc hkey, if_pos hmac]
      rfl
    · rw [exec_sessionOpen_carries h hp, sessionOpen_carried ⟨hstate, hdrbg⟩ hc hkey, if_neg hmac]
    · rw [exec_sessionOpen_carries h hp, sessionOpen_barred hbarred]
    · rw [exec_sessionConfirm_carries h hp, sessionConfirm_proved hstate hproof]
    · rw [exec_sessionConfirm_carries h hp, sessionConfirm_refuted hstate hproof,
        countFail_below (b := b.modSession s fun q => { q with state := .closed, ks := [] }) (by rw [session_modSession]; exact hfails),
        modSession_modSession]
    · rw [exec_sessionConfirm_carries h hp, sessionConfirm_refuted hstate hproof,
        countFail_last (b := b.modSession s fun q => { q with state := .closed, ks := [] }) (by rw [session_modSession]; exact hfails),
        modSession_modSession]
      rfl
    · rw [exec_sessionConfirm_carries h hp, sessionConfirm_serving hstate]
    · rw [exec_sessionConfirm_carries h hp, sessionConfirm_closed hstate]
    · rw [exec_sessionClose_carries h hp, sessionClose_at_once hc (by rw [hp]; rfl) hnone]
    · rw [exec_sessionClose_carries h hp, sessionClose_waits hc hwait]
  · intro b q
    refine ⟨fun hstate hdue => ?_, fun hno => ?_, fun since hlocked hdue => ?_, fun since hlocked hdue => ?_, fun hlocked => ?_⟩
    · rw [exec_sessionOpeningTimeout_live hlive, openingTimeout_due hstate hdue]
    · rw [exec_sessionOpeningTimeout_live hlive, openingTimeout_not_due hno]
    · rw [exec_sessionLockoutEnd_live hlive, lockoutEnd_due hlocked hdue]
    · rw [exec_sessionLockoutEnd_live hlive, lockoutEnd_not_due hlocked hdue]
    · rw [exec_sessionLockoutEnd_live hlive, lockoutEnd_none hlocked]

end Sys2Proof.Machine
end

section
/-! COMMAND_FETCH (R281, R283, R387, R388): the entry that stands in the queue is the one fetched, and the checks of Table 11-5 on its
packet come in their order. -/

namespace Sys2Proof.Machine
open Sys2Proof

/-! ### The entry in memory (Table 11-1) -/

section
variable {m : Memory} {a k n v : Nat} {bs : List Byte}

/-- A part of a written block reads back. -/
theorem memReadN_memWriteN_part (h : Memory.wf m = true) (hlen : k + n ≤ bs.length) :
    memReadN (memWriteN m a bs) (a + k) n = (bs.drop k).take n := by
  refine List.ext_getElem (by simp [memReadN]; omega) fun i hi hb => ?_
  have hin : i < n := by simpa [memReadN] using hi
  have hget : k + i < bs.length := by omega
  simp only [memReadN, List.getElem_map, List.getElem_range, memRead_memWriteN h, List.getElem_take, List.getElem_drop]
  rw [if_pos (by omega), show a + k + i - a = k + i by omega, List.getD_eq_getElem _ _ hget]

/-- A field of a written block reads back as its number. -/
theorem memReadLe_memWriteN_field {pre post : List Byte} (h : Memory.wf m = true) (hv : v < 256 ^ n) :
    memReadLe (memWriteN m a (pre ++ le n v ++ post)) (a + pre.length) n = v := by
  have hread : memReadN (memWriteN m a (pre ++ le n v ++ post)) (a + pre.length) n = le n v := by
    rw [memReadN_memWriteN_part h (by simp), List.append_assoc, List.drop_left, List.take_left' (le_length n v)]
  rw [memReadLe, hread, ofLe_le, Nat.mod_eq_of_lt hv]

/-- An entry that host software writes is the entry that stands there. -/
theorem cmdEntryAt_written {e : CmdEntry} (h : Memory.wf m = true) (he : e.wf = true) :
    cmdEntryAt (memWriteN m a (cmdEntryBytes e)) a = e := by
  simp only [CmdEntry.wf, fits, Bool.and_eq_true, decide_eq_true_eq, and_assoc] at he
  obtain ⟨haddr, hlen, hmax, hreply⟩ := he
  have hfield1 : memReadLe (memWriteN m a (cmdEntryBytes e)) a 8 = e.pktAddr := by
    simpa [cmdEntryBytes] using memReadLe_memWriteN_field (a := a) (pre := []) (post := le 4 e.pktLen ++ le 4 e.replyMax ++ le 8 e.replyAddr) (n := 8) h haddr
  have hfield2 : memReadLe (memWriteN m a (cmdEntryBytes e)) (a + 8) 4 = e.pktLen := by
    simpa [cmdEntryBytes] using memReadLe_memWriteN_field (a := a) (pre := le 8 e.pktAddr) (post := le 4 e.replyMax ++ le 8 e.replyAddr) (n := 4) h hlen
  have hfield3 : memReadLe (memWriteN m a (cmdEntryBytes e)) (a + 12) 4 = e.replyMax := by
    simpa [cmdEntryBytes] using memReadLe_memWriteN_field (a := a) (pre := le 8 e.pktAddr ++ le 4 e.pktLen) (post := le 8 e.replyAddr) (n := 4) h hmax
  have hfield4 : memReadLe (memWriteN m a (cmdEntryBytes e)) (a + 16) 8 = e.replyAddr := by
    simpa [cmdEntryBytes] using memReadLe_memWriteN_field (a := a) (pre := le 8 e.pktAddr ++ le 4 e.pktLen ++ le 4 e.replyMax) (post := []) (n := 8) h hreply
  rw [cmdEntryAt, hfield1, hfield2, hfield3, hfield4]

theorem memWriteAll_append (ws us : List (Nat × List Byte)) : memWriteAll m (ws ++ us) = memWriteAll (memWriteAll m ws) us := List.foldl_append

end

/-! ### The checks of Table 11-5 -/

section
variable {b : Block} {s : Nat} {e : CmdEntry} {p : Packet}

/-- The session's command is the packet fetched, and waits to be carried out. -/
def Block.carry (b : Block) (s : Nat) (e : CmdEntry) (p : Packet) : Block := b.modSession s fun q => { q with current := some { entry := e, pkt := p } }

/-- The SEQ of the session's packet is consumed (R388). -/
def Block.seqUsed (b : Block) (s : Nat) : Block := b.modSession s fun q => { q with expected := q.expected + 1 }

/-- The checks of the opcode, and then the command waits. -/
def Block.admitScope (b : Block) (s : Nat) (e : CmdEntry) (p : Packet) : Block := match b.scopeRefusal s e p with
  | some st => b.refuse s e (opcodeOf p.params) p.seq st
  | none => b.carry s e p

theorem checkPacket_foreign (h : p.session ≠ s) : b.checkPacket s e p = b.refuse s e (opcodeOf p.params) p.seq 0x010F := if_pos (by simpa using h)

theorem checkPacket_ordinary (h : p.session = s) (hop : opcodeOf p.params ≠ 1) : b.checkPacket s e p =
    match b.sessionRefusal s p (opcodeOf p.params == opConfirm) with
    | some st => b.refuse s e (opcodeOf p.params) p.seq st
    | none => match (b.seqUsed s).versionRefusal s p with
      | some st => (b.seqUsed s).refuse s e (opcodeOf p.params) p.seq st
      | none => (b.seqUsed s).admitScope s e p := by
  unfold Block.checkPacket
  rw [if_neg (by simp [h])]
  split
  · next hparams => exact absurd (by rw [hparams]; rfl) hop
  · rfl

/-- Whether the MAC and the SEQ of an open session's packet are right (checks 5 and 6). -/
def Block.authentic (b : Block) (s : Nat) (p : Packet) : Prop :=
  macOf (b.session s).ks p = p.mac ∧ p.seq = (b.session s).expected ∧ p.seq < 2 ^ 48

theorem sessionRefusal_mac {confirm : Bool} (hstate : (b.session s).state = .opened) (hmac : macOf (b.session s).ks p ≠ p.mac) :
    b.sessionRefusal s p confirm = some 0x0201 := by
  simp [Block.sessionRefusal, hstate, hmac]

theorem sessionRefusal_seq {confirm : Bool} (hstate : (b.session s).state = .opened) (hmac : macOf (b.session s).ks p = p.mac)
    (hseq : p.seq ≠ (b.session s).expected) : b.sessionRefusal s p confirm = some 0x0202 := by
  simp [Block.sessionRefusal, hstate, hmac, hseq]

theorem sessionRefusal_none {confirm : Bool} (hstate : (b.session s).state = .opened) (h : b.authentic s p) :
    b.sessionRefusal s p confirm = none := by
  obtain ⟨hmac, hseq, hlt⟩ := h
  simp only [Block.sessionRefusal, hstate, hmac, hseq]
  rw [if_neg (by simp), if_neg (by simp), if_neg (by simp; omega)]

theorem versionRefusal_seqUsed : (b.seqUsed s).versionRefusal s p =
    if p.version / 16 ≠ (b.session s).major then some 0x0701 else if (b.session s).minor < p.version % 16 then some 0x0702 else none := by
  simp [Block.versionRefusal, Block.seqUsed]

/-- An authentic packet of an open session goes on to its version, its SEQ consumed. -/
theorem checkPacket_authentic (h : p.session = s) (hop : opcodeOf p.params ≠ 1) (hstate : (b.session s).state = .opened)
    (hauth : b.authentic s p) : b.checkPacket s e p =
      if p.version / 16 ≠ (b.session s).major then (b.seqUsed s).refuse s e (opcodeOf p.params) p.seq 0x0701
      else if (b.session s).minor < p.version % 16 then (b.seqUsed s).refuse s e (opcodeOf p.params) p.seq 0x0702
      else (b.seqUsed s).admitScope s e p := by
  rw [checkPacket_ordinary h hop, sessionRefusal_none hstate hauth, versionRefusal_seqUsed]
  by_cases hmajor : p.version / 16 ≠ (b.session s).major
  · rw [if_pos hmajor, if_pos hmajor]
  · by_cases hminor : (b.session s).minor < p.version % 16
    · rw [if_neg hmajor, if_neg hmajor, if_pos hminor, if_pos hminor]
    · rw [if_neg hmajor, if_neg hmajor, if_neg hminor, if_neg hminor]

theorem admitScope_refused {st : Nat} (h : b.scopeRefusal s e p = some st) :
    (b.seqUsed s).admitScope s e p = (b.seqUsed s).refuse s e (opcodeOf p.params) p.seq st := by
  have hscope : (b.seqUsed s).scopeRefusal s e p = some st := h
  rw [Block.admitScope, hscope]

theorem admitScope_carried (h : b.scopeRefusal s e p = none) : b.admitScope s e p = b.carry s e p := by rw [Block.admitScope, h]

/-- SESSION_OPEN under the session's key, with SEQ 0 and major version 1, waits to be carried out. -/
theorem checkPacket_opens {tenant minor : Nat} {nonce k : List Byte} (h : p.session = s) (hp : p.params = .sessionOpen tenant 1 minor nonce)
    (hstate : (b.session s).state = .closed) (hfree : b.lockedOut s = false) (hdrbg : b.keys.drbgOk = true) (hkey : b.keyFor s tenant = some k)
    (hmac : macOf k p = p.mac) (hseq : p.seq = 0) (hversion : p.version / 16 = 1) (hscope : b.scopeRefusal s e p = none) :
    b.checkPacket s e p = b.carry s e p := by
  have hopen : b.openRefusal s p tenant 1 = none := by
    simp [Block.openRefusal, hstate, hfree, hdrbg, hkey, hmac, hseq, hversion]
  unfold Block.checkPacket
  rw [if_neg (by simp [h])]
  simp only [hp, hopen, hscope]
  rfl

end

/-! ### The fetch (R281, R283) -/

section
variable {b : Block} {m : Memory} {s : Nat} {e : CmdEntry} {pkt : Option Packet}

theorem fetchDue_of_canFetch (h : b.CanFetch s) : b.fetchDue s = true := by
  obtain ⟨hs, ⟨hcmd, hcmd'⟩, ⟨hcpl, hcpl'⟩, hcmdBase, hcplBase, hfetch, hfree, hcurrent⟩ := h
  simp [Block.fetchDue, logOk, hs, hcmd, hcmd', hcpl, hcpl', hcmdBase, hcplBase, hfetch, hfree, hcurrent]

/-- The entry is the last of what host software writes, so that it stands at its place whatever the packet is. -/
theorem cmdEntryAt_fetchImage (h : b.CanFetch s) (hm : Memory.wf m = true) (he : e.wf = true) :
    cmdEntryAt (memWriteAll m (b.fetchImage s e pkt)) (b.entryAddr s) = e := by
  unfold Block.fetchImage
  rw [if_neg (by simp [fetchDue_of_canFetch h]), memWriteAll_append]
  exact cmdEntryAt_written (memWriteAll_wf hm) he

/-- The block with the session's next entry fetched from its place. -/
def Block.entryFetched (b : Block) (s : Nat) (e : CmdEntry) (pkt : Option Packet) : Block := (b.placed s e pkt).fetched s (b.entryAddr s)

/-- A fetch checks the entry's lengths and addresses, then whether the packet could be read, then the packet. -/
theorem fetchWritten_due (h : b.CanFetch s) (hm : Memory.wf m = true) (he : e.wf = true) : b.fetchWritten m s e pkt =
    if e.pktLen < 48 || e.pktLen > 262288 || e.pktAddr % 8 != 0 || e.replyAddr % 8 != 0 then (b.entryFetched s e pkt).refuse s e 0 0 0x0102
    else match pkt with
      | none => ((b.entryFetched s e pkt).ask 60 e.pktAddr e.pktLen .commandPacket).refuse s e 0 0 0x0603
      | some p => ((b.entryFetched s e pkt).ask 60 e.pktAddr e.pktLen .commandPacket).checkPacket s e p := by
  have hdue : (b.placed s e pkt).fetchDue s = true := fetchDue_of_canFetch h
  have hentry := cmdEntryAt_fetchImage (pkt := pkt) h hm he
  change (b.placed s e pkt).fetch (memWriteAll m (b.fetchImage s e pkt)) s pkt = _
  unfold Block.fetch
  rw [if_neg (by simp [hdue])]
  extract_lets a e' c d
  have he' : e' = e := hentry
  have hc : c = b.entryFetched s e pkt := rfl
  have hd : d = (b.entryFetched s e pkt).ask 60 e.pktAddr e.pktLen .commandPacket := by
    simp only [d, hc, he']
  cases pkt <;> simp only [he', hc, hd]

theorem goodEntry_iff : goodEntry e ↔ (e.pktLen < 48 || e.pktLen > 262288 || e.pktAddr % 8 != 0 || e.replyAddr % 8 != 0) = false := by
  simp [goodEntry, and_assoc]

theorem session_entryFetched : (b.entryFetched s e pkt).session s =
    { b.session s with fetch := add32 (b.session s).fetch 1, reserved := (b.session s).reserved + 1 } :=
  session_modSession (b.placed s e pkt) s fun x => { x with fetch := add32 x.fetch 1, reserved := x.reserved + 1 }

variable {x : State} {t : Time}

theorem exec_commandFetch_serving (h : x.Serving) : exec (.commandFetch t s e pkt) x =
    .next (x.settled (x.blk.atTime t) ((x.seen t .mp).fetchWritten x.view s e pkt)) := by
  obtain ⟨hdead, hsafe⟩ := h
  rw [exec_commandFetch, port_serving hdead hsafe]

end

/-- Settles O18: the fetch comes to the packet's checks, and each refusal is the first check that fails. -/
theorem fetchChecksCommandsInOrder : Obligations.FetchChecksCommandsInOrder := by
  refine ⟨fun x t s e hserving hm he => ?_, fun b s e p hop hstate => ?_⟩
  · intro b f g hcan
    have hview : Memory.wf x.view = true := memWriteAll_wf hm
    have hfetch : ∀ pkt, exec (.commandFetch t s e pkt) x = .next (x.settled (x.blk.atTime t) (b.fetchWritten x.view s e pkt)) :=
      fun pkt => exec_commandFetch_serving hserving
    have hsession : ∀ pkt, (g pkt).session s = { b.session s with fetch := add32 (b.session s).fetch 1, reserved := (b.session s).reserved + 1 } :=
      fun pkt => session_entryFetched
    refine ⟨fun pkt hbad => ?_, fun hgood => ?_, fun p hgood hsess hop hstate hmac hseq hlt hmajor hminor hscope => ?_,
      fun p tenant minor nonce k hgood hsess hp hstate hfree hdrbg hkey hmac hseq hversion hscope => ?_⟩
    · rw [hfetch, fetchWritten_due hcan hview he, if_pos (by rwa [goodEntry_iff, Bool.not_eq_false] at hbad)]
      rfl
    · rw [hfetch, fetchWritten_due hcan hview he, if_neg (by rwa [goodEntry_iff, ← Bool.not_eq_true] at hgood)]
      rfl
    · have hauth : (g (some p)).authentic s p := by
        unfold Block.authentic
        rw [hsession]
        exact ⟨hmac, hseq, hlt⟩
      have hchecked := checkPacket_authentic (e := e) hsess hop (by rw [hsession]; exact hstate) hauth
      have hscope' : ((g (some p)).seqUsed s).scopeRefusal s e p = none := hscope
      rw [hsession, if_neg (not_not.2 hmajor), if_neg (not_lt.2 hminor), admitScope_carried hscope'] at hchecked
      rw [hfetch, fetchWritten_due hcan hview he, if_neg (by rwa [goodEntry_iff, ← Bool.not_eq_true] at hgood)]
      refine congrArg (fun c => Host.Outcome.next (x.settled (x.blk.atTime t) c)) (hchecked.trans ?_)
      rw [Block.carry, Block.seqUsed, modSession_modSession]
    · have hlocked : (g (some p)).lockedOut s = false := by
        unfold Block.lockedOut
        rw [hsession]
        exact hfree
      rw [hfetch, fetchWritten_due hcan hview he, if_neg (by rwa [goodEntry_iff, ← Bool.not_eq_true] at hgood)]
      exact congrArg (fun c => Host.Outcome.next (x.settled (x.blk.atTime t) c))
        (checkPacket_opens (b := g (some p)) hsess hp (by rw [hsession]; exact hstate) hlocked hdrbg hkey hmac hseq hversion hscope)
  · intro op used
    refine ⟨checkPacket_foreign, fun h hmac => ?_, fun h hmac hseq => ?_, fun h hmac hseq hlt hmajor => ?_,
      fun h hmac hseq hlt hmajor hminor => ?_, fun st h hmac hseq hlt hmajor hminor hscope => ?_⟩
    · rw [checkPacket_ordinary h hop, sessionRefusal_mac hstate hmac]
    · rw [checkPacket_ordinary h hop, sessionRefusal_seq hstate hmac hseq]
    · rw [checkPacket_authentic h hop hstate ⟨hmac, hseq, hlt⟩, if_pos hmajor]
      rfl
    · rw [checkPacket_authentic h hop hstate ⟨hmac, hseq, hlt⟩, if_neg (not_not.2 hmajor), if_pos hminor]
      rfl
    · rw [checkPacket_authentic h hop hstate ⟨hmac, hseq, hlt⟩, if_neg (not_not.2 hmajor), if_neg (not_lt.2 hminor), admitScope_refused hscope]
      rfl

end Sys2Proof.Machine
end

section
/-! Request commands (R30, R39, R61, R62, R289, R292): what a handle or a ticket names, the order of the firmware queue, and how each
command answers in each state. -/

namespace Sys2Proof.Machine
open Sys2Proof

/-! ### Sorting by a strict order -/

section
variable {α : Type} {lt : α → α → Bool}

theorem ins_perm (x : α) (l : List α) : (sortBy.ins lt x l).Perm (x :: l) := by
  induction l with
  | nil => exact .refl _
  | cons y l ih =>
    rw [sortBy.ins]
    split
    · exact (ih.cons y).trans (.swap ..)
    · exact .refl _

theorem sortBy_perm (l : List α) : (sortBy lt l).Perm l := by
  induction l with
  | nil => exact .refl _
  | cons x l ih => exact (ins_perm x _).trans (ih.cons x)

/-- Where "not after" is transitive and the order asymmetric, an insertion sort leaves no element after a greater one. -/
theorem sortBy_pairwise (hasymm : ∀ x y, lt x y = true → lt y x = false)
    (htrans : ∀ x y z, lt y x = false → lt z y = false → lt z x = false) (l : List α) :
    (sortBy lt l).Pairwise fun x y => lt y x = false := by
  have hins : ∀ (x : α) (l : List α), (l.Pairwise fun x y => lt y x = false) → (sortBy.ins lt x l).Pairwise fun x y => lt y x = false := by
    intro x l
    induction l with
    | nil => exact fun _ => List.pairwise_singleton ..
    | cons y l ih =>
      intro h
      obtain ⟨hy, hl⟩ := List.pairwise_cons.1 h
      rw [sortBy.ins]
      split
      · next hlt =>
        refine List.pairwise_cons.2 ⟨fun z hz => ?_, ih hl⟩
        obtain rfl | hz := List.mem_cons.1 ((ins_perm x l).mem_iff.1 hz)
        · exact hasymm _ _ hlt
        · exact hy z hz
      · next hlt =>
        have hxy : lt y x = false := Bool.eq_false_iff.2 hlt
        refine List.pairwise_cons.2 ⟨fun z hz => ?_, h⟩
        obtain rfl | hz := List.mem_cons.1 hz
        · exact hxy
        · exact htrans _ _ _ hxy (hy z hz)
  induction l with
  | nil => exact List.Pairwise.nil
  | cons x l ih => exact hins x _ ih

end

/-! ### Firmware order (R61, R62) -/

/-- Entry x does not come after entry y: moved requests go first, then the higher level, then the older ticket. -/
def notAfter (x y : QueueView) : Prop :=
  (y.moved = true → x.moved = true) ∧ (x.moved = false → y.moved = false → x.classPrio % 16 ≤ y.classPrio % 16 ∧
    (x.classPrio % 16 = y.classPrio % 16 → x.ticket ≤ y.ticket))

theorem viewLt_eq_false_iff {x y : QueueView} : viewLt y x = false ↔ notAfter x y := by
  cases hx : x.moved <;> cases hy : y.moved <;> simp [viewLt, notAfter, hx, hy]
  omega

theorem notAfter_trans {x y z : QueueView} (h : notAfter x y) (k : notAfter y z) : notAfter x z := by
  obtain ⟨hmoved, hticket⟩ := h
  obtain ⟨kmoved, kticket⟩ := k
  refine ⟨hmoved ∘ kmoved, fun hx hz => ?_⟩
  have hy : y.moved = false := Bool.eq_false_iff.2 fun hy => by simp [hmoved hy] at hx
  have := hticket hx hy
  have := kticket hy hz
  omega

theorem viewLt_asymm {x y : QueueView} (h : viewLt x y = true) : viewLt y x = false := by
  by_contra hyx
  have hx : ¬ notAfter y x := by rw [← viewLt_eq_false_iff, h]; decide
  have hy : ¬ notAfter x y := by rwa [← viewLt_eq_false_iff]
  unfold notAfter at hx hy
  cases hxm : x.moved <;> cases hym : y.moved <;> simp [hxm, hym] at hx hy
  omega

section
variable {b : Block} {s h : Nat}

theorem queueViews_sorted : b.queueViews.Pairwise notAfter := by
  unfold Block.queueViews
  refine (sortBy_pairwise (lt := viewLt) (fun _ _ => viewLt_asymm) (fun _ _ _ hxy hyz => ?_) _).imp viewLt_eq_false_iff.1
  exact viewLt_eq_false_iff.2 (notAfter_trans (viewLt_eq_false_iff.1 hxy) (viewLt_eq_false_iff.1 hyz))

/-- With no deferral open, the lead sees the firmware queue alone. -/
theorem queueViews_perm (h : b.seq.tickets = []) : b.queueViews.Perm (b.gr.fwQueue.map b.viewOf) := by
  have hopen : b.openDeferrals = [] := by rw [Block.openDeferrals, h]; rfl
  have hperm := sortBy_perm (lt := viewLt) (b.gr.fwQueue.map b.viewOf ++ b.openDeferrals.map fun d =>
    { moved := false, oldHandle := 0, ticket := d.1, tenant := d.2.2.tenant, classPrio := d.2.2.classPrio, time := d.2.1 })
  rw [hopen, List.map_nil, List.append_nil] at hperm
  unfold Block.queueViews
  rwa [hopen, List.map_nil, List.append_nil]

/-! ### What a handle or a ticket names (R30) -/

theorem actsFor_eq (s tenant : Nat) : b.actsFor s tenant = decide (s < 16 ∨ (b.session s).tenant = tenant) := by
  rw [Block.actsFor, secureSession, Bool.decide_or]
  rfl

theorem queuedTarget_none {hit : QueueView → Bool} (h : b.queueViews.findIdx? hit = none) : b.queuedTarget s hit = .stale := by
  rw [Block.queuedTarget, h]

theorem queuedTarget_some {hit : QueueView → Bool} {i : Nat} {v : QueueView} (h : b.queueViews.findIdx? hit = some i)
    (hv : b.queueViews[i]? = some v) : b.queuedTarget s hit = if s < 16 ∨ (b.session s).tenant = v.tenant then .queued v i else .stale := by
  simp only [Block.queuedTarget, h, hv, actsFor_eq, decide_eq_true_eq]

/-- The handle is the old one of a request moved to the firmware queue (R62). -/
def Block.movedHandle (b : Block) (h : Nat) : Prop := ∃ f ∈ b.gr.fwQueue, ∃ e, f.moved = some e ∧ e.handle = h

theorem movedHandle_iff : b.movedHandle h ↔ (b.gr.fwQueue.any fun f => f.moved.any fun e => e.handle == h) = true := by
  simp [Block.movedHandle, List.any_eq_true, Option.any_eq_true]

theorem handleTarget_moved (hm : b.movedHandle h) : b.handleTarget s h = b.queuedTarget s fun v => v.moved && v.oldHandle == h :=
  if_pos (movedHandle_iff.1 hm)

theorem handleTarget_bank_out (hm : ¬ b.movedHandle h) (hbank : h % 1048576 / 2048 ∈ b.gr.banksOut) : b.handleTarget s h = .stale := by
  unfold Block.handleTarget
  rw [if_neg (by rwa [movedHandle_iff] at hm), if_pos (by simpa [slotOf] using hbank)]

/-- A handle that is no old one, into a bank in service: the entry that bears it, or the admission accepted under it. -/
def Block.servedTarget (b : Block) (s h : Nat) : Target := match b.byHandle h with
  | some (_, e) => if b.actsFor s e.tenant then .entry e else .stale
  | none =>
    match if b.isLead then b.openAdmits.find? fun a => a.1 == h else none with
    | some (_, t, sid, p) => if b.actsFor s p.tenant then .pending (b.admitEntry h sid t 0 (b.pinVersion p) p false) else .stale
    | none => .stale

theorem handleTarget_served (hm : ¬ b.movedHandle h) (hbank : h % 1048576 / 2048 ∉ b.gr.banksOut) : b.handleTarget s h =
    b.servedTarget s h :=
  (if_neg (by rwa [movedHandle_iff] at hm)).trans (if_neg (by simpa [slotOf] using hbank))

theorem handleTarget_live {e : Entry} (hm : ¬ b.movedHandle h) (hbank : h % 1048576 / 2048 ∉ b.gr.banksOut)
    (he : Tab.get? (h % 1048576) b.gr.entries = some e) (hh : e.handle = h) :
    b.handleTarget s h = if s < 16 ∨ (b.session s).tenant = e.tenant then .entry e else .stale := by
  have hby : b.byHandle h = some (h % 1048576, e) := by
    unfold Block.byHandle slotOf
    rw [he]
    exact if_pos hh
  rw [handleTarget_served hm hbank, Block.servedTarget, hby]
  simp only [actsFor_eq, decide_eq_true_eq]

/-- A handle that neither an entry nor an admission accepted bears is stale. -/
theorem handleTarget_unborne (hm : ¬ b.movedHandle h) (hbank : h % 1048576 / 2048 ∉ b.gr.banksOut)
    (he : ∀ e, Tab.get? (h % 1048576) b.gr.entries = some e → e.handle ≠ h) (hcmds : b.seq.cmds = []) : b.handleTarget s h = .stale := by
  have hby : b.byHandle h = none := by
    unfold Block.byHandle slotOf
    split
    · next e hget => exact if_neg (he e hget)
    · rfl
  have hopen : b.openAdmits = [] := by rw [Block.openAdmits, hcmds]; rfl
  rw [handleTarget_served hm hbank, Block.servedTarget, hby, hopen]
  simp

theorem target_ticket (n : Nat) : b.target s ({ handle := 0xFFFFFFFF, ticket := n } : ReqHead) =
    if n = 0 then .stale else b.queuedTarget s fun v => !v.moved && v.ticket == n := if_pos rfl

/-! ### Acceptance (R289) -/

theorem le_roomFrom (c : CmdRecord) (d : List TicketRec) (n j : Nat) : j ≤ b.roomFrom c d n j := by
  induction n generalizing j with
  | zero => exact le_rfl
  | succ n ih =>
    rw [Block.roomFrom]
    split
    · exact le_rfl
    · exact (Nat.le_succ j).trans (ih _)

theorem openJ_le_effectiveFor (c : CmdRecord) : b.openJ ≤ b.effectiveFor c := le_roomFrom ..

variable {p : Params}

theorem acceptReply_taken (hlong : b.tooLong s p = false) : b.acceptReply s p =
    ({ b with seq := { b.seq with
        cmds := b.seq.cmds ++ [{ junction := b.effectiveFor (b.recordOf s p), cmd := b.recordOf s p, size := (cmdRecordBytes (b.recordOf s p)).length }] } } :
      Block).reply s 0 [] (b.effectiveFor (b.recordOf s p)) := by
  rw [Block.acceptReply, if_neg (by simp [hlong]), accept_unnamed]

theorem acceptReply_tooLong (hlong : b.tooLong s p = true) : b.acceptReply s p = b.reply s 0x0102 := if_pos hlong

end

/-! ### The commands -/

section
variable {x : State} {t s : Nat} {c : Current} (hc : x.Carries t s c) {h : ReqHead}
include hc

theorem exec_reqAppend_carries {flags count : Nat} {ts : List Nat} (hp : c.pkt.params = .reqAppend h flags count ts) :
    exec (.reqAppend t s) x = .next (x.settled (x.blk.atTime t) ((x.blk.atTime t).reqAppend s h flags count ts)) := by
  rw [exec_reqAppend, command_carries hc (by rw [hp])]

theorem exec_reqTruncate_carries {pos : Nat} (hp : c.pkt.params = .reqTruncate h pos) :
    exec (.reqTruncate t s) x = .next (x.settled (x.blk.atTime t) ((x.blk.atTime t).reqTruncate s h pos)) := by
  rw [exec_reqTruncate, command_carries hc (by rw [hp])]

theorem exec_reqCancel_carries (hp : c.pkt.params = .reqCancel h) :
    exec (.reqCancel t s) x = .next (x.settled (x.blk.atTime t) ((x.blk.atTime t).reqCancel s h)) := by
  rw [exec_reqCancel, command_carries hc (by rw [hp])]

theorem exec_reqPause_carries {tier ttl : Nat} (hp : c.pkt.params = .reqPause h tier ttl) :
    exec (.reqPause t s) x = .next (x.settled (x.blk.atTime t) ((x.blk.atTime t).reqPause s h tier ttl)) := by
  rw [exec_reqPause, command_carries hc (by rw [hp])]

theorem exec_reqResume_carries (hp : c.pkt.params = .reqResume h) :
    exec (.reqResume t s) x = .next (x.settled (x.blk.atTime t) ((x.blk.atTime t).reqResume s h)) := by
  rw [exec_reqResume, command_carries hc (by rw [hp])]

theorem exec_reqFree_carries (hp : c.pkt.params = .reqFree h) :
    exec (.reqFree t s) x = .next (x.settled (x.blk.atTime t) ((x.blk.atTime t).reqFree s h)) := by
  rw [exec_reqFree, command_carries hc (by rw [hp])]

theorem exec_reqSetSampling_carries {p : Sampling} (hp : c.pkt.params = .reqSetSampling h p) :
    exec (.reqSetSampling t s) x = .next (x.settled (x.blk.atTime t) ((x.blk.atTime t).reqSetSampling s h p)) := by
  rw [exec_reqSetSampling, command_carries hc (by rw [hp])]

theorem exec_reqQuery_carries (hp : c.pkt.params = .reqQuery h) :
    exec (.reqQuery t s) x = .next (x.settled (x.blk.atTime t) ((x.blk.atTime t).reqQuery s h)) := by
  rw [exec_reqQuery, command_carries hc (by rw [hp])]

end

section
variable {b : Block} {s handle : Nat} {h : ReqHead}

theorem badHead_iff : badHead h = true ↔ h.handle ≠ 0xFFFFFFFF ∧ 32768 ≤ h.handle % 1048576 := by simp [badHead, slotOf]

theorem reqCancel_range (hbad : badHead h = true) : b.reqCancel s h = b.reply s 0x0103 := if_pos hbad

theorem reqCancel_stale (hbad : badHead h = false) (ht : b.target s h = .stale) : b.reqCancel s h = b.reply s 0x0401 := by
  rw [Block.reqCancel, if_neg (by simp [hbad]), ht]

end

/-- Settles O21: acceptance, then what each kind of handle names, then the order of the firmware queue, then a cancel that names nothing. -/
theorem acceptedCommandsEnterTheSequencer : Obligations.AcceptedCommandsEnterTheSequencer := by
  refine ⟨fun b s p => ?_, ⟨fun b s h hmoved => ?_, fun b s h hmoved i v hi hv => ?_, fun b s n => ?_, fun b htickets => ?_⟩,
    fun x t s handle c hc => ?_⟩
  · exact ⟨rfl, rfl, rfl, rfl, openJ_le_effectiveFor _, acceptReply_taken, acceptReply_tooLong⟩
  · have hm : ¬ b.movedHandle h := fun ⟨f, hf, e, he, hh⟩ => hmoved f hf e he hh
    refine ⟨handleTarget_bank_out hm, fun hbank => ⟨fun e he hh hacts => ?_, fun e he hh hs htenant => ?_, fun e he hh hcmds => ?_, fun he hcmds => ?_⟩⟩
    · rw [handleTarget_live hm hbank he hh, if_pos hacts]
    · rw [handleTarget_live hm hbank he hh, if_neg (not_or.2 ⟨not_lt.2 hs, htenant⟩)]
    · refine handleTarget_unborne hm hbank (fun e' he' => ?_) hcmds
      obtain rfl : e = e' := Option.some.inj (he.symm.trans he')
      exact hh
    · exact handleTarget_unborne hm hbank (fun e' he' => absurd (he.symm.trans he') (by simp)) hcmds
  · rw [handleTarget_moved hmoved, queuedTarget_some hi hv]
  · refine ⟨fun hn => ?_, fun i v hn hi hv => ?_⟩
    · rw [target_ticket]
      split
      · rfl
      · exact queuedTarget_none (hn.resolve_left ‹_›)
    · rw [target_ticket, if_neg hn, queuedTarget_some hi hv]
  · exact ⟨queueViews_perm htickets, queueViews_sorted⟩
  · intro b h hp
    refine ⟨fun hne hlt hstale => ?_, fun hne hbad => ?_⟩
    · have hgood : badHead h = false := Bool.eq_false_iff.2 fun hbad => absurd (badHead_iff.1 hbad).2 (not_le.2 hlt)
      rw [exec_reqCancel_carries hc hp, reqCancel_stale hgood hstale]
    · rw [exec_reqCancel_carries hc hp, reqCancel_range (badHead_iff.2 ⟨hne, hbad⟩)]

end Sys2Proof.Machine
end

section
/-! Request commands by the state of the request (Table 02-6, R39, R44, R46, R48, R50, R159, R300): one rule for what a head names, one
for each command that passes its own checks. -/

namespace Sys2Proof.Machine
open Sys2Proof

section
variable {b : Block} {s : Nat} {h : ReqHead} {p : Params} {ok : Entry → Option Nat}

/-! ### What the head names -/

theorem requestCmd_ticket (hh : h.handle = 0xFFFFFFFF) : b.requestCmd s h p ok = b.reply s 0x0404 := if_pos hh

theorem requestCmd_queued {v : QueueView} {i : Nat} (ht : b.target s h = .queued v i) : b.requestCmd s h p ok = b.reply s 0x0404 := by
  unfold Block.requestCmd
  split
  · rfl
  · rw [ht]

theorem requestCmd_pending {e : Entry} (hh : h.handle ≠ 0xFFFFFFFF) (ht : b.target s h = .pending e) :
    b.requestCmd s h p ok = b.reply s 0x0402 := by
  rw [Block.requestCmd, if_neg hh, ht]

/-- A live request: the command is accepted where the entry's state allows it, and refused with the status of its rule where it does not. -/
theorem requestCmd_entry {e : Entry} {P : Prop} [Decidable P] {st : Nat} (hh : h.handle ≠ 0xFFFFFFFF) (ht : b.target s h = .entry e)
    (hok : ok e = if P then none else some st) (x : State) :
    (.next (x.settled b (b.requestCmd s h p ok)) : Host.Outcome State Fault Refusal) =
      if P then .next (x.settled b (b.acceptReply s p)) else .next (x.settled b (b.reply s st)) := by
  rw [Block.requestCmd, if_neg hh, ht]
  dsimp only
  rw [hok]
  by_cases hP : P
  · rw [if_pos hP, if_pos hP]
  · rw [if_neg hP, if_neg hP]

/-! ### Each command past its own checks -/

section
variable (hgood : badHead h = false)
include hgood

theorem reqAppend_checked {flags count : Nat} {ts : List Nat} (hlong : b.tooLong s (.reqAppend h flags count ts) = false) (hflags : flags ≤ 1)
    (hpos : 0 < count) (hmax : count ≤ 65536) (hvocab : ∀ k ∈ ts, k % 16777216 < b.inputVocab) :
    b.reqAppend s h flags count ts = b.requestCmd s h (.reqAppend h flags count ts) fun e =>
      if e.flags.inputOpen && appendState e.state then none else some 0x0402 := by
  have htokens : (ts.any fun t => t % 16777216 ≥ b.inputVocab) = false :=
    List.any_eq_false.2 fun k hk => by simpa using hvocab k hk
  have hzero : decide (count = 0) = false := decide_eq_false (by omega)
  rw [Block.reqAppend, if_neg (by simp [hlong]), if_neg]
  simp only [hgood, htokens, hzero, Bool.false_and, Bool.or_false, Bool.false_or, Bool.or_eq_true, decide_eq_true_eq, not_or]
  omega

theorem reqTruncate_checked {pos : Nat} : b.reqTruncate s h pos = b.requestCmd s h (.reqTruncate h pos) fun e =>
    if e.state == .decode then none else some 0x0402 := if_neg (by simp [hgood])

theorem reqPause_checked {tier ttl : Nat} (htier : tier ≤ 2) (httl : ttl ≤ 86400000000000) :
    b.reqPause s h tier ttl = b.requestCmd s h (.reqPause h tier ttl) fun e =>
      if b.pausePending h.handle then some 0x0403 else if e.state == .prefill || e.state == .decode then none else some 0x0402 :=
  if_neg (by simp only [hgood, Bool.false_or, Bool.or_eq_true, decide_eq_true_eq]; omega)

theorem reqResume_checked : b.reqResume s h = b.requestCmd s h (.reqResume h) fun e =>
    if e.state == .siding || b.pausePending h.handle then none else some 0x0402 := if_neg (by simp [hgood])

theorem reqFree_checked : b.reqFree s h = b.requestCmd s h (.reqFree h) fun e => if e.state == .done then none else some 0x0402 :=
  if_neg (by simp [hgood])

theorem reqSetSampling_checked {q : Sampling} (hq : samplingOk q = true) (hk : topKOk q.topK = true) (hv : verifyMode q ≠ 3) :
    b.reqSetSampling s h q = b.requestCmd s h (.reqSetSampling h q) fun e =>
      if e.state == .done || e.state == .draining || e.state == .free then some 0x0402 else none := by
  rw [Block.reqSetSampling, if_neg (by simp [hgood]), if_neg (by simp [hq, hk]), if_neg hv]

theorem reqCancel_entry {e : Entry} (ht : b.target s h = .entry e) (hfree : b.cancelPending h.handle = false) :
    b.reqCancel s h = if e.state = .free ∨ e.state = .draining then b.reply s 0x0402 else b.acceptReply s (.reqCancel h) := by
  rw [Block.reqCancel, if_neg (by simp [hgood]), ht]
  simp [hfree]

theorem reqCancel_queued {v : QueueView} {i : Nat} (ht : b.target s h = .queued v i) : b.reqCancel s h = b.acceptReply s (.reqCancel h) := by
  rw [Block.reqCancel, if_neg (by simp [hgood]), ht]

theorem reqCancel_pending {e : Entry} (ht : b.target s h = .pending e) : b.reqCancel s h = b.reply s 0x0402 := by
  rw [Block.reqCancel, if_neg (by simp [hgood]), ht]

theorem reqQuery_entry {e : Entry} (ht : b.target s h = .entry e) :
    b.reqQuery s h = b.reply s 0 (b.entryBytes (slotOf h.handle) e (b.pendingOf h.handle) ++ zeros 16) := by
  rw [Block.reqQuery, if_neg (by simp [hgood]), ht]

theorem reqQuery_queued {v : QueueView} {i : Nat} (ht : b.target s h = .queued v i) :
    b.reqQuery s h = b.reply s 0 (le 4 0 ++ le 1 0xB ++ zeros 3 ++ le 2 v.tenant ++ le 1 (v.classPrio % 128) ++ zeros 5 ++ le 8 v.time ++
      zeros 232 ++ le 4 v.ticket ++ le 4 i ++ zeros 8) := by
  rw [Block.reqQuery, if_neg (by simp [hgood]), ht]

theorem reqQuery_pending {e : Entry} (ht : b.target s h = .pending e) :
    b.reqQuery s h = b.reply s 0 (le 4 h.handle ++ le 1 2 ++ zeros 3 ++ le 2 e.tenant ++ le 1 (e.classPrio % 128) ++ zeros 5 ++
      le 8 e.admitTime ++ zeros 232 ++ zeros 16) := by
  rw [Block.reqQuery, if_neg (by simp [hgood]), ht]

end

theorem reqAppend_tooLong {flags count : Nat} {ts : List Nat} (hlong : b.tooLong s (.reqAppend h flags count ts) = true) :
    b.reqAppend s h flags count ts = b.reply s 0x0102 := if_pos hlong

theorem reqAppend_flags {flags count : Nat} {ts : List Nat} (hlong : b.tooLong s (.reqAppend h flags count ts) = false) (hflags : 1 < flags) :
    b.reqAppend s h flags count ts = b.reply s 0x0103 := by
  rw [Block.reqAppend, if_neg (by simp [hlong]), if_pos (by simp [hflags])]

end

/-! ### A head that names no live request -/

section
variable {x : State} {t s : Nat} {c : Current} (hc : x.Carries t s c) {h : ReqHead} (hgood : badHead h = false)
include hc hgood

/-- Where what the head names refuses every command with one status, each command that passes its own checks is refused so. -/
theorem requestCommands_refused {st : Nat} (hst : ∀ p ok, (x.blk.atTime t).requestCmd s h p ok = (x.blk.atTime t).reply s st) :
    let b := x.blk.atTime t
    let refused := Host.Outcome.next (x.settled b (b.reply s st))
    (∀ flags count ts, c.pkt.params = .reqAppend h flags count ts → b.tooLong s c.pkt.params = false → flags ≤ 1 → 0 < count →
      count ≤ 65536 → (∀ k ∈ ts, k % 16777216 < b.inputVocab) → exec (.reqAppend t s) x = refused) ∧
    (∀ pos, c.pkt.params = .reqTruncate h pos → exec (.reqTruncate t s) x = refused) ∧
    (∀ tier ttl, c.pkt.params = .reqPause h tier ttl → tier ≤ 2 → ttl ≤ 86400000000000 → exec (.reqPause t s) x = refused) ∧
    (c.pkt.params = .reqResume h → exec (.reqResume t s) x = refused) ∧
    (c.pkt.params = .reqFree h → exec (.reqFree t s) x = refused) ∧
    (∀ p, c.pkt.params = .reqSetSampling h p → samplingOk p = true → topKOk p.topK = true → verifyMode p ≠ 3 →
      exec (.reqSetSampling t s) x = refused) := by
  refine ⟨fun flags count ts hp hlong hflags hpos hmax hvocab => ?_, fun pos hp => ?_, fun tier ttl hp htier httl => ?_, fun hp => ?_,
    fun hp => ?_, fun p hp hq hk hv => ?_⟩
  · rw [hp] at hlong
    rw [exec_reqAppend_carries hc hp, reqAppend_checked hgood hlong hflags hpos hmax hvocab, hst]
  · rw [exec_reqTruncate_carries hc hp, reqTruncate_checked hgood, hst]
  · rw [exec_reqPause_carries hc hp, reqPause_checked hgood htier httl, hst]
  · rw [exec_reqResume_carries hc hp, reqResume_checked hgood, hst]
  · rw [exec_reqFree_carries hc hp, reqFree_checked hgood, hst]
  · rw [exec_reqSetSampling_carries hc hp, reqSetSampling_checked hgood hq hk hv, hst]

end

/-- Settles O22: on a live request each command by its own rule; on a head that names no live request all of them by one rule, with
REQ_CANCEL and REQ_QUERY apart. -/
theorem requestCommandsFollowTheirStates : Obligations.RequestCommandsFollowTheirStates := by
  refine ⟨?_, ?_⟩
  · intro x t s handle c e hc hlt hne b h accepted refused ht
    have hgood : badHead h = false := Bool.eq_false_iff.2 fun hbad => absurd (badHead_iff.1 hbad).2 (not_le.2 hlt)
    refine ⟨fun flags count ts hp hlong => ?_, fun flags count ts hp hlong hflags => ?_, fun flags count ts hp hlong hflags hpos hmax hvocab => ?_,
      fun pos hp => ?_, fun hp hcancel => ?_, fun tier ttl hp htier httl hpause => ?_, fun hp => ?_, fun hp => ?_,
      fun p hp hq hk hv => ?_, fun hp => ?_⟩
    · rw [hp] at hlong
      rw [exec_reqAppend_carries hc hp, reqAppend_tooLong hlong]
    · rw [hp] at hlong
      rw [exec_reqAppend_carries hc hp, reqAppend_flags hlong hflags]
    · have hlong' := hlong
      rw [hp] at hlong'
      rw [exec_reqAppend_carries hc hp, reqAppend_checked hgood hlong' hflags hpos hmax hvocab, ← hp]
      exact requestCmd_entry hne ht rfl x
    · rw [exec_reqTruncate_carries hc hp, reqTruncate_checked hgood, ← hp]
      exact requestCmd_entry hne ht (by simp) x
    · rw [exec_reqCancel_carries hc hp, reqCancel_entry hgood ht hcancel, ← hp]
      split <;> rfl
    · rw [exec_reqPause_carries hc hp, reqPause_checked hgood htier httl, ← hp]
      exact requestCmd_entry hne ht (by simp [h, b, hpause]) x
    · rw [exec_reqResume_carries hc hp, reqResume_checked hgood, ← hp]
      exact requestCmd_entry hne ht (by simp [h, b]) x
    · rw [exec_reqFree_carries hc hp, reqFree_checked hgood, ← hp]
      exact requestCmd_entry hne ht (by simp) x
    · rw [exec_reqSetSampling_carries hc hp, reqSetSampling_checked hgood hq hk hv, ← hp]
      refine (requestCmd_entry (P := ¬ (e.state = .done ∨ e.state = .draining ∨ e.state = .free)) (st := 0x0402) hne ht ?_ x).trans (ite_not ..)
      rw [ite_not]
      simp [or_assoc]
    · rw [exec_reqQuery_carries hc hp, reqQuery_entry hgood ht]
      rfl
  · intro x t s h c hc hgood b refused others query
    refine ⟨fun hh => ?_, fun v i ht => ⟨?_, fun hp => ?_, fun hp => ?_⟩, fun e ht hh => ⟨?_, fun hp => ?_, fun hp => ?_⟩⟩
    · exact requestCommands_refused hc hgood fun _ _ => requestCmd_ticket hh
    · exact requestCommands_refused hc hgood fun _ _ => requestCmd_queued ht
    · rw [exec_reqCancel_carries hc hp, reqCancel_queued hgood ht, ← hp]
    · rw [exec_reqQuery_carries hc hp, reqQuery_queued hgood ht]
    · exact requestCommands_refused hc hgood fun _ _ => requestCmd_pending hh ht
    · rw [exec_reqCancel_carries hc hp, reqCancel_pending hgood ht]
    · rw [exec_reqQuery_carries hc hp, reqQuery_pending hgood ht]

end Sys2Proof.Machine
end

section
/-! The queries (R297, R404, R410, R434, R451): what each command answers from the state. -/

namespace Sys2Proof.Machine
open Sys2Proof

section
variable {b : Block} {s first n : Nat}

theorem groupQuery_eq : b.groupQuery s = b.reply s 0 (le 2 b.cp.rank ++ le 2 b.cp.n ++ le 2 (if b.cp.state = .forming then 0x1FF else b.cp.leadRank) ++
    le 1 b.cp.state.code ++ zeros 1 ++ le 4 (if b.cp.state = .forming then 0 else b.cp.term) ++ le 4 b.cp.epoch ++ le 8 b.cp.applied ++
    le 8 b.shownOpen) := by
  simp only [Block.groupQuery, Block.shownLead, Block.shownTerm, beq_iff_eq]

theorem faultQuery_stopped (h : b.cp.state = .bufferStop) :
    b.faultQuery s = ({ b with flt := { b.flt with queried := true } } : Block).reply s 0 b.faultBytes := by
  rw [Block.faultQuery, if_pos (beq_iff_eq.2 h)]

theorem faultQuery_other (h : b.cp.state ≠ .bufferStop) : b.faultQuery s = b.reply s 0 b.faultBytes := by
  rw [Block.faultQuery, if_neg (by simpa using h)]

theorem logRead_volatile : b.logRead s 0 first n = b.reply s 0
    (((b.volatileRecords.filter fun r => first ≤ r.1).take n).flatMap fun r => recordBytes r.1 r.2) := rfl

theorem logRead_persistent : b.logRead s 1 first n =
    (((b.sb.plog.filter fun r => first ≤ r.1).take n).foldl
      (fun (b : Block) r => b.ask 62 (flashRegion + (0x800000 + r.1 % 65536 * 64)) 64 .other) b).reply s 0
      (((b.sb.plog.filter fun r => first ≤ r.1).take n).flatMap fun r => recordBytes r.1 r.2) := rfl

/-! ### COUNTER_READ -/

theorem counterRead_units (hn : 0 < n) (hlast : first + n ≤ 256) (hs : s < 16) :
    b.counterRead s 0 first n = b.reply s 0 (le 8 b.now ++ le 2 0 ++ le 2 16 ++ le 4 n ++
      (List.range n).flatMap fun i => b.counterEntry 0 (first + i)) := by
  rw [Block.counterRead, if_neg, if_neg (by simp [secureSession, hs])]
  · rfl
  · simp only [spaceSize, Bool.or_eq_true, decide_eq_true_eq]
    omega

theorem counterEntry_unit (i : Nat) : b.counterEntry 0 i =
    le 8 (b.unitCounter i % 2 ^ 64) ++ le 4 (wrapsOf 4294967295 (b.unitCounter i)) ++ le 2 i ++ zeros 2 := if_pos rfl

/-- A non-secure session reads the counters of its own tenant alone. -/
theorem counterRead_denied {sp : Nat} (hsp : sp ≤ 3) (hn : 0 < n) (hmax : n ≤ 4096) (hlast : first + n ≤ (spaceSize sp).1) (hs : 16 ≤ s)
    (hown : ¬ (sp = 3 ∧ first = (b.session s).tenant ∧ n = 1)) : b.counterRead s sp first n = b.reply s 0x0205 := by
  rw [Block.counterRead, if_neg, if_pos]
  · simp only [secureSession, Bool.and_eq_true, Bool.not_eq_true', decide_eq_false_iff_not, Bool.and_eq_false_iff, beq_eq_false_iff_ne]
    omega
  · simp only [Bool.or_eq_true, decide_eq_true_eq]
    omega

end

/-- Settles O26, command by command. -/
theorem queriesReadState : Obligations.QueriesReadState := by
  intro x t s c hc b
  refine ⟨fun hp => ?_, fun hp => ?_, fun hp hstop => ?_, fun hp hstop => ?_, fun first n hp => ?_, fun first n hp => ?_,
    fun first n hp hn hlast hs => ?_, fun sp first n hp hsp hn hmax hlast hs hown => ?_⟩
  · rw [exec_capQuery, command_carries hc (by rw [hp])]
    rfl
  · rw [exec_groupQuery, command_carries hc (by rw [hp]), groupQuery_eq]
    rfl
  · rw [exec_faultQuery, command_carries hc (by rw [hp]), faultQuery_stopped hstop]
  · rw [exec_faultQuery, command_carries hc (by rw [hp]), faultQuery_other hstop]
  · rw [exec_logRead, command_carries hc (by rw [hp]), logRead_volatile]
  · rw [exec_logRead, command_carries hc (by rw [hp]), logRead_persistent]
  · rw [exec_counterRead, command_carries hc (by rw [hp]), counterRead_units hn hlast hs]
    simp only [counterEntry_unit]
    rfl
  · rw [exec_counterRead, command_carries hc (by rw [hp]), counterRead_denied hsp hn hmax hlast hs hown]

end Sys2Proof.Machine
end

section
/-! Responses of the Memory Port (R333, R335 to R337, R360, R415): a read's line by its structure, a write's answer by its channel. -/

namespace Sys2Proof.Machine
open Sys2Proof

section
variable {b : Block} {channel tag beat : Nat} {data : List Byte}

/-! ### A line of a read -/

/-- The read that awaits a line. -/
def Block.awaiting (b : Block) (channel tag beat : Nat) : Option ReadReq :=
  b.mp.reads.find? fun r => r.tag == tag && r.line / 256 % 2 == channel && r.left.contains beat

/-- A line of read r is no longer awaited. -/
def Block.lineTaken (b : Block) (r : ReadReq) (beat : Nat) : Block :=
  { b with mp := { b.mp with
      reads := if (r.left.erase beat).isEmpty then b.mp.reads.erase r else b.mp.reads.replace r { r with left := r.left.erase beat } } }

theorem transferred_eq : b.transferred channel tag beat = (b.awaiting channel tag beat).map fun r => (r, b.lineTaken r beat) := by
  change (match b.awaiting channel tag beat with | none => none | some r => some (r, b.lineTaken r beat)) = _
  cases b.awaiting channel tag beat <;> rfl

theorem memRead_unawaited (h : b.awaiting channel tag beat = none) (status crc : Nat) :
    b.memRead ⟨channel, tag, beat, data⟩ status crc = b := by
  rw [Block.memRead, transferred_eq, h]
  rfl

theorem memRead_awaited {r : ReadReq} (h : b.awaiting channel tag beat = some r) (status crc : Nat) :
    b.memRead ⟨channel, tag, beat, data⟩ status crc =
      if status = 2 then (b.lineTaken r beat).controlError .memoryCtrl srcMemory
      else if status = 0 && crc == crc32c data then (b.lineTaken r beat).lineRead r beat data
      else (b.lineTaken r beat).beatLost r.use := by
  rw [Block.memRead, transferred_eq, h]
  rfl

/-! ### The answer of a write -/

theorem memWritten_idle (h : b.mp.writes0 = []) (status : Nat) : b.memWritten 0 status = b := by
  rw [Block.memWritten, if_pos rfl, h]

theorem memWritten_ch0 {w : WriteReq} {rest : List WriteReq} (h : b.mp.writes0 = w :: rest) (status : Nat) :
    b.memWritten 0 status =
      (if status = 0 then ({ b with mp := { b.mp with writes0 := rest } } : Block).mailWritten w.addr
        else ({ b with mp := { b.mp with writes0 := rest } } : Block).controlError .memoryCtrl srcMemory).windowWritten w.addr := by
  rw [Block.memWritten, if_pos rfl, h]
  rfl

theorem memWritten_ch1 {w : WriteReq} {rest : List WriteReq} (h : b.mp.writes1 = w :: rest) (status : Nat) :
    b.memWritten 1 status =
      (if status = 0 then ({ b with mp := { b.mp with writes1 := rest } } : Block).mailWritten w.addr
        else ({ b with mp := { b.mp with writes1 := rest } } : Block).controlError .memoryCtrl srcMemory).windowWritten w.addr := by
  rw [Block.memWritten, if_neg (by decide), h]
  rfl

theorem mailWritten_one {c addr : Nat} {m : Mailbox} (hmail : b.ap.mail = [(c, m)]) (hw : m.writing = some addr) : b.mailWritten addr =
    (b.modMail c fun m => { m with writing := none, outPending := true, outSlot := m.next, next := (m.next + 1) % 16 }).noteSet
      (w1cMailOut c) := by
  rw [Block.mailWritten, hmail]
  exact if_pos hw

end

/-- Settles O40: a line by the read that awaits it, its status and its structure; an answer by its channel and its status. -/
theorem memoryPortErrorsAndResponses : Obligations.MemoryPortErrorsAndResponses := by
  refine ⟨fun x t channel tag beat data hserv => ?_, fun x t w rest hserv => ?_⟩
  · obtain ⟨hdead, hsafe⟩ := hserv
    intro b run result found
    have hrun (status crc : Nat) : run status crc = result (b.memRead ⟨channel, tag, beat, data⟩ status crc) := by
      simp only [run, exec_memoryReadResponse, port_serving hdead hsafe]
      rfl
    refine ⟨fun hnone status crc => ?_, fun r hsome => ?_⟩
    · rw [hrun, memRead_unawaited hnone]
    · intro left c written line
      have hline (status crc : Nat) := (hrun status crc).trans (congrArg result (memRead_awaited hsome status crc))
      refine ⟨(hline _ _).trans ?_, fun crc => (hline _ _).trans (if_pos rfl ▸ rfl), fun status crc hdec hbad => ?_⟩
      · rw [if_neg (by decide), if_pos (by simp)]
        rfl
      · have hlost : run status crc = result (c.beatLost r.use) := by
          rw [hline, if_neg hdec, if_neg]
          · rfl
          · simpa [imp_iff_not_or] using hbad
        generalize r.use = use at hlost ⊢
        cases use <;> exact hlost
  · obtain ⟨hdead, hsafe⟩ := hserv
    intro b
    have hrun (channel status : Nat) : exec (.memoryWriteResponse t channel status) x =
        .next (x.settled (x.blk.atTime t) (b.memWritten channel status)) := by
      rw [exec_memoryWriteResponse, port_serving hdead hsafe]
    refine ⟨fun hw => ?_, fun hw => ?_, fun hnone => ?_, fun c m hmail hw => mailWritten_one hmail hw⟩
    · intro done
      refine ⟨?_, fun status hst => ?_⟩
      · rw [hrun, memWritten_ch0 hw, if_pos rfl]
      · rw [hrun, memWritten_ch0 hw, if_neg hst]
    · intro done
      refine ⟨?_, fun status hst => ?_⟩
      · rw [hrun, memWritten_ch1 hw, if_pos rfl]
      · rw [hrun, memWritten_ch1 hw, if_neg hst]
    · rw [hrun, memWritten_idle hnone]

end Sys2Proof.Machine
end

section
/-! BUFFER_STOP, RECOVER and the entry to Buffer Stop (R237, R368, R430, R431, R434, R435, R475, R477): what an entry keeps, voids and
leaves to be written. -/

namespace Sys2Proof.Machine
open Sys2Proof

section
variable {b : Block}

/-! ### No write of a ring waits -/

/-- No write of a token or event ring waits. -/
def Block.Ringless (b : Block) : Prop := ∀ w ∈ b.mp.writeWait, w.ring = false

theorem ringless_write (h : b.Ringless) {a : Nat} {bs : List Byte} {o : Nat} {f : Option (Nat × Nat)} : (b.write a bs o f).Ringless := by
  intro w hw
  obtain hw | hw := List.mem_append.1 hw
  · exact h w hw
  · obtain ⟨-, -, rfl⟩ := List.mem_map.1 hw
    rfl

theorem ringless_postReply (h : b.Ringless) {s opcode seq : Nat} {e : CmdEntry} {status : Nat} {payload : List Byte}
    {effective : Nat} {deferred : Bool} : (b.postReply s opcode seq e status payload effective deferred).Ringless := by
  unfold Block.postReply
  extract_lets _ _ _ _ _ _ _ _ packet entry
  have hpacket : packet.Ringless := by
    unfold packet
    split
    · exact h
    · exact ringless_write h
  exact ringless_write hpacket

theorem ringless_foldl {α : Type} {f : Block → α → Block} (hf : ∀ c x, c.Ringless → (f c x).Ringless) (l : List α) (h : b.Ringless) :
    (l.foldl f b).Ringless := List.foldlRecOn (motive := Block.Ringless) l f h fun c hc x _ => hf c x hc

theorem ringless_settleClosing (h : b.Ringless) (s : Nat) : (b.settleClosing s).Ringless := by
  unfold Block.settleClosing
  extract_lets
  split
  · exact h
  · exact ringless_foldl (fun _ _ hc => ringless_postReply hc) _ h

theorem ringless_postDeferred (h : b.Ringless) {hit : Nat → Deferred → Bool} {status : Nat} {payload : List Byte} :
    (b.postDeferred hit status payload).Ringless := by
  refine ringless_foldl (fun c s hc => ?_) _ h
  extract_lets
  split
  · exact hc
  · exact ringless_settleClosing (ringless_foldl (b := c.modSession s _) (fun _ _ hc => ringless_postReply hc) _ hc) s

theorem ringless_stopRest (h : b.Ringless) (code : Nat) : (b.stopRest code).Ringless := by
  unfold Block.stopRest
  extract_lets halted ended obs dumped
  have hended : ended.Ringless := ringless_foldl (b := halted) (fun _ _ hc => ringless_write hc) _ h
  exact ringless_postDeferred (ringless_postDeferred (b := dumped.voidCommands) hended)

/-! ### What an entry leaves -/

/-- The rest of an entry keeps the causes and the log, voids the commands and dumps, and adds to what is to be sent HALT alone. -/
theorem stopRest_leaves (b : Block) (code : Nat) : let c := b.stopRest code
    c.cp.state = b.cp.state ∧ c.flt = b.flt ∧ c.vlog = b.vlog ∧ c.seq.cmds = [] ∧ c.obs.dumps = [] ∧
    c.fab.queue = (b.sendHalt code).fab.queue := by
  have hdumps := fun c : Block => Block.SameButReplies.foldl (fun (b : Block) (d : Dump) => sameButReplies_write b d.addr
    (dumpHeader d.step d.layerOperator d.handle (if d.dropped then 3 else 4) d.items d.positions b.now) 2 none false) b.obs.dumps c
  have hreplies := fun c : Block => (sameButReplies_postDeferred c (fun _ d => d.opcode != 3) 0x0601 []).trans
    (sameButReplies_postDeferred _ (fun _ _ => true) 0x0601 [])
  unfold Block.stopRest
  extract_lets halted ended obs dumped out
  have hended : (b.sendHalt code).SameButReplies ended := hdumps _
  have hout : dumped.voidCommands.SameButReplies out := hreplies _
  unfold Block.SameButReplies at hended hout
  rw [hout]
  unfold dumped obs
  rw [hended]
  exact ⟨rfl, rfl, rfl, rfl, rfl, rfl⟩

theorem sendHalt_queue {code : Nat} (h : ∀ p ∈ b.fab.queue, p.cls = 5 ∨ p.cls = 6) : ∀ p ∈ (b.sendHalt code).fab.queue, p.cls = 5 ∨ p.cls = 6 := by
  intro p hp
  obtain hp | hp := List.mem_append.1 hp
  · exact h p hp
  · obtain ⟨d, -, hp⟩ := List.mem_flatMap.1 hp
    obtain ⟨r, -, hr⟩ := List.mem_filterMap.1 hp
    split at hr
    · cases hr
      exact .inl rfl
    · cases hr

/-- A former lead's record of its lost role is all that `leadFault` adds (R237; log entry 109). -/
theorem leadFault_keeps (b : Block) : let c := b.leadFault false
    c.form = b.form ∧ c.now = b.now ∧ c.unfit = b.unfit ∧ c.flt.own = b.flt.own := by
  unfold Block.leadFault
  split <;> exact ⟨rfl, rfl, rfl, rfl⟩

theorem leadFault_none (h : b.cp.roleLost = none) : b.leadFault false = b := by rw [Block.leadFault, h]

theorem leadFault_lost {lead term : Nat} (h : b.cp.roleLost = some (lead, term)) : (b.leadFault false).vlog = b.vlog ++
    [{ time := b.now, source := srcCoupling, code := 0x0121, sev := 2, args := [b.cp.rank, lead, term, 0], agent := b.agent, rank := b.cp.rank }] := by
  rw [Block.leadFault, h]
  rfl

theorem stopEntry_leaves (hform : b.form = none) (c : Cause) (first : Nat) : let e := b.stopEntry c first
    e.cp.state = .bufferStop ∧ e.flt.own = some (b.flt.own.getD c.code) ∧ e.flt.stopEvent = true ∧ e.flt.enteredAt = b.now ∧
    e.flt.diag = (if b.unfit then 3 else 0) ∧ e.flt.queried = false ∧ e.flt.cutTime = none ∧ e.flt.firstFatal = first ∧ e.vlog = b.vlog := by
  unfold Block.stopEntry
  rw [hform]
  exact ⟨rfl, rfl, rfl, rfl, rfl, rfl, rfl, rfl, rfl⟩

theorem stopEntry_queue (c : Cause) (first : Nat) : ∀ p ∈ (b.stopEntry c first).fab.queue, p.cls = 5 ∨ p.cls = 6 := by
  intro p hp
  simpa using (List.mem_filter.1 hp).2

theorem ringless_stopEntry (c : Cause) (first : Nat) : (b.stopEntry c first).Ringless := by
  intro w hw
  simpa using (List.mem_filter.1 hw).2

variable {c : Cause} {src : Nat} {args : List Nat}

/-- The block of an entry, its record logged and a lost role told. -/
def Block.stopLogged (b : Block) (c : Cause) (src : Nat) (args : List Nat) : Block :=
  ((b.logRec src c.code 3 args).leadFault false).noteSet (w1cGroup 1)

theorem stop_entered (h : b.cp.state = .running) :
    b.stop c src args = ((b.stopLogged c src args).stopEntry c b.vlog.length).stopRest c.code := by
  have hfresh : (b.cp.fresh && b.cp.state == .forming && logOnlyWhenFresh c) = false := by simp [h]
  have hstop : (b.cp.state == .bufferStop) = false := by simp [h]
  rw [stop_eq, hfresh, hstop]
  rfl

theorem stop_stopped (h : b.cp.state = .bufferStop) : b.stop c src args = b.logRec src c.code 3 args := by
  have hfresh : (b.cp.fresh && b.cp.state == .forming && logOnlyWhenFresh c) = false := by simp [h]
  have hstop : (b.cp.state == .bufferStop) = true := by simp [h]
  rw [stop_eq, hfresh, hstop]
  rfl

/-- A cause of R475 that marks nothing: a fresh member in FORMING only logs it. -/
theorem stop_fresh (h : b.cp.state = .forming) (hfresh : b.cp.fresh = true) (hc : c = .telemetry ∨ c = .timeBase ∨ c = .pclkLost) :
    b.stop c src args = b.logRec src c.code 3 args := by
  have hlog : (b.cp.fresh && b.cp.state == .forming && logOnlyWhenFresh c) = true := by
    obtain rfl | rfl | rfl := hc <;> simp [h, hfresh, logOnlyWhenFresh]
  rw [stop_eq, hlog]
  obtain rfl | rfl | rfl := hc <;> rfl

/-! ### RECOVER -/

variable {s id : Nat} {rb cb : Bool}

theorem recover_begins (hwrong : b.recoverWrongState = false) (hdiag : b.diagIncomplete = false) (hset : b.notSetUp = false) :
    b.recover s id rb cb =
      (({ b with ap := { b.ap with tb := { b.ap.tb with lost := false } }, obs := { b.obs with censusLeft := none } } : Block).defer s 0).beginFormation
        s id rb cb := by
  rw [Block.recover, hwrong, hdiag, hset]
  rfl

theorem recover_wrong (h : b.cp.state = .running) : b.recover s id rb cb = b.reply s 0x0402 :=
  if_pos (by simp [Block.recoverWrongState, h])

theorem recover_incomplete (h : b.cp.state = .bufferStop) (hdiag : b.flt.diag ≠ 2 ∨ b.flt.queried = false ∨ b.timeBaseAbsent = true) :
    b.recover s id rb cb = b.reply s 0x0602 := by
  rw [Block.recover, if_neg (by simp [Block.recoverWrongState, h]), if_pos]
  obtain hd | hd | hd := hdiag <;> simp [Block.diagIncomplete, hd, h]

end

section
variable {b : Block} {c : Cause} {src : Nat} {args : List Nat}

theorem stopLogged_keeps (b : Block) (c : Cause) (src : Nat) (args : List Nat) : let d := b.stopLogged c src args
    d.form = b.form ∧ d.now = b.now ∧ d.unfit = b.unfit ∧ d.flt.own = b.flt.own := leadFault_keeps (b.logRec src c.code 3 args)

theorem stop_vlog (hrun : b.cp.state = .running) (hform : b.form = none) : (b.stop c src args).vlog = (b.stopLogged c src args).vlog := by
  obtain ⟨kform, -⟩ := stopLogged_keeps b c src args
  obtain ⟨-, -, evlog, -⟩ := stopRest_leaves ((b.stopLogged c src args).stopEntry c b.vlog.length) c.code
  obtain ⟨-, -, -, -, -, -, -, -, dvlog⟩ := stopEntry_leaves (kform.trans hform) c b.vlog.length
  rw [stop_entered hrun, evlog, dvlog]

end

/-- Settles O29: the commands by their conditions; an entry by what its parts leave. -/
theorem stopsAndRecoveriesChangeTheGroupState : Obligations.StopsAndRecoveriesChangeTheGroupState := by
  refine ⟨fun x t s cur hc => ?_, fun b c src args => ⟨fun hrun hform => ?_, stop_stopped, fun hf => stop_fresh hf⟩⟩
  · intro b
    refine ⟨fun reason hp => ?_, fun id rb cb hp hwrong hdiag hset => ?_, fun id rb cb hp hrun => ?_, fun id rb cb hp hstop hdiag => ?_⟩
    · rw [exec_bufferStop, command_carries hc (by rw [hp]), Block.bufferStopCmd]
    · rw [exec_recover, command_carries hc (by rw [hp]), recover_begins hwrong hdiag hset]
    · rw [exec_recover, command_carries hc (by rw [hp]), recover_wrong hrun]
    · rw [exec_recover, command_carries hc (by rw [hp]), recover_incomplete hstop hdiag]
  · intro B
    obtain ⟨kform, know, kunfit, kown⟩ := stopLogged_keeps b c src args
    obtain ⟨estate, eflt, -, ecmds, edumps, equeue⟩ := stopRest_leaves ((b.stopLogged c src args).stopEntry c b.vlog.length) c.code
    obtain ⟨dstate, down, devent, dentered, ddiag, dqueried, dcut, dfirst, -⟩ := stopEntry_leaves (kform.trans hform) c b.vlog.length
    have hB : B = ((b.stopLogged c src args).stopEntry c b.vlog.length).stopRest c.code := stop_entered hrun
    have hvlog : B.vlog = (b.stopLogged c src args).vlog := stop_vlog hrun hform
    rw [← hB] at estate eflt ecmds edumps equeue
    rw [kown] at down
    rw [know] at dentered
    rw [kunfit] at ddiag
    refine ⟨estate.trans dstate, ?_, ?_, ?_, ?_, ?_, ?_, ?_, ecmds, edumps, ?_, ?_, fun hlost => ?_, fun lead term hlost => ?_⟩
    · rw [eflt, down]
    · rw [eflt, devent]
    · rw [eflt, dentered]
    · rw [eflt, ddiag]
      simp [Block.unfit]
    · rw [eflt, dqueried]
    · rw [eflt, dcut]
    · rw [eflt, dfirst]
    · rw [equeue]
      exact sendHalt_queue (stopEntry_queue _ _)
    · rw [hB]
      exact ringless_stopRest (ringless_stopEntry _ _) _
    · rw [hvlog]
      exact congrArg Block.vlog (leadFault_none (b := b.logRec src c.code 3 args) hlost)
    · rw [hvlog]
      exact (leadFault_lost (b := b.logRec src c.code 3 args) hlost).trans (List.append_assoc ..)

end Sys2Proof.Machine
end

section
/-! Proposals, caps and loss reports (R231 to R233, R272, R273, R359, R426, R427): each message of the term, by what it finds. -/

namespace Sys2Proof.Machine
open Sys2Proof

section
variable {b : Block} {h : EpochHead} {src : Nat} (hrun : b.running = true) (hterm : h.leadTerm = b.cp.term)

/-! ### Proposals -/

/-- What is staged for a proposal bears its number. -/
theorem stageContent_number {m : Memory} {number junction epoch : Nat} {p : Params} {st : StagedProposal}
    (hst : b.stageContent m number junction epoch p = .inl st) : st.number = number := by
  have hblank {q : StagedProposal} (hq : (.inl q : StagedProposal ⊕ (Nat × Nat)) = .inl st) (hn : q.number = number) : st.number = number :=
    Sum.inl.inj hq ▸ hn
  unfold Block.stageContent at hst
  extract_lets _ _ _ _ blank at hst
  have hnumber : blank.number = number := rfl
  split at hst
  · extract_lets at hst
    split at hst
    · exact absurd hst Sum.inr_ne_inl
    · extract_lets at hst
      clear_value *
      split at hst
      · exact absurd hst Sum.inr_ne_inl
      · exact hblank hst hnumber
  · extract_lets at hst
    split at hst
    · exact absurd hst Sum.inr_ne_inl
    · exact hblank hst hnumber
  · exact hblank hst hnumber

theorem holdStage_first {st : StagedProposal} (hfirst : ∀ s, b.cp.staged = some s → s.number = st.number ∨ s.junction ≤ b.cp.applied) :
    b.holdStage st = { b with cp := { b.cp with staged := some st, stageLost := false } } := by
  have hall : (b.cp.staged.all fun x => x.number == st.number || decide (x.junction ≤ b.cp.applied)) = true :=
    (Option.all_eq_true ..).2 fun s hs => by simpa using hfirst s hs
  exact if_pos hall

theorem holdStage_second {st : StagedProposal}
    (hfirst : ¬ ∀ s, b.cp.staged = some s → s.number = st.number ∨ s.junction ≤ b.cp.applied) :
    b.holdStage st = { b with cp := { b.cp with stagedNext := some st } } := by
  refine if_neg fun hall => hfirst fun s hs => ?_
  simpa using (Option.all_eq_true ..).1 hall s hs

/-- What a member holds, it still answers under its own rank and term. -/
theorem holdStage_answerHead (st : StagedProposal) : (b.holdStage st).answerHead h = { h with source := b.cp.rank, leadTerm := b.cp.term } := by
  unfold Block.holdStage
  split <;> rfl

theorem readProposal_answerHead (p : Params) (st : StagedProposal) : (b.readProposal p st).answerHead h = b.answerHead h := by
  unfold Block.readProposal Block.readStaged
  extract_lets d _ c e
  have hc : c.answerHead h = b.answerHead h := by unfold c; split <;> rfl
  have he : e.answerHead h = c.answerHead h := by unfold e; split <;> rfl
  split
  · exact he.trans hc
  · exact he.trans hc

include hrun hterm

theorem epochIn_now (k : Block → Block) : b.epochIn h k = k b := by rw [epochIn_inTerm, hterm, inTerm_now hrun]

theorem proposeIn_staged {m : Memory} {c : CmdRecord} {st : StagedProposal} (hsrc : src = b.cp.leadRank)
    (hst : b.stageContent m h.proposal h.junction h.epoch c.params = .inl st) : b.proposeIn m src h c =
      let staged := (b.holdStage { st with term := h.leadTerm }).readProposal c.params st
      let size := staged.preparedSizes st
      staged.send (some src) (.prepared { h with source := b.cp.rank, leadTerm := b.cp.term } size.1 size.2.1 size.2.2) := by
  rw [Block.proposeIn, epochIn_now hrun hterm, if_neg (by simp [hsrc]), hst]
  dsimp only
  rw [readProposal_answerHead, holdStage_answerHead]

theorem proposeIn_refused {m : Memory} {c : CmdRecord} {st detail : Nat} (hsrc : src = b.cp.leadRank)
    (hst : b.stageContent m h.proposal h.junction h.epoch c.params = .inr (st, detail)) : b.proposeIn m src h c =
      (b.holdStage { number := h.proposal, junction := h.junction, epoch := h.epoch, params := c.params, stage := none, template := none,
                     map := [], platforms := [], prepared := false, term := h.leadTerm }).send
        (some src) (.refused { h with source := b.cp.rank, leadTerm := b.cp.term } st detail) := by
  rw [Block.proposeIn, epochIn_now hrun hterm, if_neg (by simp [hsrc]), hst]
  rfl

theorem proposeIn_other {m : Memory} {c : CmdRecord} (hsrc : src ≠ b.cp.leadRank) : b.proposeIn m src h c = b := by
  rw [Block.proposeIn, epochIn_now hrun hterm, if_pos (by simp [hsrc])]

theorem preparedIn_kept {p : Proposal} {sizes : Nat × Nat × Nat} (hp : b.seq.proposal = some p) (hn : p.number = h.proposal)
    (href : Tab.has src p.refused = false) : b.preparedIn src h sizes =
      { b with seq := { b.seq with proposal := some { p with prepared := Tab.set src sizes p.prepared } } } := by
  rw [Block.preparedIn, epochIn_now hrun hterm, hp]
  exact if_neg (by simp [hn, href])

theorem refusedIn_kept {p : Proposal} {st detail : Nat} (hp : b.seq.proposal = some p) (hn : p.number = h.proposal) :
    b.refusedIn src h st detail = { b with seq := { b.seq with
      proposal := some { p with refused := Tab.set src (st, detail) p.refused, prepared := Tab.erase src p.prepared } } } := by
  rw [Block.refusedIn, epochIn_now hrun hterm, hp]
  exact if_neg (by simp [hn])

/-! ### Loss reports -/

variable {r : LossReport}

theorem lossReportIn_bank (hlead : b.isLead = true) (hbank : r.bankReport = true) :
    b.lossReportIn h r = { b with seq := { b.seq with banks := b.seq.banks ++ [r.bank] } } := by
  rw [Block.lossReportIn, epochIn_now hrun hterm, hlead, hbank]
  rfl

theorem lossReportIn_request (hlead : b.isLead = true) (hbank : r.bankReport = false) : b.lossReportIn h r =
    if (b.byHandle r.handle).isNone then b else { b with seq := { b.seq with losses := b.seq.losses ++ [(r.handle, r.cause)] } } := by
  rw [Block.lossReportIn, epochIn_now hrun hterm, hlead, hbank]
  rfl

end

section
variable {b : Block}

theorem lossReportResend_due {r : LossReport} {sent : Nat} (hrun : b.running = true) (hr : b.flt.reports = [(r, sent)])
    (hdue : sent + 20000 ≤ b.now) :
    let again := { b with flt := { b.flt with reports := [(r, b.now)] } }
    b.lossReportResend = again.send (some b.cp.leadRank) (.lossReport again.epochHead r) := by
  have hdue' : decide (b.now ≥ sent + resendNs) = true := decide_eq_true hdue
  rw [Block.lossReportResend, if_pos hrun, Block.sendReports, hr]
  simp only [List.filter_cons, List.filter_nil, List.map_cons, List.map_nil, hdue', if_true, List.foldl_cons, List.foldl_nil]

/-! ### Caps of the group -/

variable {rank cap sq : Nat}

theorem capReport_old {old : Nat × Nat} (hold : Tab.get? rank b.pwr.reports = some old) (hsq : sq ≤ old.1) : b.capReport rank cap sq = b := by
  rw [Block.capReport, hold]
  exact if_pos (by simp [hsq])

/-- The first report of a collectionless lead below the cap in force sets the group cap at the next junction. -/
theorem groupCapDue_lower (hlead : b.isLead = true) (hr : b.pwr.reports = [(rank, sq, cap)]) (hlow : cap < b.pwr.setCap)
    (hmax : b.pwr.setCap ≤ 0xFFFF) (hcollect : b.cp.collect = none) (hclosed : b.seq.closed = none) : b.groupCapDue =
      ({ b with pwr := { b.pwr with setSeq := b.pwr.setSeq + 1, setCap := cap, setRank := rank, setEffective := b.cp.applied + 1 } } :
        Block).send none (.capSet b.capHead cap (b.pwr.setSeq + 1) (b.cp.applied + 1) rank) := by
  have hfold : b.pwr.reports.foldl (fun (m : Nat × Nat) r => if r.2.2 < m.2 then (r.1, r.2.2) else m) (b.pwr.setRank, 0xFFFF) = (rank, cap) := by
    rw [hr]
    exact if_pos (hlow.trans_le hmax)
  unfold Block.groupCapDue
  rw [if_neg (by simp [hlead, hcollect]), hfold, hclosed]
  extract_lets low heard eff
  rw [if_neg (by simp [low, hlow.ne, hlow.le])]
  rfl

theorem capReport_first (hlead : b.isLead = true) (hr : b.pwr.reports = []) (hlow : cap < b.pwr.setCap)
    (hmax : b.pwr.setCap ≤ 0xFFFF) (hcollect : b.cp.collect = none) (hclosed : b.seq.closed = none) : b.capReport rank cap sq =
      ({ b with pwr := { b.pwr with reports := [(rank, sq, cap)], setSeq := b.pwr.setSeq + 1, setCap := cap, setRank := rank
                                    setEffective := b.cp.applied + 1 } } : Block).send none
        (.capSet b.capHead cap (b.pwr.setSeq + 1) (b.cp.applied + 1) rank) := by
  have hnew : b.capReport rank cap sq = ({ b with pwr := { b.pwr with reports := [(rank, sq, cap)] } } : Block).groupCapDue := by
    rw [Block.capReport, hr, hlead]
    rfl
  rw [hnew, groupCapDue_lower (b := { b with pwr := { b.pwr with reports := [(rank, sq, cap)] } }) hlead rfl hlow hmax hcollect hclosed]
  rfl

variable {eff : Nat}

theorem capSet_old (h : sq ≤ b.pwr.appliedSeq) : b.capSet cap rank sq eff = b := if_pos h

/-- A newer CAP_SET is heard: its SEQ where it is the newest, with its rank. -/
def Block.capHeard (b : Block) (rank sq : Nat) : Block :=
  { b with pwr := { b.pwr with setSeq := max b.pwr.setSeq sq, setRank := if b.pwr.setSeq ≤ sq then rank else b.pwr.setRank } }

theorem capSet_applied (hnew : b.pwr.appliedSeq < sq) (heff : eff ≤ b.cp.applied) :
    b.capSet cap rank sq eff = (b.capHeard rank sq).applyGroupCap sq cap := (if_neg (not_le.2 hnew)).trans (if_pos heff)

theorem capSet_waits (hnew : b.pwr.appliedSeq < sq) (heff : b.cp.applied < eff)
    (hw : (b.pwr.waiting.filter fun w => w.1 != sq) = b.pwr.waiting) : b.capSet cap rank sq eff =
      { b.capHeard rank sq with pwr := { (b.capHeard rank sq).pwr with waiting := b.pwr.waiting ++ [(sq, cap, eff)] } } := by
  refine (if_neg (not_le.2 hnew)).trans ((if_neg (not_le.2 heff)).trans ?_)
  dsimp only
  rw [hw]
  rfl

end

/-- Settles O51, message by message. -/
theorem proposalsCapsAndLossesReachTheGroup : Obligations.ProposalsCapsAndLossesReachTheGroup := by
  refine ⟨fun x t rx h hserves hwhole => ?_, fun x t cap rank sq rx h hserves hwhole => ?_, fun x t rx h r hserves hwhole => ?_⟩
  · intro b result answer hrun hterm first held
    have hheld (st : StagedProposal) (hn : st.number = h.proposal) : held st (b.holdStage st) :=
      ⟨fun hfirst => holdStage_first (by rwa [hn]), fun hfirst => holdStage_second (by rwa [hn])⟩
    refine ⟨fun c st hsrc hst => ?_, fun c st detail hsrc hst => ?_, fun c hsrc => ?_, fun p mem page fixed hp hn href => ?_,
      fun p st detail hp hn => ?_⟩
    · refine ⟨_, hheld { st with term := h.leadTerm } (stageContent_number (st := st) hst), ?_⟩
      rw [exec_propose_whole hserves hwhole, proposeIn_staged hrun hterm hsrc hst]
    · refine ⟨_, hheld _ rfl, ?_⟩
      rw [exec_propose_whole hserves hwhole, proposeIn_refused hrun hterm hsrc hst]
    · rw [exec_propose_whole hserves hwhole, proposeIn_other hrun hterm hsrc]
    · rw [exec_prepared_whole hserves hwhole, preparedIn_kept hrun hterm hp hn href]
    · rw [exec_refused_whole hserves hwhole, refusedIn_kept hrun hterm hp hn]
  · intro b result set heard hrun hterm
    refine ⟨fun hlead hr hlow hmax hcollect hclosed => ?_, fun old hlead hold hsq => ?_, fun eff hnew heff hw => ?_, fun eff hnew heff => ?_,
      fun eff hold => ?_⟩
    · rw [exec_capReport_whole hserves hwhole, epochIn_now hrun hterm, capReport_first hlead hr hlow hmax hcollect hclosed]
      rfl
    · rw [exec_capReport_whole hserves hwhole, epochIn_now hrun hterm, capReport_old hold hsq]
    · rw [exec_capSet_whole hserves hwhole, epochIn_now hrun hterm, capSet_waits hnew heff hw]
      rfl
    · rw [exec_capSet_whole hserves hwhole, epochIn_now hrun hterm, capSet_applied hnew heff]
      rfl
    · rw [exec_capSet_whole hserves hwhole, epochIn_now hrun hterm, capSet_old hold]
  · intro b result hrun hterm
    refine ⟨fun hlead hbank => ?_, fun e hlead hbank he => ?_, fun hlead hbank he => ?_, fun sent hruns hr hdue => ?_⟩
    · rw [exec_lossReport_whole hserves hwhole, lossReportIn_bank hrun hterm hlead hbank]
    · rw [exec_lossReport_whole hserves hwhole, lossReportIn_request hrun hterm hlead hbank, if_neg (by simp [he])]
    · rw [exec_lossReport_whole hserves hwhole, lossReportIn_request hrun hterm hlead hbank, if_pos (by simp [he])]
    · obtain ⟨hdead, -⟩ := hserves
      rw [exec_lossReportResend, event_live hdead, lossReportResend_due (b := x.blk.atTime t) hruns hr hdue]

end Sys2Proof.Machine
end

section
/-! Messages at the Management Port (R370 to R372, R396, R397, Table 14-6): how packets come together, how a message leaves, and the
queries of MCTP control and PLDM. -/

namespace Sys2Proof.Machine
open Sys2Proof

/-! ### Packets that come -/

section
variable {b : Block} {m : MctpMsg}

/-- The block counts a packet, or a message given up. -/
def Block.mctpCounted (b : Block) : Block := { b with sb := { b.sb with mctpDiscards := b.sb.mctpDiscards + 1 } }

/-- The messages that are put together besides that of a packet. -/
def Block.mctpOthers (b : Block) (m : MctpMsg) : List MctpPart :=
  b.sb.mctpParts.filter fun p => !(p.source == mctpSource m && p.flow == mctpFlow m)

/-- The message of a packet is no longer put together. -/
def Block.mctpClosed (b : Block) (m : MctpMsg) : Block := { b with sb := { b.sb with mctpParts := b.mctpOthers m } }

theorem mctpTake_badCrc (h : m.crc ≠ crc32c m.packet) : b.mctpTake m = (none, b.mctpCounted) := if_pos (by simp [h])

theorem mctpTake_noPart (hcrc : m.crc = crc32c m.packet) (h : b.mctpPart m = none) : b.mctpTake m = (none, b) := by
  rw [Block.mctpTake, if_neg (by simp [hcrc]), h]

section
variable {p : MctpPart} (hcrc : m.crc = crc32c m.packet) (hp : b.mctpPart m = some p)
include hcrc hp

theorem mctpTake_elsewhere (hdest : mctpDest m ≠ b.sb.eid) (hnull : mctpDest m ≠ 0 ∨ p.head.getD 0 0 ≠ 0) :
    b.mctpTake m = (none, b.mctpCounted) := by
  rw [Block.mctpTake, if_neg (by simp [hcrc]), hp]
  refine if_pos ?_
  obtain h | h := hnull
  · simp [hdest, h]
  · have hcontrol : (p.head.getD 0 0 == 0) = false := beq_eq_false_iff_ne.2 h
    rw [hcontrol, beq_eq_false_iff_ne.2 hdest]
    rfl

section
variable (hdest : mctpDest m = b.sb.eid) (hnull : mctpDest m ≠ 0)
include hdest hnull

theorem mctpTake_here : b.mctpTake m =
    if !p.takes m (b.mctpOthers m).length then (none, (b.mctpClosed m).mctpCounted)
    else if mctpEop m then (some { source := p.source, tag := p.flow % 8, bytes := p.head }, b.mctpClosed m)
    else (none, { b with sb := { b.sb with
      mctpParts := b.mctpOthers m ++ [{ p with next := (mctpSeq m + 1) % 4, size := p.size + mctpSize m }] } }) := by
  rw [Block.mctpTake, if_neg (by simp [hcrc]), hp]
  exact if_neg (by simp [hdest, hdest ▸ hnull])

theorem mctpTake_givenUp (h : p.takes m (b.mctpOthers m).length = false) : b.mctpTake m = (none, (b.mctpClosed m).mctpCounted) := by
  rw [mctpTake_here hcrc hp hdest hnull, h]
  rfl

theorem mctpTake_completed (h : p.takes m (b.mctpOthers m).length = true) (he : mctpEop m = true) :
    b.mctpTake m = (some { source := p.source, tag := p.flow % 8, bytes := p.head }, b.mctpClosed m) := by
  rw [mctpTake_here hcrc hp hdest hnull, h, he]
  rfl

theorem mctpTake_continued (h : p.takes m (b.mctpOthers m).length = true) (he : mctpEop m = false) :
    b.mctpTake m = (none, { b with sb := { b.sb with
      mctpParts := b.mctpOthers m ++ [{ p with next := (mctpSeq m + 1) % 4, size := p.size + mctpSize m }] } }) := by
  rw [mctpTake_here hcrc hp hdest hnull, h, he]
  rfl

end

end

/-- A packet changes what is put together, and the count of what is given up, alone. -/
theorem mctpTake_keeps (b : Block) (m : MctpMsg) : ∃ parts n,
    (b.mctpTake m).2 = { b with sb := { b.sb with mctpParts := parts, mctpDiscards := n } } := by
  unfold Block.mctpTake
  extract_lets count
  split
  · exact ⟨_, _, rfl⟩
  · split
    · exact ⟨_, _, rfl⟩
    · extract_lets
      split
      · exact ⟨_, _, rfl⟩
      · split
        · exact ⟨_, _, rfl⟩
        · split
          · exact ⟨_, _, rfl⟩
          · exact ⟨_, _, rfl⟩

/-! ### The part a packet opens or continues -/

/-- What the first packet of a message opens. -/
def openedPart (m : MctpMsg) : MctpPart :=
  { source := mctpSource m, flow := mctpFlow m, next := mctpSeq m, size := 0, head := (m.packet.drop 4).take 4 }

theorem mctpPart_first (h : mctpSop m = true) : b.mctpPart m = some (openedPart m) := if_pos h

theorem mctpPart_later (h : mctpSop m = false) :
    b.mctpPart m = b.sb.mctpParts.find? fun p => p.source == mctpSource m && p.flow == mctpFlow m := if_neg (by simp [h])

theorem openedPart_type (m : MctpMsg) : ((openedPart m).head.getD 0 0).toNat = mctpByte m 4 := by
  simp [openedPart, mctpByte, List.getD_eq_getElem?_getD]

theorem takes_iff {p : MctpPart} {n : Nat} : p.takes m n = true ↔
    mctpSeq m = p.next ∧ 0 < mctpSize m ∧ mctpSize m ≤ 64 ∧ (mctpEop m = true ∨ mctpSize m = 64) ∧ p.size + mctpSize m ≤ 4352 ∧
    (p.head.getD 0 0).toNat ∈ [0, 1, 5] ∧ (mctpSop m = false ∨ mctpEop m = true ∨ n < 4) := by
  simp only [MctpPart.takes, Bool.and_eq_true, Bool.or_eq_true, beq_iff_eq, decide_eq_true_eq, Bool.not_eq_true', List.contains_iff_mem,
    and_assoc, or_assoc]

/-! ### The first packet of a message, and a later one -/

section
variable (hcrc : m.crc = crc32c m.packet) (hdest : mctpDest m = b.sb.eid) (hnull : mctpDest m ≠ 0)
include hcrc hdest hnull

section
variable (hsop : mctpSop m = true)
include hsop

theorem mctpTake_first_unsupported (h : mctpByte m 4 ∉ [0, 1, 5]) : b.mctpTake m = (none, (b.mctpClosed m).mctpCounted) := by
  refine mctpTake_givenUp hcrc (mctpPart_first hsop) hdest hnull (Bool.eq_false_iff.2 fun ht => h ?_)
  obtain ⟨-, -, -, -, -, htype, -⟩ := takes_iff.1 ht
  rwa [openedPart_type] at htype

theorem mctpTake_first_completed (htype : mctpByte m 4 ∈ [0, 1, 5]) (heop : mctpEop m = true) (hpos : 0 < mctpSize m) (hmax : mctpSize m ≤ 64) :
    b.mctpTake m = (some { source := mctpSource m, tag := mctpFlow m % 8, bytes := (m.packet.drop 4).take 4 }, b.mctpClosed m) := by
  have hsize : (openedPart m).size + mctpSize m ≤ 4352 := by
    change 0 + mctpSize m ≤ 4352
    omega
  exact mctpTake_completed hcrc (mctpPart_first hsop) hdest hnull
    (takes_iff.2 ⟨rfl, hpos, hmax, .inl heop, hsize, by rwa [openedPart_type], .inr (.inl heop)⟩) heop

theorem mctpTake_first_opens (htype : mctpByte m 4 ∈ [0, 1, 5]) (heop : mctpEop m = false) (hsize : mctpSize m = 64)
    (hroom : (b.mctpOthers m).length < 4) :
    b.mctpTake m = (none, { b with sb := { b.sb with mctpParts := b.mctpOthers m ++ [{ openedPart m with
      next := (mctpSeq m + 1) % 4, size := 64 }] } }) := by
  have hlen : (openedPart m).size + mctpSize m = 64 := by
    change 0 + mctpSize m = 64
    omega
  have ht : (openedPart m).takes m (b.mctpOthers m).length = true :=
    takes_iff.2 ⟨rfl, by omega, by omega, .inr hsize, by omega, by rwa [openedPart_type], .inr (.inr hroom)⟩
  rw [mctpTake_continued hcrc (mctpPart_first hsop) hdest hnull ht heop, hlen]

/-- A fifth message at once is given up. -/
theorem mctpTake_first_full (heop : mctpEop m = false) (hfull : 4 ≤ (b.mctpOthers m).length) :
    b.mctpTake m = (none, (b.mctpClosed m).mctpCounted) := by
  refine mctpTake_givenUp hcrc (mctpPart_first hsop) hdest hnull (Bool.eq_false_iff.2 fun ht => ?_)
  obtain ⟨-, -, -, -, -, -, hfirst | hlast | hroom⟩ := takes_iff.1 ht
  · exact Bool.false_ne_true (hfirst.symm.trans hsop)
  · exact Bool.false_ne_true (heop.symm.trans hlast)
  · exact absurd hroom (not_lt.2 hfull)

end

section
variable {p : MctpPart} (hsop : mctpSop m = false)
  (hfind : (b.sb.mctpParts.find? fun p => p.source == mctpSource m && p.flow == mctpFlow m) = some p)
include hsop hfind

theorem mctpTake_later_outOfTurn (hbad : mctpSeq m ≠ p.next ∨ 4352 < p.size + mctpSize m) :
    b.mctpTake m = (none, (b.mctpClosed m).mctpCounted) := by
  refine mctpTake_givenUp hcrc ((mctpPart_later hsop).trans hfind) hdest hnull (Bool.eq_false_iff.2 fun ht => ?_)
  obtain ⟨hseq, -, -, -, hsize, -⟩ := takes_iff.1 ht
  obtain hb | hb := hbad
  · exact hb hseq
  · exact absurd hsize (not_le.2 hb)

variable (hseq : mctpSeq m = p.next) (htype : (p.head.getD 0 0).toNat ∈ [0, 1, 5]) (hsize : p.size + mctpSize m ≤ 4352)
include hseq htype hsize

theorem mctpTake_later_completed (heop : mctpEop m = true) (hpos : 0 < mctpSize m) (hmax : mctpSize m ≤ 64) :
    b.mctpTake m = (some { source := p.source, tag := p.flow % 8, bytes := p.head }, b.mctpClosed m) :=
  mctpTake_completed hcrc ((mctpPart_later hsop).trans hfind) hdest hnull
    (takes_iff.2 ⟨hseq, hpos, hmax, .inl heop, hsize, htype, .inl hsop⟩) heop

theorem mctpTake_later_continued (heop : mctpEop m = false) (hfull : mctpSize m = 64) :
    b.mctpTake m = (none, { b with sb := { b.sb with mctpParts := b.mctpOthers m ++ [{ p with
      next := (p.next + 1) % 4, size := p.size + 64 }] } }) := by
  have ht : p.takes m (b.mctpOthers m).length = true :=
    takes_iff.2 ⟨hseq, by omega, by omega, .inr hfull, hsize, htype, .inl hsop⟩
  rw [mctpTake_continued hcrc ((mctpPart_later hsop).trans hfind) hdest hnull ht heop, hseq, hfull]

end

end

/-! ### A row of the opcode table shows a packet -/

theorem mctpIn_none {c : Block} {k : MctpHead → Block → Block} (hphase : b.sb.phase = .firmware ∨ b.sb.phase = .recovery)
    (ht : b.mctpTake m = (none, c)) : b.mctpIn m k = c := by
  have hserved : (b.sb.phase != .firmware && b.sb.phase != .recovery) = false := by obtain h | h := hphase <;> simp [h]
  rw [Block.mctpIn, hserved, ht]
  rfl

theorem mctpIn_unsupported {h : MctpHead} {c d : Block} {k : MctpHead → Block → Block}
    (hphase : b.sb.phase = .firmware ∨ b.sb.phase = .recovery) (ht : b.mctpTake m = (some h, c)) (hd : c.unsupported h = some d) :
    b.mctpIn m k = d := by
  have hserved : (b.sb.phase != .firmware && b.sb.phase != .recovery) = false := by obtain h | h := hphase <;> simp [h]
  rw [Block.mctpIn, hserved, ht]
  exact congrArg (Option.getD · _) hd

variable {h : MctpHead}

theorem unsupported_control (h0 : h.byte 0 = 0) (hreq : bit (h.byte 1) 7 = true) (hcmd : h.byte 2 = 0 ∨ 5 < h.byte 2) :
    b.unsupported h = some (b.mctpReply h (h.byte 2) 5) := by
  have hout : h.byte 2 ∉ controlCommands := by
    simp only [controlCommands, List.mem_cons, List.not_mem_nil, or_false]
    omega
  simp [Block.unsupported, h0, hreq, hout]

theorem unsupported_pldm (h0 : h.byte 0 = 1) (hreq : bit (h.byte 1) 7 = true) (hcmd : h.byte 3 ∉ pldmCommands (h.byte 2 % 64)) :
    b.unsupported h = some (b.pldmReply h (h.byte 2 % 64) (h.byte 3) 5) := by
  simp [Block.unsupported, h0, hreq, hcmd]

theorem unsupported_spdm (h0 : h.byte 0 = 5) (hreq : 128 ≤ h.byte 2) (hcmd : h.byte 2 ∉ spdmRequests) :
    b.unsupported h = some (b.spdmError h unsupportedRequest (h.byte 2)) := by
  simp [Block.unsupported, h0, hreq, hcmd]

/-- No command of PLDM's two types, or one beyond them. -/
theorem notMem_pldmCommands {type cmd : Nat} (h : (type ≠ 0 ∧ type ≠ 5) ∨ (type = 0 ∧ 5 < cmd) ∨ (type = 5 ∧ 0x1D < cmd)) :
    cmd ∉ pldmCommands type := by
  obtain ⟨h0, h5⟩ | ⟨rfl, hc⟩ | ⟨rfl, hc⟩ := h
  · simp [pldmCommands, h0, h5]
  · rw [pldmCommands, if_pos rfl]
    simp only [List.mem_cons, List.not_mem_nil, or_false]
    omega
  · rw [pldmCommands, if_neg (by decide), if_pos rfl]
    simp only [List.mem_cons, List.not_mem_nil, or_false]
    omega

end

/-! ### A message that leaves -/

section
variable {dest source tag : Nat} {message : List Byte}

theorem length_mctpPackets : (mctpPackets dest source tag message).length = max 1 (ceilDiv message.length 64) := by
  simp [mctpPackets]

/-- Packet i of n: its transport header, and its part of the message. -/
def mctpPacket (dest source tag : Nat) (message : List Byte) (n i : Nat) : List Byte :=
  [1#8, byteOf dest, byteOf source, byteOf (128 * b2n (i == 0) + 64 * b2n (i + 1 == n) + 16 * (i % 4) + tag)] ++
    (message.drop (64 * i)).take 64

theorem mctpPacket_header {n i : Nat} : ((mctpPacket dest source tag message n i).take 4).map (·.toNat % 256) =
    [1, dest % 256, source % 256, (128 * b2n (i == 0) + 64 * b2n (i + 1 == n) + 16 * (i % 4) + tag) % 256] := by
  simp [mctpPacket, byteOf, BitVec.toNat_ofNat]

theorem mctpPackets_packet {i : Nat} (hi : i < (mctpPackets dest source tag message).length) :
    ∃ p : List Byte, (mctpPackets dest source tag message)[i]? = some (p, crc32c p) ∧ p.drop 4 = (message.drop (64 * i)).take 64 ∧
      (p.take 4).map (·.toNat % 256) = [1, dest % 256, source % 256,
        (128 * b2n (i == 0) + 64 * b2n (i + 1 == (mctpPackets dest source tag message).length) + 16 * (i % 4) + tag) % 256] := by
  rw [length_mctpPackets] at hi ⊢
  refine ⟨mctpPacket dest source tag message (max 1 (ceilDiv message.length 64)) i, ?_, rfl, mctpPacket_header⟩
  rw [mctpPackets, List.getElem?_map, List.getElem?_range hi]
  rfl

end

/-- A row of the Management Port shows its packet to `mctpIn`: the rows of the commands named, whatever each does with its own. -/
theorem exec_management {x : State} {t : Time} {m : MctpMsg} {i : Instr} (hserves : x.Serving)
    (hi : i = .getEndpointId t m ∨ i = .getTid t m ∨ i = .getStatus t m ∨ i = .getVersion t m ∨ (∃ op eid, i = .setEndpointId t m op eid) ∨
      (∃ n, i = .requestUpdate t m n) ∨ i = .cancelUpdate t m) :
    ∃ k, exec i x = .next (x.settled (x.blk.atTime t) ((x.seen t .mg).mctpIn m k)) := by
  obtain ⟨hdead, hsafe⟩ := hserves
  obtain rfl | rfl | rfl | rfl | ⟨op, eid, rfl⟩ | ⟨n, rfl⟩ | rfl := hi
  · exact ⟨_, (exec_getEndpointId ..).trans (congrArg _ (port_serving hdead hsafe))⟩
  · exact ⟨_, (exec_getTid ..).trans (congrArg _ (port_serving hdead hsafe))⟩
  · exact ⟨_, (exec_getStatus ..).trans (congrArg _ (port_serving hdead hsafe))⟩
  · exact ⟨_, (exec_getVersion ..).trans (congrArg _ (port_serving hdead hsafe))⟩
  · exact ⟨_, (exec_setEndpointId ..).trans (congrArg _ (port_serving hdead hsafe))⟩
  · exact ⟨_, (exec_requestUpdate ..).trans (congrArg _ (port_serving hdead hsafe))⟩
  · exact ⟨_, (exec_cancelUpdate ..).trans (congrArg _ (port_serving hdead hsafe))⟩

/-! ### The queries of MCTP control -/

section
variable {b c : Block} {m : MctpMsg} {h : MctpHead} (hears' : b.Hears m h c)
include hears'

theorem setEndpointId_taken {op eid : Nat} (hop : op ≤ 1) (hlow : 1 ≤ eid) (hhigh : eid < 255) : b.setEndpointId m op eid =
    ({ c with sb := { c.sb with eid := eid } } : Block).mctpReply h 1 0 (zeros 1 ++ le 1 eid ++ zeros 1) := by
  rw [Block.setEndpointId, hears hears']
  refine if_neg ?_
  simp only [Bool.or_eq_true, decide_eq_true_eq]
  omega

theorem setEndpointId_refused {op eid : Nat} (h' : 1 < op ∨ eid = 0 ∨ 255 ≤ eid) : b.setEndpointId m op eid = c.mctpReply h 1 2 := by
  rw [Block.setEndpointId, hears hears']
  refine if_pos ?_
  simpa only [Bool.or_eq_true, decide_eq_true_eq, or_assoc] using h'

theorem getMctpVersion_base {k : Nat} (hk : k = 0 ∨ k = 255) :
    b.getMctpVersion m k = c.mctpReply h 4 0 (le 1 1 ++ [0xF1, 0xF3, 0xFF, 0x00]) := by
  rw [Block.getMctpVersion, hears hears']
  exact if_pos (by simpa using hk)

theorem getMctpVersion_unsupported {k : Nat} (h0 : k ≠ 0) (h1 : k ≠ 1) (h5 : k ≠ 5) (h255 : k ≠ 255) :
    b.getMctpVersion m k = c.mctpReply h 4 0x80 := by
  rw [Block.getMctpVersion, hears hears']
  exact (if_neg (by simp [h0, h255])).trans (if_neg (by simp [h1, h5]))

/-! ### The queries of PLDM -/

theorem pldmQuery_answers (type cmd : Nat) (data : List Byte) : b.pldmQuery m type cmd data = c.pldmReply h type cmd 0 data := by
  rw [Block.pldmQuery, hears hears']

theorem getPldmVersion_update : b.getPldmVersion m 5 = c.pldmReply h 0 3 0
    (zeros 4 ++ le 1 5 ++ [0x00, 0xF0, 0xF1, 0xF1] ++ le 4 (crc32 [0x00, 0xF0, 0xF1, 0xF1])) := by
  rw [Block.getPldmVersion, hears hears']
  exact if_pos rfl

theorem getPldmVersion_other {k : Nat} (h0 : k ≠ 0) (h5 : k ≠ 5) : b.getPldmVersion m k = c.pldmReply h 0 3 0x83 := by
  rw [Block.getPldmVersion, hears hears']
  exact (if_neg h5).trans (if_neg h0)

theorem getPldmCommands_base : b.getPldmCommands m 0 = c.pldmReply h 0 5 0 (le 32 0x3C) := by
  rw [Block.getPldmCommands, hears hears']
  rfl

theorem getPldmCommands_update : b.getPldmCommands m 5 = c.pldmReply h 0 5 0 (le 32 0x3C190006) := by
  rw [Block.getPldmCommands, hears hears']
  rfl

theorem getPldmCommands_other {k : Nat} (h0 : k ≠ 0) (h5 : k ≠ 5) : b.getPldmCommands m k = c.pldmReply h 0 5 0x83 := by
  rw [Block.getPldmCommands, hears hears']
  exact (if_neg h0).trans (if_neg h5)

/-- The queries that read the block before the packet read the same after it. -/
theorem hears_reads : c.firmwareParameters = b.firmwareParameters ∧ c.updateStatus = b.updateStatus := by
  obtain ⟨-, ht, -⟩ := hears'
  obtain ⟨parts, n, hkeeps⟩ := mctpTake_keeps b m
  rw [ht] at hkeeps
  rw [show c = _ from hkeeps]
  exact ⟨rfl, rfl⟩

end

/-- Settles O55: the packets by what they open or continue, the commands outside the subsets, then each query. -/
theorem managementQueriesAreAnswered : Obligations.ManagementQueriesAreAnswered := by
  refine ⟨⟨fun b m => ?_, fun x t m i hserves => ?_⟩, fun x t m hserves => ?_, fun x t m hserves => ?_⟩
  · intro at_ source flow counted others size
    refine ⟨mctpTake_badCrc, fun hcrc hsop hnone => ?_, fun hcrc hsop hdest hnull => ?_, fun hcrc hsop hdest hnull => ?_,
      fun p hcrc hsop hdest hnull hfind => ?_⟩
    · refine mctpTake_noPart hcrc ((mctpPart_later hsop).trans (List.find?_eq_none.2 fun p hp => ?_))
      rw [Bool.and_eq_true, beq_iff_eq, beq_iff_eq]
      exact hnone p hp
    · refine mctpTake_elsewhere hcrc (mctpPart_first hsop) hdest (hnull.imp_right fun h4 h0 => h4 ?_)
      rw [show at_ 4 = _ from (openedPart_type m).symm, h0]
      rfl
    · refine ⟨mctpTake_first_unsupported hcrc hdest hnull hsop, mctpTake_first_completed hcrc hdest hnull hsop,
        fun htype heop hsize hroom => ?_, mctpTake_first_full hcrc hdest hnull hsop⟩
      have hnext : (at_ 3 / 16 + 1) % 4 = (mctpSeq m + 1) % 4 := by
        change _ = (at_ 3 / 16 % 4 + 1) % 4
        omega
      rw [hnext]
      exact mctpTake_first_opens hcrc hdest hnull hsop htype heop hsize hroom
    · exact ⟨mctpTake_later_outOfTurn hcrc hdest hnull hsop hfind, mctpTake_later_completed hcrc hdest hnull hsop hfind,
        mctpTake_later_continued hcrc hdest hnull hsop hfind⟩
  · intro b e hi hphase
    obtain ⟨k, hk⟩ := exec_management hserves hi
    refine ⟨fun c hc => ?_, fun h c hc => ⟨fun h0 hreq hcmd => ?_, fun h0 hreq hcmd => ?_, fun h0 hreq hcmd => ?_⟩⟩
    · rw [hk, mctpIn_none hphase hc]
    · rw [hk, mctpIn_unsupported hphase hc (unsupported_control h0 hreq hcmd)]
      rfl
    · rw [hk, mctpIn_unsupported hphase hc (unsupported_pldm h0 hreq (notMem_pldmCommands hcmd))]
      rfl
    · rw [hk, mctpIn_unsupported hphase hc (unsupported_spdm h0 hreq hcmd)]
      rfl
  · obtain ⟨hdead, hsafe⟩ := hserves
    intro b e bytes
    refine ⟨fun c dest type tag body => ⟨_, rfl, length_mctpPackets, fun i hi => mctpPackets_packet hi⟩, fun h c hh => ?_⟩
    intro answer
    refine ⟨fun op eid hop hlow hhigh => ?_, fun op eid hbad => ?_, ?_, ?_, fun k hk => ?_, fun k h0 h1 h5 h255 => ?_, ?_⟩
    · rw [exec_setEndpointId, port_serving hdead hsafe, setEndpointId_taken hh hop hlow hhigh]
      rfl
    · rw [exec_setEndpointId, port_serving hdead hsafe, setEndpointId_refused hh hbad]
      rfl
    · rw [exec_getEndpointId, port_serving hdead hsafe, Block.getEndpointId, hears hh]
      rfl
    · rw [exec_getEndpointUuid, port_serving hdead hsafe, Block.getEndpointUuid, hears hh]
      rfl
    · rw [exec_getMctpVersionSupport, port_serving hdead hsafe, getMctpVersion_base hh hk]
      rfl
    · rw [exec_getMctpVersionSupport, port_serving hdead hsafe, getMctpVersion_unsupported hh h0 h1 h5 h255]
      rfl
    · rw [exec_getMessageTypeSupport, port_serving hdead hsafe, Block.getMessageTypes, hears hh]
      rfl
  · obtain ⟨hdead, hsafe⟩ := hserves
    intro b e h c hh answer
    obtain ⟨hparameters, hstatus⟩ := hears_reads hh
    refine ⟨?_, ?_, fun k h0 h5 => ?_, ?_, ?_, ?_, fun k h0 h5 => ?_, ?_, ?_, ?_⟩
    · rw [exec_getTid, port_serving hdead hsafe, pldmQuery_answers hh]
      rfl
    · rw [exec_getPldmVersion, port_serving hdead hsafe, getPldmVersion_update hh]
      rfl
    · rw [exec_getPldmVersion, port_serving hdead hsafe, getPldmVersion_other hh h0 h5]
      rfl
    · rw [exec_getPldmTypes, port_serving hdead hsafe, pldmQuery_answers hh]
      rfl
    · rw [exec_getPldmCommands, port_serving hdead hsafe, getPldmCommands_base hh]
      rfl
    · rw [exec_getPldmCommands, port_serving hdead hsafe, getPldmCommands_update hh]
      rfl
    · rw [exec_getPldmCommands, port_serving hdead hsafe, getPldmCommands_other hh h0 h5]
      rfl
    · rw [exec_queryDeviceIdentifiers, port_serving hdead hsafe, pldmQuery_answers hh]
      rfl
    · rw [exec_getFirmwareParameters, port_serving hdead hsafe, pldmQuery_answers hh, hparameters]
      rfl
    · rw [exec_getStatus, port_serving hdead hsafe, pldmQuery_answers hh, hstatus]
      rfl

end Sys2Proof.Machine
end

section
/-! The firmware update (R395, R396, R420): each command of it by the state of the update. -/

namespace Sys2Proof.Machine
open Sys2Proof

section
variable {c b : Block} {m : MctpMsg} {h : MctpHead} (hh : c.Hears m h b) {u : Update}
include hh

theorem inUpdate_outside (hu : b.sb.update = none) (cmd : Nat) (k : MctpHead → Block → Update → Block) :
    c.inUpdate m cmd k = b.pldmReply h 5 cmd 0x80 := by
  rw [Block.inUpdate, hears hh, hu]

theorem inUpdate_running (hu : b.sb.update = some u) (cmd : Nat) (k : MctpHead → Block → Update → Block) : c.inUpdate m cmd k = k h b u := by
  rw [Block.inUpdate, hears hh, hu]

/-! ### RequestUpdate -/

theorem requestUpdate_disabled {n : Nat} (hdis : b.keys.updateDis = true) : c.requestUpdate m n = b.pldmReply h 5 0x10 0x8A := by
  rw [Block.requestUpdate, hears hh]
  exact if_pos hdis

theorem requestUpdate_running {n : Nat} (hdis : b.keys.updateDis = false) (hu : b.sb.update = some u) :
    c.requestUpdate m n = b.pldmReply h 5 0x10 0x81 := by
  rw [Block.requestUpdate, hears hh]
  exact (if_neg (by simp [hdis])).trans (if_pos (by simp [hu]))

theorem requestUpdate_opens {n : Nat} (hdis : b.keys.updateDis = false) (hu : b.sb.update = none) (hn : 64 ≤ n) :
    c.requestUpdate m n = (b.setUpdate (some ⟨h.source, .learn, min n 4096, 0, 0, 0, [], false⟩) 0).pldmReply h 5 0x10 0 (zeros 3) := by
  rw [Block.requestUpdate, hears hh]
  exact (if_neg (by simp [hdis])).trans ((if_neg (by simp [hu])).trans (if_neg (not_lt.2 hn)))

/-! ### The component and its data -/

theorem passComponent_learn (hu : b.sb.update = some u) (hphase : u.phase = .learn) (last : Bool) : c.passComponent m 0x000A 0xCE11 last =
    (if last then b.setUpdate (some { u with phase := .ready }) 0 else b).pldmReply h 5 0x13 0 [0, 0] := by
  rw [Block.passComponent, inUpdate_running hh hu]
  exact if_neg (by simp [hphase])

theorem updateComponent_ready (hu : b.sb.update = some u) (hphase : u.phase = .ready) {n : Nat} (hmin : 256 + 0x100000 ≤ n)
    (hmax : n ≤ 256 + 0x300000) :
    let s := match b.sb.slot with
      | some r => 1 - r
      | none => 0
    c.updateComponent m 0x000A 0xCE11 n =
      ((b.setUpdate (some { u with phase := .erasing, slot := s, size := n, got := 0, page := [], failed := false }) 0).flashPush
        (slotErases s)).pldmReply h 5 0x14 0 (zeros 8) := by
  have hsize : (decide (n < 256 + 0x100000) || decide (n > 256 + 0x300000)) = false := by
    simp only [Bool.or_eq_false_iff, decide_eq_false_iff_not]
    omega
  rw [Block.updateComponent, inUpdate_running hh hu]
  refine (if_neg (by simp [openForUpdate, hphase])).trans ((if_neg (by decide)).trans ((if_neg (by simp [hsize])).trans ?_))
  cases b.sb.slot <;> rfl

theorem firmwareData_none (hu : b.sb.update = none) (code : Nat) (d : List Byte) : c.firmwareData m code d = b := by
  rw [Block.firmwareData, hears hh, hu]

/-- The data asked for, whole: what fills pages of 256 bytes is programmed, and all of it with the last part. -/
theorem firmwareData_taken (hu : b.sb.update = some u) (hphase : u.phase = .download) (hfailed : u.failed = false)
    (hsource : h.source = u.agent) (hqueue : b.sb.queue = []) {d : List Byte} (hlen : d.length = min u.maxTransfer (u.size - u.got)) :
    let all := u.page ++ d
    let whole := if u.size ≤ u.got + d.length then all.length else all.length / 256 * 256
    let kept := { b with sb := { b.sb with update := some { u with got := u.got + d.length, page := all.drop whole } } }
    let programs := programsOf .update (whole / 256 + 2) (slotBase u.slot + u.got - u.page.length) (all.take whole)
    c.firmwareData m 0 d = if programs.isEmpty then kept.requestData { u with got := u.got + d.length, page := all.drop whole }
      else kept.flashPush programs := by
  rw [Block.firmwareData, hears hh, hu]
  refine (if_neg (by simp [hphase, hfailed, hsource, hqueue])).trans ((if_neg (by simp [hlen])).trans ?_)
  rw [← hlen, List.take_length]

/-! ### Activation and the cancels -/

theorem activateFirmware_activate (hu : b.sb.update = some u) (hphase : u.phase = .activate) (self : Bool) : c.activateFirmware m self =
    if self then b.pldmReply h 5 0x1A 0x8C else (b.endUpdate 1).pldmReply h 5 0x1A 0 (zeros 2) := by
  rw [Block.activateFirmware, inUpdate_running hh hu]
  exact if_pos (by simp [hphase])

theorem cancelComponent_idle (hu : b.sb.update = some u) (hphase : u.phase.code < 3) : c.cancelComponent m = b.pldmReply h 5 0x1C 0x84 := by
  rw [Block.cancelComponent, inUpdate_running hh hu]
  exact if_pos hphase

theorem cancelComponent_transfer (hu : b.sb.update = some u) (hphase : ¬ u.phase.code < 3) : c.cancelComponent m =
    ((b.dropTransfer u).setUpdate (some { u with phase := .ready, failed := false, size := 0, got := 0, page := [] }) 0).pldmReply h 5 0x1C 0 := by
  rw [Block.cancelComponent, inUpdate_running hh hu]
  exact if_neg hphase

theorem cancelUpdate_idle (hu : b.sb.update = some u) (hphase : u.phase.code < 3) :
    c.cancelUpdate m = (b.endUpdate 2).pldmReply h 5 0x1D 0 (zeros 9) := by
  rw [Block.cancelUpdate, inUpdate_running hh hu]
  dsimp only
  rw [if_pos hphase]

end

/-- With no flash command left, nothing of a transfer waits. -/
theorem dropTransfer_idle {b : Block} (hqueue : b.sb.queue = []) (u : Update) : b.dropTransfer u = b := by
  have hkept : ({ b with sb := { b.sb with queue := [] } } : Block) = b := by rw [← hqueue]
  rw [Block.dropTransfer, hqueue]
  exact hkept

/-- Settles O56, command by command and state by state. -/
theorem updatesFollowTheirStates : Obligations.UpdatesFollowTheirStates := by
  intro x t m hserves p e h b hh answer
  obtain ⟨hdead, hsafe⟩ := hserves
  refine ⟨fun n hdis => ?_, fun n u hdis hu => ?_, fun n hdis hu hn => ?_, fun hu => ⟨fun c i l => ?_, fun c i n => ?_, fun f => ?_, ?_, ?_,
    fun c d => ?_⟩, fun u hu hphase => ⟨?_, ?_⟩, fun u n hu hphase hmin hmax => ?_, fun u d hu hphase hfailed hsource hqueue hlen => ?_,
    fun u hu hphase => ⟨?_, ?_⟩, fun u hu hphase hqueue => ?_, fun u hu hphase => ?_⟩
  · rw [exec_requestUpdate, port_serving hdead hsafe, requestUpdate_disabled hh hdis]
    rfl
  · rw [exec_requestUpdate, port_serving hdead hsafe, requestUpdate_running hh hdis hu]
    rfl
  · rw [exec_requestUpdate, port_serving hdead hsafe, requestUpdate_opens hh hdis hu hn]
    rfl
  · rw [exec_passComponentTable, port_serving hdead hsafe, Block.passComponent, inUpdate_outside hh hu]
    rfl
  · rw [exec_updateComponent, port_serving hdead hsafe, Block.updateComponent, inUpdate_outside hh hu]
    rfl
  · rw [exec_activateFirmware, port_serving hdead hsafe, Block.activateFirmware, inUpdate_outside hh hu]
    rfl
  · rw [exec_cancelUpdateComponent, port_serving hdead hsafe, Block.cancelComponent, inUpdate_outside hh hu]
    rfl
  · rw [exec_cancelUpdate, port_serving hdead hsafe, Block.cancelUpdate, inUpdate_outside hh hu]
    rfl
  · rw [exec_firmwareData, port_serving hdead hsafe, firmwareData_none hh hu]
  · rw [exec_passComponentTable, port_serving hdead hsafe, passComponent_learn hh hu hphase]
    rfl
  · rw [exec_passComponentTable, port_serving hdead hsafe, passComponent_learn hh hu hphase]
    rfl
  · rw [exec_updateComponent, port_serving hdead hsafe, updateComponent_ready hh hu hphase hmin hmax]
    rfl
  · rw [exec_firmwareData, port_serving hdead hsafe, firmwareData_taken hh hu hphase hfailed hsource hqueue hlen]
    simp only [List.isEmpty_iff]
    rfl
  · rw [exec_activateFirmware, port_serving hdead hsafe, activateFirmware_activate hh hu hphase]
    rfl
  · rw [exec_activateFirmware, port_serving hdead hsafe, activateFirmware_activate hh hu hphase]
    rfl
  · rw [exec_cancelUpdateComponent, port_serving hdead hsafe, cancelComponent_transfer hh hu (by rw [hphase]; decide),
      dropTransfer_idle hqueue]
    rfl
  · have hcode : u.phase.code < 3 := by obtain hp | hp | hp := hphase <;> (rw [hp]; decide)
    refine ⟨?_, ?_⟩
    · rw [exec_cancelUpdateComponent, port_serving hdead hsafe, cancelComponent_idle hh hu hcode]
      rfl
    · rw [exec_cancelUpdate, port_serving hdead hsafe, cancelUpdate_idle hh hu hcode]
      rfl

end Sys2Proof.Machine
end

section
/-! SPDM requests (R397, R398, Tables 14-7 and 14-8): the connection in its order, then the chain, the signatures and a new chain. -/

namespace Sys2Proof.Machine
open Sys2Proof

section
variable {q b : Block} {m : MctpMsg} {h : MctpHead} (hh : q.Hears m h b)
include hh

/-! ### The connection -/

theorem negotiated_settled (hs : b.sb.spdm = .negotiated) (k : MctpHead → Block → Block) : q.negotiated m k = k h b := by
  rw [Block.negotiated, hears hh]
  exact if_pos (by rw [hs]; rfl)

theorem negotiated_early (hs : b.sb.spdm ≠ .negotiated) (k : MctpHead → Block → Block) : q.negotiated m k = b.spdmError h unexpectedRequest := by
  rw [Block.negotiated, hears hh]
  exact if_neg (by simpa using hs)

theorem spdmCapabilities_version (hs : b.sb.spdm = .version) : q.spdmCapabilities m =
    ({ (b.freeNat 256).2 with sb := { (b.freeNat 256).2.sb with spdm := .capabilities } } : Block).spdmReply h 0x61 0 0
      (zeros 1 ++ le 1 (b.freeNat 256).1 ++ zeros 2 ++ le 4 0x80016 ++ le 4 4352 ++ le 4 4352) := by
  rw [Block.spdmCapabilities, hears hh]
  exact if_neg (by simp [hs])

theorem spdmCapabilities_early (hs : b.sb.spdm ≠ .version) : q.spdmCapabilities m = b.spdmError h unexpectedRequest := by
  rw [Block.spdmCapabilities, hears hh]
  exact if_pos (by simpa using hs)

variable {asym hash : Nat}

theorem spdmAlgorithms_settled (hs : b.sb.spdm = .capabilities) (hasym : bit asym 7 = true) (hhash : bit hash 1 = true) :
    q.spdmAlgorithms m asym hash = ({ b with sb := { b.sb with spdm := .negotiated } } : Block).spdmReply h 0x63 0 0
      (le 2 36 ++ le 1 1 ++ zeros 1 ++ le 4 0x04 ++ le 4 0x80 ++ le 4 0x02 ++ zeros 16) := by
  rw [Block.spdmAlgorithms, hears hh]
  exact (if_neg (by simp [hs])).trans (if_neg (by simp [hasym, hhash]))

theorem spdmAlgorithms_early (hs : b.sb.spdm ≠ .capabilities) : q.spdmAlgorithms m asym hash = b.spdmError h unexpectedRequest := by
  rw [Block.spdmAlgorithms, hears hh]
  exact if_pos (by simpa using hs)

/-! ### The chain, the signatures and a new chain -/

variable (hs : b.sb.spdm = .negotiated)
include hs

theorem spdmDigests_none (hc : b.sb.chain = none) : q.spdmDigests m = b.spdmReply h 0x01 0 0 := by
  rw [Block.spdmDigests, negotiated_settled hh hs, hc]

theorem spdmDigests_some {c : List Byte} (hc : b.sb.chain = some c) : q.spdmDigests m = b.spdmReply h 0x01 0 1 (sha384 c) := by
  rw [Block.spdmDigests, negotiated_settled hh hs, hc]

theorem spdmCertificate_part {c : List Byte} {o n : Nat} (hc : b.sb.chain = some c) (ho : o < c.length) (hn : n ≤ c.length - o)
    (hmax : n ≤ 4344) : q.spdmCertificate m 0 o n = b.spdmReply h 0x02 0 0 (le 2 n ++ le 2 (c.length - o - n) ++ (c.drop o).take n) := by
  have hpart : min (min n (c.length - o)) 4344 = n := by rw [min_eq_left hn, min_eq_left hmax]
  rw [Block.spdmCertificate, negotiated_settled hh hs, hc]
  refine (if_neg (by simp [ho])).trans ?_
  rw [hpart]

theorem spdmChallenge_signed {c : List Byte} (hc : b.sb.chain = some c) :
    let nonce := b.freeBytes 32
    let sig := nonce.2.identitySign
    q.spdmChallenge m 0 0 = sig.2.spdmReply h 0x03 0 1 (sha384 c ++ nonce.1 ++ [] ++ zeros 2 ++ sig.1) := by
  rw [Block.spdmChallenge, negotiated_settled hh hs, hc]
  rfl

theorem spdmMeasurements_one {i : Nat} (hlow : 1 ≤ i) (hhigh : i ≤ 4) :
    let v := b.measurement i
    let blocks := measurementBlock i v.1
    let nonce := v.2.freeBytes 32
    let sig := nonce.2.identitySign
    q.spdmMeasurements m 0 i true = sig.2.spdmReply h 0x60 0 0 (le 1 1 ++ le 3 blocks.length ++ blocks ++ nonce.1 ++ zeros 2 ++ sig.1) := by
  have h0 : i ≠ 0 := by omega
  have h255 : i ≠ 255 := by omega
  rw [Block.spdmMeasurements, negotiated_settled hh hs]
  refine (if_neg (by decide)).trans ((if_neg (by simp [hhigh])).trans ?_)
  rw [if_neg h0, if_neg h255, if_neg h0]
  rfl

theorem spdmSetCertificate_starts {c : List Byte} (hw : b.keys.certWrite = true) (hc : c ≠ []) (hmax : c.length ≤ 65536)
    (hidle : b.sb.chainWrite = none) : q.spdmSetCertificate m 0 c =
      ({ b with sb := { b.sb with chainWrite := some (h.source, h.tag, c) } } : Block).flashPush
        ({ erase := true, addr := certBase, data := [], use := .certificate } :: programsOf .certificate 257 certBase c) := by
  rw [Block.spdmSetCertificate, negotiated_settled hh hs]
  exact (if_neg (by simp [hw])).trans ((if_neg (by simp [hc, hmax])).trans (if_neg (by simp [hidle])))

end

/-- Settles O57, request by request, in the order of a connection. -/
theorem spdmRequestsAreAnswered : Obligations.SpdmRequestsAreAnswered := by
  intro x t m hserves q e h b hh answer
  obtain ⟨hdead, hsafe⟩ := hserves
  refine ⟨?_, fun hs => ?_, fun asym hash hs hasym hhash => ?_, fun hs => ?_, fun asym hash hs => ?_,
    fun hs => ⟨?_, fun c s => ?_, fun c o l => ?_, fun c o f => ?_, fun c d => ?_⟩, fun hs hc => ?_,
    fun c hs hc => ⟨?_, fun o n ho hn hmax => ?_, ?_⟩, fun i hs hlow hhigh => ?_, fun c hs hw hc hmax hidle => ?_⟩
  · rw [exec_getVersion, port_serving hdead hsafe, Block.spdmVersion, hears hh]
    rfl
  · rw [exec_getCapabilities, port_serving hdead hsafe, spdmCapabilities_version hh hs]
    rfl
  · rw [exec_negotiateAlgorithms, port_serving hdead hsafe, spdmAlgorithms_settled hh hs hasym hhash]
    rfl
  · rw [exec_getCapabilities, port_serving hdead hsafe, spdmCapabilities_early hh hs]
    rfl
  · rw [exec_negotiateAlgorithms, port_serving hdead hsafe, spdmAlgorithms_early hh hs]
    rfl
  · rw [exec_getDigests, port_serving hdead hsafe, Block.spdmDigests, negotiated_early hh hs]
    rfl
  · rw [exec_challenge, port_serving hdead hsafe, Block.spdmChallenge, negotiated_early hh hs]
    rfl
  · rw [exec_getCertificate, port_serving hdead hsafe, Block.spdmCertificate, negotiated_early hh hs]
    rfl
  · rw [exec_getMeasurements, port_serving hdead hsafe, Block.spdmMeasurements, negotiated_early hh hs]
    rfl
  · rw [exec_setCertificate, port_serving hdead hsafe, Block.spdmSetCertificate, negotiated_early hh hs]
    rfl
  · rw [exec_getDigests, port_serving hdead hsafe, spdmDigests_none hh hs hc]
    rfl
  · rw [exec_getDigests, port_serving hdead hsafe, spdmDigests_some hh hs hc]
    rfl
  · rw [exec_getCertificate, port_serving hdead hsafe, spdmCertificate_part hh hs hc ho hn hmax]
    rfl
  · rw [exec_challenge, port_serving hdead hsafe, spdmChallenge_signed hh hs hc]
    rfl
  · rw [exec_getMeasurements, port_serving hdead hsafe, spdmMeasurements_one hh hs hlow hhigh]
    rfl
  · rw [exec_setCertificate, port_serving hdead hsafe, spdmSetCertificate_starts hh hs hw hc hmax hidle]

end Sys2Proof.Machine
end

section
/-! The flash commands, the persistent log's flush and the census (R405, R406, R411, R462). -/

namespace Sys2Proof.Machine
open Sys2Proof

section
variable {b : Block} {c : FlashCmd} {rest : List FlashCmd}

/-! ### The running flash command -/

/-- The running command has left the queue, and the next one starts. -/
def Block.flashTaken (b : Block) (rest : List FlashCmd) : Block :=
  { b with sb := { b.sb with queue := rest, flashBusy := false, startedAt := b.now } }

theorem flashNext_idle (h : b.sb.queue = []) (k : Block → FlashCmd → Block) : b.flashNext k = b := by rw [Block.flashNext, h]

theorem flashNext_running (h : b.sb.queue = c :: rest) (k : Block → FlashCmd → Block) : b.flashNext k = k (b.flashTaken rest) c := by
  rw [Block.flashNext, h]
  rfl

theorem flashDone_idle (h : b.sb.queue = []) (ok : Bool) : b.flashDone ok = b := flashNext_idle h _

theorem flashDone_well (h : b.sb.queue = c :: rest) : b.flashDone true = (b.flashTaken rest).flashEffect c := flashNext_running h _

theorem flashDone_failed (h : b.sb.queue = c :: rest) : b.flashDone false = (b.flashTaken rest).flashFault c := flashNext_running h _

theorem flashEffect_log (huse : c.use = .log) (herase : c.erase = false) : b.flashEffect c =
    { b.flashProgram c.addr c.data with sb := { (b.flashProgram c.addr c.data).sb with plog := (b.flashProgram c.addr c.data).sb.plog ++ c.records } } := by
  rw [Block.flashEffect, herase, huse]
  exact if_neg (by simp [herase])

theorem flashEffect_boot (huse : c.use = .boot) (herase : c.erase = false) : b.flashEffect c = (b.flashProgram c.addr c.data).raiseCounter := by
  rw [Block.flashEffect, herase, huse]
  rfl

theorem flashFault_boot (huse : c.use = .boot) :
    b.flashFault c = (b.flashSpoil c).logRec srcSignalBox 0x0150 2 [if c.erase then 1 else 2, c.addr] := by
  rw [Block.flashFault, huse]

/-! ### Its limit -/

theorem flashTimeout_over (h : b.sb.queue = c :: rest) (hnow : b.sb.startedAt + (if c.erase then 2000000000 else 5000000) ≤ b.now) :
    b.flashTimeout = (b.flashTaken rest).flashFault c := by
  rw [Block.flashTimeout, if_neg, flashNext_running h]
  rw [h]
  exact not_lt.2 hnow

theorem flashTimeout_within (h : b.sb.queue = c :: rest) (hnow : b.now < b.sb.startedAt + (if c.erase then 2000000000 else 5000000)) :
    b.flashTimeout = b := by
  refine if_pos ?_
  rw [h]
  exact hnow

/-! ### The log and the census -/

theorem flushDue_due (hphase : b.sb.phase = .firmware) (hstage : b.sb.stage ≠ [])
    (hdue : 16 ≤ b.sb.stage.length ∨ b.sb.stagedAt + 10000000 ≤ b.now) : b.flushDue = b.flushLog := if_pos (by simp [hphase, hstage, hdue])

theorem flushDue_empty (hstage : b.sb.stage = []) : b.flushDue = b := if_neg (by simp [hstage])

theorem censusSnapshot_due (hon : b.obs.censusOn = true) (hdue : b.obs.censusAt + b.obs.censusInterval ≤ b.now) (hcap : 0 < b.obs.censusCap) :
    b.censusSnapshot =
      let W := b.write (b.obs.censusAddr + b.obs.censusWrite % b.obs.censusCap * 34880) b.censusSnapshotBytes
      { W with obs := { W.obs with censusWrite := add32 b.obs.censusWrite 1, censusAt := b.now, waits := [], busy := [] } } := by
  have hmax : max 1 b.obs.censusCap = b.obs.censusCap := max_eq_right hcap
  rw [Block.censusSnapshot, if_neg (by simp [hon, hdue]), hmax]
  rfl

theorem censusSnapshot_idle (h : b.obs.censusOn = false ∨ b.now < b.obs.censusAt + b.obs.censusInterval) : b.censusSnapshot = b :=
  if_pos (by simpa using h)

end

/-- Settles O58, event by event. -/
theorem flashAndCensusEventsTakeEffect : Obligations.FlashAndCensusEventsTakeEffect := by
  intro x t hserves p b
  obtain ⟨hdead, hsafe⟩ := hserves
  refine ⟨fun c rest hq => ?_, fun ok hq => ?_, fun c rest hq hnow => ?_, fun c rest hq hnow => ?_, fun hphase hstage hdue => ?_,
    fun hstage => ?_, fun hon hdue hcap => ?_, fun hidle => ?_⟩
  · refine ⟨fun huse herase => ?_, fun huse herase => ?_, fun huse => ?_⟩
    · rw [exec_flashCommandDone, port_serving hdead hsafe, flashDone_well hq, flashEffect_log huse herase]
      rfl
    · rw [exec_flashCommandDone, port_serving hdead hsafe, flashDone_well hq, flashEffect_boot huse herase]
      rfl
    · rw [exec_flashCommandDone, port_serving hdead hsafe, flashDone_failed hq, flashFault_boot huse]
      rfl
  · rw [exec_flashCommandDone, port_serving hdead hsafe, flashDone_idle hq]
  · rw [exec_flashCommandTimeout, event_live hdead, flashTimeout_over hq hnow]
    rfl
  · rw [exec_flashCommandTimeout, event_live hdead, flashTimeout_within hq hnow]
  · rw [exec_persistentLogFlush, event_live hdead, flushDue_due hphase hstage hdue]
  · rw [exec_persistentLogFlush, event_live hdead, flushDue_empty hstage]
  · rw [exec_censusSnapshot, event_live hdead, censusSnapshot_due hon hdue hcap]
  · rw [exec_censusSnapshot, event_live hdead, censusSnapshot_idle hidle]

end Sys2Proof.Machine
end

section
/-! Storage errors, the Signal Box's events, the time base and the port clocks (R368, R374, R377, R380, R402, R423 to R425, R433, R458). -/

namespace Sys2Proof.Machine
open Sys2Proof

section
variable {b : Block}

/-! ### Storage errors -/

theorem foundBad_passing (h : b.flt.diag ≠ 3) (unit : Nat) :
    b.foundBad unit = { b with flt := { b.flt with diag := 3, diagUnit := unit, cold := true } } := by
  have hdiag : b.diagFail unit = { b with flt := { b.flt with diag := 3, diagUnit := unit } } := if_neg h
  rw [Block.foundBad, hdiag]

/-- A finding makes a sweep FAIL that has not ended, and is nothing more elsewhere. -/
theorem sweepFinding_eq (unit : Nat) : b.sweepFinding unit =
    if b.cp.state = .bufferStop ∧ b.flt.diag < 2 then { b with flt := { b.flt with diag := 3, diagUnit := unit, cold := true } } else b := by
  simp only [Block.sweepFinding, Bool.and_eq_true, beq_iff_eq, decide_eq_true_eq]
  by_cases h : b.cp.state = .bufferStop ∧ b.flt.diag < 2
  · rw [if_pos h, if_pos h, foundBad_passing (by omega)]
  · rw [if_neg h, if_neg h]

theorem entryError_first {slot : Nat} {e : Entry} (hrun : b.cp.state = .running) (he : Tab.get? slot b.gr.entries = some e)
    (hfirst : Tab.getD (slot / 2048) [] b.flt.passEntries = []) :
    let logged := b.logRec srcGranary 0x0101 2 [slot, slot / 2048]
    b.entryError slot false =
      ({ logged with flt := { logged.flt with passEntries := Tab.set (slot / 2048) [slot] b.flt.passEntries } } : Block).lose e.handle 1 := by
  intro logged
  unfold Block.entryError
  extract_lets bank found old seen _ kept _ lost
  have hold : old = [] := hfirst
  have hseen : seen = [slot] := by simp only [seen, hold]; rfl
  have hkept : kept = { logged with flt := { logged.flt with passEntries := Tab.set (slot / 2048) [slot] b.flt.passEntries } } := by
    simp only [kept, hseen]
    rfl
  have hstate : ¬ (kept.cp.state == .bufferStop) = true := by simp [show kept.cp.state = _ from hrun]
  have hentry : Tab.get? slot kept.gr.entries = some e := he
  have hlost : lost = kept.lose e.handle 1 := by
    simp only [lost, hentry]
    exact if_neg hstate
  rw [if_neg (by simp [hseen]), hlost, hkept]

/-- The line that is asked for again stands at an address that nothing fixes (log entry 120). -/
theorem refetch_eq (cache line : Nat) : b.refetch cache line = ({ b with fresh := b.fresh + 1 } : Block).ask
    ((if cache = 0 then 0 else if cache = 1 then 16 else 32) + line % 16) (64 * (b.freeNat (2 ^ 58)).1) 64 .other := rfl

/-! ### Sweep, watchdog and retention -/

section
variable (hstop : b.cp.state = .bufferStop) (hdiag : b.flt.diag = 1)
include hstop hdiag

theorem sweepDone_passed : b.sweepDone none = { b with flt := { b.flt with diag := 2 } } := if_neg (by simp [hstop, hdiag])

theorem sweepDone_failed (unit : Nat) :
    b.sweepDone (some unit) = { b with flt := { b.flt with diag := 3, diagUnit := unit, cold := true } } :=
  (if_neg (by simp [hstop, hdiag])).trans (foundBad_passing (by omega) unit)

end

theorem coreWatchdog_running {core : Nat} (pc : Nat) (hcore : core < 4) (hphase : b.sb.phase = .firmware)
    (hawake : b.sb.acks.getD core false = false) : b.coreWatchdog core pc = b.stop .watchdog srcSignalBox [core, pc] := by
  have hcore' : decide (core > 3) = false := decide_eq_false (by omega)
  rw [Block.coreWatchdog, hphase, hawake, hcore']
  rfl

theorem coreWatchdog_retained {core : Nat} (pc : Nat) (hack : b.sb.acks.getD core false = true) : b.coreWatchdog core pc = b := by
  rw [Block.coreWatchdog, hack, Bool.or_true]
  rfl

theorem retentionAck_eq (core : Nat) (level : Bool) :
    let set := { b with sb := { b.sb with acks := b.sb.acks.set core level } }
    b.retentionAck core level = if b.sb.acks.getD core false = true ∧ level = false then set.syncCore core else set := by
  simp only [Block.retentionAck, Bool.and_eq_true, Bool.not_eq_true']

/-! ### The time base and the port clocks -/

theorem tbSync_aligned (h : b.now % 1048576 = 0) : b.tbSync =
    { b with ap := { b.ap with tb := { b.ap.tb with valid := true, seen := true, armed := true, absent := false, lastSync := b.now } } } :=
  if_neg (by simp [h])

/-- The time base is lost. -/
def Block.withoutTimeBase (b : Block) (valid : Bool) : Block :=
  { b with ap := { b.ap with tb := { b.ap.tb with lost := true, absent := true, losses := satInc 65535 b.ap.tb.losses, valid } } }

theorem timeBaseLost_validLow : b.timeBaseLost .validLow = (b.withoutTimeBase false).stop .timeBase srcCoupling := by
  rw [Block.timeBaseLost, if_neg (by simp)]
  rw [show (b.ap.tb.seen || [TimeBaseFault.backwards, .jump, .frozen].contains .validLow) = b.ap.tb.seen from Bool.or_false _]
  rfl

theorem timeBaseLost_early (h : b.ap.tb.armed = false ∨ b.now < b.ap.tb.lastSync / 1048576 * 1048576 + 1048640) :
    b.timeBaseLost .syncMissing = b := by
  refine if_pos ?_
  obtain h | h := h
  · simp [h]
  · simp [h]

theorem timeBaseLost_missing (harmed : b.ap.tb.armed = true) (hlate : b.ap.tb.lastSync / 1048576 * 1048576 + 1048640 ≤ b.now) :
    b.timeBaseLost .syncMissing = (b.withoutTimeBase b.ap.tb.valid).stop .timeBase srcCoupling := by
  refine (if_neg (by simp [harmed, hlate])).trans ?_
  rw [show (b.ap.tb.seen || [TimeBaseFault.backwards, .jump, .frozen].contains .syncMissing) = b.ap.tb.seen from Bool.or_false _]
  rfl

theorem pclkLost_fabric (h : b.ap.lostClocks.contains .fp = false) : b.pclkLost .fp =
    ({ b with ap := { b.ap with lostClocks := b.ap.lostClocks ++ [.fp] } } : Block).stop .pclkLost srcFabric [5] := by
  rw [Block.pclkLost, h]
  rfl

theorem pclkLost_management (h : b.ap.lostClocks.contains .mg = false) : b.pclkLost .mg =
    ({ b with ap := { b.ap with lostClocks := b.ap.lostClocks ++ [.mg] } } : Block).logRec srcSignalBox 0x0031 1 [9] := by
  rw [Block.pclkLost, h]
  rfl

end

/-- Settles O41, event by event. -/
theorem storageErrorsAndSignalBoxEventsAct : Obligations.StorageErrorsAndSignalBoxEventsAct := by
  refine ⟨fun x t hlive => ?_, fun x t hlive => ?_, fun x t => ?_⟩
  · intro b hard soft
    refine ⟨fun unit addr fresh => ?_, fun unit addr bank => ?_, fun unit fresh => ?_, fun cache line fresh => ?_,
      fun slot e hrun he hfirst => ?_⟩
    · rw [exec_scrubSymbolCorrected, event_live hlive]
      rfl
    · rw [exec_scrubSymbolCorrected, event_live hlive]
      rfl
    · rw [exec_sramUncorrectable, event_live hlive]
      rfl
    · refine ⟨(((hard.logRec 3 0x0103 1 [cache, line]).sweepFinding 3).freeNat (2 ^ 58)).1, ?_⟩
      intro stream logged bad
      have hbad : logged.sweepFinding 3 = bad := sweepFinding_eq 3
      have hfresh : bad.fresh = b.fresh := by
        unfold bad
        split <;> rfl
      rw [exec_sramUncorrectable, event_live hlive]
      change Host.Outcome.next (x.settled b ((logged.sweepFinding 3).refetch cache line)) = _
      rw [refetch_eq, hbad, hfresh]
    · rw [exec_sramUncorrectable, event_live hlive]
      exact congrArg (fun c => Host.Outcome.next (x.settled b c)) (entryError_first (b := hard) hrun he hfirst)
  · intro b
    refine ⟨fun hstop hdiag => ⟨?_, fun u => ?_⟩, fun core pc hcore hphase hawake => ?_, fun core pc hack => ?_, fun core level => ?_, ?_, ?_⟩
    · rw [exec_diagSweepComplete, event_live hlive, sweepDone_passed hstop hdiag]
    · rw [exec_diagSweepComplete, event_live hlive, sweepDone_failed hstop hdiag]
    · rw [exec_coreWatchdog, event_live hlive, coreWatchdog_running pc hcore hphase hawake]
    · rw [exec_coreWatchdog, event_live hlive, coreWatchdog_retained pc hack]
    · rw [exec_retentionAck, event_live hlive, retentionAck_eq]
    · rw [exec_drbgHealthFail, event_live hlive]
      rfl
    · rw [exec_drbgReseed, event_live hlive]
      rfl
  · intro b lost
    refine ⟨fun hserves hnow => ?_, fun hlive => ?_, fun hlive hearly => ?_, fun hlive harmed hlate => ?_, fun hlive hfp => ?_,
      fun hlive hmg => ?_⟩
    · obtain ⟨hdead, hsafe⟩ := hserves
      rw [exec_tbSyncPulse, port_serving hdead hsafe, tbSync_aligned hnow]
    · rw [exec_timeBaseLost, event_live hlive, timeBaseLost_validLow]
      rfl
    · rw [exec_timeBaseLost, event_live hlive, timeBaseLost_early hearly]
    · rw [exec_timeBaseLost, event_live hlive, timeBaseLost_missing harmed hlate]
      rfl
    · rw [exec_pclkLost, event_live hlive, pclkLost_fabric hfp]
    · rw [exec_pclkLost, event_live hlive, pclkLost_management hmg]

end Sys2Proof.Machine
end

section
/-! Formation's messages and timers (R435, R438, R441, R474, R479 to R481): what is taken from a message, the lag of one junction, and
how a formation repeats itself or ends. -/

namespace Sys2Proof.Machine
open Sys2Proof

section
variable {x : State} {t : Nat} {rx : Rx} (hserves : x.Serving) (hwhole : x.blk.Whole rx 4)

/-- A packet that comes leaves the formation as it was. -/
theorem got_form (x : State) (t : Nat) (rx : Rx) : (x.got t rx 4).form = x.blk.form := rfl

include hserves hwhole

theorem exec_formReport_whole (r : FormReport) : exec (.formReport t rx r) x =
    .next (x.settled (x.blk.atTime t) ((x.got t rx 4).formReportIn x.view rx.src r)) := by
  rw [exec_formReport, port_rx_whole (k := fun m b => b.formReportIn m rx.src r) hserves hwhole]

theorem exec_formCommit_whole (c : FormCommit) : exec (.formCommit t rx c) x =
    .next (x.settled (x.blk.atTime t) ((x.got t rx 4).formCommitIn x.view rx.src c)) := by
  rw [exec_formCommit, port_rx_whole (k := fun m b => b.formCommitIn m rx.src c) hserves hwhole]

theorem exec_roster_whole (id : Nat) (es : List RosterEntry) : exec (.roster t rx id es) x =
    .next (x.settled (x.blk.atTime t) ((x.got t rx 4).rosterIn id es)) := by
  rw [exec_roster, port_rx_whole hserves hwhole]

end

/-- A fresh member without its formation: nothing is left of what the Coupling Unit had of it. -/
def Block.unformed (b : Block) : Block :=
  { ({ b with form := none } : Block).voidCommands with cp := { b.cp with
      term := 0, leadRank := 0, barred := [], applied := 0, digest := 0, complete := false, digests := [], firstJunction := true
      stepDone := none, ready := [], readySent := none, sent := none, lastReady := none, log := none, prevLog := none, parts := []
      leadDigest := none, leadTimer := none, logAskedAt := none, collect := none, staged := none, stagedNext := none, agreedAt := 0, stepEst := 0 } }

/-- A member that held state, back in Buffer Stop with its former causes. -/
def Block.stoppedAgain (b : Block) (f : Formation) : Block :=
  let c := { ({ b with form := none } : Block).voidCommands with flt := b.flt.back f.former }
  { c with cp := { c.cp with state := .bufferStop } }

/-- A report is kept by its rank, and the result is worked out. -/
def Block.reportKept (b : Block) (m : Memory) (src : Nat) (r : FormReport) : Block :=
  (b.setForm fun f => { f with reports := Tab.set src r f.reports }).workOut m

section
variable {b : Block} {f : Formation} (hf : b.form = some f) {m : Memory} {src : Nat} {r : FormReport} {c : FormCommit}
include hf

/-! ### Which messages are taken -/

theorem formIn_unfit (h : b.unfit = true) (id n : Nat) (k : Block → Block) : b.formIn id n k = b := by
  rw [Block.formIn, hf]
  exact if_pos h

section
variable (hfit : b.unfit = false)
include hfit

theorem formIn_own {id n : Nat} (hid : id = f.recoverId) (hn : n = b.cp.n) (k : Block → Block) : b.formIn id n k = k b := by
  rw [Block.formIn, hf]
  exact (if_neg (by simp [hfit])).trans (if_pos (by simp [hid, hn]))

theorem formIn_other {id n : Nat} (h : id ≠ f.recoverId ∨ n ≠ b.cp.n) (k : Block → Block) : b.formIn id n k = b.count 22 := by
  rw [Block.formIn, hf]
  refine (if_neg (by simp [hfit])).trans (if_neg fun hboth => ?_)
  simp only [Bool.and_eq_true, decide_eq_true_eq] at hboth
  obtain ⟨hid, hn⟩ := hboth
  exact h.elim (fun h => h hid.symm) (fun h => h hn)

/-! ### FORM_REPORT -/

theorem formReportIn_beyond (hid : r.recoverId = f.recoverId) (hn : r.n = b.cp.n) (hsrc : b.cp.n ≤ src) : b.formReportIn m src r = b := by
  rw [Block.formReportIn, formIn_own hf hfit hid hn]
  exact if_pos hsrc

theorem formReportIn_own (hid : r.recoverId = f.recoverId) (hn : r.n = b.cp.n) (hsrc : src < b.cp.n) : b.formReportIn m src r =
    (if r.oldState = true ∧ f.fresh = false ∧ f.committed = false then b.closeLag r.junction else b).reportKept m src r := by
  rw [Block.formReportIn, formIn_own hf hfit hid hn]
  refine (if_neg (not_le.2 hsrc)).trans ?_
  rw [hf]
  simp only [Option.any_some, Bool.and_eq_true, Bool.not_eq_true']
  rfl

/-! ### FORM_COMMIT and ROSTER -/

theorem formCommitIn_held (hid : c.recoverId = f.recoverId) (hn : c.n = b.cp.n) (hopen : f.committed = false) : b.formCommitIn m src c =
    ({ b with form := some { f with held := some { c with source := src } } } : Block).tryCommit m := by
  rw [Block.formCommitIn, formIn_own hf hfit hid hn]
  refine (if_neg (by simp [hf, hopen])).trans ?_
  rw [Block.setForm, hf]
  rfl

theorem formCommitIn_committed (hid : c.recoverId = f.recoverId) (hn : c.n = b.cp.n) (hdone : f.committed = true) :
    b.formCommitIn m src c = b := by
  rw [Block.formCommitIn, formIn_own hf hfit hid hn]
  exact if_pos (by simp [hf, hdone])

theorem rosterIn_joins {es : List RosterEntry} (hopen : f.committed = false) : b.rosterIn f.recoverId es =
    { b with form := some { f with roster := (f.roster.filter fun y => !(es.any fun e => e.handle == y.handle)) ++ es } } := by
  rw [Block.rosterIn, formIn_own hf hfit rfl rfl, Block.setForm, hf, Option.map_some, if_neg (by simp [hopen])]

end

/-! ### FORM_REPORT_REPEAT and FORMATION_TIMEOUT -/

theorem formReportRepeat_idle (h : b.firstApplied f = true ∨ b.unfit = true ∨ b.now < f.sentAt + 20000) : b.formReportRepeat = b := by
  rw [Block.formReportRepeat, hf]
  refine if_neg fun hdue => ?_
  simp only [Bool.and_eq_true, decide_eq_true_eq, Bool.not_eq_true'] at hdue
  obtain ⟨⟨hnow, hfirst⟩, hfit⟩ := hdue
  obtain h | h | h := h
  · exact Bool.false_ne_true (hfirst.symm.trans h)
  · exact Bool.false_ne_true (hfit.symm.trans h)
  · exact absurd hnow (not_le.2 h)

theorem formReportRepeat_due (hnow : f.sentAt + 20000 ≤ b.now) (hfirst : b.firstApplied f = false) (hfit : b.unfit = false) :
    b.formReportRepeat = ({ b with form := some { f with sentAt := b.now } } : Block).send none (.formReport (b.ownReport f)) := by
  have hdue : (decide (b.now ≥ f.sentAt + resendNs) && !b.firstApplied f && !b.unfit) = true := by
    rw [decide_eq_true (show b.now ≥ f.sentAt + resendNs from hnow), hfirst, hfit]
    rfl
  rw [Block.formReportRepeat, hf]
  refine (if_pos hdue).trans ?_
  rw [Block.sendReport, hf, Block.setForm, hf]
  rfl

theorem formationTimeout_early (h : b.now < f.since + 1000000000) : b.formationTimeout = b := by
  rw [Block.formationTimeout, hf]
  exact if_pos h

theorem formationTimeout_fresh (h : f.since + 1000000000 ≤ b.now) (hfresh : f.fresh = true) :
    b.formationTimeout = b.unformed.postDeferred (fun _ d => d.opcode == 0x0602) 0x0604 [] := by
  rw [Block.formationTimeout, hf]
  exact (if_neg (not_lt.2 h)).trans (if_pos hfresh)

theorem formationTimeout_former (h : f.since + 1000000000 ≤ b.now) (hold : f.fresh = false) :
    b.formationTimeout = (b.stoppedAgain f).postDeferred (fun _ d => d.opcode == 0x0602) 0x0601 [] := by
  rw [Block.formationTimeout, hf]
  exact (if_neg (not_lt.2 h)).trans (if_neg (by simp [hold]))

end

/-! ### The lag of one junction (R435) -/

section
variable {b : Block} {j : Nat}

theorem closeLag_held {l : JLog} {own : Ready} (hlog : b.cp.log = some l) (hsent : b.cp.sent = some own) (hl : l.junction = b.cp.applied + 1)
    (hj : j = l.junction) :
    let readies := own :: Tab.vals b.cp.ready
    let a := readies.foldl (fun m y => max m y.doneTime) 0
    let d := b.applyLog l a ((minBy before32 (readies.map (·.moveSeq))).getD b.pg.nextMoveSeq)
    b.closeLag j = (({ d with cp := { d.cp with ready := [], sent := none, readySent := none, lastReady := some own, stepDone := none
                                                complete := false } } : Block).logEffects b l a).sendReport := by
  rw [Block.closeLag, hlog, hsent]
  exact if_neg (by simp [hj, hl])

theorem closeLag_none (h : j ≠ b.cp.applied + 1 ∨ b.cp.sent = none ∨ ∀ l, b.cp.log = some l → l.junction ≠ j) : b.closeLag j = b := by
  unfold Block.closeLag
  split
  · next l own hlog hsent =>
    refine if_pos ?_
    simp only [Bool.or_eq_true, bne_iff_ne]
    obtain h | h | h := h
    · exact .inl h
    · rw [h] at hsent
      cases hsent
    · exact .inr (h l hlog)
  · rfl

end

/-- Settles O52: the messages by whose formation they are of, the lag by `closeLag`, then the two timers. -/
theorem formationCollectsReports : Obligations.FormationCollectsReports := by
  intro x t rx f hserves hwhole hform b result
  have hf : b.form = some f := (got_form x t rx).trans hform
  refine ⟨fun hunfit r c id es => ⟨?_, ?_, ?_⟩, fun hfit => ⟨fun r hid hn hsrc => ?_, fun r hid hn hsrc => ?_, fun r hother => ?_,
    fun c hid hn hopen => ?_, fun c hid hn hdone => ?_, fun c hother => ?_, fun es hopen => ?_⟩, ?_⟩
  · rw [exec_formReport_whole hserves hwhole, Block.formReportIn, formIn_unfit hf hunfit]
  · rw [exec_formCommit_whole hserves hwhole, Block.formCommitIn, formIn_unfit hf hunfit]
  · rw [exec_roster_whole hserves hwhole, Block.rosterIn, formIn_unfit hf hunfit]
  · intro kept
    refine ⟨fun l own hlog hsent hold hfresh hopen hl hj => ?_, fun hno => ?_⟩
    · intro readies a d
      rw [exec_formReport_whole hserves hwhole, formReportIn_own hf hfit hid hn hsrc, if_pos ⟨hold, hfresh, hopen⟩,
        closeLag_held hlog hsent hl hj]
      rfl
    · have hlag : (if r.oldState = true ∧ f.fresh = false ∧ f.committed = false then b.closeLag r.junction else b) = b := by
        split
        · next hold =>
          obtain ⟨hold, hfresh, hopen⟩ := hold
          refine closeLag_none ?_
          obtain h | h | h | h := hno
          · exact absurd (h.symm.trans hold) Bool.false_ne_true
          · exact absurd (hfresh.symm.trans h) Bool.false_ne_true
          · exact absurd (hopen.symm.trans h) Bool.false_ne_true
          · exact h
        · rfl
      rw [exec_formReport_whole hserves hwhole, formReportIn_own hf hfit hid hn hsrc, hlag]
      rfl
  · rw [exec_formReport_whole hserves hwhole, formReportIn_beyond hf hfit hid hn hsrc]
  · rw [exec_formReport_whole hserves hwhole, Block.formReportIn, formIn_other hf hfit hother]
  · rw [exec_formCommit_whole hserves hwhole, formCommitIn_held hf hfit hid hn hopen]
  · rw [exec_formCommit_whole hserves hwhole, formCommitIn_committed hf hfit hid hn hdone]
  · rw [exec_formCommit_whole hserves hwhole, Block.formCommitIn, formIn_other hf hfit hother]
  · rw [exec_roster_whole hserves hwhole, rosterIn_joins hf hfit hopen]
  · obtain ⟨hdead, -⟩ := hserves
    intro b result
    have hf : b.form = some f := hform
    refine ⟨fun hidle => ?_, fun hnow hfirst hfit => ?_, fun hnow => ?_, fun hearly => ?_⟩
    · rw [exec_formReportRepeat, event_live hdead, formReportRepeat_idle hf hidle]
    · rw [exec_formReportRepeat, event_live hdead, formReportRepeat_due hf hnow hfirst hfit]
    · cases hfresh : f.fresh with
      | true =>
        refine ⟨b.unformed, ?_, rfl, rfl, rfl, rfl, rfl, fun _ => ⟨rfl, rfl, rfl, rfl, rfl, rfl, rfl, rfl, rfl, rfl⟩, nofun⟩
        rw [exec_formationTimeout, event_live hdead, formationTimeout_fresh hf hnow hfresh]
        rfl
      | false =>
        refine ⟨b.stoppedAgain f, ?_, rfl, rfl, rfl, rfl, rfl, nofun, fun _ => ⟨rfl, rfl, rfl, rfl⟩⟩
        rw [exec_formationTimeout, event_live hdead, formationTimeout_former hf hnow hfresh]
        rfl
    · rw [exec_formationTimeout, event_live hdead, formationTimeout_early hf hearly]

end Sys2Proof.Machine
end

section
/-! Resets, their release, self-tests and test modes (R340, R372 to R376, R382, R394, R403, R409, R473, R474). -/

namespace Sys2Proof.Machine
open Sys2Proof

/-! ### What a reset leaves -/

section
variable {b c d : Block}

/-- With nothing to write or to read, the request channels stand still. -/
theorem memPump_idle (hw : b.mp.writeWait = []) (ha : b.mp.asks = []) : b.memPump = b := by
  have hwrites : b.issueWrites = b := by
    have hkept : ({ b with mp := { b.mp with writeWait := [] } } : Block) = b := by rw [← hw]
    rw [Block.issueWrites, hw]
    exact hkept
  rw [Block.memPump, hwrites]
  exact if_pos (by rw [ha]; rfl)

/-- A block with no write left over and no agent is put in place as it is. -/
theorem commit_quiet (x : State) (hp : b.posted = []) (ha : b.agent = 0) : x.commit b = { x with blk := b } := by
  have hkept : ({ b with posted := [], agent := 0 } : Block) = b := by rw [← hp, ← ha]
  rw [State.commit, hkept, hp]
  rfl

/-- What a reset input leaves stands as it is, where the reset has emptied the Memory Port. -/
theorem resetInput_quiet {x : State} {t : Nat} {f : Block → Block} (hw : (f (x.blk.atTime t)).mp.writeWait = [])
    (ha : (f (x.blk.atTime t)).mp.asks = []) (hp : (f (x.blk.atTime t)).posted = []) (hagent : (f (x.blk.atTime t)).agent = 0) :
    x.resetInput t f = { x with blk := f (x.blk.atTime t) } := by
  rw [State.resetInput, memPump_idle hw ha, commit_quiet x hp hagent]

/-! ### WRESET -/

/-- The two blocks differ at most in the Signal Box. -/
def Block.SameButBox (b c : Block) : Prop := c = { b with sb := c.sb }

theorem sameButBox_stageRecord (b : Block) (r : LogEntry) : b.SameButBox (b.stageRecord r) := by
  unfold Block.stageRecord
  extract_lets at_
  split
  · rfl
  · split <;> rfl

theorem Block.SameButBox.trans (h : b.SameButBox c) (k : c.SameButBox d) : b.SameButBox d := by
  unfold Block.SameButBox at *
  rw [k, h]

theorem sameButBox_restage (b : Block) : b.SameButBox b.restage := by
  unfold Block.restage
  extract_lets owed
  exact List.foldlRecOn (motive := b.SameButBox) owed _ rfl fun c hc x _ => hc.trans (sameButBox_stageRecord c x.2)

/-- Room for all of them: each record is staged after those before it. -/
theorem stage_foldl (l : List (Nat × LogEntry)) (b : Block) (h : b.sb.stage.length + l.length ≤ 256) :
    (l.foldl (fun (b : Block) x => b.stageRecord x.2) b).sb.stage = b.sb.stage ++ l.map (·.2) := by
  induction l generalizing b with
  | nil => exact (List.append_nil _).symm
  | cons x l ih =>
    rw [List.length_cons] at h
    have hstage : (b.stageRecord x.2).sb.stage = b.sb.stage ++ [x.2] := by
      rw [Block.stageRecord, if_pos (by omega)]
    rw [List.foldl_cons, ih _ (by rw [hstage, List.length_append, List.length_singleton]; omega), hstage, List.append_assoc]
    rfl

/-- With a ring not yet full and no record dropped, all its records are readable. -/
theorem volatileRecords_whole (hdrop : b.sb.dropped = []) (hlen : b.vlog.length ≤ 16384) :
    b.volatileRecords = ((List.range b.vlog.length).map fun i => 0 + i).zip b.vlog := by
  unfold Block.volatileRecords
  extract_lets from_
  have hfrom : from_ = 0 := Nat.sub_eq_zero_of_le hlen
  rw [hfrom, hdrop, Nat.sub_zero, List.drop_zero, List.filter_eq_self]
  exact fun _ _ => rfl

/-- Records of the ring that the persistent log lacks, among those to be copied. -/
def Block.owed (b : Block) : List (Nat × LogEntry) :=
  b.volatileRecords.filter fun x => persists x.2 && !b.sb.plog.any fun y => y.2 == x.2

theorem restage_stage (hstage : b.sb.stage = []) (hlen : b.owed.length ≤ 256) : b.restage.sb.stage = b.owed.map (·.2) := by
  have h := stage_foldl b.owed b (by rwa [hstage, List.length_nil, Nat.zero_add])
  rw [hstage, List.nil_append] at h
  unfold Block.restage
  extract_lets owed
  have howed : b.owed = owed := rfl
  rw [← howed]
  exact h

theorem owed_mem (hdrop : b.sb.dropped = []) (hlen : b.vlog.length ≤ 16384) {r : LogEntry} (hr : r ∈ b.vlog)
    (hsev : 2 ≤ r.sev) (hnew : ∀ y ∈ b.sb.plog, y.2 ≠ r) : r ∈ b.owed.map (·.2) := by
  have hmem : r ∈ b.volatileRecords.map Prod.snd := by
    rw [volatileRecords_whole hdrop hlen, List.map_snd_zip (by simp)]
    exact hr
  obtain ⟨x, hx, rfl⟩ := List.mem_map.1 hmem
  refine List.mem_map_of_mem (List.mem_filter.2 ⟨hx, ?_⟩)
  have hheld : (b.sb.plog.any fun y => y.2 == x.2) = false := List.any_eq_false.2 fun y hy => by simpa using hnew y hy
  have hpersists : persists x.2 = true := Bool.or_eq_true_iff.2 (.inl (decide_eq_true hsev))
  rw [hheld, hpersists]
  rfl

theorem length_owed_le (hdrop : b.sb.dropped = []) (hlen : b.vlog.length ≤ 16384) : b.owed.length ≤ b.vlog.length := by
  refine (List.length_filter_le ..).trans ?_
  rw [volatileRecords_whole hdrop hlen, List.length_zip]
  exact min_le_right ..

theorem transmit_keys (b : Block) (p : TxPacket) (rest : List TxPacket) : (b.transmit p rest).keys = b.keys := by
  unfold Block.transmit
  split
  · rfl
  · extract_lets _ left _ paid
    have hleft : left.keys = b.keys := rfl
    have hpaid : paid.keys = b.keys := rfl
    clear_value paid left
    split
    · dsimp only
      split
      · exact hpaid
      · exact hleft
    · split
      · exact hpaid
      · exact hpaid

theorem pump_keys (n : Nat) (b : Block) : (Block.pump n b).keys = b.keys := by
  induction n generalizing b with
  | zero => rfl
  | succ n ih =>
    rw [Block.pump]
    split
    · exact (ih _).trans (transmit_keys ..)
    · rfl

/-- What a warm reset finds: of a running block the HALT sent, of another one it as it was. -/
def Block.halted (b : Block) : Block :=
  if b.dead || b.ap.lostClocks.contains .fp then b else ((b.stop .warmReset srcSignalBox).orderRecords b.vlog.length).pumpAll

theorem halted_keys (b : Block) : b.halted.keys = b.keys := by
  unfold Block.halted
  split
  · rfl
  · have h := sameButStop_stop b .warmReset srcSignalBox []
    unfold Block.SameButStop at h
    refine (pump_keys ..).trans ?_
    change (b.stop .warmReset srcSignalBox).keys = b.keys
    rw [h]

/-- What a warm reset keeps, before its firmware stages the records that the persistent log lacks. -/
def Block.warmKept (b : Block) : Block :=
  let x := b.afterReset { Keys.reset with
    channel := b.keys.channel, tenant := b.keys.tenant, attempts := b.keys.attempts, locked := b.keys.locked
    testEntries := b.keys.testEntries }
  { x with vlog := b.vlog, sb := { x.sb with eid := b.sb.eid, seen := b.vlog.length, dropped := b.sb.dropped } }

theorem wreset_eq (b : Block) : b.wreset = b.halted.warmKept.restage := rfl

/-- A warm reset leaves nothing to write or to read, and no agent. -/
theorem wreset_quiet (b : Block) : b.wreset.mp.writeWait = [] ∧ b.wreset.mp.asks = [] ∧ b.wreset.posted = [] ∧ b.wreset.agent = 0 := by
  have h := sameButBox_restage b.halted.warmKept
  unfold Block.SameButBox at h
  rw [wreset_eq, h]
  exact ⟨rfl, rfl, rfl, rfl⟩

/-! ### RESET_RELEASE -/

/-- The receive credits have gone out (R340). -/
def Block.credited (b : Block) (ks : List (Nat × Nat)) : Block :=
  { b with out := if b.sb.safe then b.out else b.out ++ ks.map fun k => .credit k.1 k.2
           fab := { b.fab with given := ks.foldl (fun g k => g.set k.1 k.2) b.fab.given } }

theorem foldl_credit (ks : List (Nat × Nat)) (b : Block) :
    ks.foldl (fun (b : Block) x => { b.emit (.credit x.1 x.2) with fab := { b.fab with given := b.fab.given.set x.1 x.2 } }) b = b.credited ks := by
  induction ks generalizing b with
  | nil =>
    unfold Block.credited
    rw [List.map_nil, List.append_nil, ite_self]
    rfl
  | cons k ks ih =>
    rw [List.foldl_cons, ih]
    unfold Block.credited Block.emit
    dsimp only
    by_cases hs : b.sb.safe = true
    · rw [if_pos hs, if_pos hs, if_pos hs]
      rfl
    · rw [if_neg hs, if_neg hs, if_neg hs, List.append_assoc]
      rfl

/-- The block as the ROM selects a slot: its credits out and DEVICE_SECRET drawn. -/
def Block.romReady (b : Block) : Block :=
  let c := b.credited receiveCredits
  if c.keys.deviceSecret.isEmpty then { (c.freeBytes 32).2 with keys := { (c.freeBytes 32).2.keys with deviceSecret := (c.freeBytes 32).1 } } else c

/-- The block as it starts: its phase, the slot that runs and the copy of its payload in local memory. -/
def Block.started (b : Block) (p : BootPhase) (slot : Option Nat) (copy : List Byte) : Block :=
  { b with
    sb := { b.sb with phase := p, slot, localMem := copy }, flt := { b.flt with diag := if slot.isSome then 1 else 0 }
    ap := { b.ap with tb := { b.ap.tb with valid := true, seen := true } } }

theorem release_serving (f : Option Nat) (h : b.sb.phase = .firmware ∨ b.sb.phase = .recovery ∨ b.sb.phase = .test) : b.release f = b :=
  if_pos (by obtain h | h | h := h <;> simp [h])

/-- What the ROM's selection starts: the slot whose payload it has copied whole, or recovery. -/
def romStart : Block × Option Nat → Block
  | (f, some s) => if sha384 (f.slotPayload s) = (f.slotHeader s).payloadHash then f.started .firmware (some s) (f.slotPayload s)
      else f.started .recovery none (f.slotPayload s)
  | (f, none) => f.started .recovery none []

section
variable (hphase : b.sb.phase = .held ∨ b.sb.phase = .released)
include hphase

theorem release_memFail (a : Nat) : b.release (some a) = (b.romReady.started .recovery none []).logRec srcSignalBox 0 2 [a] := by
  unfold Block.release
  rw [if_neg (by obtain h | h := hphase <;> simp [h]), foldl_credit]
  rfl

theorem release_boot : b.release none = romStart (b.romReady.bootSelect 4) := by
  unfold Block.release
  rw [if_neg (by obtain h | h := hphase <;> simp [h]), foldl_credit]
  change (match b.romReady.bootSelect 4 with
    | (b, some s) => if sha384 (b.slotPayload s) = (b.slotHeader s).payloadHash then b.started .firmware (some s) (b.slotPayload s)
        else b.started .recovery none (b.slotPayload s)
    | (b, none) => b.started .recovery none []) = _
  obtain ⟨f, slot⟩ := b.romReady.bootSelect 4
  cases slot <;> rfl

end

end

/-! ### SELF_TEST_COMPLETE -/

section
variable {b : Block}

/-- The self-tests have ended. -/
def Block.testEnded (b : Block) : Block := { b with sb := { b.sb with tested := true } }

theorem testEnded_flashWord (a : Nat) : b.testEnded.flashWord a = b.flashWord a := rfl

/-- DIAG takes the result of the self-tests: the unit that failed, or a pass, the first FAIL standing. -/
def Block.testResult (b : Block) : Option Nat → Block
  | some u => if b.flt.diag = 3 then b else { b with flt := { b.flt with diag := 3, diagUnit := u } }
  | none => if b.flt.diag = 1 ∧ b.cp.state = .forming then { b with flt := { b.flt with diag := 2 } } else b

theorem selfTestDone_ended (h : b.sb.tested = true) (ok : Bool) (unit : Option Nat) : b.selfTestDone ok unit = b := if_pos (by simp [h])

section
variable (hphase : b.sb.phase = .firmware) (hopen : b.sb.tested = false)
include hphase hopen

theorem selfTestDone_failed (unit : Option Nat) : b.selfTestDone false unit = b.testEnded.testResult (some srcSignalBox) := by
  unfold Block.selfTestDone
  rw [if_neg (by simp [hphase, hopen])]
  rfl

theorem selfTestDone_passed {s : Nat} (hslot : b.sb.slot = some s) (unit : Option Nat) : b.selfTestDone true unit =
    (if b.flashWord (bootMarkAddr s) = 0 then b.testEnded.raiseCounter
      else b.testEnded.flashPush [{ erase := false, addr := bootMarkAddr s, data := le 8 0, use := .boot }]).testResult unit := by
  unfold Block.selfTestDone
  rw [if_neg (by simp [hphase, hopen])]
  extract_lets _ ended marked fail
  have hmarked : marked = if b.flashWord (bootMarkAddr s) = 0 then b.testEnded.raiseCounter
      else b.testEnded.flashPush [{ erase := false, addr := bootMarkAddr s, data := le 8 0, use := .boot }] := by
    have hended : ended = b.testEnded := rfl
    unfold marked
    rw [show ended.sb.slot = some s from hslot, hended]
    exact (if_neg (by decide)).trans (if_congr (by rw [testEnded_flashWord]) rfl rfl)
  have hfail : fail = unit := rfl
  rw [hfail, ← hmarked]
  clear_value marked
  cases unit with
  | none => exact if_congr (by simp) rfl rfl
  | some u => rfl

end

/-! ### Test modes and WS_SAFE -/

theorem testMode_again (h : b.sb.phase = .test) (mode : TestMode) : b.testMode mode =
    { b with sb := { b.sb with ir := testInstr mode }, keys := { b.keys with testEntries := b.keys.testEntries + 1 } } :=
  if_pos (by simp [h])

/-- The block with the instruction register of a test mode. -/
def Block.instructed (b : Block) (mode : TestMode) : Block := { b with sb := { b.sb with ir := testInstr mode } }

theorem testMode_entered (h : b.sb.phase ≠ .test) (mode : TestMode) :
    let s := ((b.instructed mode).stop .testMode srcSecurity [testCode mode]).pumpAll
    b.testMode mode = { s with
      keys := { s.keys with channel := [], tenant := [], testEntries := s.keys.testEntries + 1 }
      ses := s.ses.map fun y => (y.1, { y.2 with state := .closed, ks := [], current := none, deferred := [] })
      sb := { s.sb with phase := .test } } := if_neg (by simpa using h)

theorem live_phase (h : b.dead = false) : b.sb.phase ≠ .held ∧ b.sb.phase ≠ .test := by simpa [Block.dead] using h

theorem testEvent_acts {x : State} {t : Nat} (h : (x.blk.atTime t).sb.phase ≠ .held) (f : Block → Block) :
    x.testEvent t f = x.settled (x.blk.atTime t) (f (x.blk.atTime t)) := if_neg (by simpa using h)

theorem grant_safe (h : b.sb.safe = true) (g : Nat) : b.grant g = (0, 0) := if_pos (by simp [h])

theorem haIrq_safe (h : b.sb.safe = true) : b.haIrq = [false, false, false, false] := if_pos h

theorem retReq_safe (h : b.sb.safe = true) (core : Nat) : b.retReq core = false := by
  rw [Block.retReq, h, Bool.not_true, Bool.and_false, Bool.false_and]

end

/-- Settles O59: the resets by what they leave, the release by what the ROM finds, then the self-tests and the test modes. -/
theorem resetsAndTestModesTakeEffect : Obligations.ResetsAndTestModesTakeEffect := by
  refine ⟨fun x t hinv => ?_, fun x t => ?_⟩
  · intro b kept otp
    refine ⟨?_, ?_, fun c hstage hdrop hlen r hr hsev hnew => ?_, fun f hphase => ?_, fun hphase => ?_⟩
    · rw [exec_poreset, resetInput_quiet (f := Block.poreset) rfl rfl rfl rfl]
      rfl
    · intro s h
      have hkeys : h.keys = b.keys := halted_keys b
      refine ⟨hkeys, ?_⟩
      obtain ⟨hw, ha, hp, hagent⟩ := wreset_quiet (x.blk.atTime t)
      rw [exec_wreset, resetInput_quiet (x := x) (t := t) (f := Block.wreset) hw ha hp hagent, wreset_eq]
      unfold Block.warmKept Block.afterReset
      rw [show b.halted.keys = b.keys from hkeys]
      rfl
    · rw [restage_stage hstage ((length_owed_le hdrop (by omega)).trans hlen)]
      exact owed_mem hdrop (by omega) hr hsev hnew
    · rw [exec_resetRelease, State.resetInput, release_serving f hphase]
    · intro credits c d start
      have hd : d = b.romReady := by
        unfold d Block.romReady
        simp only [List.isEmpty_iff]
        rfl
      refine ⟨fun a => ?_, ?_⟩
      · rw [exec_resetRelease, State.resetInput, release_memFail hphase, hd]
        rfl
      · rw [exec_resetRelease, State.resetInput, release_boot hphase, ← hd]
        obtain ⟨f, slot⟩ := d.bootSelect 4
        cases slot <;> rfl
  · intro b
    refine ⟨fun hlive hphase hopen => ?_, fun hlive ok unit htested => ?_, fun mode hlive => ?_, fun mode hphase => ?_, fun hlive => ?_⟩
    · intro T failed result
      refine ⟨fun s unit hslot hmark => ?_, fun s unit hslot hmark => ?_, fun unit => ?_⟩
      · rw [exec_selfTestComplete, event_live hlive, selfTestDone_passed hphase hopen hslot, if_neg hmark]
        cases unit <;> rfl
      · rw [exec_selfTestComplete, event_live hlive, selfTestDone_passed hphase hopen hslot, if_pos hmark]
        cases unit <;> rfl
      · rw [exec_selfTestComplete, event_live hlive, selfTestDone_failed hphase hopen]
        rfl
    · rw [exec_selfTestComplete, event_live hlive, selfTestDone_ended htested]
    · obtain ⟨hheld, htest⟩ := live_phase hlive
      rw [exec_testModeEntry, testEvent_acts hheld, testMode_entered (b := x.blk.atTime t) htest]
      rfl
    · have hheld : b.sb.phase ≠ .held := by rw [hphase]; decide
      rw [exec_testModeEntry, testEvent_acts hheld, testMode_again (b := x.blk.atTime t) hphase]
    · intro safe
      refine ⟨?_, haIrq_safe rfl, grant_safe rfl, retReq_safe rfl⟩
      rw [exec_wsSafeEntry, event_live hlive]
      rfl

end Sys2Proof.Machine
end
